-- ==== Sys2Proof/Word.lean ====
section
/-! DEFINITION. Sys2Proof/Word.lean: the word types of the YT-9640's register interface (spec/00_scope.md, spec/17_registers.md). -/
namespace Sys2Proof

/-- A register of the peripheral bus is 32 bits wide (spec/17_registers.md). -/
abbrev Word := BitVec 32

/-- A byte of an image, a frame or a memory line. -/
abbrev Byte := BitVec 8

/-- A PF BAR0 byte offset: the aperture is 16 MiB (R465). -/
abbrev Addr := BitVec 24

end Sys2Proof
end

