-- ==== Sys2Proof/Kinds.lean ====
section
/-! DEFINITION. Sys2Proof/Kinds.lean: the names that commands carry beside numbers: the masters of the ACCESS rows and the error codes. -/
namespace Sys2Proof

/-- The masters with an ACCESS row (spec/17_registers.md, The bus and its order). -/
inductive Master where
  | pf | vf (v : Fin 16) | core (c : Fin 4) | dma | boot | mspi | wings | jtag
deriving DecidableEq, Repr

/-- The master index of Table 2.4. -/
def Master.idx : Master → Nat
  | .pf => 0
  | .vf v => 1 + v.val
  | .core c => 17 + c.val
  | .dma => 21
  | .boot => 22
  | .mspi => 23
  | .wings => 24
  | .jtag => 25

/-- The PF or the management SPI: the two masters of the OPERATOR world. -/
def Master.host : Master → Bool
  | .pf => true
  | .mspi => true
  | _ => false

/-- One of the control cores. -/
def Master.isCore : Master → Bool
  | .core _ => true
  | _ => false

/-- A virtual function. -/
def Master.isVf : Master → Bool
  | .vf _ => true
  | _ => false

/-- The staging valid registers: of a time base, of the services, of a backplane bus (R88, R290, R361). -/
inductive StgTarget where
  | tb (n : Fin 64) | svc | btb (b : Fin 4)
deriving DecidableEq, Repr

/-- The structure that owns an SRAM line (Table 16.1), whose place in the banks no rule lays out: a session slot, a received frame by port and number among the port's requests, a line of the key cache or a directory entry by KIND and KEY_ID, a checkpoint slot, a satellite's data, an entry of ring `c`, or firmware of which the other copy stands or fails. -/
inductive LineOwner where
  | none
  | session (slot : Nat)
  | frame (port : Fin 16) (k : Nat)
  | cache (kind id : Nat)
  | dir (kind id : Nat)
  | ckpt (slot : Fin 2)
  | gnss (sv : Nat)
  | ring (c : Fin 3)
  | firmware (otherFails : Bool)
deriving DecidableEq, Repr

/-- The error codes of Table 17.2 (R457). -/
inductive Err where
  | range | state | plot | perm | lifecycle | pair | busy | seq | crc | keygen | nokey | align | owner | time | decode
deriving DecidableEq, Repr

/-- The value of a code in Table 17.2. -/
def Err.code : Err → Nat
  | .range => 1
  | .state => 2
  | .plot => 3
  | .perm => 4
  | .lifecycle => 5
  | .pair => 6
  | .busy => 7
  | .seq => 8
  | .crc => 9
  | .keygen => 10
  | .nokey => 11
  | .align => 12
  | .owner => 13
  | .time => 14
  | .decode => 15

end Sys2Proof
end

