-- ==== Sys2Proof/Frames.lean ====
section
/-! DEFINITION. Sys2Proof/Frames.lean: what arrives from outside with a command: messages, samples and solutions, as plain data. -/
namespace Sys2Proof

/-- SyncE quality levels as far as Table 5.5 tells them apart. -/
inductive SyncQl where
  | prc | prs | ePrc | prtc | ePrtc | other | dnu | dus | failed
deriving DecidableEq, Repr

/-- What a source advertises (R134, R135). -/
inductive AdvQuality where
  /-- a PTP Announce: clockClass, clockAccuracy, and the upstream bound of a Bound TLV in 0.25 ns -/
  | ptp (clockClass acc : Byte) (bound : Option Word)
  /-- an ESMC QL with its SSM nibble -/
  | sync (ql : SyncQl) (nibble : Byte)
  /-- a GNSS solution: integrity failed, and the uncertainty in ps -/
  | gnss (fail : Bool) (unc : Nat)
  /-- the partner's announced Q -/
  | wings (q : BitVec 16)
deriving DecidableEq, Repr

/-- How a message travels (Table 9.9). -/
inductive Transport where
  | l2 | ip4 | ip6
deriving DecidableEq, Repr

/-- What a frame carries behind its headers, as far as a port tells frames apart (R259, R265): a PTP message, a packet to UDP port 123, an ESMC PDU, a lease message, or anything else. -/
inductive Carried where
  | ptp | ntp | esmc | lease | other
deriving DecidableEq, Repr

/-- A received frame: what its headers say, and the bytes of the PTP message, NTP packet or PDU behind them. -/
structure Frame where
  /-- length from the first byte after the preamble through the FCS -/
  length : Nat
  fcsOk : Bool
  carried : Carried
  transport : Transport
  /-- the destination is a service address of the port -/
  toPort : Bool
  srcMac : BitVec 48
  /-- source address in the form of Table 10.9 -/
  addr : BitVec 128
  /-- outer TCI, 0 if untagged -/
  vlan : BitVec 16
  /-- bytes of IPv4 options or IPv6 extension headers (R254) -/
  options : Nat
  /-- SequenceNr of a valid redundancy trailer (Table 9.13) -/
  trailer : Option (BitVec 16)
  /-- an NTP request in interleaved mode (R269) -/
  interleaved : Bool
  /-- the first 64 bytes of the frame (Table 9.11) -/
  head : List Byte
  msg : List Byte
deriving DecidableEq, Repr

/-- One satellite of a GNSS solution (R205 to R214): system (0 GPS, 1 Galileo, 2 BeiDou, 3 QZSS) and PRN; whether the solution uses it and its weight in 2⁻³⁰; accuracy indicator, ionosphere and troposphere model in ps; bands tracked; elevation in degrees; band-0 C/N0 in 0.1 dB-Hz; excluded by the residual test; OSNMA state of Table 8.13; two peaks; early/late asymmetry beyond 0.2. -/
structure Sat where
  sys : Nat
  prn : Nat
  used : Bool
  weight : Int
  ura : Nat
  iono : Nat
  tropo : Nat
  bands : Nat
  elev : Nat
  cn0 : Nat
  excluded : Bool
  osnma : Nat
  dup : Bool
  asym : Bool
deriving DecidableEq, Repr

/-- What the baseband of a chain has solved for one epoch, before its uncertainty and its verdict are formed (R209 to R217): offset in 2⁻⁵⁶ ns, epoch tick, σ in ps, satellites, residual test failed beyond one exclusion, distance of the solved position from the held one in mm, full week numbers decoded, trained capture, and what the loop that the slot steers has moved TB0 since the previous solution, in 2⁻⁵⁶ ns (assumption 27). -/
structure Fix where
  offset : Int
  epoch : Nat
  sigma : Nat
  sats : List Sat
  raim : Bool
  posDev : Nat
  weeks : List Nat
  capt : Bool
  steer : Int
deriving DecidableEq, Repr

/-- Where the transmit PCS of a port stands, which no rule of the spec fixes: an instant of a block boundary, and the boundaries of the next millisecond that carry an alignment marker, in units of 0.3125 ps since tick 0 (R243). -/
structure Pcs where
  phase : Nat
  markers : List Nat
deriving DecidableEq, Repr

/-- One tick's sample of a detector pair (R398): source, levels of P and N, the syndrome that stands behind it, and whether the fault outlasts an isolation reset (R411). -/
structure PairSample where
  src : Nat
  p : Bool
  n : Bool
  syn : Word
  holds : Bool
deriving DecidableEq, Repr

end Sys2Proof
end

