-- ==== Sys2Proof/Syntax.lean ====
section
/-! DEFINITION. Sys2Proof/Syntax.lean: the commands and events of spec/opcode_table.json, one constructor per row, with the operands the row needs: the master of an access, the index of an instance, the value written, what arrives from outside. -/
namespace Sys2Proof

/-- A command or event of the block. -/
inductive Instr where
  /-- REGISTER_WRITE (R448): A write to a register field that has no behaviour of its own sets the field, subject to range, plot, ACCESS and owner checks. -/
  | registerWrite (m : Master) (off : Fin 16777216) (v : Word)
  /-- DECODE_MISS_ACCESS (R433): An access to an undecoded address reaches the default target, reads 0xFFFF_FFFF and records ERR_DECODE. -/
  | decodeMissAccess (m : Master) (off : Fin 16777216) (write : Bool) (v : Word)
  /-- RSQ_CLEAR_WRITE (R451): A write to an RSQ register clears its sticky flags only if the written SEQ equals the current SEQ. -/
  | rsqClearWrite (m : Master) (off : Fin 16777216) (v : Word)
  /-- RC_READ (R453): A read of an RC counter returns its value and clears it, keeping any same-cycle increment. -/
  | rcRead (m : Master) (off : Fin 16777216)
  /-- DNG_FIRST_HALF (R454): A write to a DNG register arms a pending pair for the writing master with a 64-cycle window. -/
  | dngFirstHalf (m : Master) (off : Fin 8388608) (v : Word)
  /-- DNG_COMPLEMENT (R454): The complement write completes the pending pair, which is then checked and takes effect, or fails with ERR_PAIR. -/
  | dngComplement (m : Master) (off : Fin 8388608) (v : Word)
  /-- DNG_PAIR_TIMEOUT (R454): The 64-cycle window passes without a complement and the pair fails with ERR_PAIR. -/
  | dngPairTimeout (m : Master)
  /-- DNG_COMPLEMENT_READ (R455): A read in the complement aperture returns the complement of a DNG register, or 0 otherwise. -/
  | dngComplementRead (m : Master) (off : Fin 8388608)
  /-- GLB_ERR_READ (R458): A read of GLB_ERR shows the selected master's error record and latches GLB_ERR_ADDR. -/
  | glbErrRead (m : Master)
  /-- GLB_SNAP_CTL_WRITE (R24): A write to GLB_SNAP_CTL by a permitted master requests a global snapshot on the next tick. -/
  | glbSnapCtlWrite (m : Master) (v : Word)
  /-- SNAPSHOT_LATCH (R23): On the first tick after the request, all time values, increments, phases, bounds and the commit sequence are latched into the shadow set and GLB_SNAP_SEQ advances. -/
  | snapshotLatch
  /-- GLB_COMMIT_TIME_W3_WRITE (R461): A W3 write combines the master's held W0 to W2 and arms a scheduled commit at that TB0 instant. -/
  | glbCommitTimeW3Write (m : Master) (v : Word)
  /-- COMMIT_CANCEL (R463): GLB_COMMIT_CTL.CANCEL removes a pending commit if decoded before the commit tick. -/
  | commitCancel (m : Master)
  /-- COMMIT_APPLY (R28): At the first tick where TB0 reaches the instant, all staged values are applied at once or none are. -/
  | commitApply
  /-- MAILBOX_ECHO (R464): Mailbox command ECHO returns the complement of ARG0. -/
  | mailboxEcho (m : Master) (b : Fin 2)
  /-- MAILBOX_FW_INFO (R464): Mailbox command FW_INFO returns firmware version, build time, CRC and signing-key index. -/
  | mailboxFwInfo (m : Master) (b : Fin 2)
  /-- MAILBOX_DIE_TEMP (R464): Mailbox command DIE_TEMP returns the highest and lowest die sensor readings. -/
  | mailboxDieTemp (m : Master) (b : Fin 2)
  /-- MAILBOX_CORE_STAT (R464): Mailbox command CORE_STAT returns restarts, load and heartbeat of a control core. -/
  | mailboxCoreStat (m : Master) (b : Fin 2)
  /-- MAILBOX_SELFTEST (R464): Mailbox command SELFTEST runs the selected self-tests and reports passed and skipped tests. -/
  | mailboxSelftest (m : Master) (b : Fin 2)
  /-- MAILBOX_COMPLETE (R464): The firmware finishes a mailbox command, writes RSP and CODE, clears GO and BUSY and raises MBXm_DONE. -/
  | mailboxComplete (b : Fin 2)
  /-- PMC_CTR_LO_READ (R467): A read of PMC_CTR_LO returns the selected 64-bit counter's low half and latches the high half. -/
  | pmcCtrLoRead (m : Master)
  /-- PMC_RING_ENTRY (R468): Every RING_MS the counter reader writes a ring 4 entry with the listed counters. -/
  | pmcRingEntry
  /-- FETCH_PCIE (R42): PLT_CTL command FETCH_PCIE fetches a stage-plot image from host memory by DMA into staging. -/
  | fetchPcie (m : Master)
  /-- FETCH_FLASH (R42): PLT_CTL command FETCH_FLASH fetches a stage-plot image from flash into staging. -/
  | fetchFlash (m : Master)
  /-- FETCH_ABORT (R58): PLT_CTL command ABORT stops a fetch or verification and returns STAGE_STATE to IDLE. -/
  | fetchAbort (m : Master)
  /-- DISCARD_STAGED (R54): PLT_CTL command DISCARD_STAGED discards the staging image and cancels a pending re-plot if decoded before its tick. -/
  | discardStaged (m : Master)
  /-- BURN_ROLLBACK (R41): PLT_CTL command BURN_ROLLBACK raises the rollback fuse count to the active plot's ROLLBACK_IDX. -/
  | burnRollback (m : Master)
  /-- FETCH_COMPLETE (R42): The fetch of an image completes and verification begins. -/
  | fetchComplete (img : List Byte)
  /-- FETCH_FAILED (R58): A fetch ending with a DMA completion error returns STAGE_STATE to IDLE and records ERR_STATE. -/
  | fetchFailed
  /-- VERIFY_DONE (R43): Verification of the staged image completes, setting STAGED and STAGED_REPLOT or recording the failure. -/
  | verifyDone
  /-- FULL_APPLY (R47): PLT_APPLY MODE FULL curtains outputs, stops services, applies every section and promotes the staging image. -/
  | fullApply (m : Master)
  /-- REPLOT_ARM (R51): PLT_APPLY MODE REPLOT arms a re-plot at the instant held for the writing master. -/
  | replotArm (m : Master)
  /-- REPLOT_APPLY (R52): At the re-plot tick the re-plottable sections are re-checked and applied all or none. -/
  | replotApply
  /-- BOOT_IMAGE_VERIFIED (R44): After a COLD reset the boot agent finishes reading and verifying flash images and applies the first that passes. -/
  | bootImageVerified (a b : List Byte) (ms : Nat)
  /-- TB_INC_LO_WRITE (R66): A write to TBn_INC_LO is held per master until a TBn_INC_HI write. -/
  | tbIncLoWrite (m : Master) (n : Fin 64) (v : Word)
  /-- TB_INC_HI_WRITE (R65): A TBn_INC_HI write combines with the held low half and applies the 64-bit increment after window, LIMITS and owner checks. -/
  | tbIncHiWrite (m : Master) (n : Fin 64) (v : Word)
  /-- TB_STG_INC_LO_WRITE (R66): A write to TBn_STG_INC_LO is held per master for the staging increment. -/
  | tbStgIncLoWrite (m : Master) (n : Fin 64) (v : Word)
  /-- TB_STG_INC_HI_WRITE (R88): A TBn_STG_INC_HI write stages the combined increment and sets its valid bit. -/
  | tbStgIncHiWrite (m : Master) (n : Fin 64) (v : Word)
  /-- TB_OWNER_WRITE (R67): A TBn_CTL write by the PF or management SPI requests a change of OWNER. -/
  | tbOwnerWrite (m : Master) (n : Fin 64) (v : Word)
  /-- OWNER_CHANGE (R69): An ownership change takes effect at its tick, cancels pending steps and slews and moves the DPLL and bound. -/
  | ownerChange (n : Fin 64)
  /-- TB_STG_CTL_WRITE (R88): A TBn_STG_CTL write stages an owner value and sets TBn_STG_VALID.CTL. -/
  | tbStgCtlWrite (m : Master) (n : Fin 64) (v : Word)
  /-- STG_VALID_DISCARD (R88): Writing 0 to a staging valid bit discards that staged value. -/
  | stgValidDiscard (m : Master) (t : StgTarget) (v : Word)
  /-- ARM_STEP (R71): TBn_CMD ARM_STEP copies magnitude, sign and instant and arms a step. -/
  | armStep (m : Master) (n : Fin 64) (back : Bool)
  /-- CANCEL_STEP (R72): TBn_CMD CANCEL_STEP removes a pending step if decoded before the step tick. -/
  | cancelStep (m : Master) (n : Fin 64)
  /-- ARM_SLEW (R75): TBn_CMD ARM_SLEW arms a slew with offset, count and start instant. -/
  | armSlew (m : Master) (n : Fin 64)
  /-- CANCEL_SLEW (R76): TBn_CMD CANCEL_SLEW stops an armed or running slew at the next tick. -/
  | cancelSlew (m : Master) (n : Fin 64)
  /-- STEP_APPLY (R73): At the first tick TB0 reaches the step instant, the step is applied or fails with STEP_FAILED. -/
  | stepApply (n : Fin 64)
  /-- SLEW_START (R76): At the first tick TB0 reaches the slew instant, the slew offset begins to be added. -/
  | slewStart (n : Fin 64)
  /-- SLEW_END (R76): When the slew count runs out the slew ends and SLEW_DONE is set. -/
  | slewEnd (n : Fin 64)
  /-- SEC_WRAP (R62): The seconds field passes 2^48 − 1, wraps to 0 and sets SEC_WRAP, acting as a backward step. -/
  | secWrap (n : Fin 64)
  /-- LEAP_CTL_WRITE (R80): A TBn_LEAP_CTL write sets SRC or arms, re-arms or cancels a leap announcement under the timing rules. -/
  | leapCtlWrite (m : Master) (n : Fin 64) (v : Word)
  /-- LEAP_AT_WRITE (R80): A write to TBn_LEAP_AT_LO or HI sets L, checked against timescale and SRC. -/
  | leapAtWrite (m : Master) (n : Fin 64) (hi : Bool) (v : Word)
  /-- LEAP_INSERT (R82): When a UTC time base reaches L with an insertion armed, 1 s is subtracted, LEAP_ACTIVE set and TAI_UTC incremented. -/
  | leapInsert (n : Fin 64)
  /-- LEAP_SECOND_END (R82): When the value reaches L again, LEAP_ACTIVE clears and PEND returns to 0. -/
  | leapSecondEnd (n : Fin 64)
  /-- LEAP_DELETE (R83): When the value reaches L − 1 s with a deletion armed, 1 s is added and TAI_UTC decremented. -/
  | leapDelete (n : Fin 64)
  /-- TB_NOW_W0_READ (R85): A read of TBn_NOW_W0 latches the time, bound, provenance, epoch and ratio for the reading master. -/
  | tbNowW0Read (m : Master) (n : Fin 64)
  /-- TDC_ARM (R107): TDCn_CMD ARM arms a capture window with its configured start kind and mode. -/
  | tdcArm (m : Master) (n : Fin 24)
  /-- TDC_DISARM (R108): TDCn_CMD DISARM closes an open window on the next tick and emits its records. -/
  | tdcDisarm (m : Master) (n : Fin 24)
  /-- TDC_FLUSH (R108): TDCn_CMD FLUSH discards every complete window in the FIFO. -/
  | tdcFlush (m : Master) (n : Fin 24)
  /-- TDC_WINDOW_OPEN (R102): A window opens at its epoch minus WIN_PRE, or on the tick after ARM for an edge start. -/
  | tdcWindowOpen (n : Fin 24)
  /-- TDC_EPOCH_START (R101): The time base reaches the epoch and the start record is formed. -/
  | tdcEpochStart (n : Fin 24)
  /-- TDC_EDGE (R103): An edge on a channel's stop or start input is stamped as a start or a stop of the open window. -/
  | tdcEdge (ix : Fin 24) (tap : Fin 512) (fall sat : Bool)
  /-- TDC_WINDOW_CLOSE (R105): At tick Z the window closes and its records are pushed to the FIFO whole or dropped. -/
  | tdcWindowClose (n : Fin 24)
  /-- TDC_WINDOW_TIMEOUT (R102): An edge-start window with no start by TIMEOUT closes with a START and NOSTART record. -/
  | tdcWindowTimeout (n : Fin 24)
  /-- TDC_FIFO_LO_READ (R109): A read of TDCn_FIFO_LO pops the oldest stamp and latches its high half. -/
  | tdcFifoLoRead (m : Master) (n : Fin 24)
  /-- TDC_TICK_LO_READ (R96): A read of TDC_TICK_LO latches the matching upper half of the tick counter. -/
  | tdcTickLoRead (m : Master)
  /-- TDC_LOCK_LOST (R93): A delay line leaves lock, setting CAL_LOST and CALBUSY on its stamps. -/
  | tdcLockLost (n : Fin 24)
  /-- TDC_LOCK_REGAINED (R94): A delay line regains lock, reported as CORRECTED if within 10 ms. -/
  | tdcLockRegained (n : Fin 24)
  /-- TDC_LOCK_LOSS_LONG (R94): A lock loss lasting beyond 10 ms is reported as UNCORRECTED-CONTAINED. -/
  | tdcLockLossLong (n : Fin 24)
  /-- LANE_PHASE_WINDOW (R110): Every 128 ticks a lane phase channel measures the next SerDes clock in rotation. -/
  | lanePhaseWindow (g : Fin 5) (edge : Option (Nat × Fin 512))
  /-- REF_PHASE_SAMPLE (R112): A reference's phase against TB0 is measured at 1 kHz or per pulse and unwrapped. -/
  | refPhaseSample (k : Fin 24) (phase : Int) (touched : Bool)
  /-- PAIR_COMPARISON (R114): At each TB0 second the all-pairs phase and frequency differences are formed. -/
  | pairComparison
  /-- TDC_PAIR_PH_LO_READ (R115): A read of TDC_PAIR_PH_LO latches the selected pair's results for the reading master. -/
  | tdcPairPhLoRead (m : Master)
  /-- REF_ENABLE (R131): Setting REFn_CTL.EN moves the slot from UNUSED to QUALIFYING and starts its timer. -/
  | refEnable (m : Master) (k : Fin 24) (v : Word)
  /-- REF_DISABLE (R131): Clearing REFn_CTL.EN returns the slot to UNUSED and clears its live bits. -/
  | refDisable (m : Master) (k : Fin 24) (v : Word)
  /-- HOST_DISQ_WRITE (R120): Writing REFn_CTL.HOST_DISQ sets or clears monitor bit 11 at the write. -/
  | hostDisqWrite (m : Master) (k : Fin 24) (v : Word)
  /-- ACT_DEADLINE (R121): No arrival by the activity deadline sets the ACT monitor bit. -/
  | actDeadline (k : Fin 24)
  /-- GLITCH_DETECTED (R122): A period outside the glitch tolerance sets GLITCH and counts the glitch. -/
  | glitchDetected (k : Fin 24)
  /-- GLITCH_HOLD_EXPIRE (R122): 100 ms after the last glitch the GLITCH live bit clears. -/
  | glitchHoldExpire (k : Fin 24)
  /-- RATE_IDENTIFIED (R123): A 100 ms identification ends, finding a listed rate or leaving RATE live. -/
  | rateIdentified (k : Fin 24) (f : Nat)
  /-- FREQ_MONITOR_EVAL (R124): Every 10 ms the frequency offset y is computed and the frequency monitor bits updated. -/
  | freqMonitorEval (k : Fin 24) (y : Int)
  /-- ENSEMBLE_VERDICT (R125): At E + 20 ms each slot's ensemble frequency and phase deviations are judged. -/
  | ensembleVerdict
  /-- PACKET_MONITOR_EVAL (R127): Every second a PTP slot's loss and floor-packet percentage are evaluated. -/
  | packetMonitorEval (k : Fin 24)
  /-- ESMC_ABSENCE_TIMEOUT (R127): No ESMC information PDU for 5 s is treated as QL-FAILED and sets DNU. -/
  | esmcAbsenceTimeout (k : Fin 24)
  /-- QUAL_TIMER_EXPIRE (R131): A qualification or wait-to-restore timer expires and the slot becomes QUALIFIED or DEGRADED. -/
  | qualTimerExpire (k : Fin 24)
  /-- DEG_CLEAR_EXPIRE (R131): Soft bits clear for REFn_DEG_CLEAR moves the slot from DEGRADED to QUALIFIED. -/
  | degClearExpire (k : Fin 24)
  /-- SWITCH_COMPLETE (R142): The switch's remaining distance reaches zero and SWITCH_DONE is raised. -/
  | switchComplete (d : Fin 16)
  /-- ADVERTISED_QUALITY_CHANGE (R134): A slot's advertised quality code changes from its source. -/
  | advertisedQualityChange (k : Fin 24) (q : AdvQuality)
  /-- QHOLD_EXPIRE (R138): An improved Q that has held for SELd_QHOLD enters the selection key. -/
  | qholdExpire (d : Fin 16) (k : Fin 24)
  /-- REF_PH_COMP_WRITE (R145): A REFn_PH_COMP write takes effect at the next sample and acts as a switch on a selected slot. -/
  | refPhCompWrite (m : Master) (k : Fin 24) (v : Word)
  /-- REF_PRIO_WRITE (R139): A REFn_PRIO write triggers a selector evaluation. -/
  | refPrioWrite (m : Master) (k : Fin 24) (v : Word)
  /-- SEL_CTL_WRITE (R140): A SELd_CTL write sets mode, forced slot or revert and triggers evaluation. -/
  | selCtlWrite (m : Master) (d : Fin 16) (v : Word)
  /-- SEL_CAND_WRITE (R136): A SELd_CAND write sets the candidate mask and triggers evaluation. -/
  | selCandWrite (m : Master) (d : Fin 16) (v : Word)
  /-- SEL_QHOLD_WRITE (R138): A SELd_QHOLD write applies to running holds counted from their start. -/
  | selQholdWrite (m : Master) (d : Fin 16) (v : Word)
  /-- REF_NOM_LO_WRITE (R148): A REFn_NOM_LO write is held per master. -/
  | refNomLoWrite (m : Master) (k : Fin 24) (v : Word)
  /-- REF_NOM_HI_WRITE (R148): A REFn_NOM_HI write combines with the held low half and sets the nominal rate. -/
  | refNomHiWrite (m : Master) (k : Fin 24) (v : Word)
  /-- REF_MEAS_FF_READ (R148): A read of REFn_MEAS_FF latches the slot's measurement registers for the reading master. -/
  | refMeasFfRead (m : Master) (k : Fin 24)
  /-- DPLL_UPDATE (R151): On a new phase sample the DPLL forms and writes a new control value. -/
  | dpllUpdate (d : Fin 16) (fe : Int)
  /-- DPLL_LOCK_ACHIEVED (R158): Lock criteria held for DPLLd_LOCK_TIME move the DPLL to LOCKED. -/
  | dpllLockAchieved (d : Fin 16)
  /-- FLYWHEEL_ENGAGE (R163): At the first ATOM sample after the freeze the DPLL enters FLYWHEEL mode. -/
  | flywheelEngage (d : Fin 16)
  /-- FLYWHEEL_LOST (R163): The atomic flywheel stops being usable and the DPLL returns to FROZEN. -/
  | flywheelLost (d : Fin 16)
  /-- DPLL_APLL_WRITE (R149): A DPLLd_CTL.APLL write has a FREQ-kind DPLL take or release an APLL. -/
  | dpllApllWrite (m : Master) (d : Fin 16) (v : Word)
  /-- DPLL_BW_WRITE (R154): A DPLLd_BW write by the parameter owner changes bandwidth and damping at the next update. -/
  | dpllBwWrite (m : Master) (d : Fin 16) (v : Word)
  /-- DPLL_FW_CLASS_WRITE (R173): A DPLL_FW_CLASS write changes the declared oscillator classes and the floors in force. -/
  | dpllFwClassWrite (m : Master) (v : Word)
  /-- DPLL_FW_FLOOR_WRITE (R173): A write to a DPLL_FW_FLOOR register raises the floor in force. -/
  | dpllFwFloorWrite (m : Master) (ix : Fin 4) (v : Word)
  /-- MODEL_FIT (R169): Once a second while LOCKED the flywheel model is fitted to ATOM's phase. -/
  | modelFit (d : Fin 16) (x y dd : Int) (uy ud res span : Nat)
  /-- ATOM_PPS_CHECK (R170): At each ATOM_PPS edge the unwrapped phase is checked and a cycle slip clears VALID. -/
  | atomPpsCheck (ps : Nat)
  /-- ATOM_UART_TX_WRITE (R173): A write to DPLL_ATOM_UART_TX queues a byte for the atomic module. -/
  | atomUartTxWrite (m : Master) (v : Word)
  /-- ATOM_UART_RX_READ (R173): A read of DPLL_ATOM_UART_RX pops a received byte. -/
  | atomUartRxRead (m : Master)
  /-- ATOM_UART_RX_BYTE (R173): A byte arrives from the atomic module into the receive FIFO or is dropped. -/
  | atomUartRxByte (b : Byte)
  /-- LEDGER_REFRESH (R178): Every 1 ms each ledger forms its sum and slope, applies permitted falls and holdover growth. -/
  | ledgerRefresh (bad : Option (Fin 64))
  /-- SAMPLE_STALE (R182): No verified sample for three sample intervals makes the slot stale and starts stale growth. -/
  | sampleStale (d : Fin 16)
  /-- BND_EXTRA_WRITE (R174): A BNDn_EXTRA write raises the EXTRA component on the next tick or lets it fall later. -/
  | bndExtraWrite (m : Master) (n : Fin 64) (v : Word)
  /-- BND_CAL_RECORD_WRITE (R188): A calibration record write acts at once as a raise or waits under PENDING. -/
  | bndCalRecordWrite (m : Master) (k : Fin 32) (o : Fin 4) (v : Word)
  /-- BND_C_REF_READ (R200): A read of BNDn_C_REF latches the ledger's component and status group for the reading master. -/
  | bndCRefRead (m : Master) (n : Fin 64)
  /-- GNSS_CHAIN_ENABLE (R206): Setting GNSS_CTL.EN_A or EN_B enables a chain, starts its sample clock and a start of the kind held. -/
  | gnssChainEnable (m : Master) (v : Word)
  /-- GNSS_CHAIN_DISABLE (R202): Clearing a chain enable stops the chain and holds its sample clock low. -/
  | gnssChainDisable (m : Master) (v : Word)
  /-- GNSS_CLEAR_DB (R207): GNSS_CTL.CLEAR_DB discards almanac, ephemerides and last fix while both chains are disabled. -/
  | gnssClearDb (m : Master) (v : Word)
  /-- GNSS_SOLUTION (R213): At each solution epoch a chain forms and publishes its time solution, uncertainty and integrity verdict. -/
  | gnssSolution (x : Fin 2) (f : Fix)
  /-- GNSS_JAM_MEASURE (R220): Every second each band's noise rise and magnitude occupancy are measured. -/
  | gnssJamMeasure (x : Fin 2) (k : Fin 3) (noise : Int) (occ : Nat)
  /-- GNSS_JAM_READMIT (R220): A band without the jam condition for 10 s is readmitted. -/
  | gnssJamReadmit (x : Fin 2) (k : Fin 3)
  /-- INTEG_FAIL_CLEAR (R222): A score below half the threshold for GNSSx_FAIL_CLEAR ends FAIL. -/
  | integFailClear (x : Fin 2)
  /-- GNSS_MODE_WRITE (R215): A GNSSx_CFG.MODE write changes the position mode to NAV, SURVEY or HOLD. -/
  | gnssModeWrite (m : Master) (x : Fin 2) (v : Word)
  /-- SURVEY_DONE (R215): SURVEY_TIME elapsed within SURVEY_SIGMA sets the held position and enters HOLD. -/
  | surveyDone (x : Fin 2) (px py pz : Int) (sig3 : Nat)
  /-- SURVEY_FAIL (R215): Twice SURVEY_TIME without meeting SURVEY_SIGMA returns to NAV. -/
  | surveyFail (x : Fin 2)
  /-- OSNMA_ROOT_WRITE (R221): An in-order DNG write of a Merkle root word updates ROOT_VALID. -/
  | osnmaRootWrite (m : Master) (ix : Fin 8) (v : Word)
  /-- GNSS_LEAP_ACCEPT (R226): A leap announcement decoded consistently is accepted and written to UTC time bases under SRC = 0. -/
  | gnssLeapAccept (typ l votes : Nat) (auth : Bool) (taiUtc : Nat)
  /-- GNSS_LEAP_WITHDRAWN (R226): An accepted announcement withdrawn before L − 1 s has PEND written to 0. -/
  | gnssLeapWithdrawn
  /-- FESPI_DATA_WRITE (R204): A GNSSx_FESPI_DATA write starts a front-end SPI transfer. -/
  | fespiDataWrite (m : Master) (x : Fin 2) (v : Word)
  /-- FESPI_TRANSFER_DONE (R204): A front-end SPI transfer ends, clearing BUSY with the received bits. -/
  | fespiTransferDone (x : Fin 2) (v : Word)
  /-- GNSS_OFF_W0_READ (R228): A read of GNSSx_OFF_W0 latches the chain's solution registers for the reading master. -/
  | gnssOffW0Read (m : Master) (x : Fin 2)
  /-- GNSS_SV_STAT_READ (R228): A read of GNSS_SV_STAT latches GNSS_SV_INFO for the reading master. -/
  | gnssSvStatRead (m : Master)
  /-- FRAME_RECEIVE (R239): A received frame is stamped at the MDI plane, classified and dispatched or dropped. -/
  | frameReceive (p : Fin 16) (tap : Fin 512) (f : Frame)
  /-- PAUSE_FRAME_RECEIVE (R232): A received PAUSE or PFC frame stops queues while PAUSE_HONOR is 1. -/
  | pauseFrameReceive (p : Fin 16) (queue : Option (Fin 8)) (quanta : Nat)
  /-- TOKEN_REFILL (R289): Token buckets refill at their class RATE up to BURST. -/
  | tokenRefill
  /-- COMMIT_POINT_CHECK (R247): At t_c the port makes the release checks and commits or discards the held frame. -/
  | commitPointCheck (p : Fin 16)
  /-- FRAME_ABORT (R248): An event between t_c and departure aborts the frame with PCS error blocks. -/
  | frameAbort (p : Fin 16)
  /-- FRAME_DEPARTURE (R245): The committed frame's timestamp point crosses the MDI at t_d. -/
  | frameDeparture (p : Fin 16)
  /-- UNRESERVED_TRANSMIT (R251): A frame without a reservation starts only if it fits before the next reservation and gate close. -/
  | unreservedTransmit (p : Fin 16)
  /-- TEST_ENTER (R258): PORTn_CMD TEST_ENTER moves a port from SERVICE to TEST. -/
  | testEnter (m : Master) (p : Fin 16)
  /-- TEST_EXIT (R241): PORTn_CMD TEST_EXIT returns to SERVICE or retrains through DOWN after calibration changes. -/
  | testExit (m : Master) (p : Fin 16)
  /-- PORT_SLEEP (R258): PORTn_CMD SLEEP makes a dormant-declared port DORMANT. -/
  | portSleep (m : Master) (p : Fin 16)
  /-- PORT_WAKE (R258): PORTn_CMD WAKE moves a DORMANT port to DOWN and begins training. -/
  | portWake (m : Master) (p : Fin 16)
  /-- GCL_ARM (R257): PORTn_CMD GCL_ARM copies the admin gate list and arms a swap at an instant. -/
  | gclArm (m : Master) (p : Fin 16)
  /-- GCL_CANCEL (R257): PORTn_CMD GCL_CANCEL cancels a pending swap if decoded before the swap tick. -/
  | gclCancel (m : Master) (p : Fin 16)
  /-- GCL_SWAP (R257): At the first admin cycle start at or after the instant the admin list becomes operative. -/
  | gclSwap (p : Fin 16)
  /-- CAL_SEND (R242): PORTn_CMD CAL_SEND starts sending CNT calibration frames in TEST. -/
  | calSend (m : Master) (p : Fin 16)
  /-- CAL_FRAME_TRANSMIT (R242): Every 1 ms a calibration Delay_Req is sent and its stamp logged. -/
  | calFrameTransmit (p : Fin 16)
  /-- PORT_CAL_TAG_READ (R242): A read of PORTn_CAL_TAG pops the oldest log entry and latches its stamp. -/
  | portCalTagRead (m : Master) (p : Fin 16)
  /-- PORT_CAL_ADJ_WRITE (R241): A TX_ADJ, RX_ADJ or ASYM write is accepted only while DORMANT, DOWN or TEST. -/
  | portCalAdjWrite (m : Master) (p : Fin 16) (ix : Fin 3) (v : Word)
  /-- PORT_LINK_UP (R258): Link training completes and the port enters START or RECOVERY with its timer. -/
  | portLinkUp (p : Fin 16)
  /-- PORT_LINK_DOWN (R258): The link goes down and the port enters DOWN, discarding held frames. -/
  | portLinkDown (p : Fin 16)
  /-- PORT_START_TIMER_EXPIRE (R258): The START or RECOVERY timer expires and the port enters SERVICE at the next cycle start. -/
  | portStartTimerExpire (p : Fin 16)
  /-- PORT_DORM_IDLE_EXPIRE (R258): No service frame for PORTn_DORM_IDLE in SERVICE makes a dormant-declared port DORMANT. -/
  | portDormIdleExpire (p : Fin 16)
  /-- WAKE_PATTERN_MATCH (R259): A matching frame on a dormant port wakes it toward START. -/
  | wakePatternMatch (p : Fin 16) (f : Frame)
  /-- PAIR_ENTRY_EXPIRE (R262): A duplicate-table entry expiring with one copy counts a pair loss on the other port. -/
  | pairEntryExpire (p : Fin 16)
  /-- NTP_REQUEST (R269): An engine answers an NTPv4 or NTS client request with a scheduled server response. -/
  | ntpRequest (pcs : Pcs) (build : Nat)
  /-- BLOB_FETCH_DONE (R277): A blob fetched for a missing key arrives and is unwrapped into the cache. -/
  | blobFetchDone (a b : List Byte)
  /-- DELAY_REQ_RECEIVE (R280): A Delay_Req is answered with a Delay_Resp carrying its receive stamp. -/
  | delayReqReceive (build : Nat)
  /-- PDELAY_REQ_RECEIVE (R280): A Pdelay_Req is answered one-step or two-step. -/
  | pdelayReqReceive (pcs : Pcs) (build : Nat)
  /-- REQUEST_UNICAST_TRANSMISSION (R287): A unicast request is granted or denied and a session slot placed. -/
  | requestUnicastTransmission (build : Nat)
  /-- CANCEL_UNICAST_TRANSMISSION (R287): A unicast cancel ends the grant and is acknowledged. -/
  | cancelUnicastTransmission (build : Nat)
  /-- GRANT_LAPSE (R287): A grant reaches its expiry and lapses, freeing the slot when its last grant ends. -/
  | grantLapse (j : Nat)
  /-- PTP_REFERENCE_MESSAGE (R280): A Sync, Follow_Up, Announce or Delay_Resp on a reference port feeds that PTP slot. -/
  | ptpReferenceMessage
  /-- MULTICAST_MESSAGE_SEND (R250): At an entry's interval instant a multicast Sync or Announce is built and scheduled. -/
  | multicastMessageSend (ix : Nat) (p : Fin 16) (ann : Bool) (pcs : Pcs) (build : Nat)
  /-- UNICAST_MESSAGE_SEND (R288): At a client's staggered instant a unicast Sync or Announce is sent or skipped. -/
  | unicastMessageSend (j : Nat) (ann : Bool) (pcs : Pcs) (build : Nat)
  /-- PDELAY_REQ_SEND (R280): On P2P ports a Pdelay_Req is sent at the entry's interval. -/
  | pdelayReqSend (ix : Nat) (p : Fin 16) (build : Nat)
  /-- ESMC_PDU_SEND (R293): Once a second an ESMC information PDU with the declared QL is sent. -/
  | esmcPduSend (ix : Nat) (p : Fin 16) (build : Nat)
  /-- SVC_ENT_CFG_WRITE (R293): A SVC_ENT_CFG write changes entry settings, sending an ESMC event PDU on a QL change. -/
  | svcEntCfgWrite (m : Master) (v : Word)
  /-- SVC_RL_WRITE (R290): A live SVC_RL write takes effect after any commit of its tick at the next refill. -/
  | svcRlWrite (m : Master) (ix : Fin 2) (v : Word)
  /-- SVC_STG_RL_WRITE (R290): A SVC_STG_RL write stages rate limits and sets its valid bit. -/
  | svcStgRlWrite (m : Master) (ix : Fin 2) (v : Word)
  /-- SVC_PREF_CFG_WRITE (R280): A SVC_PREF_CFG write sets a disabled PTP reference slot's receive settings. -/
  | svcPrefCfgWrite (m : Master) (v : Word)
  /-- SVC_SESS_D0_READ (R298): A read of SVC_SESS_D0 latches the selected session slot's line for the reading master. -/
  | svcSessD0Read (m : Master)
  /-- SVC_CYC_SRV_LO_READ (R298): A read of SVCc_CYC_SRV_LO latches the cluster's cycle counters on one cycle. -/
  | svcCycSrvLoRead (m : Master) (c : Fin 4)
  /-- GOVERNOR_EVAL (R294): Every 1 µs the governor forecasts load and wakes clusters or moves SYSPLL. -/
  | governorEval
  /-- CLUSTER_WAKE_DONE (R295): A waking cluster becomes awake and takes dispatches. -/
  | clusterWakeDone (c : Fin 4)
  /-- CLUSTER_SLEEP (R294): Load below LO for HOLD ms puts an idle cluster to sleep. -/
  | clusterSleep (c : Fin 4)
  /-- KEY_STAGING_WRITE (R302): A DNG write of staging ATTR, GEN or VAL claims the staging buffer and fills it. -/
  | keyStagingWrite (m : Master) (ix : Fin 10) (v : Word)
  /-- KEY_STAGING_TIMEOUT (R302): 100 ms without an owner staging write zeroes the buffer and raises STG_TIMEOUT. -/
  | keyStagingTimeout
  /-- KEY_COMMIT (R304): KEY_CMD COMMIT checks and moves the staged key into the slot on one tick. -/
  | keyCommit (m : Master)
  /-- KEY_ABORT (R302): KEY_CMD ABORT returns the staging buffer to idle. -/
  | keyAbort (m : Master)
  /-- KEY_INVALIDATE (R316): KEY_CMD INVALIDATE raises a slot's generation and invalidates its descendants. -/
  | keyInvalidate (m : Master)
  /-- KEY_INVALIDATE_DER (R316): KEY_CMD INVALIDATE_DER raises a derived key's generation and its descendants'. -/
  | keyInvalidateDer (m : Master)
  /-- KEY_ERASE (R305): KEY_CMD ERASE zeroes a slot and invalidates its descendants. -/
  | keyErase (m : Master)
  /-- KEY_EXPORT (R313): KEY_CMD EXPORT wraps the selected key into a blob copy written by DMA. -/
  | keyExport (m : Master)
  /-- EXPORT_COMPLETE (R313): The blob DMA stream ends, the directory is updated and EXPORT_DONE or EXPORT_FAIL raised. -/
  | exportComplete (ok : Bool)
  /-- KEY_IMPORT_SLOT (R315): KEY_CMD IMPORT_SLOT reads a KIND 0 blob for import into the selected slot. -/
  | keyImportSlot (m : Master)
  /-- IMPORT_COMPLETE (R314): Both blob copies are checked and the best passing copy is committed or IMPORT_FAIL raised. -/
  | importComplete (a b : List Byte)
  /-- KEY_SCAN (R315): KEY_CMD SCAN reads every blob record to rebuild the directory. -/
  | keyScan (m : Master)
  /-- SCAN_COMPLETE (R315): The scan finishes and the directory holds the passing copies. -/
  | scanComplete (records : List (List Byte × List Byte))
  /-- KEYGEN_OPERATION_ABORT (R317): An operation still using an invalidated key at T + 2 µs is aborted. -/
  | keygenOperationAbort (p : Fin 16)
  /-- PURGE_COMPLETE (R317): Cached descendants of a raised generation are purged and PURGE_DONE raised. -/
  | purgeComplete
  /-- KEY_REMASK (R306): Every MASK_MS every stored key is rewritten under a fresh mask. -/
  | keyRemask
  /-- DRBG_RESEED (R307): Every second the DRBG reseeds, and a health failure raises DRBG_FAIL. -/
  | drbgReseed (ok : Bool)
  /-- KEY_EPOCH_WRITE (R309): A KEY_SVCr_EPOCH write advances the current epoch on the next tick. -/
  | keyEpochWrite (m : Master) (r : Fin 2) (v : Word)
  /-- KEY_SVC_CFG_WRITE (R309): A KEY_SVCr_CFG write sets the service root slot and KEEP. -/
  | keySvcCfgWrite (m : Master) (r : Fin 2) (v : Word)
  /-- FUSE_OPK0 (R318): KEY_OTP_CMD FUSE_OPK0 burns the operator key hash into slot 0. -/
  | fuseOpk0 (m : Master)
  /-- FUSE_OPK1 (R318): KEY_OTP_CMD FUSE_OPK1 burns the operator key hash into slot 1. -/
  | fuseOpk1 (m : Master)
  /-- REVOKE_OPK0 (R318): KEY_OTP_CMD REVOKE_OPK0 blows the revoke fuse of operator key 0. -/
  | revokeOpk0 (m : Master)
  /-- REVOKE_OPK1 (R318): KEY_OTP_CMD REVOKE_OPK1 blows the revoke fuse of operator key 1. -/
  | revokeOpk1 (m : Master)
  /-- LC_ADVANCE (R319): KEY_LC_CMD starts the advance of the life-cycle state by one step. -/
  | lcAdvance (m : Master) (target : Fin 8)
  /-- OTP_BURN_DONE (R318): An OTP fuse or life-cycle burn completes and OTP_BUSY clears, raising LC_CHANGED for an advance. -/
  | otpBurnDone
  /-- APLL0_LOCK_LOST (R321): APLL0 loses lock, reported to the fault collector as FATAL. -/
  | apll0LockLost
  /-- APLL0_LOCKED (R476): APLL0 locks and PD1 leaves reset with the tick counter at 0. -/
  | apll0Locked
  /-- APLL_LOCK_LOST (R339): APLL1 to APLL4 lose lock and their outputs take curtain behaviour. -/
  | apllLockLost (k : Fin 4)
  /-- APLL_RELOCKED (R340): An APLL regains lock and its outputs restart or realign. -/
  | apllRelocked (k : Fin 4)
  /-- APLL_TB_WRITE (R324): An OUT_APLLk_CTL.TB write moves an unsteered APLL to a new slave time base's rate. -/
  | apllTbWrite (m : Master) (k : Fin 4) (v : Word)
  /-- APLL_RATE_MOVE_DONE (R324): An APLL's rate move ends and MOVING clears. -/
  | apllRateMoveDone (k : Fin 4)
  /-- ALIGNER_COMPARE (R328): Once per millisecond or per pulse the aligner compares the output edge with its grid. -/
  | alignerCompare (k : Fin 12) (e : Int)
  /-- OUTPUT_RESTART (R329): With RESTART the output restarts at the first grid instant at least 10 µs later. -/
  | outputRestart (k : Fin 12)
  /-- OUT_PH_OFS_WRITE (R331): An OUTk_PH_OFS write moves the edge at no more than 1 ps per µs. -/
  | outPhOfsWrite (m : Master) (k : Fin 12) (v : Word)
  /-- OUT_PULSE_W_WRITE (R327): An OUTk_PULSE_W write sets a pulse output's width from its next rising edge. -/
  | outPulseWWrite (m : Master) (k : Fin 12) (v : Word)
  /-- OUT_MUTE_WRITE (R339): Setting OUTk_CTL.MUTE squelches the output and clearing it restarts it. -/
  | outMuteWrite (m : Master) (k : Fin 12) (v : Word)
  /-- GLIDE_DONE (R332): A glide ends, GLIDE_DONE is set and the aligner works against the new grid. -/
  | glideDone (k : Fin 12)
  /-- SYSPLL_LOCK_LOST (R338): SYSPLL loses lock and its consumers switch to the bypass clock. -/
  | syspllLockLost
  /-- SYSPLL_RELOCKED (R338): SYSPLL held lock for 100 µs and its consumers return to it. -/
  | syspllRelocked
  /-- SSC_WRITE (R336): An OUT_SYS_CTL spread-spectrum write takes effect at the next modulation period. -/
  | sscWrite (m : Master) (v : Word)
  /-- CUE_ARM (R343): CUEc_CMD ARM copies instant, period, count and width and arms the cue. -/
  | cueArm (m : Master) (c : Fin 16)
  /-- CUE_DISARM (R347): CUEc_CMD DISARM cancels every instant from the tick after its decode. -/
  | cueDisarm (m : Master) (c : Fin 16)
  /-- CUE_FIRE (R344): A cue's time base reaches its instant and its pulse is driven. -/
  | cueFire (c : Fin 16)
  /-- CUE_PULSE_END (R344): WIDTH ns after the leading edge the cue's trailing edge is driven. -/
  | cuePulseEnd (c : Fin 16)
  /-- BTB_FRAME_EDGE (R353): At each 125 µs frame edge the slot words are latched and sent. -/
  | btbFrameEdge (b : Fin 4)
  /-- BTB_FS_EDGE (R352): In slave role an FS edge is stamped and advances sync or checks spacing. -/
  | btbFsEdge (b : Fin 4) (periods ps : Nat)
  /-- BTB_CLK_LOSS (R358): In slave role the CLK deadline passes without an edge and the bus is muted. -/
  | btbClkLoss (b : Fin 4)
  /-- BTB_CLK_RETURN (R356): A CLK edge on a muted bus moves it to SYNC. -/
  | btbClkReturn (b : Fin 4)
  /-- BTB_PAUSE (R360): BTBb_CMD PAUSE pauses N frames from the next frame edge. -/
  | btbPause (m : Master) (b : Fin 4)
  /-- BTB_STOP (R356): BTBb_CMD STOP returns the bus to WAIT_START without automatic start. -/
  | btbStop (m : Master) (b : Fin 4)
  /-- BTB_START (R356): BTBb_CMD START starts the bus at the next multiframe instant or into SYNC. -/
  | btbStart (m : Master) (b : Fin 4)
  /-- BTB_AUTO_START (R356): After an apply a master bus enters RUN at the first multiframe instant at least 10 µs later. -/
  | btbAutoStart (b : Fin 4)
  /-- BTB_RESYNC_RESUME (R357): After a step the bus resumes frames with MFI 0 at the first multiframe instant 10 µs later. -/
  | btbResyncResume (b : Fin 4)
  /-- BTB_MASK_WRITE (R361): A BTBb_MASK write takes effect at the next frame edge. -/
  | btbMaskWrite (m : Master) (b : Fin 4) (v : Word)
  /-- BTB_STG_MASK_WRITE (R361): A BTBb_STG_MASK write stages a mask and sets its valid bit. -/
  | btbStgMaskWrite (m : Master) (b : Fin 4) (v : Word)
  /-- BTB_COMMON_START_ARM (R362): BTB_START_CTL ARM arms a common start of the listed master buses. -/
  | btbCommonStartArm (m : Master) (buses : Fin 16)
  /-- BTB_COMMON_START_CANCEL (R362): BTB_START_CTL CANCEL cancels a pending common start before its instant. -/
  | btbCommonStartCancel (m : Master)
  /-- BTB_COMMON_START (R362): At the common start instant every listed waiting bus enters RUN on the same edge. -/
  | btbCommonStart
  /-- BTB_EDGE_W0_READ (R365): A read of BTBb_EDGE_W0 latches the latest frame edge time and bound. -/
  | btbEdgeW0Read (m : Master) (b : Fin 4)
  /-- BTB_IMG0_HI_READ (R365): A read of BTBb_IMG0_HI latches the image of the last complete frame. -/
  | btbImg0HiRead (m : Master) (b : Fin 4)
  /-- PAIR_EN_WRITE (R366): A WNG_CTL.PAIR_EN write enters or leaves pairing between SOLO and UNDERSTUDY. -/
  | pairEnWrite (m : Master) (v : Word)
  /-- STEP_DOWN (R368): WNG_CMD STEP_DOWN makes a lead send RELEASE and become UNDERSTUDY. -/
  | stepDown (m : Master)
  /-- HB_ENTER (R377): WNG_CMD HB_ENTER puts a wings path into heartbeat-only mode. -/
  | hbEnter (m : Master) (x : Fin 2)
  /-- HB_EXIT (R377): WNG_CMD HB_EXIT returns a path to main mode once its fault source is clear. -/
  | hbExit (m : Master) (x : Fin 2)
  /-- WINGS_PATH_UP (R371): A wings path's block lock holds for 1 ms and the path is up. -/
  | wingsPathUp (x : Fin 2)
  /-- WINGS_PATH_DOWN (R371): A wings path loses block lock and goes down. -/
  | wingsPathDown (x : Fin 2)
  /-- WINGS_TIME_SEND (R375): Every 1 ms a TIME frame is sent on each main-mode path. -/
  | wingsTimeSend
  /-- WINGS_TIME_RECEIVE (R376): A valid TIME frame gives path delay, partner offset and partner role and state. -/
  | wingsTimeReceive (x : Fin 2) (tap : Fin 512) (l : List Byte)
  /-- WINGS_HB_SEND (R377): Every 1 ms an HB frame is sent on a heartbeat-only path. -/
  | wingsHbSend
  /-- WINGS_HB_RECEIVE (R377): A received HB frame is compared with the expected frame and mismatches counted. -/
  | wingsHbReceive (x : Fin 2) (l : List Byte)
  /-- CHECKPOINT_TAKE (R378): A lead latches a checkpoint image at each CKPT_PERIOD instant and sends its chunks. -/
  | checkpointTake
  /-- CHECKPOINT_CHUNK_RECEIVE (R380): A received chunk fills its slot, which becomes COMPLETE when all chunks and the CRC match. -/
  | checkpointChunkReceive (x : Fin 2) (l : List Byte)
  /-- HEALTH_EVAL (R387): Every 1 ms the health word and ELIGIBLE are evaluated. -/
  | healthEval
  /-- LEASE_RENEW_SEND (R382): The holder sends a RENEW REQUEST every WNG_RENEW_MS. -/
  | leaseRenewSend
  /-- TAKE_REQUEST_SEND (R384): An eligible understudy without a live partner sends a TAKE REQUEST. -/
  | takeRequestSend
  /-- LEASE_GRANT_RECEIVE (R382): A valid GRANT extends the lease or starts a takeover or handback. -/
  | leaseGrantReceive (l : List Byte)
  /-- LEASE_REFUSE_RECEIVE (R384): A valid REFUSE sets when the next TAKE is sent. -/
  | leaseRefuseReceive (l : List Byte)
  /-- LEASE_RELEASE_ACK_RECEIVE (R383): A RELEASE_ACK from the witness confirms a released lease. -/
  | leaseReleaseAckReceive (l : List Byte)
  /-- LEASE_EXPIRE (R385): The holder's lease expires and the lead becomes LEAD_BLIND or LEAD_DEGRADED. -/
  | leaseExpire
  /-- WITNESS_BLIND (R384): No valid GRANT or REFUSE for 2 × RENEW_MS makes the unit witness-blind. -/
  | witnessBlind
  /-- PARTNER_LOST (R384): No partner TIME or HB frame for 3 ms raises PARTNER_LOST. -/
  | partnerLost
  /-- TAKEOVER_TICK (R388): At T_k the takeover set is applied, ledgers inherited, keys merged and services started. -/
  | takeoverTick
  /-- HOLDOFF_EXPIRE (R395): The preferred understudy's hold-off timer expires and it enters ALIGNING. -/
  | holdoffExpire
  /-- HANDBACK_RELEASE (R395): A lead whose FINAL checkpoint is acknowledged sends RELEASE and becomes UNDERSTUDY. -/
  | handbackRelease
  /-- FAULT_EVENT (R402): A source's dual-rail pair is sampled at fault or broken, and the event is classed, reacted to and recorded. -/
  | faultEvent (l : List PairSample)
  /-- CORE_RESTART_DONE (R407): The control core completes its restart and its DPLLs resume. -/
  | coreRestartDone (c : Fin 4)
  /-- REACTION_DONE (R409): Isolation or forcing is confirmed, or its deadline fails as a COLLECTOR fault. -/
  | reactionDone (id : Byte) (ns : Nat)
  /-- CURTAIN_AUTO_RELEASE (R410): A non-latched curtain ends once its causes stay clear for RELEASE_MS. -/
  | curtainAutoRelease
  /-- AUTO_UNFENCE (R412): A fence with AUTO releases once its sources stay clear for RELEASE_MS. -/
  | autoUnfence
  /-- MASK_WINDOW_END (R413): 10 ms after a unit's release, masking of its sources ends. -/
  | maskWindowEnd
  /-- FLT_UNFENCE (R412): FLT_CMD UNFENCE releases the fenced unit named in FLT_CMD_ARG. -/
  | fltUnfence (m : Master)
  /-- FLT_RELEASE (R410): FLT_CMD RELEASE ends a latched non-FATAL curtain. -/
  | fltRelease (m : Master)
  /-- FLT_CLEAR_FIRST (R418): FLT_CMD CLEAR_FIRST unfreezes FLT_FIRST given the matching ENTRY_ID. -/
  | fltClearFirst (m : Master)
  /-- FLT_HIST_POP_READ (R417): A read of FLT_HIST_POP returns and removes the oldest record and latches its words. -/
  | fltHistPopRead (m : Master)
  /-- FLT_INJ_WRITE (R419): A DNG FLT_INJ write in MANUFACTURE drives a source's pair to inject a fault. -/
  | fltInjWrite (m : Master) (v : Word)
  /-- SRAM_READ (R423): An SRAM line read is checked by CRC and re-issued up to twice. -/
  | sramRead (init : Fin 32) (line : Nat) (fails : Fin 4) (o : LineOwner)
  /-- SRAM_WRITE (R425): A whole-line write replaces data and CRC, or a partial write does read-modify-write. -/
  | sramWrite (init : Fin 32) (line : Nat) (pos : Fin 64) (bytes : List Byte) (fails : Fin 4) (o : LineOwner)
  /-- SCRUB_BURST (R427): Every 6.51 ms the scrubber reads a burst of 1,024 lines. -/
  | scrubBurst (bad : List (Fin 1024 × Fin 4 × LineOwner))
  /-- PD9_RETENTION_ENTER (R428): PD9 enters retention after RET_IDLE µs without requests. -/
  | pd9RetentionEnter
  /-- DMA_COMPLETION_ERROR (R437): A DMA completion error stops the channel and fails its operation. -/
  | dmaCompletionError (ch : Fin 5)
  /-- DMA_CHANNEL_RESTART (R437): The default reaction restarts a stopped DMA channel within 100 µs. -/
  | dmaChannelRestart (ch : Fin 5)
  /-- RING_ENTRY_WRITE (R438): The device writes a ring entry and the producer index, or drops it when full. -/
  | ringEntryWrite (c : Fin 3)
  /-- RING_CONS_WRITE (R438): A MEM_RINGc_CONS write frees ring entries. -/
  | ringConsWrite (m : Master) (c : Fin 3) (v : Word)
  /-- RING_EN_WRITE (R446): Setting MEM_RINGc_CTL.EN enables a ring after an alignment check. -/
  | ringEnWrite (m : Master) (c : Fin 3) (v : Word)
  /-- QSPI_CMD_WRITE (R443): A MEM_QSPI_CMD write starts one flash transfer. -/
  | qspiCmdWrite (m : Master) (v : Word)
  /-- QSPI_TRANSFER_DONE (R443): A flash transfer ends and QSPI_DONE is raised. -/
  | qspiTransferDone (data : List Byte)
  /-- QSPI_DATA_ACCESS (R443): A MEM_QSPI_DATA write pushes or a read pops a FIFO word. -/
  | qspiDataAccess (m : Master) (push : Option Word)
  /-- MSPI_WRITE (R444): A management SPI WRITE transaction writes a register and returns STATUS. -/
  | mspiWrite (a : Fin 16777216) (d : Word) (crc : Byte)
  /-- MSPI_DWRITE (R445): A management SPI DWRITE writes a value and its complement as one DNG pair. -/
  | mspiDwrite (a : Fin 16777216) (d : Word) (crc : Byte)
  /-- MSPI_READ (R444): A management SPI READ transaction returns STATUS, data and CRC. -/
  | mspiRead (a : Fin 16777216) (crc : Byte)
  /-- MSPI_PING (R444): A management SPI PING returns the device status byte. -/
  | mspiPing (l : List Byte)
  /-- PF_HOST_RESET (R435): A PF FLR, hot reset, link down or D3hot stops DMA and idles host-side state. -/
  | pfHostReset (kind : Fin 4)
  /-- VF_FLR (R435): A VF function-level reset clears its latches and cancels its armed cues. -/
  | vfFlr (v : Fin 16)
  /-- D0_RETURN (R435): Return to D0 with the link up lets rings resume once EN is set. -/
  | d0Return (speed : Fin 8) (width : Fin 16) (vfEn : Fin 65536)
  /-- POR_ASSERT (R478): POR low or VDD_AON out of window starts a COLD reset. -/
  | porAssert (vddAon : Bool)
  /-- RESET_N_PULSE (R478): RESET_N low for 1 µs to 100 ms starts a WARM reset. -/
  | resetNPulse (ns : Fin 100000000)
  /-- RESET_N_LONG (R478): RESET_N held low for 100 ms turns the reset into a COLD reset. -/
  | resetNLong
  /-- PWR_RST_CMD_WARM (R481): PWR_RST_CMD KIND WARM starts a WARM reset 10 µs after decode. -/
  | pwrRstCmdWarm (m : Master)
  /-- PWR_RST_CMD_SERVICE (R481): PWR_RST_CMD KIND SERVICE starts a SERVICE reset unless FATAL is latched. -/
  | pwrRstCmdService (m : Master)
  /-- PWR_RST_CMD_COLD (R481): PWR_RST_CMD KIND COLD starts a COLD reset 10 µs after decode. -/
  | pwrRstCmdCold (m : Master)
  /-- POWER_LOSS (R471): A rail leaves its window with POR high and device power is lost. -/
  | powerLoss
  /-- LO_CLK_DETECTED (R474): Ten windows place LO_CLK at a listed rate and PD0 switches to it. -/
  | loClkDetected (rate : Fin 5)
  /-- LO_LOST (R475): LO_CLK stops or drifts for a window and PD0 returns to the RC oscillator. -/
  | loLost
  /-- DOMAIN_POWER_ON (R472): A domain switch-on ramp completes before the next one starts. -/
  | domainPowerOn
  /-- FIRMWARE_SELF_CHECK_DONE (R477): The control cores complete their firmware self-check after PD1 reset. -/
  | firmwareSelfCheckDone
  /-- SUPPLY_EXCURSION (R491): A rail excursion beyond its window for 1 µs raises a SUPPLY fault. -/
  | supplyExcursion (d : Fin 12) (inside : Bool)
  /-- THERMAL_SENSOR_READ (R497): Every 100 µs the die sensors are read and THERMAL events set or cleared. -/
  | thermalSensorRead (t : List Int)
  /-- TICK (R60): On every 0.8 ns tick each time base adds its effective increment with carry, the bound is interpolated, and tick-placed consumers act in the order of Table 1.5. -/
  | tick
  /-- SOURCE_LIVE_BIT_CLEAR (R398): A fault source's dual-rail pair returns from fault to the no-fault code and its live bit drops. -/
  | sourceLiveBitClear (src : Nat)
  /-- POR_RELEASE (R474): POR goes high, PD0 leaves reset on the RC clock, OTP is read and LO_CLK detection begins. -/
  | porRelease
  /-- APPLY_COMPLETE (R47): A full or boot apply finishes within 40 ms, promotes the image, releases the curtain, sets ACTIVE_VALID and raises APPLIED. -/
  | applyComplete (ms : Nat)
  /-- WARM_RESET_REVERIFY_DONE (R45): After a WARM reset the re-verification of the active image in the store completes and the image is applied. -/
  | warmResetReverifyDone (ms : Nat)
  /-- RING_MOD_US_EXPIRE (R438): The MOD_US hold-off since a ring vector last fired runs out and the vector fires for producer updates made during it. -/
  | ringModUsExpire (c : Fin 3)
  /-- MSIX_VECTOR_UNMASK (R459): The host unmasks an MSI-X vector and a condition that rose while it was masked fires. -/
  | msixVectorUnmask (v : Fin 32)
  /-- REFERENCE_DELAY_REQ_SEND (R127): On a port that a PTP reference slot names in a two-way profile, the device sends Delay_Req upstream to obtain the Delay_Resp it measures. -/
  | referenceDelayReqSend (k : Fin 24) (build : Nat)
  /-- UPSTREAM_UNICAST_REQUEST (R280): With SVC_PREF_CFG.UNICAST = 1, the device requests and renews unicast grants from the upstream master for its PTP reference slot. -/
  | upstreamUnicastRequest (k : Fin 24) (build : Nat)
deriving DecidableEq, Repr

end Sys2Proof
end

