-- ==== Sys2Proof/Machine/Sparse.lean ====
section
/-! DEFINITION. Sys2Proof/Machine/Sparse.lean: a table kept as a list of (key, value) pairs in one canonical form: keys strictly rising, and no entry equal to what an unlisted key reads as. The register file, the per-master latches, the SRAM and the large tables of the block are held so. -/
namespace Sys2Proof.Machine

/-- A table by natural-number key. -/
abbrev Sparse (α : Type) := List (Nat × α)

/-- The value at key `k`; an unlisted key reads as `d k`. -/
def Sparse.get {α : Type} (d : Nat → α) : Sparse α → Nat → α
  | [], k => d k
  | (a, b) :: t, k => if a = k then b else Sparse.get d t k

/-- The table without its entry at key `k`. -/
def Sparse.erase {α : Type} : Sparse α → Nat → Sparse α
  | [], _ => []
  | (a, b) :: t, k => if a = k then Sparse.erase t k else (a, b) :: Sparse.erase t k

/-- The table with an entry put in before the first higher key. -/
def Sparse.insert {α : Type} : Sparse α → Nat → α → Sparse α
  | [], k, v => [(k, v)]
  | (a, b) :: t, k, v => if k < a then (k, v) :: (a, b) :: t else (a, b) :: Sparse.insert t k v

/-- Sets key `k` to `v`: writing what an unlisted key reads as removes the entry. -/
def Sparse.set {α : Type} [DecidableEq α] (d : Nat → α) (l : Sparse α) (k : Nat) (v : α) : Sparse α :=
  if v = d k then Sparse.erase l k else Sparse.insert (Sparse.erase l k) k v

/-- Keys rise strictly above `lo`, and no entry is the default. -/
def Sparse.above {α : Type} [DecidableEq α] (d : Nat → α) : Option Nat → Sparse α → Bool
  | _, [] => true
  | lo, (a, b) :: t =>
    (match lo with | none => true | some x => decide (x < a)) && !decide (b = d a) && Sparse.above d (some a) t

/-- The canonical form. -/
def Sparse.wf {α : Type} [DecidableEq α] (d : Nat → α) (l : Sparse α) : Bool := Sparse.above d none l

end Sys2Proof.Machine
end

