-- ==== Sys2Proof/Machine/KeyTypes.lean ====
section
/-! DEFINITION. Sys2Proof/Machine/KeyTypes.lean: state of the key store and of the one-time-programmable fuses (spec/11_keys.md). -/
namespace Sys2Proof.Machine

/-- The life-cycle states of R319, in their order. -/
inductive Lifecycle where
  | blank | manufacture | provisioned | deployed | retired
deriving DecidableEq, Repr

/-- KEY_STAT.LC. -/
def Lifecycle.code : Lifecycle → Nat
  | .blank => 0
  | .manufacture => 1
  | .provisioned => 2
  | .deployed => 3
  | .retired => 4

/-- The state after an advance. -/
def Lifecycle.next : Lifecycle → Lifecycle
  | .blank => .manufacture
  | .manufacture => .provisioned
  | .provisioned => .deployed
  | .deployed => .retired
  | .retired => .retired

/-- The fuses: life cycle, operator-key hashes and revoke fuses (R39, R318, R319). -/
structure Otp where
  lifecycle : Lifecycle := .deployed
  opk0 : List Byte := []
  opk1 : List Byte := []
  revoked0 : Bool := false
  revoked1 : Bool := false
  /-- hash of the Kwafort manufacturing key -/
  mfgKey : List Byte := []
deriving DecidableEq, Repr

/-- A key of the store by name: a slot, an epoch key of a service (0 NTS, 1 PTP), a cookie key, a session key (Table 11.4, Table 11.5). -/
inductive KeyName where
  | slot (n : Nat)
  | epoch (svc e : Nat)
  | cookie (e : Nat)
  | session (k : Nat)
deriving DecidableEq, Repr

/-- KIND and KEY_ID of Table 11.5. -/
def KeyName.kind : KeyName → Nat
  | .slot _ => 0
  | .epoch _ _ => 1
  | .cookie _ => 2
  | .session _ => 3
def KeyName.id : KeyName → Nat
  | .slot n => n % 256
  | .epoch r e => r % 2 * 2 ^ 31 + e % 2 ^ 24
  | .cookie e => e % 2 ^ 24
  | .session k => k % 2 ^ 32

/-- A name as one number. -/
def KeyName.code (k : KeyName) : Nat := k.kind * 2 ^ 32 + k.id

/-- The key that a KIND and a KEY_ID name. -/
def keyNamed (kind id : Nat) : KeyName :=
  match kind with
  | 0 => .slot (id % 256)
  | 1 => .epoch (id / 2 ^ 31 % 2) (id % 2 ^ 24)
  | 2 => .cookie (id % 2 ^ 24)
  | _ => .session (id % 2 ^ 32)

/-- A slot: the key stands XORed with its mask (R306). -/
structure KeySlot where
  occupied : Bool := false
  attr : Word := 0
  gen : Nat := 0
  /-- the lowest generation at which the slot is usable after a takeover (R391) -/
  need : Nat := 0
  stored : BitVec 256 := 0
  mask : BitVec 256 := 0
deriving DecidableEq, Repr, Inhabited

/-- The generations behind a key: its root slot, the generations of the root, of the direct parent and of the key (Table 11.5). -/
structure Lineage where
  root : Nat
  rootGen : Nat
  parentGen : Nat
  ownGen : Nat
deriving DecidableEq, Repr

/-- A line of the working-key cache (R312). -/
structure CacheLine where
  name : KeyName
  lineage : Lineage
  stored : BitVec 256
  mask : BitVec 256
  used : Nat
deriving DecidableEq, Repr

/-- A directory entry: an exported key, its record, its generations, the newest valid BLOB_GEN and whether copy B holds it (R313). -/
structure DirEntry where
  name : KeyName
  record : Nat
  lineage : Lineage
  blobGen : Nat
  inB : Bool
deriving DecidableEq, Repr

/-- The staging buffer (R302). -/
structure Staging where
  owner : Option Nat := none
  attr : Option Word := none
  gen : Option Nat := none
  vals : List (Option Word) := List.replicate 8 none
  last : Nat := 0
deriving DecidableEq, Repr, Inhabited

/-- An operation of the key block on host memory that has begun (R313 to R315). -/
inductive KeyOp where
  | exporting (e : DirEntry) (blob : List Byte)
  | importing (slot record master : Nat)
  | scanning
deriving DecidableEq, Repr

/-- A burn in progress (R318). -/
inductive OtpOp where
  | fuse0 (h : List Byte) | fuse1 (h : List Byte) | revoke0 | revoke1 | advance | rollback (n : Nat)
deriving DecidableEq, Repr

/-- The key store. -/
structure Key where
  slots : Vector KeySlot 256 := Vector.replicate 256 {}
  stg : Staging := {}
  /-- generations of derived keys by name code, 0 if never derived -/
  gens : Sparse Nat := []
  /-- tick of the last rise of a key's generation, by name code (R317) -/
  roseAt : Sparse Nat := []
  /-- names whose generation has risen on this tick (R316) -/
  rose : List KeyName := []
  cache : List CacheLine := []
  dir : List DirEntry := []
  /-- GMAC counters by name code, and the keys that are exhausted (R311) -/
  gmac : Sparse Nat := []
  spent : List KeyName := []
  ops : List KeyOp := []
  /-- slots that an ERASE empties on the next tick (R305) -/
  erase : List Nat := []
  /-- epochs that take effect on the next tick (R309) -/
  epochNext : List (Nat × Nat) := []
  /-- a purge is due: the tick by which it ends (R317) -/
  purgeBy : Option Nat := none
  /-- KEY_OTP_DATA -/
  otpData : List Word := List.replicate 12 0
  otpOp : Option OtpOp := none
  /-- tick of the last remasking and of the last reseed -/
  maskAt : Nat := 0
  seedAt : Nat := 0
deriving DecidableEq, Repr, Inhabited

end Sys2Proof.Machine
end

