-- ==== Sys2Proof/Machine/CkptTypes.lean ====
section
/-! DEFINITION. Sys2Proof/Machine/CkptTypes.lean: what the sections of a checkpoint image hold (Table 14.7), as plain data. The spec gives the sections' offsets and contents and not the places of the fields inside them. -/
namespace Sys2Proof.Machine

/-- TIMEBASES, one time base. -/
structure CkTb where
  present : Bool
  value : Nat
  inc : Nat
  epoch : Int
  ratio : Int
  owner : Bool
  scale : Nat
  sameRate : Bool
  pend : Nat
  leapAt : Nat
  leapActive : Bool
  taiUtc : Int
deriving DecidableEq, Repr

/-- SELECTORS, one selector: CTL, CAND, SLOPE, QHOLD, ACTIVE and PREVIOUS, REMAIN. -/
structure CkSel where
  ctl : Word
  cand : Word
  slope : Word
  qhold : Word
  slots : Word
  remain : Word
deriving DecidableEq, Repr

/-- DPLLS, one loop. -/
structure CkDpll where
  state : Nat
  hoMode : Nat
  bw : Word
  cv : Int
  hoCv : Int
  tv : Nat
  model : List Word
  valid : Bool
deriving DecidableEq, Repr

/-- LEDGERS, one ledger. -/
structure CkBnd where
  comps : List Nat
  slope : Nat
  prov : Word
  why : Nat
  tv : Nat
deriving DecidableEq, Repr

/-- REFS, one slot: state, wait-to-restore, ticks left of its timer, live and history bits, Q, ensemble verdict, phases at the last TB0 seconds. -/
structure CkRef where
  state : Nat
  wtr : Bool
  left : Nat
  live : Nat
  hist : Nat
  q : Nat
  ens : Int × Int
  phases : List (Option Int)
deriving DecidableEq, Repr

/-- KEYS: generation and occupancy by slot, epoch and KEEP by service, generations of derived keys, GMAC counters. -/
structure CkKeys where
  slots : List (Nat × Bool)
  epochs : List (Nat × Nat)
  gens : Sparse Nat
  gmac : Sparse Nat
deriving DecidableEq, Repr

/-- The sections of a checkpoint. -/
structure CkptImage where
  tbs : List CkTb
  sels : List CkSel
  dplls : List CkDpll
  bnds : List CkBnd
  refs : List CkRef
  keys : CkKeys
  dir : List DirEntry
deriving DecidableEq, Repr

/-- A checkpoint of nothing. -/
def CkptImage.empty : CkptImage := ⟨[], [], [], [], [], ⟨[], [], [], []⟩, []⟩

end Sys2Proof.Machine
end

