-- ==== Sys2Proof/Config.lean ====
section
/-! DEFINITION. Sys2Proof/Config.lean: what an implementation fixes and the spec does not state, and the free values. No constant here has a body: nothing can be proved of its value. -/
namespace Sys2Proof

/-- Free value number `n` of width `w`: the state's counter `fv` gives the next `n` (assumption 3). -/
opaque Config.freeValue (w : Nat) (n : Nat) : BitVec w

/-- The ACCESS row that Kwafort fixes for master index `i` (Table 2.4: rows 17 to 22, 24 and 25; assumption 6). -/
opaque Config.vendorRow (i : Nat) : BitVec 64

/-- SHA-384 of a byte string (R39), by its standard (assumption 7). -/
opaque Config.sha384 (l : List Byte) : List Byte

/-- SHA-256 of a byte string (R318), by its standard (assumption 7). -/
opaque Config.sha256 (l : List Byte) : List Byte

/-- ECDSA P-384 verification: public key, digest, signature (R39), by its standard (assumption 7). -/
opaque Config.ecdsaP384 (key digest sig : List Byte) : Bool

/-- FW_INFO of the mailbox: firmware version, build time, image CRC and signing-key index (Table 17.8, assumption 8). -/
opaque Config.fwInfo (i : Nat) : Word

/-- HKDF-SHA256 with 32 bytes of output: salt, input key, info (R308), by its standard (assumption 7). -/
opaque Config.hkdf (salt : List Byte) (ikm : BitVec 256) (info : List Byte) : BitVec 256

/-- HMAC-SHA256 truncated to 128 bits: key, message (R283), by its standard (assumption 7). -/
opaque Config.hmac128 (key : BitVec 256) (msg : List Byte) : BitVec 128

/-- HMAC-SHA256 with 32 bytes of output (Table 11.2, LEASE), by its standard (assumption 7). -/
opaque Config.hmac256 (key : BitVec 256) (msg : List Byte) : BitVec 256

/-- GMAC-AES-256 with its 128-bit tag: key, initialisation vector, message (R283, R284), by its standard (assumption 7). -/
opaque Config.gmac (key : BitVec 256) (iv msg : List Byte) : BitVec 128

/-- AES-SIV-CMAC-256 encryption: key, associated data, nonce, plaintext; the synthetic IV and the ciphertext (R272), by its standard (assumption 7). -/
opaque Config.sivSeal (key : BitVec 256) (ad nonce plain : List Byte) : List Byte

/-- AES-SIV-CMAC-256 decryption, nothing where the tag does not verify (R272), by its standard (assumption 7). -/
opaque Config.sivOpen (key : BitVec 256) (ad nonce cipher : List Byte) : Option (List Byte)

/-- AES-256 key wrap with padding, and its inverse with the integrity check (Table 11.2, R314), by its standard (assumption 7). -/
opaque Config.kwpWrap (key : BitVec 256) (plain : List Byte) : List Byte
opaque Config.kwpUnwrap (key : BitVec 256) (cipher : List Byte) : Option (List Byte)

/-- AES-256-GCM of the wings links: seal and open by key, counter and bytes (R373), by its standard (assumption 7). -/
opaque Config.gcmSeal (key : BitVec 256) (iv ad plain : List Byte) : List Byte
opaque Config.gcmOpen (key : BitVec 256) (iv ad cipher : List Byte) : Option (List Byte)

/-- The device's clockIdentity, which no rule of the spec states (assumption 21). -/
opaque Config.clockIdentity : BitVec 64

/-- Priority1, priority2 and the fixed Announce fields that no rule states (assumption 21). -/
opaque Config.priorities : BitVec 16

/-- The bytes of the pseudo-header behind which a UDP checksum is formed: port, destination address, length (R254); the device's own addresses stand in no rule (assumption 21). -/
opaque Config.pseudoHeader (port : Nat) (dst : BitVec 128) (len : Nat) : List Byte

/-- The two hash functions of the token buckets (R289): class, client key, which of the two (assumption 22). -/
opaque Config.bucketHash (cls : Nat) (client : List Byte) (i : Nat) : BitVec 17

/-- The hash that places a client in the session table (R285): port, clientPortIdentity, source address (assumption 22). -/
opaque Config.sessionHash (port : Nat) (pid : BitVec 80) (addr : BitVec 128) : BitVec 18

/-- The control core that serves a DPLL (R407), which the spec does not state (assumption 30). -/
opaque Config.dpllCore (d : Nat) : Fin 4

/-- A matrix initiator, by the index of R423, may use banks of a use code (R422), which no rule lists (assumption 31). -/
opaque Config.bankUses (initiator use : Nat) : Bool

/-- The bank in which an owner keeps one of its entries: use code, entry number (R421, R424), which no rule lays out (assumption 31). -/
opaque Config.entryBank (use entry : Nat) : Fin 24

/-- The bytes of a checkpoint's sections, and what bytes hold: the spec gives the sections' offsets and contents and not their layout (assumption 28). -/
opaque Config.ckptSections (i : Machine.CkptImage) : List Byte
opaque Config.ckptParse (l : List Byte) : Option Machine.CkptImage

/-- The REFMAP entries of a slot are identical in the two units of a pair (R392), which no register or frame shows (assumption 29). -/
opaque Config.sameRefmap (n : Nat) : Bool

end Sys2Proof
end

