-- ==== Sys2Proof/Machine/BndTypes.lean ====
section
/-! DEFINITION. Sys2Proof/Machine/BndTypes.lean: state of one ledger and of the calibration records (spec/07_error_bound.md). Components are whole picoseconds, the holdover growth is kept in units of 10⁻²² ps and slopes in units of 10⁻³¹, in which the growth of R165 over a tick is exact. -/
namespace Sys2Proof.Machine

/-- One picosecond in the unit of the growth. -/
def psU : Nat := 10 ^ 22

/-- The seven components of Table 7.1 that are whole picoseconds; HOLD stands beside them in the ledger. -/
structure Comps where
  ref : Nat := 0
  meas : Nat := 0
  servo : Nat := 0
  path : Nat := 0
  quant : Nat := 0
  switch : Nat := 0
  extra : Nat := 0
deriving DecidableEq, Repr, Inhabited

/-- Values that components may fall to at the next refresh (R181): none where no reason arose since the last one. -/
structure Falls where
  ref : Option Nat := none
  meas : Option Nat := none
  servo : Option Nat := none
  hold : Option Nat := none
  path : Option Nat := none
  quant : Option Nat := none
  switch : Option Nat := none
  extra : Option Nat := none
deriving DecidableEq, Repr, Inhabited

/-- The ledger of one time base. -/
structure Ledger where
  comps : Comps := {}
  /-- HOLD in units of 10⁻²² ps -/
  hold : Nat := 0
  falls : Falls := {}
  /-- B_r in units of 10⁻²⁹ ps, its tick t_r, and the slope s_r in units of 10⁻³¹ (R178) -/
  base : Nat := 0
  baseTick : Nat := 0
  slope : Nat := 0
  /-- the slope announced for the refresh after the next (R185) -/
  announced : Nat := 0
  /-- UNTR_WHY of Table 7.4; 0 while the bound is finite -/
  why : Nat := 1
  raiseSeq : Word := 0
  /-- a raise since the last tick advances RAISE_SEQ once on it (R184) -/
  raised : Bool := false
  /-- tick counter at the last verified point t_v -/
  tv : Nat := 0
  /-- the time base's value at t_v (Table 10.4) -/
  tvTime : Nat := 0
  /-- PROV.EPOCH: first finite bounds, wrapping (R190) -/
  epoch : Byte := 0
  /-- the slot behind REF, as the ledger last took it (R194) -/
  slot : Option Nat := none
  /-- R182 -/
  stale : Bool := false
  /-- R176: the limit took effect -/
  saturated : Bool := false
  /-- R193: the bound is the one inherited at takeover -/
  inherited : Bool := false
  /-- tick at which the interval of R190 began, and its peak |phase error| in ps -/
  firstSince : Option Nat := none
  firstPeak : Nat := 0
  /-- a BNDn_EXTRA write that rises on the next tick (Table 7.1) -/
  extraRise : Option Nat := none
  /-- a lower BNDn_EXTRA waiting for a verified sample -/
  extraWait : Option Nat := none
  /-- the bound of a switch or holdover exit may not fall below this until a verified sample of the new slot (Table 5.7), 10⁻²² ps -/
  floor : Nat := 0
  floorEnds : Bool := false
  /-- for a same-rate time base in frozen holdover: the largest TB0 bound since t_v and TB0's bound at t_v, ps (R183) -/
  tb0Max : Nat := 0
  tb0AtTv : Nat := 0
  /-- TB0's bound at t_v, and its largest bound since, ps, for the terms above -/
  tb0Tv : Nat := 0
  tb0Track : Nat := 0
  /-- TB0's SWITCH component, added while TB0's DPLL is in a switch, ps (R183) -/
  tb0Switch : Nat := 0
deriving DecidableEq, Repr, Inhabited

/-- The values of a calibration record that the ledger uses (R188). -/
structure CalRec where
  valid : Bool := false
  kind : Nat := 0
  index : Nat := 0
  uncStamp : Nat := 0
  uncPath : Nat := 0
deriving DecidableEq, Repr, Inhabited

/-- A calibration record: the values in force, the values a tick will raise them to, and whether a lowering waits. -/
structure Cal where
  inForce : CalRec := {}
  rise : Option CalRec := none
  wait : Option CalRec := none
deriving DecidableEq, Repr, Inhabited

end Sys2Proof.Machine
end

