-- ==== Sys2Proof/Machine/BtbTypes.lean ====
section
/-! DEFINITION. Sys2Proof/Machine/BtbTypes.lean: state of the backplane time buses beside their registers (spec/13_backplane_time_bus.md). -/
namespace Sys2Proof.Machine

/-- A bus. -/
structure Btb where
  /-- the slot mask in force, and a mask that waits with the first tick whose edge may take it (R361) -/
  mask : Word := 0
  maskNext : Option (Word × Nat) := none
  /-- a PAUSE that waits: N and the first tick whose edge may take it (R360) -/
  pauseNext : Option (Nat × Nat) := none
  /-- tick of an automatic start, or of START, from which the multiframe instant is sought 10 µs on (Table 13.4) -/
  startFrom : Option Nat := none
  /-- tick of the step that the bus resynchronises after (R357) -/
  resync : Option Nat := none
  /-- tick of the latest frame edge -/
  edgeTick : Nat := 0
  /-- slots and words of the frame in progress, and the image of the last complete one (R361) -/
  frame : List (Nat × BitVec 64) := []
  image : List (BitVec 64) := []
  /-- AUX words 1 to 14 of the multiframe (Table 13.3) -/
  aux : List Nat := []
  /-- good FS spacings counted in SYNC; none before the first FS edge (Table 13.4) -/
  good : Option Nat := none
deriving DecidableEq, Repr, Inhabited

/-- The common start: buses and instant (R362). -/
structure CommonStart where
  buses : Nat
  inst : Nat
deriving DecidableEq, Repr

/-- The bus block. -/
structure BtbBlk where
  bus : Vector Btb 4 := Vector.replicate 4 {}
  common : Option CommonStart := none
deriving DecidableEq, Repr, Inhabited

end Sys2Proof.Machine
end

