-- ==== Sys2Proof/Machine/DpllTypes.lean ====
section
/-! DEFINITION. Sys2Proof/Machine/DpllTypes.lean: state of one DPLL beside its registers (spec/06_servo_holdover.md). -/
namespace Sys2Proof.Machine

/-- The states of Table 6.4 are numbers 0 to 4 in DPLLd_STAT; what a loop holds beside its registers. -/
structure Dpll where
  /-- the integrator, units of 2⁻⁶⁴ -/
  integ : Int := 0
  /-- the integrator at past updates: tick and value (R161) -/
  history : List (Nat × Int) := []
  /-- tick since which every update met the lock criteria (R158) -/
  lockSince : Option Nat := none
  /-- |phase error| of verified samples of the last second: tick and ps (R159) -/
  peaks : List (Nat × Nat) := []
  /-- the phase a FREQ loop takes as its zero, 2⁻⁵⁶ ns (R144) -/
  zero : Int := 0
  /-- the step of R157 is armed by this DPLL -/
  stepping : Bool := false
  /-- a verified sample has been taken since the loop last left RELEASED -/
  verified : Bool := false
  /-- a verified sample has been taken since the last holdover exit, and the growth carried before it (R168) -/
  exitVerified : Bool := true
  exitTv : Nat := 0
  exitGrowth : Nat := 0
  /-- ACQUIRING begins on the next tick: FREE was entered with a slot selected (Table 6.4) -/
  acquireNext : Bool := false
  /-- tick of the latest update, and of the latest verified sample's arrival or the later entry to ACQUIRING (R182) -/
  lastUpd : Nat := 0
  /-- tick of the model's latest sample (R169) -/
  fitTick : Nat := 0
  lastVer : Nat := 0
deriving DecidableEq, Repr, Inhabited

/-- The UART passthrough to the atomic module (R164, R173). -/
structure Uart where
  tx : List Byte := []
  /-- tick at which the byte being sent is out -/
  txDue : Option Nat := none
  rx : List Byte := []
deriving DecidableEq, Repr, Inhabited

end Sys2Proof.Machine
end

