-- ==== Sys2Proof/Machine/FltTypes.lean ====
section
/-! DEFINITION. Sys2Proof/Machine/FltTypes.lean: state of the fault collector (spec/15_faults.md). A source is numbered group × 256 + instance. -/
namespace Sys2Proof.Machine

/-- The classes of R402. -/
inductive FClass where
  | corrected | uc | fatal
deriving DecidableEq, Repr

/-- CLASS of Table 15.4. -/
def FClass.code : FClass → Nat
  | .corrected => 0
  | .uc => 1
  | .fatal => 2

/-- The eight words of a fault record (Table 15.4). -/
abbrev FltRec := Vector Word 8

/-- A unit isolated by a fence, or under a curtain (R405, R406). -/
structure Fence where
  /-- unit code of Table 15.3 -/
  unit : Nat
  /-- ENTRY_ID of the event that isolated it -/
  id : Nat
  /-- released without a command (R412) -/
  auto : Bool
deriving DecidableEq, Repr

/-- A cause of a curtain in force (R408, R410): its source, LATCH, FATAL, and the unit isolated with it. -/
structure Curtain where
  src : Nat
  latch : Bool
  fatal : Bool
  unit : Option Nat
deriving DecidableEq, Repr

/-- A reaction in progress (R409): ENTRY_ID, a curtain or a fence, the fenced unit, its event tick. -/
structure React where
  id : Nat
  curtain : Bool
  unit : Nat
  start : Nat
deriving DecidableEq, Repr

/-- An event of a source as the collector declares it (R399 to R402): the class that the source's own rule gives it, its syndrome, and whether its path is broken. -/
structure FltEvent where
  src : Nat
  cls : FClass
  syn : Word
  broken : Bool
deriving DecidableEq, Repr

/-- The fault collector. -/
structure Flt where
  /-- the tick after a source's last sample at equal levels (R398) -/
  eqAt : Sparse Nat := []
  /-- live bits by source; paths declared broken (R399); faults that an isolation reset does not end (R411) -/
  live : Sparse Bool := []
  broken : Sparse Bool := []
  holds : Sparse Bool := []
  /-- syndrome of a source's last event -/
  syn : Sparse Word := []
  /-- tick at which a source's live bit last dropped -/
  clearedAt : Sparse Nat := []
  /-- FLT_SRC_STICKY words by group × 4 + bank -/
  srcSticky : Sparse Word := []
  /-- events counted for escalation, by source, oldest first: tick and ENTRY_ID (R404) -/
  counted : Sparse (List (Nat × Nat)) := []
  /-- the history queue, oldest first (R417) -/
  hist : List FltRec := []
  /-- records since PD0 reset -/
  nextId : Nat := 0
  fences : List Fence := []
  curtains : List Curtain := []
  reacts : List React := []
  /-- units released: ENTRY_ID of the event that isolated them, and the tick at which masking ends (R413) -/
  masks : List (Nat × Nat × Nat) := []
  /-- sources driven by an injection (R419) -/
  injected : List Nat := []
  /-- control cores that are halted, and the restarts of each since reset (R407) -/
  coresDown : List Nat := []
  restarts : Sparse Nat := []
deriving DecidableEq, Repr, Inhabited

end Sys2Proof.Machine
end

