-- ==== Sys2Proof/Machine/GlbTypes.lean ====
section
/-! DEFINITION. Sys2Proof/Machine/GlbTypes.lean: state of the register front end and the global block (spec/17_registers.md, spec/01_architecture.md). -/
namespace Sys2Proof.Machine

/-- An error record of R458; ERR_SEL shows it. -/
structure ErrRec where
  code : Nat := 0
  matrix : Bool := false
  write : Bool := false
  count : BitVec 16 := 0
  addr : Word := 0
deriving DecidableEq, Repr, Inhabited

/-- A pending DNG pair of one master: its first half and the tick that served it (R454). -/
structure DngPair where
  off : Nat
  value : Word
  at' : Nat
deriving DecidableEq, Repr

/-- The result a mailbox command has ready: four response words and a code (R464). -/
structure MbxResult where
  rsp : List Word
  code : Nat
deriving DecidableEq, Repr

/-- The MSI-X side of the PF vectors: 0 to 17 one per block, 18 to 20 for rings 2 to 4 (R434, R459). -/
structure Irq where
  /-- vectors that are masked: all of them until the host unmasks them -/
  masked : List Nat := List.range 32
  /-- vectors whose condition rose while masked -/
  waiting : List Nat := []
  /-- how often each vector has fired since reset -/
  fired : Sparse Nat := []
deriving DecidableEq, Repr, Inhabited

/-- The front end and the global block. -/
structure Glb where
  /-- error records by master index 0 to 31 -/
  errs : Sparse ErrRec := []
  /-- pending DNG pair by master index -/
  dng : Sparse (Option DngPair) := []
  /-- a snapshot is requested for the next tick (R23) -/
  snapReq : Bool := false
  /-- the armed commit's TB0 instant, in units of 2⁻⁵⁶ ns (R26) -/
  commitAt : Option Nat := none
  /-- results of the running mailbox commands -/
  mbx : Sparse (Option MbxResult) := []
  /-- the 64-bit counts of the performance-counter reader by identifier (R467) -/
  pmc : Sparse (BitVec 64) := []
  /-- ring 4 entries generated since EN was set (Table 17.13) -/
  pmcSeq : Word := 0
  irq : Irq := {}
deriving DecidableEq, Repr, Inhabited

end Sys2Proof.Machine
end

