-- ==== Sys2Proof/Machine/GnssTypes.lean ====
section
/-! DEFINITION. Sys2Proof/Machine/GnssTypes.lean: state of the GNSS baseband beside its registers (spec/08_gnss.md). -/
namespace Sys2Proof.Machine

/-- Noise measurement of one band (R220): the last noise floors in units of 0.25 dB, newest first, ten times the lowest 10 s mean, the tick since which the band is jammed, and the last tick with the condition. -/
structure Band where
  noise : List Int := []
  base : Option Int := none
  jamFrom : Option Nat := none
  lastJam : Nat := 0
deriving DecidableEq, Repr, Inhabited

/-- A chain. -/
structure Chain where
  /-- tick on which the chain was enabled, and the start kind it took: 1 HOT, 2 WARM, 3 COLD (Table 8.3) -/
  enabledAt : Nat := 0
  startKind : Nat := 0
  /-- the latest solution, whether all but the verdict let it be valid, and its uncertainty without WARN_MARGIN in ps -/
  last : Option Fix := none
  sound : Bool := false
  plainU : Nat := 0
  /-- the latest valid solution: offset, U in ps, epoch tick -/
  valid : Option (Int × Nat × Nat) := none
  /-- the chain is in FAIL, and the tick since which its score has stayed below half the threshold (R222) -/
  fail : Bool := false
  lowFrom : Option Nat := none
  /-- A/B mismatch assigned to this chain at its latest epoch (R218) -/
  ab : Bool := false
  /-- phases against ATOM, newest first: epoch tick and 2⁻⁵⁶ ns (R219) -/
  hist : List (Nat × Int) := []
  bands : Vector Band 3 := Vector.replicate 3 {}
  /-- tick of the last OSNMA failure of a used system's satellite -/
  osnmaFail : Option Nat := none
  /-- tick on which the survey in progress began -/
  surveyFrom : Nat := 0
  /-- a front-end transfer: the tick by which it ends, and the word it sends (R204) -/
  fespi : Option (Nat × Word) := none
deriving DecidableEq, Repr, Inhabited

/-- The GNSS block. -/
structure Gnss where
  chains : Vector Chain 2 := Vector.replicate 2 {}
  /-- satellites whose data the SRAM bank holds, by system and number, with the tick of the data, and the tick of the last fix (R207); a tick before the counter's last start is negative -/
  db : List (Nat × Nat × Int) := []
  fixAt : Option Int := none
  /-- index of the next OSNMA root word (R221) -/
  rootNext : Nat := 0
deriving DecidableEq, Repr, Inhabited

end Sys2Proof.Machine
end

