-- ==== Sys2Proof/Machine/MemTypes.lean ====
section
/-! DEFINITION. Sys2Proof/Machine/MemTypes.lean: state of the memory and host block beside its registers (spec/16_memory_interconnect_host.md). -/
namespace Sys2Proof.Machine

/-- What an SRAM byte that nothing has written reads as: 0 (assumption 2). -/
def sramUnlisted (_ : Nat) : Byte := 0

/-- A write of the device to host memory: address and bytes. -/
structure HostWrite where
  addr : Nat
  bytes : List Byte
deriving DecidableEq, Repr

/-- A ring (R438): entries ready to be written, oldest first; the tick of its vector's last firing; a firing that waits for MOD_US; a host-side reset has stopped it until EN is set again (R435). -/
structure Ring where
  ready : List (List Byte) := []
  firedAt : Option Nat := none
  owed : Bool := false
  halted : Bool := false
deriving DecidableEq, Repr, Inhabited

/-- A flash transfer in progress (R443): its command word and its address. -/
structure QspiOp where
  cmd : Word
  addr : Word
deriving DecidableEq, Repr

/-- The memory and host block. -/
structure Mem where
  /-- SRAM contents by byte address; Table 16.1 owners keep their own state elsewhere -/
  sram : Sparse Byte := []
  /-- lines whose last read failed three times and that no whole write has repaired (R425) -/
  failed : List Nat := []
  /-- events of each bank, corrected and uncorrected, never cleared (R423, R467) -/
  corr : Sparse Nat := []
  uncorr : Sparse Nat := []
  /-- the last matrix response to each initiator: error, data -/
  resp : Sparse (Bool × List Byte) := []
  /-- next line of the scrubber; an uncorrected line met in this pass; the tick of the last completed pass and whether it met one; the tick since which the first one is awaited -/
  scrubLine : Nat := 0
  scrubBad : Bool := false
  lastPass : Option (Nat × Bool) := none
  passFrom : Nat := 0
  /-- tick of the last request to PD9 (R428) -/
  lastReq : Nat := 0
  rings : Vector Ring 3 := Vector.replicate 3 {}
  /-- the device's writes to host memory for the latest ring entry, in their order (R438) -/
  toHost : List HostWrite := []
  /-- tick on which a stopped DMA channel restarts, by channel (R437) -/
  restart : Sparse (Option Nat) := []
  qspi : Option QspiOp := none
  /-- the words of the MEM_QSPI_DATA FIFO, and those the last transfer sent to flash -/
  fifo : List Word := []
  flashOut : List Word := []
  /-- the response bytes of the last management SPI transaction (R444) -/
  mspi : List Byte := []
deriving DecidableEq, Repr, Inhabited

end Sys2Proof.Machine
end

