-- ==== Sys2Proof/Machine/OutTypes.lean ====
section
/-! DEFINITION. Sys2Proof/Machine/OutTypes.lean: state of the outputs, the synthesisers and the cues (spec/12_outputs_cues.md). -/
namespace Sys2Proof.Machine

/-- A glide of an output's frequency (R332): from, to (µHz), its start tick and its length in ms. -/
structure Glide where
  fromF : Nat
  toF : Nat
  start : Nat
  ms : Nat
deriving DecidableEq, Repr

/-- What an output holds beside its registers. -/
structure OutSt where
  /-- driven low, waiting for its first rising edge (Table 12.2, Table 12.6) -/
  low : Bool := true
  /-- the tick after which the first grid instant at least 10 µs later starts it (R329, R340) -/
  restartFrom : Option Nat := none
  glide : Option Glide := none
  /-- a glide that a curtain stopped: it restarts at the release (R340) -/
  stopped : Option Glide := none
  /-- present frequency in µHz -/
  freq : Nat := 0
  /-- the phase offset the edge has reached, 0.2 ps (R331) -/
  phOfs : Int := 0
  /-- the pulse width the next rising edge takes, ns (R327) -/
  pulseW : Nat := 0
deriving DecidableEq, Repr, Inhabited

/-- One of APLL1 to APLL4 beside its registers: frequency ratio it moves to, and whether the VCO ramps (R324, R332). -/
structure Apll where
  /-- plan frequency in µHz -/
  plan : Nat := 0
  /-- the rate it has, as the increment it corresponds to (R323) -/
  rate : Nat := 0x00CCCCCCCCCCCCCD
  /-- the rate a DPLL steers it to, as fractional offset in 2⁻⁶⁴ (R150) -/
  steer : Int := 0
deriving DecidableEq, Repr, Inhabited

/-- What ARM copies of a cue (R343) and how far its train has come. -/
structure CueArm where
  first : Nat
  period : Nat
  /-- 0 for an unlimited train -/
  count : Nat
  width : Nat
  /-- index of the next instant -/
  next : Nat
  /-- the tick of the decode: instants fire from the next tick on -/
  armTick : Nat
  /-- the tick on which a DISARM was decoded: it acts from the next tick (R347) -/
  disarm : Option Nat
deriving DecidableEq, Repr

/-- What a cue holds beside its registers. -/
structure Cue where
  arm : Option CueArm := none
  /-- tick at which the pulse in progress ends -/
  endTick : Option Nat := none
deriving DecidableEq, Repr, Inhabited

/-- The output block. -/
structure Out where
  outs : Vector OutSt 12 := Vector.replicate 12 {}
  aplls : Vector Apll 4 := Vector.replicate 4 {}
  cues : Vector Cue 16 := Vector.replicate 16 {}
  /-- the spread-spectrum setting in force since the last modulation period (R336) -/
  ssc : Word := 0
deriving DecidableEq, Repr, Inhabited

end Sys2Proof.Machine
end

