-- ==== Sys2Proof/Machine/Bits.lean ====
section
/-! DEFINITION. Sys2Proof/Machine/Bits.lean: bit fields of registers, byte order, two's complement and the check sums the spec names. -/
namespace Sys2Proof.Machine

/-- The field of `wd` bits at bit `lo` of a register, as a number. -/
def fget (w : Word) (lo wd : Nat) : Nat := (w.toNat >>> lo) % 2 ^ wd

/-- The mask of the field of `wd` bits at bit `lo`. -/
def fmask (lo wd : Nat) : Word := BitVec.ofNat 32 ((2 ^ wd - 1) <<< lo)

/-- A register with the field of `wd` bits at bit `lo` set to `n` (modulo the field's width). -/
def fset (w : Word) (lo wd n : Nat) : Word :=
  (w &&& ~~~ (fmask lo wd)) ||| BitVec.ofNat 32 ((n % 2 ^ wd) <<< lo)

/-- A flag as a one-bit number. -/
def b2n (b : Bool) : Nat := if b then 1 else 0

/-- A two's-complement field of `wd` bits read as a signed number. -/
def signed (wd n : Nat) : Int := if n < 2 ^ (wd - 1) then (n : Int) else (n : Int) - (2 ^ wd : Nat)

/-- A signed number as a two's-complement field of `wd` bits. -/
def unsigned (wd : Nat) (i : Int) : Nat := (i % ((2 ^ wd : Nat) : Int)).toNat

/-- R503: a signed 32-bit field that saturates at plus and minus 0x7FFF_FFFF. -/
def sat32 (i : Int) : Word :=
  BitVec.ofInt 32 (if i > 0x7FFFFFFF then 0x7FFFFFFF else if i < -0x7FFFFFFF then -0x7FFFFFFF else i)

/-- Division of a signed number rounding the magnitude up, away from zero (R503). -/
def divAway (a : Int) (d : Nat) : Int :=
  if a < 0 then -(((a.natAbs + d - 1) / d : Nat) : Int) else (((a.natAbs + d - 1) / d : Nat) : Int)

/-- Unsigned division rounding up. -/
def divUp (a d : Nat) : Nat := (a + d - 1) / d

/-- Little-endian number of a list of bytes. -/
def leNat : List Byte → Nat
  | [] => 0
  | b :: t => b.toNat + 256 * leNat t

/-- The `n` little-endian bytes of a number. -/
def leBytes : Nat → Nat → List Byte
  | 0, _ => []
  | n + 1, v => BitVec.ofNat 8 v :: leBytes n (v / 256)

/-- Big-endian bytes. -/
def beBytes (n v : Nat) : List Byte := (leBytes n v).reverse

/-- Big-endian number of a list of bytes. -/
def beNat (l : List Byte) : Nat := leNat l.reverse

/-- The `n` bytes at offset `o` of a byte list; bytes past its end read as absent. -/
def slice (l : List Byte) (o n : Nat) : List Byte := (l.drop o).take n

/-- The little-endian field of `n` bytes at offset `o`. -/
def leAt (l : List Byte) (o n : Nat) : Nat := leNat (slice l o n)

/-- One bit step of a reflected CRC with polynomial `poly`. -/
def crcStepR (poly c : Nat) : Nat := if c % 2 = 1 then (c / 2) ^^^ poly else c / 2

/-- `k` bit steps of a reflected CRC. -/
def crcStepsR (poly : Nat) : Nat → Nat → Nat
  | 0, c => c
  | k + 1, c => crcStepsR poly k (crcStepR poly c)

/-- CRC-32C (Castagnoli, reflected polynomial 0x82F63B78, initial and final complement), the check the spec names CRC-32C. -/
def crc32c (l : List Byte) : Nat :=
  (l.foldl (fun c b => crcStepsR 0x82F63B78 8 (c ^^^ b.toNat)) 0xFFFFFFFF) ^^^ 0xFFFFFFFF

/-- One bit step of an unreflected CRC of width `w` and polynomial `poly`. -/
def crcStep (w poly c : Nat) : Nat :=
  if c >>> (w - 1) % 2 = 1 then ((c <<< 1) % 2 ^ w) ^^^ poly else (c <<< 1) % 2 ^ w

/-- `k` bit steps of an unreflected CRC. -/
def crcSteps (w poly : Nat) : Nat → Nat → Nat
  | 0, c => c
  | k + 1, c => crcSteps w poly k (crcStep w poly c)

/-- CRC-8 with polynomial 0x07 and initial value 0 (management SPI R444, slot words R354). -/
def crc8 (l : List Byte) : Nat := l.foldl (fun c b => crcSteps 8 0x07 8 (c ^^^ b.toNat)) 0

/-- CRC-16 with polynomial 0x1021 and initial value 0xFFFF (AUX word of the backplane time bus). -/
def crc16 (l : List Byte) : Nat := l.foldl (fun c b => crcSteps 16 0x1021 8 (c ^^^ (b.toNat <<< 8))) 0xFFFF

end Sys2Proof.Machine
end

