-- ==== Sys2Proof/Machine/PltTypes.lean ====
section
/-! DEFINITION. Sys2Proof/Machine/PltTypes.lean: the stage plot in force and the plot store (spec/02_stage_plot.md). -/
namespace Sys2Proof.Machine

/-- The section bodies of a plot, as bytes in the layouts of Table 2.4. -/
structure Plot where
  global : List Byte := []
  power : List Byte := []
  banksFixed : List Byte := []
  ports : List Byte := []
  timebases : List Byte := []
  refmap : List Byte := []
  services : List Byte := []
  part : List Byte := []
  qos : List Byte := []
  outputs : List Byte := []
  banksAssign : List Byte := []
  faultSec : List Byte := []
  access : List Byte := []
  limits : List Byte := []
  btb : List Byte := []
deriving DecidableEq, Repr, Inhabited

/-- Where a fetch reads its image from (R42). -/
inductive FetchSrc where
  | pcie | flash
deriving DecidableEq, Repr

/-- The plot store and the loader. -/
structure Plt where
  /-- a plot is in force: a verified one or the dark plot -/
  inForce : Bool := false
  /-- the section bodies of the plot in force -/
  plot : Plot := {}
  /-- the active image of the store -/
  active : List Byte := []
  /-- the staging image of the store -/
  staging : List Byte := []
  fetch : Option FetchSrc := none
  /-- the armed re-plot's TB0 instant (R51) -/
  replotAt : Option Nat := none
  /-- a full, boot or warm apply is between its start and its completion (R47) -/
  applying : Bool := false
deriving DecidableEq, Repr, Inhabited

end Sys2Proof.Machine
end

