-- ==== Sys2Proof/Machine/PortTypes.lean ====
section
/-! DEFINITION. Sys2Proof/Machine/PortTypes.lean: state of a port beside its registers (spec/09_ports_timestamping.md). Instants on the wire are counted in quanta of 0.3125 ps since tick 0: a tick is 2,560 quanta, a tap 5. -/
namespace Sys2Proof.Machine

/-- A received and stamped frame on its way through an engine (R239, Table 9.5). -/
structure Rx where
  port : Nat
  entry : Nat
  cluster : Nat
  /-- tick and tap of the receive stamp -/
  tick : Nat
  tap : Nat
  /-- the stamp in the service's time base, units of 2⁻⁵⁶ ns, and the frame bound latched with it -/
  time : Nat
  bound : Nat
  /-- TB0's seconds at the stamp (R287) -/
  sec0 : Nat
  refined : Bool
  /-- tick of the last bit -/
  last : Nat
  frame : Frame
deriving DecidableEq, Repr

/-- What a scheduled frame is, so that its engine can build it again (R250). -/
inductive Work where
  /-- an NTP or NTS response -/
  | ntp (rx : Rx)
  /-- a one-step Pdelay_Resp -/
  | pdelay (rx : Rx)
  /-- a one-step Sync, or an Announce, of an entry on a port, to a session slot or multicast, with its nominal instant and sequenceId -/
  | sync (entry port : Nat) (slot : Option Nat) (nominal seq : Nat)
  | announce (entry port : Nat) (slot : Option Nat) (nominal seq : Nat)
deriving DecidableEq, Repr

/-- What the port watches of a committed frame (R248). -/
structure Committed where
  inc : Nat
  armed : List (Nat × Nat)
deriving DecidableEq, Repr

/-- A frame in the hold buffer with its reservation (R243, R245). -/
structure Held where
  work : Work
  rebuilds : Nat
  /-- departure instant; start of the preamble; end of the frame; end of the inter-frame gap -/
  depart : Nat
  start : Nat
  stop : Nat
  gap : Nat
  queue : Nat
  tb : Nat
  cluster : Nat
  entry : Nat
  /-- the projected value, RAISE_SEQ and bound of step 4 -/
  value : Nat
  seq : Word
  bound : Nat
  /-- tick from which the frame is complete in the hold buffer, and the ticks that its engine took to build it -/
  ready : Nat
  build : Nat
  committed : Option Committed
  /-- the final bytes of the message and the checksum behind UDP -/
  msg : List Byte
  udp : Nat
  trailer : Option (BitVec 16)
  /-- key read for the frame: its cache line and the tick of the read (R317) -/
  key : Option (Nat × Nat)
  /-- engine cycles held against the transaction (R297) -/
  cycles : Nat
deriving DecidableEq, Repr

/-- What follows the transmit of a frame that left without a reservation. -/
inductive After where
  | nothing
  /-- a Follow_Up with the Sync's stamp -/
  | followUp (entry : Nat) (slot : Option Nat) (seq : Nat)
  /-- a Pdelay_Resp_Follow_Up with the Pdelay_Resp's stamp -/
  | pdelayFollowUp (rx : Rx)
  /-- a calibration log entry -/
  | calLog (seq : Nat)
  /-- the departure of a Delay_Req of a reference slot -/
  | delayReq (slot seq : Nat)
  /-- the departure of a lease REQUEST -/
  | leaseReq (nonce : Nat)
deriving DecidableEq, Repr

/-- A frame that waits to leave without a reservation (R251). -/
structure Wait where
  queue : Nat
  /-- tick from which the frame is built -/
  ready : Nat
  length : Nat
  entry : Nat
  cluster : Nat
  msg : List Byte
  after : After
  /-- key read for the frame and engine cycles, as in `Held`; whether its cycles count as SERVED -/
  cycles : Nat
  served : Bool
deriving DecidableEq, Repr

/-- The last frame that left the port: its departure instant, its message, whether it left by schedule, and its trailer. -/
structure Sent where
  depart : Nat
  msg : List Byte
  udp : Nat
  scheduled : Bool
  trailer : Option (BitVec 16)
deriving DecidableEq, Repr

/-- An armed swap of the gate list: the list, its cycle in ns and its base, and the cycle start at which it becomes operative (R257). -/
structure GclArm where
  gates : List Word
  cycle : Nat
  base : Nat
  swapAt : Nat
deriving DecidableEq, Repr

/-- An entry of the calibration log (R242). -/
structure CalEntry where
  rx : Bool
  seq : Nat
  stamp : Nat
deriving DecidableEq, Repr

/-- An entry of the duplicate table of a path pair (R262). -/
structure PairEntry where
  mac : BitVec 48
  seq : BitVec 16
  /-- lane that saw the first copy, its tick, and whether the second came -/
  lane : Nat
  tick : Nat
  both : Bool
deriving DecidableEq, Repr

/-- A port. -/
structure Port where
  held : List Held := []
  waiting : List Wait := []
  /-- tick at which the START or RECOVERY timer expires -/
  timer : Option Nat := none
  /-- tick on which TEST_EXIT was decoded -/
  testExit : Option Nat := none
  /-- value of STAMP_TB at which SERVICE begins -/
  serviceAt : Option Nat := none
  /-- the port has been in SERVICE since the last apply or wake -/
  served : Bool := false
  /-- TX_ADJ, RX_ADJ or ASYM changed in TEST (R241) -/
  retrain : Bool := false
  /-- tick of the last service frame, or of the entry to SERVICE (Table 9.10) -/
  lastService : Nat := 0
  /-- end of the pause of every queue, and of each priority -/
  pauseEnd : Nat := 0
  pfcEnd : Sparse Nat := []
  /-- end of the last frame and gap that left without a reservation -/
  wireEnd : Nat := 0
  gcl : Option GclArm := none
  /-- base of the operative list -/
  operBase : Nat := 0
  /-- calibration frames still to send, the tick of the next and its sequenceId -/
  calRun : Option (Nat × Nat × Nat) := none
  calLog : List CalEntry := []
  /-- the duplicate table and the sequence counter of the pair, at its lower lane -/
  pairs : List PairEntry := []
  pairSeq : BitVec 16 := 0
  sent : Option Sent := none
  /-- where the transmit PCS stands, as the last command with a reservation gave it -/
  pcs : Pcs := ⟨0, []⟩
  /-- 802.1AS: the last Pdelay_Req has been answered (R280), and its sequenceId -/
  asCapable : Bool := false
  pdelaySeq : Option Nat := none
  /-- sequenceId of the next multicast Sync, Announce and Pdelay_Req by entry × 4 + kind -/
  seqIds : Sparse Nat := []
  /-- index of the last nominal instant that a multicast series was served at, by entry × 4 + kind -/
  lastIndex : Sparse Nat := []
deriving DecidableEq, Repr, Inhabited

end Sys2Proof.Machine
end

