-- ==== Sys2Proof/Machine/PwrTypes.lean ====
section
/-! DEFINITION. Sys2Proof/Machine/PwrTypes.lean: state of power, clocks, reset and start-up beside the PWR registers (spec/18_power_reset_startup.md). -/
namespace Sys2Proof.Machine

/-- The kinds of reset (R478). -/
inductive RstKind where
  | warm | service | cold
deriving DecidableEq, Repr

/-- PWR_RST_CAUSE.KIND. -/
def RstKind.code : RstKind → Nat
  | .warm => 1
  | .service => 2
  | .cold => 3

/-- Where a start-up has come to (R44, R45): the boot read and verification, or the re-verification, are still to come; or the apply that they led to runs. -/
inductive Boot where
  | none | reading | reverifying | applying
deriving DecidableEq, Repr

/-- Power, clocks and reset. -/
structure Pwr where
  /-- POR is low, or a supply is lost: the device is held in reset -/
  por : Bool := false
  /-- reset commands that have been decoded: their kind and the tick on which the reset begins (R481) -/
  rst : List (RstKind × Nat) := []
  boot : Boot := .reading
  /-- domains PD0 to PD11 whose power switches are closed -/
  powered : List Nat := [0, 1, 10]
  /-- domains that wait to be switched on, in their order (R472) -/
  wanted : List Nat := []
  /-- the last junction temperatures read, °C (R497) -/
  temps : List Int := []
  /-- neither a plot nor the dark plot has been applied since POR: FAULT_N is low (R482) -/
  unplotted : Bool := true
  /-- control-core firmware has completed its self-check (R477) -/
  fwOk : Bool := false
deriving DecidableEq, Repr, Inhabited

end Sys2Proof.Machine
end

