-- ==== Sys2Proof/Machine/RefTypes.lean ====
section
/-! DEFINITION. Sys2Proof/Machine/RefTypes.lean: state of a reference slot and of a selector beside their registers (spec/05_references.md). Phases are signed counts of 2⁻⁵⁶ ns. -/
namespace Sys2Proof.Machine

/-- A reference slot. -/
structure Ref where
  /-- tick at which the qualification or wait-to-restore timer expires; none while it is stopped -/
  timer : Option Nat := none
  /-- tick since which every soft bit has been clear while DEGRADED -/
  softClear : Option Nat := none
  /-- tick at which the live GLITCH bit clears (R122) -/
  glitchEnd : Option Nat := none
  /-- a rate identification is running (R123) -/
  identifying : Bool := false
  /-- nominal rate found, µHz -/
  rate : Nat := 0
  /-- REFn_PH_COMP in use since the last sample, ps (R119) -/
  comp : Int := 0
  /-- the latest phase against TB0 after compensation, and its tick -/
  phase : Option Int := none
  phaseTick : Nat := 0
  /-- the sample was touched by CALBUSY or SAT (R99, R159) -/
  touched : Bool := false
  /-- the series is continuous (R113) -/
  cont : Bool := true
  /-- the latest sample's path: lane or wings path, its refinement, MEAS and PATH measurements in ps (Table 7.2) -/
  path : Nat := 0
  refined : Bool := true
  measPs : Nat := 0
  /-- solution uncertainty of a GNSS slot, ps (R214) -/
  unc : Nat := 0
  pathPs : Nat := 0
  /-- phases at the last TB0 second boundaries, newest first (R114) -/
  secPh : List (Option Int) := []
  /-- ensemble phase deviation at the last two boundaries with a verdict, ps (Table 5.7) -/
  ensX : Option Int := none
  ensXPrev : Option Int := none
  /-- Sync messages of the packet window, newest first: tick, sequence numbers missing before it, forward delay in ps (R127) -/
  syncs : List (Nat × Nat × Int) := []
  /-- Delay_Resp messages of the window: tick and delay in ps (R127) -/
  resps : List (Nat × Int) := []
  /-- sequenceId of the last accepted Sync -/
  seqId : Option Nat := none
  /-- tick of the last arrival that the activity deadline counts from, none since the slot left UNUSED (R121) -/
  lastMsg : Option Nat := none
  /-- tick of the last accepted Announce, and the Sync and Announce intervals in ticks that the messages carry -/
  lastAnn : Nat := 0
  syncIv : Nat := 1250000000
  annIv : Nat := 2500000000
  /-- tick of the last ESMC information PDU (R127) -/
  lastEsmc : Nat := 0
  /-- a REFn_PH_COMP write that the next sample takes up (R119, R145) -/
  compPend : Option Int := none
  /-- results the next 10 ms update publishes: ensemble y in 10⁻¹², ensemble x in ns, loss, FPP, glitch count (R148) -/
  ensFf : Int := 0
  ensPh : Int := 0
  loss : Nat := 0
  fpp : Nat := 0
  glitches : Word := 0
  /-- the upstream bound of a Kwafort Bound TLV: value in 0.25 ns, slope in 10⁻¹⁵, tick of its message (R199) -/
  tlv : Option (Nat × Nat × Nat) := none
deriving DecidableEq, Repr, Inhabited

/-- A selector. -/
structure Sel where
  /-- effective Q by slot (R138) -/
  effQ : Sparse Nat := []
  /-- tick at which an improved Q of a slot began to hold -/
  holdFrom : Sparse (Option Nat) := []
  /-- the slot last selected, whatever came after (PREVIOUS, Table 5.15) -/
  lastSel : Option Nat := none
  /-- distance still to go, 2⁻⁵⁶ ns (R142) -/
  remain : Int := 0
  /-- tick at which `remain` held -/
  pullAt : Nat := 0
  /-- the selected slot has given no phase sample yet: its first one fixes the target (R142) -/
  noPhase : Bool := false
deriving DecidableEq, Repr, Inhabited

end Sys2Proof.Machine
end

