-- ==== Sys2Proof/Machine/RegTypes.lean ====
section
/-! DEFINITION. Sys2Proof/Machine/RegTypes.lean: how one register of the map is described: access codes of Table 0.4 (R11, R448), fields, reserved fields (R449) and register arrays. -/
namespace Sys2Proof.Machine

/-- The access codes of R11 and R448. -/
inductive Access where
  | rw | ro | wo | rsq | rc | dng
deriving DecidableEq, Repr

/-- Which masters the chapter of a block lets write a register, beside the ACCESS row of the plot. -/
inductive Writers where
  /-- whoever the ACCESS row grants a write -/
  | grant
  /-- only the PF and the management SPI -/
  | host
  /-- the PF, the management SPI and the control cores -/
  | hostCore
  /-- mailbox 0 the PF, mailbox 1 the management SPI (R464) -/
  | mbx
  /-- the register's own rule names its writers -/
  | own
deriving DecidableEq, Repr

/-- One field: lowest bit, width, access code, reset value, whether it is reserved, and its range. -/
structure RegField where
  lo : Nat
  wd : Nat
  acc : Access
  reset : Nat
  rsvd : Bool
  mn : Nat
  mx : Nat
deriving DecidableEq, Repr

/-- An RW field over its whole range. -/
def RegField.rw (lo wd reset : Nat) : RegField := ⟨lo, wd, .rw, reset, false, 0, 2 ^ wd - 1⟩
/-- An RW field with a range; a value outside it fails with ERR_RANGE. -/
def RegField.rwIn (lo wd reset mn mx : Nat) : RegField := ⟨lo, wd, .rw, reset, false, mn, mx⟩
/-- An RO field. -/
def RegField.ro (lo wd reset : Nat) : RegField := ⟨lo, wd, .ro, reset, false, 0, 2 ^ wd - 1⟩
/-- An RC field (R453). -/
def RegField.rc (lo wd reset : Nat) : RegField := ⟨lo, wd, .rc, reset, false, 0, 2 ^ wd - 1⟩
/-- A WO field: reads 0 and acts once. -/
def RegField.wo (lo wd : Nat) : RegField := ⟨lo, wd, .wo, 0, false, 0, 2 ^ wd - 1⟩
/-- A reserved RW field: write back as read (R449). -/
def RegField.rsv (lo wd : Nat) : RegField := ⟨lo, wd, .rw, 0, true, 0, 2 ^ wd - 1⟩
/-- A reserved field marked "Write 0" (R449). -/
def RegField.wz (lo wd : Nat) : RegField := ⟨lo, wd, .wo, 0, true, 0, 0⟩
/-- A field of a DNG register (R454). -/
def RegField.dng (lo wd reset : Nat) : RegField := ⟨lo, wd, .dng, reset, false, 0, 2 ^ wd - 1⟩
/-- A reserved field of a DNG register. -/
def RegField.dngRsv (lo wd : Nat) : RegField := ⟨lo, wd, .dng, 0, true, 0, 2 ^ wd - 1⟩
/-- A reserved field of a DNG register marked "Write 0". -/
def RegField.dngZ (lo wd : Nat) : RegField := ⟨lo, wd, .dng, 0, true, 0, 0⟩
/-- An RSQ register: flags in [23:0], SEQ in [31:24] (R451). -/
def RegField.rsqAll : RegField := ⟨0, 32, .rsq, 0, false, 0, 2 ^ 32 - 1⟩

/-- A register, or an array of registers with one or two indexes. -/
structure RegDesc where
  name : String
  base : Nat
  s1 : Nat
  n1 : Nat
  s2 : Nat
  n2 : Nat
  who : Writers
  /-- held per master -/
  perMaster : Bool
  fields : List RegField
deriving DecidableEq, Repr

/-- Index of an array with stride `s` and `n` elements that `x` falls in. -/
def idxOf (s n x : Nat) : Nat := if s = 0 then 0 else min (x / s) (n - 1)

/-- The first index of the register at `off`. -/
def RegDesc.i1 (d : RegDesc) (off : Nat) : Nat := idxOf d.s1 d.n1 (off - d.base)

/-- The second index of the register at `off`. -/
def RegDesc.i2 (d : RegDesc) (off : Nat) : Nat := idxOf d.s2 d.n2 (off - d.base - d.s1 * d.i1 off)

/-- The register, or an element of the array, is at `off`. -/
def RegDesc.covers (d : RegDesc) (off : Nat) : Bool :=
  decide (d.base ≤ off) && decide (d.base + d.s1 * d.i1 off + d.s2 * d.i2 off = off)

/-- The value after reset: every field at its reset value. -/
def RegDesc.reset (d : RegDesc) : Word :=
  d.fields.foldl (fun w f => fset w f.lo f.wd f.reset) 0

/-- Every field is RO or RC, so a write fails with ERR_PERM (R448). -/
def RegDesc.readOnly (d : RegDesc) : Bool :=
  d.fields.all (fun f => f.acc = .ro || f.acc = .rc)

/-- The register is DNG (R454). -/
def RegDesc.isDng (d : RegDesc) : Bool := d.fields.any (fun f => f.acc = .dng)

/-- The register is RSQ (R451). -/
def RegDesc.isRsq (d : RegDesc) : Bool := d.fields.any (fun f => f.acc = .rsq)

/-- The register holds an RC counter (R453). -/
def RegDesc.isRc (d : RegDesc) : Bool := d.fields.any (fun f => f.acc = .rc)

/-- The write would change a reserved RW or DNG bit (R449). -/
def RegDesc.badReserved (d : RegDesc) (old v : Word) : Bool :=
  d.fields.any (fun f => f.rsvd && (f.acc = .rw || (f.acc = .dng && f.mx ≠ 0)) && fget v f.lo f.wd ≠ fget old f.lo f.wd)

/-- A field marked "Write 0" is written with another value (R449). -/
def RegDesc.badZero (d : RegDesc) (v : Word) : Bool :=
  d.fields.any (fun f => f.rsvd && (f.acc = .wo || (f.acc = .dng && f.mx = 0)) && fget v f.lo f.wd ≠ 0)

/-- A field is written outside its range. -/
def RegDesc.badRange (d : RegDesc) (v : Word) : Bool :=
  d.fields.any (fun f => f.acc = .rw && !f.rsvd && (fget v f.lo f.wd < f.mn || f.mx < fget v f.lo f.wd))

/-- The value a plain write leaves: RW fields take the written bits, every other field keeps its own. -/
def RegDesc.merge (d : RegDesc) (old v : Word) : Word :=
  d.fields.foldl (fun w f => if f.acc = .rw then fset w f.lo f.wd (fget v f.lo f.wd) else w) old

/-- The value a read returns: WO fields read 0 (R448), DNG fields read what they hold. -/
def RegDesc.visible (d : RegDesc) (w : Word) : Word :=
  d.fields.foldl (fun w f => if f.acc = .wo then fset w f.lo f.wd 0 else w) w

end Sys2Proof.Machine
end

