-- ==== Sys2Proof/Machine/RegMap.lean ====
section
/-! DEFINITION. Sys2Proof/Machine/RegMap.lean: the register map of PF BAR0 (R465), one row per register or register array: name, offset, strides and counts of its indexes, who may write it, and its fields with the access codes and reset values of the chapter tables. -/
namespace Sys2Proof.Machine
open RegField

/-- Registers of the Glb block. -/
def regsGlb : List RegDesc := [
  ⟨"GLB_ID", 0x000000, 0x0, 1, 0x0, 1, .grant, false, [ro 16 16 0x9640, ro 8 8 0xA2]⟩,
  ⟨"GLB_ORG_ID", 0x000004, 0x0, 1, 0x0, 1, .grant, false, [ro 0 24 0]⟩,
  ⟨"GLB_CTL", 0x000008, 0x0, 1, 0x0, 1, .grant, false, [rsv 4 28, rw 0 4 0]⟩,
  ⟨"GLB_EVT", 0x00000C, 0x0, 1, 0x0, 1, .grant, false, [rsqAll]⟩,
  ⟨"GLB_ERR_SEL", 0x000010, 0x0, 1, 0x0, 1, .grant, true, [rsv 6 26, rw 0 6 0x3F]⟩,
  ⟨"GLB_ERR", 0x000014, 0x0, 1, 0x0, 1, .grant, false, [ro 0 32 0]⟩,
  ⟨"GLB_ERR_ADDR", 0x000018, 0x0, 1, 0x0, 1, .grant, false, [ro 0 32 0]⟩,
  ⟨"GLB_IRQ_PEND", 0x00001C, 0x0, 1, 0x0, 1, .grant, false, [ro 0 18 0]⟩,
  ⟨"GLB_SNAP_CTL", 0x000020, 0x0, 1, 0x0, 1, .hostCore, false, [wo 0 32]⟩,
  ⟨"GLB_SNAP_SEQ", 0x000024, 0x0, 1, 0x0, 1, .grant, false, [ro 0 32 0]⟩,
  ⟨"GLB_SNAP_COMMIT_SEQ", 0x000028, 0x0, 1, 0x0, 1, .grant, false, [ro 0 32 0]⟩,
  ⟨"GLB_COMMIT_TIME_W0", 0x000030, 0x0, 1, 0x0, 1, .host, true, [rw 0 32 0]⟩,
  ⟨"GLB_COMMIT_TIME_W1", 0x000034, 0x0, 1, 0x0, 1, .host, true, [rwIn 0 32 0 0 999999999]⟩,
  ⟨"GLB_COMMIT_TIME_W2", 0x000038, 0x0, 1, 0x0, 1, .host, true, [rw 0 32 0]⟩,
  ⟨"GLB_COMMIT_TIME_W3", 0x00003C, 0x0, 1, 0x0, 1, .host, true, [ro 16 16 0, rw 0 16 0]⟩,
  ⟨"GLB_COMMIT_CTL", 0x000040, 0x0, 1, 0x0, 1, .host, false, [wz 1 31, wo 0 1]⟩,
  ⟨"GLB_COMMIT_STAT", 0x000044, 0x0, 1, 0x0, 1, .grant, false, [ro 31 1 0, ro 8 8 0]⟩,
  ⟨"GLB_COMMIT_SEQ", 0x000048, 0x0, 1, 0x0, 1, .grant, false, [ro 0 32 0]⟩,
  ⟨"GLB_COMMIT_FAIL", 0x00004C, 0x0, 1, 0x0, 1, .grant, false, [ro 0 32 0]⟩,
  ⟨"GLB_MBX_CMD", 0x000100, 0x40, 2, 0x0, 1, .mbx, false, [rw 31 1 0, rsv 8 23, rw 0 8 0]⟩,
  ⟨"GLB_MBX_STAT", 0x000104, 0x40, 2, 0x0, 1, .mbx, false, [ro 31 1 0, ro 0 8 0]⟩,
  ⟨"GLB_MBX_ARG", 0x000108, 0x40, 2, 0x4, 4, .mbx, false, [rw 0 32 0]⟩,
  ⟨"GLB_MBX_RSP", 0x000118, 0x40, 2, 0x4, 4, .mbx, false, [ro 0 32 0]⟩,
  ⟨"PMC_CTL", 0x110000, 0x0, 1, 0x0, 1, .host, false, [rsv 16 16, rwIn 0 16 1000 1 60000]⟩,
  ⟨"PMC_SEL", 0x110004, 0x0, 1, 0x0, 1, .grant, true, [rsv 16 16, rw 0 16 0x1000]⟩,
  ⟨"PMC_CTR_LO", 0x110008, 0x0, 1, 0x0, 1, .grant, false, [ro 0 32 0]⟩,
  ⟨"PMC_CTR_HI", 0x11000C, 0x0, 1, 0x0, 1, .grant, false, [ro 0 32 0]⟩,
  ⟨"PMC_VF_EN", 0x110010, 0x0, 1, 0x0, 1, .host, false, [rsv 16 16, rw 0 16 0]⟩,
  ⟨"PMC_LIST", 0x110100, 0x4, 28, 0x0, 1, .host, false, [rw 31 1 0, rsv 16 15, rw 0 16 0]⟩]

/-- Registers of the Plt block. -/
def regsPlt : List RegDesc := [
  ⟨"PLT_CTL", 0x010000, 0x0, 1, 0x0, 1, .host, false, [rsv 3 29, wo 0 3]⟩,
  ⟨"PLT_APPLY", 0x010004, 0x0, 1, 0x0, 1, .host, false, [dngRsv 2 30, dng 0 2 0]⟩,
  ⟨"PLT_STATUS", 0x010008, 0x0, 1, 0x0, 1, .grant, false, [ro 8 8 0, ro 0 7 0]⟩,
  ⟨"PLT_EVT", 0x01000C, 0x0, 1, 0x0, 1, .host, false, [rsqAll]⟩,
  ⟨"PLT_ERR_INFO", 0x010010, 0x0, 1, 0x0, 1, .grant, false, [ro 0 32 0]⟩,
  ⟨"PLT_ERR_OFFSET", 0x010014, 0x0, 1, 0x0, 1, .grant, false, [ro 0 32 0]⟩,
  ⟨"PLT_SRC_ADDR_LO", 0x010018, 0x0, 1, 0x0, 1, .host, false, [rw 0 32 0]⟩,
  ⟨"PLT_SRC_ADDR_HI", 0x01001C, 0x0, 1, 0x0, 1, .host, false, [rw 0 32 0]⟩,
  ⟨"PLT_SRC_LEN", 0x010020, 0x0, 1, 0x0, 1, .host, false, [rwIn 0 32 0 1 262144]⟩,
  ⟨"PLT_FLASH_ADDR", 0x010024, 0x0, 1, 0x0, 1, .host, false, [rw 0 32 0]⟩,
  ⟨"PLT_REPLOT_TIME_W0", 0x010030, 0x0, 1, 0x0, 1, .host, true, [rw 0 32 0]⟩,
  ⟨"PLT_REPLOT_TIME_W1", 0x010034, 0x0, 1, 0x0, 1, .host, true, [rwIn 0 32 0 0 999999999]⟩,
  ⟨"PLT_REPLOT_TIME_W2", 0x010038, 0x0, 1, 0x0, 1, .host, true, [rw 0 32 0]⟩,
  ⟨"PLT_REPLOT_TIME_W3", 0x01003C, 0x0, 1, 0x0, 1, .host, true, [ro 16 16 0, rw 0 16 0]⟩,
  ⟨"PLT_ACTIVE_SERIAL", 0x010040, 0x0, 1, 0x0, 1, .grant, false, [ro 0 32 0]⟩,
  ⟨"PLT_REPLOT_SEQ", 0x010044, 0x0, 1, 0x0, 1, .grant, false, [ro 0 32 0]⟩,
  ⟨"PLT_ROLLBACK", 0x010048, 0x0, 1, 0x0, 1, .grant, false, [ro 0 7 0]⟩,
  ⟨"PLT_ACTIVE_ID", 0x010050, 0x4, 4, 0x0, 1, .grant, false, [ro 0 32 0]⟩]

/-- Registers of the Tb block. -/
def regsTb : List RegDesc := [
  ⟨"TB_NOW_W", 0x020000, 0x100, 64, 0x4, 4, .grant, false, [ro 0 32 0]⟩,
  ⟨"TB_NOW_BOUND", 0x020010, 0x100, 64, 0x0, 1, .grant, false, [ro 0 32 0xFFFFFFFF]⟩,
  ⟨"TB_NOW_PROV", 0x020014, 0x100, 64, 0x0, 1, .grant, false, [ro 0 32 0]⟩,
  ⟨"TB_CTL", 0x020018, 0x100, 64, 0x0, 1, .grant, false, [rsv 5 27, rw 4 1 0, rsv 1 3, rw 0 1 0]⟩,
  ⟨"TB_STAT", 0x02001C, 0x100, 64, 0x0, 1, .grant, false, [ro 24 8 0, ro 0 11 4]⟩,
  ⟨"TB_INC_LO", 0x020020, 0x100, 64, 0x0, 1, .grant, false, [rw 0 32 0xCCCCCCCD]⟩,
  ⟨"TB_INC_HI", 0x020024, 0x100, 64, 0x0, 1, .grant, false, [rw 0 32 0x00CCCCCC]⟩,
  ⟨"TB_SLEW_OFF", 0x020028, 0x100, 64, 0x4, 2, .grant, false, [rw 0 32 0]⟩,
  ⟨"TB_SLEW_CNT_LO", 0x020030, 0x100, 64, 0x0, 1, .grant, false, [rw 0 32 0]⟩,
  ⟨"TB_SLEW_CNT_HI", 0x020034, 0x100, 64, 0x0, 1, .grant, false, [rsv 16 16, rw 0 16 0]⟩,
  ⟨"TB_CMD", 0x020038, 0x100, 64, 0x0, 1, .grant, false, [wz 4 28, wo 0 4]⟩,
  ⟨"TB_EVT", 0x02003C, 0x100, 64, 0x0, 1, .grant, false, [rsqAll]⟩,
  ⟨"TB_STEP_W0", 0x020040, 0x100, 64, 0x0, 1, .grant, false, [rw 0 32 0]⟩,
  ⟨"TB_STEP_W1", 0x020044, 0x100, 64, 0x0, 1, .grant, false, [rwIn 0 32 0 0 999999999]⟩,
  ⟨"TB_STEP_W2", 0x020048, 0x100, 64, 0x0, 1, .grant, false, [rw 0 32 0]⟩,
  ⟨"TB_STEP_W3", 0x02004C, 0x100, 64, 0x0, 1, .grant, false, [ro 16 16 0, rw 0 16 0]⟩,
  ⟨"TB_STEP_AT_W0", 0x020050, 0x100, 64, 0x0, 1, .grant, false, [rw 0 32 0]⟩,
  ⟨"TB_STEP_AT_W1", 0x020054, 0x100, 64, 0x0, 1, .grant, false, [rwIn 0 32 0 0 999999999]⟩,
  ⟨"TB_STEP_AT_W2", 0x020058, 0x100, 64, 0x0, 1, .grant, false, [rw 0 32 0]⟩,
  ⟨"TB_STEP_AT_W3", 0x02005C, 0x100, 64, 0x0, 1, .grant, false, [ro 16 16 0, rw 0 16 0]⟩,
  ⟨"TB_SLEW_AT_W0", 0x020060, 0x100, 64, 0x0, 1, .grant, false, [rw 0 32 0]⟩,
  ⟨"TB_SLEW_AT_W1", 0x020064, 0x100, 64, 0x0, 1, .grant, false, [rwIn 0 32 0 0 999999999]⟩,
  ⟨"TB_SLEW_AT_W2", 0x020068, 0x100, 64, 0x0, 1, .grant, false, [rw 0 32 0]⟩,
  ⟨"TB_SLEW_AT_W3", 0x02006C, 0x100, 64, 0x0, 1, .grant, false, [ro 16 16 0, rw 0 16 0]⟩,
  ⟨"TB_SLEW_LEFT", 0x020070, 0x100, 64, 0x4, 2, .grant, false, [ro 0 32 0]⟩,
  ⟨"TB_LEAP_CTL", 0x020078, 0x100, 64, 0x0, 1, .grant, false, [ro 16 16 0, rsv 5 11, rw 4 1 0, rsv 2 2, rwIn 0 2 0 0 2]⟩,
  ⟨"TB_LEAP_AT_LO", 0x020080, 0x100, 64, 0x0, 1, .grant, false, [rw 0 32 0]⟩,
  ⟨"TB_LEAP_AT_HI", 0x020084, 0x100, 64, 0x0, 1, .grant, false, [rsv 16 16, rw 0 16 0]⟩,
  ⟨"TB_EPOCH", 0x020088, 0x100, 64, 0x4, 4, .grant, false, [ro 0 32 0]⟩,
  ⟨"TB_RATIO", 0x020098, 0x100, 64, 0x4, 2, .grant, false, [ro 0 32 0]⟩,
  ⟨"TB_SNAP_W", 0x0200A0, 0x100, 64, 0x4, 4, .grant, false, [ro 0 32 0]⟩,
  ⟨"TB_SNAP_INC", 0x0200B0, 0x100, 64, 0x4, 2, .grant, false, [ro 0 32 0]⟩,
  ⟨"TB_SNAP_BOUND", 0x0200B8, 0x100, 64, 0x0, 1, .grant, false, [ro 0 32 0xFFFFFFFF]⟩,
  ⟨"TB_SNAP_PROV", 0x0200BC, 0x100, 64, 0x0, 1, .grant, false, [ro 0 32 0]⟩,
  ⟨"TB_STG_INC", 0x0200C0, 0x100, 64, 0x4, 2, .grant, false, [rw 0 32 0]⟩,
  ⟨"TB_STG_CTL", 0x0200C8, 0x100, 64, 0x0, 1, .grant, false, [rsv 1 31, rw 0 1 0]⟩,
  ⟨"TB_STG_VALID", 0x0200CC, 0x100, 64, 0x0, 1, .grant, false, [rsv 2 30, rw 0 2 0]⟩]

/-- Registers of the Flt block. -/
def regsFlt : List RegDesc := [
  ⟨"FLT_CTL", 0x0E0000, 0x0, 1, 0x0, 1, .host, false, [rw 31 1 0, rsv 16 15, rwIn 0 16 100 1 60000]⟩,
  ⟨"FLT_CMD", 0x0E0004, 0x0, 1, 0x0, 1, .host, false, [wz 2 30, wo 0 2]⟩,
  ⟨"FLT_CMD_ARG", 0x0E0008, 0x0, 1, 0x0, 1, .host, false, [rsv 16 16, rw 0 16 0]⟩,
  ⟨"FLT_STAT", 0x0E000C, 0x0, 1, 0x0, 1, .grant, false, [ro 27 5 0, ro 8 8 0, ro 0 6 0]⟩,
  ⟨"FLT_EVT", 0x0E0010, 0x0, 1, 0x0, 1, .host, false, [rsqAll]⟩,
  ⟨"FLT_GRP_LIVE", 0x0E0014, 0x0, 1, 0x0, 1, .grant, false, [ro 0 24 0]⟩,
  ⟨"FLT_GRP_STICKY", 0x0E0018, 0x0, 1, 0x0, 1, .host, false, [rsqAll]⟩,
  ⟨"FLT_SRC_SEL", 0x0E001C, 0x0, 1, 0x0, 1, .host, true, [rsv 10 22, rwIn 8 2 0 0 2, rwIn 0 8 0 0 0x17]⟩,
  ⟨"FLT_SRC_LIVE", 0x0E0020, 0x0, 1, 0x0, 1, .grant, false, [ro 0 24 0]⟩,
  ⟨"FLT_SRC_STICKY", 0x0E0024, 0x0, 1, 0x0, 1, .host, false, [rsqAll]⟩,
  ⟨"FLT_FENCED", 0x0E0028, 0x0, 1, 0x0, 1, .grant, false, [ro 0 11 0]⟩,
  ⟨"FLT_TB_FENCED", 0x0E002C, 0x4, 2, 0x0, 1, .grant, false, [ro 0 32 0]⟩,
  ⟨"FLT_FIRST_E", 0x0E0040, 0x4, 8, 0x0, 1, .grant, false, [ro 0 32 0]⟩,
  ⟨"FLT_HIST_POP", 0x0E0060, 0x0, 1, 0x0, 1, .grant, false, [rc 0 32 0]⟩,
  ⟨"FLT_HIST_E", 0x0E0064, 0x4, 7, 0x0, 1, .grant, false, [ro 0 32 0]⟩,
  ⟨"FLT_HIST_DROP", 0x0E0080, 0x0, 1, 0x0, 1, .grant, false, [rc 0 32 0]⟩,
  ⟨"FLT_INJ", 0x0E0090, 0x0, 1, 0x0, 1, .host, false, [dngZ 18 14, dng 16 2 0, dng 0 16 0]⟩,
  ⟨"FLT_INJ_SYN", 0x0E0094, 0x0, 1, 0x0, 1, .host, false, [dng 0 32 0]⟩]

/-- Registers of the Bnd block. -/
def regsBnd : List RegDesc := [
  ⟨"BND_CTL", 0x060000, 0x80, 64, 0x0, 1, .host, false, [rsv 1 31, rw 0 1 0]⟩,
  ⟨"BND_STAT", 0x060004, 0x80, 64, 0x0, 1, .grant, false, [ro 22 10 8]⟩,
  ⟨"BND_EVT", 0x060008, 0x80, 64, 0x0, 1, .host, false, [rsqAll]⟩,
  ⟨"BND_EXTRA", 0x06000C, 0x80, 64, 0x0, 1, .host, false, [rwIn 0 32 0 0 1000000000]⟩,
  ⟨"BND_C", 0x060010, 0x80, 64, 0x4, 8, .grant, false, [ro 0 32 0]⟩,
  ⟨"BND_SUM", 0x060030, 0x80, 64, 0x0, 1, .grant, false, [ro 0 32 0xFFFFFFFF]⟩,
  ⟨"BND_SLOPE", 0x060034, 0x80, 64, 0x0, 1, .grant, false, [ro 0 32 0]⟩,
  ⟨"BND_PROV", 0x060038, 0x80, 64, 0x0, 1, .grant, false, [ro 0 32 0]⟩,
  ⟨"BND_RAISE_SEQ", 0x06003C, 0x80, 64, 0x0, 1, .grant, false, [ro 0 32 0]⟩,
  ⟨"BND_TV", 0x060040, 0x80, 64, 0x4, 2, .grant, false, [ro 0 32 0]⟩,
  ⟨"BND_FIRST_TIME", 0x060048, 0x80, 64, 0x0, 1, .host, false, [rwIn 0 32 10 1 600]⟩,
  ⟨"BND_FIRST_PH", 0x06004C, 0x80, 64, 0x0, 1, .host, false, [rwIn 0 32 1000 10 1000000]⟩,
  ⟨"BND_CAL_CTL", 0x062000, 0x10, 32, 0x0, 1, .host, false, [rw 31 1 0, ro 30 1 0, rsv 27 3, rwIn 24 3 0 0 4, rsv 5 19, rw 0 5 0]⟩,
  ⟨"BND_CAL_UNC_STAMP", 0x062004, 0x10, 32, 0x0, 1, .host, false, [rwIn 0 32 0 0 1000000000]⟩,
  ⟨"BND_CAL_UNC_PATH", 0x062008, 0x10, 32, 0x0, 1, .host, false, [rwIn 0 32 0 0 1000000000]⟩,
  ⟨"BND_CAL_ID", 0x06200C, 0x10, 32, 0x0, 1, .host, false, [rw 0 32 0]⟩,
  ⟨"BND_INHERIT_MAX", 0x063000, 0x0, 1, 0x0, 1, .host, false, [rwIn 0 32 2000 100 60000]⟩,
  ⟨"BND_PEER_ORG", 0x063004, 0x0, 1, 0x0, 1, .host, false, [rsv 24 8, rw 0 24 0]⟩,
  ⟨"BND_UNTR", 0x063008, 0x4, 2, 0x0, 1, .grant, false, [ro 0 32 0xFFFFFFFF]⟩,
  ⟨"BND_IRQ", 0x063010, 0x4, 2, 0x0, 1, .grant, false, [ro 0 32 0]⟩,
  ⟨"BND_TLV_DROP", 0x063018, 0x0, 1, 0x0, 1, .grant, false, [rc 0 32 0]⟩]

/-- Registers of the Out block. -/
def regsOut : List RegDesc := [
  ⟨"OUT_APLL0_STAT", 0x0B0000, 0x0, 1, 0x0, 1, .grant, false, [ro 5 3 0, ro 0 1 0]⟩,
  ⟨"OUT_APLL_CTL", 0x0B0010, 0x10, 4, 0x0, 1, .host, false, [rsv 6 26, rw 0 6 0]⟩,
  ⟨"OUT_APLL_STAT", 0x0B0014, 0x10, 4, 0x0, 1, .grant, false, [ro 25 7 0, ro 0 16 0]⟩,
  ⟨"OUT_APLL_FREQ", 0x0B0018, 0x10, 4, 0x4, 2, .grant, false, [ro 0 32 0]⟩,
  ⟨"OUT_SYS_CTL", 0x0B0060, 0x0, 1, 0x0, 1, .host, false, [rw 31 1 0, rsv 8 23, rw 4 4 0, rsv 2 2, rwIn 0 2 0 0 2]⟩,
  ⟨"OUT_SYS_STAT", 0x0B0064, 0x0, 1, 0x0, 1, .grant, false, [ro 31 1 0, ro 30 1 1, ro 29 1 0, ro 0 16 625]⟩,
  ⟨"OUT_EVT", 0x0B0068, 0x0, 1, 0x0, 1, .host, false, [rsqAll]⟩,
  ⟨"OUT_CTL", 0x0B0100, 0x40, 12, 0x0, 1, .host, false, [rw 31 1 0, rsv 2 29, rw 0 2 0]⟩,
  ⟨"OUT_STAT", 0x0B0104, 0x40, 12, 0x0, 1, .grant, false, [ro 16 16 0, ro 8 8 0]⟩,
  ⟨"OUTK_EVT", 0x0B0108, 0x40, 12, 0x0, 1, .host, false, [rsqAll]⟩,
  ⟨"OUT_PH_OFS", 0x0B010C, 0x40, 12, 0x0, 1, .host, false, [rw 0 32 0]⟩,
  ⟨"OUT_GLIDE_MS", 0x0B0110, 0x40, 12, 0x0, 1, .host, false, [rwIn 0 32 0 0 10000]⟩,
  ⟨"OUT_PULSE_W", 0x0B0114, 0x40, 12, 0x0, 1, .host, false, [rw 0 32 0]⟩,
  ⟨"OUT_FREQ", 0x0B0118, 0x40, 12, 0x4, 2, .grant, false, [ro 0 32 0]⟩,
  ⟨"OUT_PH_ERR", 0x0B0120, 0x40, 12, 0x0, 1, .grant, false, [ro 0 32 0]⟩,
  ⟨"OUT_DLL", 0x0B0124, 0x40, 12, 0x0, 1, .grant, false, [ro 0 32 0]⟩,
  ⟨"OUT_OUT_DLY", 0x0B0128, 0x40, 12, 0x0, 1, .grant, false, [ro 0 32 0]⟩,
  ⟨"OUT_REALIGNS", 0x0B012C, 0x40, 12, 0x0, 1, .grant, false, [ro 0 32 0]⟩,
  ⟨"CUE_CTL", 0x0B0800, 0x40, 16, 0x0, 1, .own, false, [rw 31 1 0, rsv 0 31]⟩,
  ⟨"CUE_CMD", 0x0B0804, 0x40, 16, 0x0, 1, .own, false, [wz 2 30, wo 0 2]⟩,
  ⟨"CUE_STAT", 0x0B0808, 0x40, 16, 0x0, 1, .grant, false, [ro 30 2 0, ro 8 22 0]⟩,
  ⟨"CUE_EVT", 0x0B080C, 0x40, 16, 0x0, 1, .own, false, [rsqAll]⟩,
  ⟨"CUE_AT_W0", 0x0B0810, 0x40, 16, 0x0, 1, .own, false, [rw 0 32 0]⟩,
  ⟨"CUE_AT_W1", 0x0B0814, 0x40, 16, 0x0, 1, .own, false, [rwIn 0 32 0 0 999999999]⟩,
  ⟨"CUE_AT_W2", 0x0B0818, 0x40, 16, 0x0, 1, .own, false, [rw 0 32 0]⟩,
  ⟨"CUE_AT_W3", 0x0B081C, 0x40, 16, 0x0, 1, .own, false, [ro 16 16 0, rw 0 16 0]⟩,
  ⟨"CUE_PERIOD", 0x0B0820, 0x40, 16, 0x4, 2, .own, false, [rw 0 32 0]⟩,
  ⟨"CUE_COUNT", 0x0B0828, 0x40, 16, 0x0, 1, .own, false, [rw 0 32 0]⟩,
  ⟨"CUE_WIDTH", 0x0B082C, 0x40, 16, 0x0, 1, .own, false, [rw 0 32 2]⟩,
  ⟨"CUE_LEFT", 0x0B0830, 0x40, 16, 0x0, 1, .grant, false, [ro 0 32 0]⟩,
  ⟨"CUE_FIRED", 0x0B0834, 0x40, 16, 0x0, 1, .grant, false, [ro 0 32 0]⟩,
  ⟨"CUE_MISS", 0x0B0838, 0x40, 16, 0x0, 1, .grant, false, [rc 0 32 0]⟩,
  ⟨"CUE_OUT_DLY", 0x0B083C, 0x40, 16, 0x0, 1, .grant, false, [ro 0 16 0]⟩]

/-- Registers of the Dpll block. -/
def regsDpll : List RegDesc := [
  ⟨"DPLL_CTL", 0x050000, 0x100, 16, 0x0, 1, .grant, false, [rw 31 1 0, rsv 12 19, rwIn 9 3 0 0 4, rw 8 1 0, rw 7 1 1, rsv 1 6, rw 0 1 1]⟩,
  ⟨"DPLL_BW", 0x050004, 0x100, 16, 0x0, 1, .grant, false, [rsv 29 3, rwIn 24 5 0 0 12, rsv 19 5, rwIn 16 3 3 0 4, rsv 13 3, rwIn 8 5 12 0 23, rsv 5 3, rwIn 0 5 4 0 23]⟩,
  ⟨"DPLL_STAT", 0x050008, 0x100, 16, 0x0, 1, .grant, false, [ro 26 6 0, ro 25 1 1, ro 17 8 0, ro 8 8 0, ro 0 5 0]⟩,
  ⟨"DPLL_EVT", 0x05000C, 0x100, 16, 0x0, 1, .grant, false, [rsqAll]⟩,
  ⟨"DPLL_CV", 0x050010, 0x100, 16, 0x4, 2, .grant, false, [ro 0 32 0]⟩,
  ⟨"DPLL_HO_CV", 0x050018, 0x100, 16, 0x4, 2, .grant, false, [ro 0 32 0]⟩,
  ⟨"DPLL_PH_ERR", 0x050020, 0x100, 16, 0x0, 1, .grant, false, [ro 0 32 0]⟩,
  ⟨"DPLL_PULL", 0x050024, 0x100, 16, 0x0, 1, .grant, false, [rwIn 0 32 10000000 1000 1000000000]⟩,
  ⟨"DPLL_FRATE", 0x050028, 0x100, 16, 0x0, 1, .grant, false, [rwIn 0 32 1000000 1 4000000000]⟩,
  ⟨"DPLL_LOCK_PH", 0x05002C, 0x100, 16, 0x0, 1, .grant, false, [rwIn 0 32 20 1 1000000]⟩,
  ⟨"DPLL_LOCK_FF", 0x050030, 0x100, 16, 0x0, 1, .grant, false, [rwIn 0 32 1000 1 1000000000]⟩,
  ⟨"DPLL_LOCK_TIME", 0x050034, 0x100, 16, 0x0, 1, .grant, false, [rwIn 0 32 60 1 3600]⟩,
  ⟨"DPLL_STEP_THR", 0x050038, 0x100, 16, 0x0, 1, .grant, false, [rwIn 0 32 1000 100 1000000000]⟩,
  ⟨"DPLL_HO_AVG", 0x05003C, 0x100, 16, 0x0, 1, .grant, false, [rwIn 0 32 300 1 86400]⟩,
  ⟨"DPLL_HO_GUARD", 0x050040, 0x100, 16, 0x0, 1, .grant, false, [rwIn 0 32 2000 0 60000]⟩,
  ⟨"DPLL_HO_SPEC", 0x050044, 0x100, 16, 0x0, 1, .grant, false, [rwIn 0 32 1000 10 1000000000]⟩,
  ⟨"DPLL_HO_TIME", 0x050048, 0x100, 16, 0x0, 1, .grant, false, [ro 0 32 0]⟩,
  ⟨"DPLL_HO_GROWTH", 0x05004C, 0x100, 16, 0x0, 1, .grant, false, [ro 0 32 0]⟩,
  ⟨"DPLL_FIT_WIN", 0x050050, 0x100, 16, 0x0, 1, .grant, false, [rwIn 0 32 86400 1000 2592000]⟩,
  ⟨"DPLL_FIT_MIN", 0x050054, 0x100, 16, 0x0, 1, .grant, false, [rwIn 0 32 3600 600 2592000]⟩,
  ⟨"DPLL_FIT_RES_MAX", 0x050058, 0x100, 16, 0x0, 1, .grant, false, [rwIn 0 32 5000 100 10000000]⟩,
  ⟨"DPLL_MDL_STAT", 0x05005C, 0x100, 16, 0x0, 1, .grant, false, [ro 0 3 0]⟩,
  ⟨"DPLL_MDL", 0x050060, 0x100, 16, 0x4, 7, .grant, false, [ro 0 32 0]⟩,
  ⟨"DPLL_FW_CLASS", 0x051000, 0x0, 1, 0x0, 1, .host, false, [rsv 6 26, rwIn 4 2 0 0 1, rsv 2 2, rw 0 2 3]⟩,
  ⟨"DPLL_FW_FLOOR", 0x051004, 0x4, 4, 0x0, 1, .host, false, [rw 0 32 0]⟩,
  ⟨"DPLL_ATOM_UART_CTL", 0x051020, 0x0, 1, 0x0, 1, .host, false, [rsv 20 12, rwIn 0 20 9600 9600 115200]⟩,
  ⟨"DPLL_ATOM_UART_TX", 0x051024, 0x0, 1, 0x0, 1, .host, false, [wz 8 24, wo 0 8]⟩,
  ⟨"DPLL_ATOM_UART_RX", 0x051028, 0x0, 1, 0x0, 1, .grant, false, [ro 0 9 0]⟩,
  ⟨"DPLL_ATOM_UART_STAT", 0x05102C, 0x0, 1, 0x0, 1, .grant, false, [ro 16 16 0, ro 0 7 64]⟩]

/-- Registers of the Ref block. -/
def regsRef : List RegDesc := [
  ⟨"REF_CTL", 0x040000, 0x100, 24, 0x0, 1, .grant, false, [rsv 28 4, rw 16 12 0, rsv 13 3, rw 12 1 0, rsv 2 10, rw 1 1 0, rw 0 1 0]⟩,
  ⟨"REF_STAT", 0x040004, 0x100, 24, 0x0, 1, .grant, false, [ro 24 8 0, ro 0 12 0]⟩,
  ⟨"REF_HIST", 0x040008, 0x100, 24, 0x0, 1, .grant, false, [rsqAll]⟩,
  ⟨"REF_QUAL", 0x04000C, 0x100, 24, 0x0, 1, .grant, false, [ro 16 8 0, ro 8 8 6, ro 0 8 0xFE]⟩,
  ⟨"REF_PRIO", 0x040010, 0x100, 24, 0x0, 1, .grant, false, [rsv 8 24, rwIn 0 8 0 1 255]⟩,
  ⟨"REF_NOM_LO", 0x040014, 0x100, 24, 0x0, 1, .grant, false, [rw 0 32 0]⟩,
  ⟨"REF_NOM_HI", 0x040018, 0x100, 24, 0x0, 1, .grant, false, [rw 0 32 0]⟩,
  ⟨"REF_FREQ_SOFT", 0x04001C, 0x100, 24, 0x0, 1, .grant, false, [rwIn 0 32 4600000 1 1000000000]⟩,
  ⟨"REF_FREQ_HARD", 0x040020, 0x100, 24, 0x0, 1, .grant, false, [rwIn 0 32 9200000 1 1000000000]⟩,
  ⟨"REF_FREQ_WIN", 0x040024, 0x100, 24, 0x0, 1, .grant, false, [rwIn 0 32 1000 100 100000]⟩,
  ⟨"REF_ENS_TAU", 0x040028, 0x100, 24, 0x0, 1, .grant, false, [rsv 2 30, rw 0 2 2]⟩,
  ⟨"REF_ENS_FF_SOFT", 0x04002C, 0x100, 24, 0x0, 1, .grant, false, [rwIn 0 32 500 1 1000000000]⟩,
  ⟨"REF_ENS_FF_HARD", 0x040030, 0x100, 24, 0x0, 1, .grant, false, [rwIn 0 32 2000 1 1000000000]⟩,
  ⟨"REF_ENS_PH_SOFT", 0x040034, 0x100, 24, 0x0, 1, .grant, false, [rwIn 0 32 100 1 1000000]⟩,
  ⟨"REF_ENS_PH_HARD", 0x040038, 0x100, 24, 0x0, 1, .grant, false, [rwIn 0 32 500 1 1000000]⟩,
  ⟨"REF_PH_COMP", 0x04003C, 0x100, 24, 0x0, 1, .grant, false, [rw 0 32 0]⟩,
  ⟨"REF_QUAL_TIME", 0x040040, 0x100, 24, 0x0, 1, .grant, false, [rwIn 0 32 10 1 3600]⟩,
  ⟨"REF_WTR", 0x040044, 0x100, 24, 0x0, 1, .grant, false, [rwIn 0 32 300 0 3600]⟩,
  ⟨"REF_DEG_CLEAR", 0x040048, 0x100, 24, 0x0, 1, .grant, false, [rwIn 0 32 10 1 600]⟩,
  ⟨"REF_PKT_WIN", 0x04004C, 0x100, 24, 0x0, 1, .grant, false, [rwIn 0 32 100 10 1000]⟩,
  ⟨"REF_PKT_CLUSTER", 0x040050, 0x100, 24, 0x0, 1, .grant, false, [rwIn 0 32 150 10 10000]⟩,
  ⟨"REF_PKT_LOSS", 0x040054, 0x100, 24, 0x0, 1, .grant, false, [rwIn 16 16 100 1 1000, rwIn 0 16 10 1 1000]⟩,
  ⟨"REF_PKT_FPP", 0x040058, 0x100, 24, 0x0, 1, .grant, false, [rwIn 16 16 5 1 1000, rwIn 0 16 20 1 1000]⟩,
  ⟨"REF_MEAS", 0x040060, 0x100, 24, 0x4, 7, .grant, false, [ro 0 32 0]⟩,
  ⟨"SEL_CTL", 0x042000, 0x40, 16, 0x0, 1, .grant, false, [rsv 17 15, rw 16 1 0, rsv 13 3, rwIn 8 5 0 0 23, rsv 5 3, rw 4 1 1, rsv 2 2, rwIn 0 2 0 0 2]⟩,
  ⟨"SEL_CAND", 0x042004, 0x40, 16, 0x0, 1, .grant, false, [rsv 24 8, rw 0 24 0]⟩,
  ⟨"SEL_SLOPE", 0x042008, 0x40, 16, 0x0, 1, .grant, false, [rsv 10 22, rwIn 0 10 50 1 1000]⟩,
  ⟨"SEL_QHOLD", 0x04200C, 0x40, 16, 0x0, 1, .grant, false, [rwIn 0 32 1000 0 60000]⟩,
  ⟨"SEL_STAT", 0x042010, 0x40, 16, 0x0, 1, .grant, false, [ro 31 1 0, ro 30 1 1, ro 29 1 0, ro 8 5 31, ro 0 5 0]⟩,
  ⟨"SEL_EVT", 0x042014, 0x40, 16, 0x0, 1, .grant, false, [rsqAll]⟩,
  ⟨"SEL_REMAIN", 0x042018, 0x40, 16, 0x0, 1, .grant, false, [ro 0 32 0]⟩,
  ⟨"SEL_SWITCHES", 0x04201C, 0x40, 16, 0x0, 1, .grant, false, [ro 0 32 0]⟩,
  ⟨"REF_SUMMARY", 0x043000, 0x0, 1, 0x0, 1, .grant, false, [ro 0 24 0]⟩,
  ⟨"REF_IRQ", 0x043004, 0x0, 1, 0x0, 1, .grant, false, [ro 0 24 0]⟩,
  ⟨"SEL_IRQ", 0x043008, 0x0, 1, 0x0, 1, .grant, false, [ro 0 16 0]⟩]

/-- Registers of the Tdc block. -/
def regsTdc : List RegDesc := [
  ⟨"TDC_TICK", 0x030000, 0x4, 2, 0x0, 1, .grant, false, [ro 0 32 0]⟩,
  ⟨"TDC_SNAP_TICK", 0x030008, 0x4, 2, 0x0, 1, .grant, false, [ro 0 32 0]⟩,
  ⟨"TDC_CAL_STAT", 0x030010, 0x0, 1, 0x0, 1, .grant, false, [ro 0 24 0]⟩,
  ⟨"TDC_EVT", 0x030014, 0x0, 1, 0x0, 1, .grant, false, [rsqAll]⟩,
  ⟨"TDC_PAIR_SEL", 0x030020, 0x0, 1, 0x0, 1, .grant, true, [rsv 18 14, rw 16 2 0, rsv 13 3, rwIn 8 5 0 0 23, rsv 5 3, rwIn 0 5 0 0 23]⟩,
  ⟨"TDC_PAIR_PH", 0x030024, 0x4, 2, 0x0, 1, .grant, false, [ro 0 32 0]⟩,
  ⟨"TDC_PAIR_FF", 0x03002C, 0x0, 1, 0x0, 1, .grant, false, [ro 0 32 0]⟩,
  ⟨"TDC_PAIR_STAT", 0x030030, 0x0, 1, 0x0, 1, .grant, false, [ro 0 3 0]⟩,
  ⟨"TDC_PAIR_EPOCH", 0x030034, 0x0, 1, 0x0, 1, .grant, false, [ro 0 32 0]⟩,
  ⟨"TDC_CFG", 0x030100, 0x40, 24, 0x0, 1, .own, false, [rw 31 1 0, rsv 28 3, rw 12 16 0, rwIn 10 2 0 0 2, rwIn 8 2 0 0 2, rw 2 6 0, rwIn 0 2 0 0 2]⟩,
  ⟨"TDC_CMD", 0x030104, 0x40, 24, 0x0, 1, .own, false, [wz 2 30, wo 0 2]⟩,
  ⟨"TDC_STAT", 0x030108, 0x40, 24, 0x0, 1, .grant, false, [ro 24 8 0, ro 8 7 0, ro 0 5 0]⟩,
  ⟨"TDC_WIN_PRE", 0x03010C, 0x40, 24, 0x0, 1, .own, false, [rwIn 0 32 0 0 1000000]⟩,
  ⟨"TDC_WIN_LEN", 0x030110, 0x40, 24, 0x0, 1, .own, false, [rwIn 0 32 0 1 2147483648]⟩,
  ⟨"TDC_TIMEOUT", 0x030114, 0x40, 24, 0x0, 1, .own, false, [rwIn 0 32 0 1 2147483648]⟩,
  ⟨"TDC_PERIOD", 0x030118, 0x40, 24, 0x0, 1, .own, false, [rwIn 0 32 0 1000 4000000000]⟩,
  ⟨"TDC_IN_DLY", 0x03011C, 0x40, 24, 0x0, 1, .grant, false, [ro 0 16 0]⟩,
  ⟨"TDC_EPOCH_W0", 0x030120, 0x40, 24, 0x0, 1, .own, false, [rw 0 32 0]⟩,
  ⟨"TDC_EPOCH_W1", 0x030124, 0x40, 24, 0x0, 1, .own, false, [rwIn 0 32 0 0 999999999]⟩,
  ⟨"TDC_EPOCH_W2", 0x030128, 0x40, 24, 0x0, 1, .own, false, [rw 0 32 0]⟩,
  ⟨"TDC_EPOCH_W3", 0x03012C, 0x40, 24, 0x0, 1, .own, false, [ro 16 16 0, rw 0 16 0]⟩,
  ⟨"TDC_FIFO", 0x030130, 0x40, 24, 0x4, 2, .grant, false, [ro 0 32 0]⟩,
  ⟨"TDC_DROP", 0x030138, 0x40, 24, 0x0, 1, .grant, false, [rc 0 32 0]⟩,
  ⟨"TDC_MISS", 0x03013C, 0x40, 24, 0x0, 1, .grant, false, [rc 0 32 0]⟩]

/-- Registers of the Port block. -/
def regsPort : List RegDesc := [
  ⟨"PORT_CTL", 0x080000, 0x1000, 16, 0x0, 1, .hostCore, false, [rw 31 1 0, rsv 16 15, rw 13 3 2, rw 12 1 1, rw 11 1 1, rw 10 1 0, rsv 0 10]⟩,
  ⟨"PORT_CMD", 0x080004, 0x1000, 16, 0x0, 1, .hostCore, false, [wz 3 29, wo 0 3]⟩,
  ⟨"PORT_STAT", 0x080008, 0x1000, 16, 0x0, 1, .grant, false, [ro 24 8 0, ro 16 8 0, ro 0 16 0]⟩,
  ⟨"PORT_EVT", 0x08000C, 0x1000, 16, 0x0, 1, .hostCore, false, [rsqAll]⟩,
  ⟨"PORT_LAT_NOM", 0x080010, 0x1000, 16, 0x4, 2, .grant, false, [ro 0 32 0]⟩,
  ⟨"PORT_ADJ", 0x080018, 0x1000, 16, 0x4, 3, .hostCore, false, [rw 0 32 0]⟩,
  ⟨"PORT_DEP_LEAD", 0x080024, 0x1000, 16, 0x0, 1, .hostCore, false, [rwIn 0 32 1200 1200 100000]⟩,
  ⟨"PORT_START_TIME", 0x080028, 0x1000, 16, 0x0, 1, .hostCore, false, [rwIn 0 32 2000 0 60000]⟩,
  ⟨"PORT_RECOVERY_TIME", 0x08002C, 0x1000, 16, 0x0, 1, .hostCore, false, [rwIn 0 32 10000 0 600000]⟩,
  ⟨"PORT_DORM_IDLE", 0x080030, 0x1000, 16, 0x0, 1, .hostCore, false, [rwIn 0 32 600 0 86400]⟩,
  ⟨"PORT_QMAP", 0x080034, 0x1000, 16, 0x0, 1, .hostCore, false, [rsv 24 8, rwIn 20 4 1 0 7, rwIn 16 4 2 0 7, rwIn 12 4 4 0 7, rwIn 8 4 5 0 7, rwIn 4 4 6 0 7, rwIn 0 4 7 0 7]⟩,
  ⟨"PORT_PAIR_WIN", 0x080038, 0x1000, 16, 0x0, 1, .hostCore, false, [rwIn 0 32 20 1 1000]⟩,
  ⟨"PORT_GCL_CTL", 0x080040, 0x1000, 16, 0x0, 1, .hostCore, false, [rw 31 1 1, rsv 25 6, ro 16 9 1, rsv 0 16]⟩,
  ⟨"PORT_GCL_CYCLE", 0x080044, 0x1000, 16, 0x0, 1, .hostCore, false, [rwIn 0 32 1000000 1000 1000000000]⟩,
  ⟨"PORT_GCL_LEN", 0x080048, 0x1000, 16, 0x0, 1, .hostCore, false, [rwIn 0 32 1 1 256]⟩,
  ⟨"PORT_GCL_OPER_CYCLE", 0x08004C, 0x1000, 16, 0x0, 1, .grant, false, [ro 0 32 1000000]⟩,
  ⟨"PORT_GCL_AT_W0", 0x080050, 0x1000, 16, 0x0, 1, .hostCore, false, [rw 0 32 0]⟩,
  ⟨"PORT_GCL_AT_W1", 0x080054, 0x1000, 16, 0x0, 1, .hostCore, false, [rwIn 0 32 0 0 999999999]⟩,
  ⟨"PORT_GCL_AT_W2", 0x080058, 0x1000, 16, 0x0, 1, .hostCore, false, [rw 0 32 0]⟩,
  ⟨"PORT_GCL_AT_W3", 0x08005C, 0x1000, 16, 0x0, 1, .hostCore, false, [ro 16 16 0, rw 0 16 0]⟩,
  ⟨"PORT_GCL_BASE_W0", 0x080060, 0x1000, 16, 0x0, 1, .hostCore, false, [rw 0 32 0]⟩,
  ⟨"PORT_GCL_BASE_W1", 0x080064, 0x1000, 16, 0x0, 1, .hostCore, false, [rwIn 0 32 0 0 999999999]⟩,
  ⟨"PORT_GCL_BASE_W2", 0x080068, 0x1000, 16, 0x0, 1, .hostCore, false, [rw 0 32 0]⟩,
  ⟨"PORT_GCL_BASE_W3", 0x08006C, 0x1000, 16, 0x0, 1, .hostCore, false, [ro 16 16 0, rw 0 16 0]⟩,
  ⟨"PORT_CAL_CTL", 0x080080, 0x1000, 16, 0x0, 1, .hostCore, false, [rwIn 16 16 1000 1 65535, rw 8 8 0, ro 0 8 0]⟩,
  ⟨"PORT_CAL_TAG", 0x080084, 0x1000, 16, 0x0, 1, .grant, false, [ro 0 32 0]⟩,
  ⟨"PORT_CAL_W", 0x080088, 0x1000, 16, 0x4, 4, .grant, false, [ro 0 32 0]⟩,
  ⟨"PORT_TX_SCHED", 0x080100, 0x1000, 16, 0x4, 2, .grant, false, [ro 0 32 0]⟩,
  ⟨"PORT_MISS", 0x080108, 0x1000, 16, 0x4, 14, .grant, false, [rc 0 32 0]⟩,
  ⟨"PORT_WAKE_PAT", 0x080200, 0x1000, 16, 0x4, 32, .hostCore, false, [rw 0 32 0]⟩,
  ⟨"PORT_GCL_ADMIN", 0x080400, 0x1000, 16, 0x4, 256, .hostCore, false, [rw 24 8 0xFF, rwIn 0 24 0x02625A 1 16777215]⟩,
  ⟨"PORT_GCL_OPER", 0x080800, 0x1000, 16, 0x4, 256, .grant, false, [ro 24 8 0xFF, ro 0 24 0x02625A]⟩]

/-- Registers of the Svc block. -/
def regsSvc : List RegDesc := [
  ⟨"SVC_GOV_CTL", 0x090000, 0x0, 1, 0x0, 1, .hostCore, false, [rwIn 24 8 75 50 95, rwIn 16 8 40 10 85, rwIn 8 8 4 2 20, rwIn 0 8 10 1 255]⟩,
  ⟨"SVC_GOV_STAT", 0x090004, 0x0, 1, 0x0, 1, .grant, false, [ro 0 32 0]⟩,
  ⟨"SVC_EVT", 0x090008, 0x0, 1, 0x0, 1, .hostCore, false, [rsqAll]⟩,
  ⟨"SVC_NTP_CTL", 0x09000C, 0x0, 1, 0x0, 1, .hostCore, false, [rsv 24 8, rwIn 20 4 2 2 15, rw 19 1 1, rw 16 3 7, rwIn 8 8 4 0 17, rsv 0 8]⟩,
  ⟨"SVC_RL_NTP", 0x090010, 0x0, 1, 0x0, 1, .hostCore, false, [rwIn 16 16 16 1 65535, rwIn 8 8 32 1 255, rsv 1 7, rw 0 1 0]⟩,
  ⟨"SVC_RL_PTP", 0x090014, 0x0, 1, 0x0, 1, .hostCore, false, [rwIn 16 16 256 1 65535, rwIn 8 8 32 1 255, rsv 1 7, rwIn 0 1 0 0 0]⟩,
  ⟨"SVC_STG_RL_NTP", 0x090018, 0x0, 1, 0x0, 1, .hostCore, false, [rwIn 16 16 16 1 65535, rwIn 8 8 32 1 255, rsv 1 7, rw 0 1 0]⟩,
  ⟨"SVC_STG_RL_PTP", 0x09001C, 0x0, 1, 0x0, 1, .hostCore, false, [rwIn 16 16 256 1 65535, rwIn 8 8 32 1 255, rsv 1 7, rwIn 0 1 0 0 0]⟩,
  ⟨"SVC_STG_VALID", 0x090020, 0x0, 1, 0x0, 1, .hostCore, false, [rsv 2 30, rw 0 2 0]⟩,
  ⟨"SVC_SESS_COUNT", 0x090024, 0x0, 1, 0x0, 1, .grant, false, [ro 0 32 0]⟩,
  ⟨"SVC_SESS_FULL", 0x090028, 0x0, 1, 0x0, 1, .grant, false, [rc 0 32 0]⟩,
  ⟨"SVC_SESS_IDX", 0x09002C, 0x0, 1, 0x0, 1, .hostCore, true, [rsv 20 12, rw 0 20 0]⟩,
  ⟨"SVC_SESS_D", 0x090040, 0x4, 16, 0x0, 1, .grant, false, [ro 0 32 0]⟩,
  ⟨"SVC_ENT_SEL", 0x090080, 0x0, 1, 0x0, 1, .hostCore, true, [rsv 8 24, rw 0 8 0]⟩,
  ⟨"SVC_ENT_CFG", 0x090084, 0x0, 1, 0x0, 1, .hostCore, false, [rwIn 30 2 2 0 2, rw 29 1 0, rw 28 1 1, rw 27 1 0, rw 26 1 0, rw 25 1 0, rw 24 1 1, rw 20 4 0xB, rw 19 1 0, rw 18 1 0, rsv 15 3, rw 8 7 0x7F, rw 0 8 0]⟩,
  ⟨"SVC_ENT_RATE", 0x090088, 0x0, 1, 0x0, 1, .hostCore, false, [rw 24 8 0, rw 16 8 0, rw 8 8 0, rsv 0 8]⟩,
  ⟨"SVC_ENT_KEYID", 0x09008C, 0x0, 1, 0x0, 1, .hostCore, false, [rw 0 32 0]⟩,
  ⟨"SVC_ENT_STAT", 0x090090, 0x0, 1, 0x0, 1, .grant, false, [ro 24 8 248, ro 16 8 0xFE, ro 8 8 16, ro 6 2 3, ro 0 6 0]⟩,
  ⟨"SVC_ENT_CNT", 0x0900A0, 0x4, 5, 0x0, 1, .grant, false, [ro 0 32 0]⟩,
  ⟨"SVC_ENT_RL_DROP", 0x0900B4, 0x0, 1, 0x0, 1, .grant, false, [rc 0 32 0]⟩,
  ⟨"SVC_ENT_CNT2", 0x0900B8, 0x4, 2, 0x0, 1, .grant, false, [ro 0 32 0]⟩,
  ⟨"SVC_PREF_SEL", 0x0900C0, 0x0, 1, 0x0, 1, .hostCore, true, [rsv 5 27, rwIn 0 5 0 0 23]⟩,
  ⟨"SVC_PREF_CFG", 0x0900C4, 0x0, 1, 0x0, 1, .hostCore, false, [rw 28 4 1, rwIn 26 2 1 1 3, rw 25 1 0, rw 24 1 1, rw 16 8 0, rw 8 8 0, rsv 0 8]⟩,
  ⟨"SVC_C_STAT", 0x090100, 0x100, 4, 0x0, 1, .grant, false, [ro 30 2 0, ro 16 14 0, ro 0 16 0]⟩,
  ⟨"SVC_C_CYC", 0x090110, 0x100, 4, 0x4, 8, .grant, false, [ro 0 32 0]⟩,
  ⟨"SVC_C_WAKES", 0x090130, 0x100, 4, 0x0, 1, .grant, false, [ro 0 32 0]⟩]

/-- Registers of the Key block. -/
def regsKey : List RegDesc := [
  ⟨"KEY_CTL", 0x0A0000, 0x0, 1, 0x0, 1, .hostCore, false, [rw 31 1 0, rsv 7 24, rwIn 0 7 16 1 64]⟩,
  ⟨"KEY_STAT", 0x0A0004, 0x0, 1, 0x0, 1, .grant, false, [ro 29 3 0, ro 28 1 0, ro 24 4 0, ro 23 1 0, ro 22 1 0, ro 16 6 0, ro 8 8 0, ro 0 8 0]⟩,
  ⟨"KEY_EVT", 0x0A0008, 0x0, 1, 0x0, 1, .hostCore, false, [rsqAll]⟩,
  ⟨"KEY_CMD", 0x0A000C, 0x0, 1, 0x0, 1, .hostCore, false, [dngZ 4 28, dng 0 4 0]⟩,
  ⟨"KEY_SEL", 0x0A0010, 0x0, 1, 0x0, 1, .hostCore, false, [rsv 8 24, rw 0 8 0]⟩,
  ⟨"KEY_STG_ATTR", 0x0A0014, 0x0, 1, 0x0, 1, .hostCore, false, [dngZ 29 3, dng 8 21 0, dngZ 2 6, dng 0 2 0]⟩,
  ⟨"KEY_STG_GEN", 0x0A0018, 0x0, 1, 0x0, 1, .hostCore, false, [dngZ 16 16, dng 0 16 0]⟩,
  ⟨"KEY_STG_VAL", 0x0A0020, 0x4, 8, 0x0, 1, .hostCore, false, [dng 0 32 0]⟩,
  ⟨"KEY_SLOT_ATTR", 0x0A0040, 0x4, 2, 0x0, 1, .grant, false, [ro 0 32 0]⟩,
  ⟨"KEY_SVC_CFG", 0x0A0050, 0x8, 2, 0x0, 1, .hostCore, false, [rw 28 4 2, rsv 8 20, rw 0 8 0]⟩,
  ⟨"KEY_SVC_EPOCH", 0x0A0054, 0x8, 2, 0x0, 1, .hostCore, false, [rsv 24 8, rw 0 24 0]⟩,
  ⟨"KEY_DER_SEL", 0x0A0060, 0x0, 1, 0x0, 1, .hostCore, false, [rw 29 3 0, rsv 0 29]⟩,
  ⟨"KEY_DER_ID", 0x0A0064, 0x0, 1, 0x0, 1, .hostCore, false, [rw 0 32 0]⟩,
  ⟨"KEY_DER_GEN", 0x0A0068, 0x0, 1, 0x0, 1, .grant, false, [ro 0 32 0]⟩,
  ⟨"KEY_BLOB_BASE", 0x0A0070, 0x4, 2, 0x0, 1, .hostCore, false, [rw 0 32 0]⟩,
  ⟨"KEY_BLOB_CNT", 0x0A0078, 0x0, 1, 0x0, 1, .hostCore, false, [rwIn 0 32 0 0 65536]⟩,
  ⟨"KEY_BLOB_IDX", 0x0A007C, 0x0, 1, 0x0, 1, .hostCore, false, [rw 0 32 0]⟩,
  ⟨"KEY_WRAP_SLOT", 0x0A0080, 0x0, 1, 0x0, 1, .hostCore, false, [rsv 8 24, rw 0 8 0]⟩,
  ⟨"KEY_LC_CMD", 0x0A0090, 0x0, 1, 0x0, 1, .hostCore, false, [dngZ 3 29, dng 0 3 0]⟩,
  ⟨"KEY_OTP_CMD", 0x0A0094, 0x0, 1, 0x0, 1, .hostCore, false, [dngZ 3 29, dng 0 3 0]⟩,
  ⟨"KEY_OTP_DATA", 0x0A00A0, 0x4, 12, 0x0, 1, .hostCore, false, [wo 0 32]⟩,
  ⟨"KEY_OCC", 0x0A00D0, 0x4, 2, 0x0, 1, .grant, false, [ro 0 32 0]⟩,
  ⟨"KEY_USE_FAIL", 0x0A00D8, 0x0, 1, 0x0, 1, .grant, false, [rc 0 32 0]⟩,
  ⟨"KEY_FETCH", 0x0A00DC, 0x0, 1, 0x0, 1, .grant, false, [ro 0 32 0]⟩,
  ⟨"KEY_FETCH_FAIL", 0x0A00E0, 0x0, 1, 0x0, 1, .grant, false, [rc 0 32 0]⟩,
  ⟨"KEY_PURGED", 0x0A00E4, 0x0, 1, 0x0, 1, .grant, false, [ro 0 32 0]⟩]

/-- Registers of the Gnss block. -/
def regsGnss : List RegDesc := [
  ⟨"GNSS_CTL", 0x070000, 0x0, 1, 0x0, 1, .host, false, [rw 31 1 0, rsv 26 5, rwIn 24 2 0 0 2, rw 20 4 0xF, rsv 17 3, rwIn 8 9 128 0 256, rsv 5 3, wo 4 1, rw 2 2 0, rw 1 1 0, rw 0 1 0]⟩,
  ⟨"GNSS_OSNMA_CTL", 0x070004, 0x0, 1, 0x0, 1, .host, false, [rsv 3 29, ro 2 1 0, rwIn 0 2 1 0 2]⟩,
  ⟨"GNSS_EVT", 0x070008, 0x0, 1, 0x0, 1, .host, false, [rsqAll]⟩,
  ⟨"GNSS_OSNMA_ROOT", 0x070010, 0x4, 8, 0x0, 1, .host, false, [dng 0 32 0]⟩,
  ⟨"GNSS_WN_MIN", 0x070030, 0x0, 1, 0x0, 1, .host, false, [rwIn 0 32 2350 2000 8000]⟩,
  ⟨"GNSS_LEAP_STAT", 0x070034, 0x0, 1, 0x0, 1, .host, false, [ro 16 2 0, ro 8 8 0, ro 0 8 0]⟩,
  ⟨"GNSS_LEAP_AT_LO", 0x070038, 0x0, 1, 0x0, 1, .host, false, [ro 0 32 0]⟩,
  ⟨"GNSS_LEAP_AT_HI", 0x07003C, 0x0, 1, 0x0, 1, .host, false, [ro 0 16 0]⟩,
  ⟨"GNSS_SV_SEL", 0x070040, 0x0, 1, 0x0, 1, .host, true, [rsv 13 19, rw 12 1 0, rsv 10 2, rw 8 2 0, rwIn 0 8 1 1 63]⟩,
  ⟨"GNSS_SV_STAT", 0x070044, 0x0, 1, 0x0, 1, .host, false, [ro 0 32 0]⟩,
  ⟨"GNSS_SV_INFO", 0x070048, 0x0, 1, 0x0, 1, .host, false, [ro 0 32 0]⟩,
  ⟨"GNSS_CFG", 0x070100, 0x100, 2, 0x0, 1, .host, false, [rwIn 30 2 0 0 2, rsv 27 3, rw 24 3 5, rwIn 22 2 0 0 2, rwIn 16 6 4 2 32, rwIn 8 8 10 0 45, rsv 0 8]⟩,
  ⟨"GNSS_STAT", 0x070104, 0x100, 2, 0x0, 1, .host, false, [ro 0 32 0]⟩,
  ⟨"GNSS_CEVT", 0x070108, 0x100, 2, 0x0, 1, .host, false, [rsqAll]⟩,
  ⟨"GNSS_OFF", 0x07010C, 0x100, 2, 0x4, 4, .host, false, [ro 0 32 0]⟩,
  ⟨"GNSS_UNC", 0x07011C, 0x100, 2, 0x0, 1, .host, false, [ro 0 32 0xFFFFFFFF]⟩,
  ⟨"GNSS_SOL", 0x070120, 0x100, 2, 0x4, 7, .host, false, [ro 0 32 0]⟩,
  ⟨"GNSS_POS", 0x070140, 0x100, 2, 0x4, 3, .host, false, [rw 0 32 0]⟩,
  ⟨"GNSS_POS_UNC", 0x07014C, 0x100, 2, 0x0, 1, .host, false, [rwIn 0 32 0 0 100000000]⟩,
  ⟨"GNSS_SURVEY_TIME", 0x070150, 0x100, 2, 0x0, 1, .host, false, [rwIn 0 32 3600 600 604800]⟩,
  ⟨"GNSS_SURVEY_SIGMA", 0x070154, 0x100, 2, 0x0, 1, .host, false, [rwIn 0 32 20 5 10000]⟩,
  ⟨"GNSS_SURVEY_LEFT", 0x070158, 0x100, 2, 0x0, 1, .host, false, [ro 0 32 0]⟩,
  ⟨"GNSS_BAND_DLY", 0x07015C, 0x100, 2, 0x4, 3, .host, false, [rw 0 32 0]⟩,
  ⟨"GNSS_UNC_K", 0x070168, 0x100, 2, 0x0, 1, .host, false, [rwIn 0 32 50 30 100]⟩,
  ⟨"GNSS_MP_MARGIN", 0x07016C, 0x100, 2, 0x0, 1, .host, false, [rwIn 0 32 1000 0 100000]⟩,
  ⟨"GNSS_URA_K", 0x070170, 0x100, 2, 0x0, 1, .host, false, [rwIn 0 32 10 10 100]⟩,
  ⟨"GNSS_WARN_MARGIN", 0x070174, 0x100, 2, 0x0, 1, .host, false, [rwIn 0 32 20000 0 1000000]⟩,
  ⟨"GNSS_SPOOF_THR", 0x070178, 0x100, 2, 0x0, 1, .host, false, [rwIn 0 32 64 16 255]⟩,
  ⟨"GNSS_JAM_THR", 0x07017C, 0x100, 2, 0x0, 1, .host, false, [rwIn 0 32 24 8 160]⟩,
  ⟨"GNSS_CLK_CFG", 0x070180, 0x100, 2, 0x0, 1, .host, false, [rsv 6 26, rwIn 4 2 1 0 2, rw 0 4 0]⟩,
  ⟨"GNSS_CLK_LIM", 0x070184, 0x100, 2, 0x0, 1, .host, false, [rwIn 0 32 20 1 100000]⟩,
  ⟨"GNSS_AB_MARGIN", 0x070188, 0x100, 2, 0x0, 1, .host, false, [rwIn 0 32 10 0 1000000]⟩,
  ⟨"GNSS_FAIL_CLEAR", 0x07018C, 0x100, 2, 0x0, 1, .host, false, [rwIn 0 32 60 1 3600]⟩,
  ⟨"GNSS_FESPI_CTL", 0x070190, 0x100, 2, 0x0, 1, .host, false, [ro 31 1 0, rsv 16 15, rw 8 8 24, rw 6 2 0, rwIn 0 6 16 8 32]⟩,
  ⟨"GNSS_FESPI_DATA", 0x070194, 0x100, 2, 0x0, 1, .host, false, [rw 0 32 0]⟩,
  ⟨"GNSS_POS_JUMP", 0x070198, 0x100, 2, 0x0, 1, .host, false, [rwIn 0 32 10000 100 10000000]⟩]

/-- Registers of the Btb block. -/
def regsBtb : List RegDesc := [
  ⟨"BTB_CTL", 0x0C0000, 0x200, 4, 0x0, 1, .host, false, [rw 31 1 0, rsv 0 31]⟩,
  ⟨"BTB_CMD", 0x0C0004, 0x200, 4, 0x0, 1, .host, false, [wz 2 30, wo 0 2]⟩,
  ⟨"BTB_STAT", 0x0C0008, 0x200, 4, 0x0, 1, .host, false, [ro 0 32 0]⟩,
  ⟨"BTB_EVT", 0x0C000C, 0x200, 4, 0x0, 1, .host, false, [rsqAll]⟩,
  ⟨"BTB_MASK", 0x0C0010, 0x200, 4, 0x4, 2, .host, false, [rw 0 32 0]⟩,
  ⟨"BTB_STG_VALID", 0x0C0018, 0x200, 4, 0x0, 1, .host, false, [rsv 1 31, rw 0 1 0]⟩,
  ⟨"BTB_PAUSE", 0x0C001C, 0x200, 4, 0x0, 1, .host, false, [ro 16 16 0, rw 0 16 0]⟩,
  ⟨"BTB_DLY", 0x0C0020, 0x200, 4, 0x4, 2, .host, false, [ro 0 16 0]⟩,
  ⟨"BTB_CNT", 0x0C0028, 0x200, 4, 0x4, 2, .host, false, [ro 0 32 0]⟩,
  ⟨"BTB_LOSS", 0x0C0030, 0x200, 4, 0x4, 2, .host, false, [rc 0 32 0]⟩,
  ⟨"BTB_EDGE", 0x0C0040, 0x200, 4, 0x4, 4, .host, false, [ro 0 32 0]⟩,
  ⟨"BTB_EDGE_BOUND", 0x0C0050, 0x200, 4, 0x0, 1, .host, false, [ro 0 32 0xFFFFFFFF]⟩,
  ⟨"BTB_IMG", 0x0C0100, 0x200, 4, 0x4, 64, .host, false, [ro 0 32 0]⟩,
  ⟨"BTB_START_CTL", 0x0C1000, 0x0, 1, 0x0, 1, .host, false, [ro 31 1 0, rsv 6 25, wo 4 2, rw 0 4 0]⟩,
  ⟨"BTB_START_AT_W0", 0x0C1010, 0x0, 1, 0x0, 1, .host, false, [rw 0 32 0]⟩,
  ⟨"BTB_START_AT_W1", 0x0C1014, 0x0, 1, 0x0, 1, .host, false, [rwIn 0 32 0 0 999999999]⟩,
  ⟨"BTB_START_AT_W2", 0x0C1018, 0x0, 1, 0x0, 1, .host, false, [rw 0 32 0]⟩,
  ⟨"BTB_START_AT_W3", 0x0C101C, 0x0, 1, 0x0, 1, .host, false, [ro 16 16 0, rw 0 16 0]⟩]

/-- Registers of the Wng block. -/
def regsWng : List RegDesc := [
  ⟨"WNG_CTL", 0x0D0000, 0x0, 1, 0x0, 1, .host, false, [rw 31 1 0, rsv 6 25, rw 5 1 0, rw 4 1 0, rw 3 1 1, rw 2 1 0, rw 1 1 0, rw 0 1 0]⟩,
  ⟨"WNG_CMD", 0x0D0004, 0x0, 1, 0x0, 1, .host, false, [wz 3 29, wo 0 3]⟩,
  ⟨"WNG_STAT", 0x0D0008, 0x0, 1, 0x0, 1, .host, false, [ro 29 3 0, ro 26 3 7, ro 0 26 0]⟩,
  ⟨"WNG_EVT", 0x0D000C, 0x0, 1, 0x0, 1, .host, false, [rsqAll]⟩,
  ⟨"WNG_HEALTH", 0x0D0010, 0x4, 2, 0x0, 1, .host, false, [ro 0 32 0]⟩,
  ⟨"WNG_HEALTH_REQ", 0x0D0018, 0x0, 1, 0x0, 1, .host, false, [rw 0 32 0xDFF]⟩,
  ⟨"WNG_PAIR_ID", 0x0D0020, 0x0, 1, 0x0, 1, .host, false, [rsv 16 16, rw 0 16 0]⟩,
  ⟨"WNG_LEASE_MS", 0x0D0024, 0x0, 1, 0x0, 1, .host, false, [rwIn 0 32 1000 200 10000]⟩,
  ⟨"WNG_RENEW_MS", 0x0D0028, 0x0, 1, 0x0, 1, .host, false, [rwIn 0 32 250 50 2500]⟩,
  ⟨"WNG_GUARD_MS", 0x0D002C, 0x0, 1, 0x0, 1, .host, false, [rwIn 0 32 200 20 10000]⟩,
  ⟨"WNG_LEASE_KEY", 0x0D0030, 0x0, 1, 0x0, 1, .host, false, [rsv 8 24, rw 0 8 0]⟩,
  ⟨"WNG_WIT_UDP", 0x0D0034, 0x0, 1, 0x0, 1, .host, false, [rsv 16 16, rw 0 16 7319]⟩,
  ⟨"WNG_WIT_ADDR", 0x0D0040, 0x4, 4, 0x0, 1, .host, false, [rw 0 32 0]⟩,
  ⟨"WNG_LEASE", 0x0D0050, 0x4, 2, 0x0, 1, .host, false, [ro 0 32 0]⟩,
  ⟨"WNG_CKPT_PERIOD", 0x0D0060, 0x0, 1, 0x0, 1, .host, false, [rwIn 0 32 1000 100 10000]⟩,
  ⟨"WNG_CKPT", 0x0D0064, 0x4, 3, 0x0, 1, .host, false, [ro 0 32 0]⟩,
  ⟨"WNG_HOLDOFF", 0x0D0070, 0x0, 1, 0x0, 1, .host, false, [rwIn 0 32 600 60 86400]⟩,
  ⟨"WNG_HOLDOFF_LEFT", 0x0D0074, 0x0, 1, 0x0, 1, .host, false, [ro 0 32 0]⟩,
  ⟨"WNG_LO_LIM", 0x0D0078, 0x0, 1, 0x0, 1, .host, false, [rwIn 0 32 100000 1000 10000000]⟩,
  ⟨"WNG_LO_FF", 0x0D007C, 0x0, 1, 0x0, 1, .host, false, [ro 0 32 0]⟩,
  ⟨"WNG_SHARED", 0x0D0080, 0x0, 1, 0x0, 1, .host, false, [rsv 24 8, rw 0 24 0]⟩,
  ⟨"WNG_PATH_ASYM", 0x0D0100, 0x40, 2, 0x0, 1, .host, false, [rw 0 32 0]⟩,
  ⟨"WNG_PATH_DELAY", 0x0D0104, 0x40, 2, 0x4, 2, .host, false, [ro 0 32 0]⟩,
  ⟨"WNG_PATH_ERR", 0x0D010C, 0x40, 2, 0x4, 3, .host, false, [rc 0 32 0]⟩,
  ⟨"WNG_PATH_RX", 0x0D0118, 0x40, 2, 0x0, 1, .host, false, [ro 0 32 0]⟩]

/-- Registers of the Mem block. -/
def regsMem : List RegDesc := [
  ⟨"MEM_CTL", 0x0F0000, 0x0, 1, 0x0, 1, .host, false, [rw 31 1 0, rsv 16 15, rwIn 0 16 100 10 10000]⟩,
  ⟨"MEM_STAT", 0x0F0004, 0x0, 1, 0x0, 1, .grant, false, [ro 0 32 0]⟩,
  ⟨"MEM_EVT", 0x0F0008, 0x0, 1, 0x0, 1, .host, false, [rsqAll]⟩,
  ⟨"MEM_BANK_SEL", 0x0F000C, 0x0, 1, 0x0, 1, .host, true, [rsv 5 27, rwIn 0 5 0 0 23]⟩,
  ⟨"MEM_BANK_STAT", 0x0F0010, 0x0, 1, 0x0, 1, .grant, false, [ro 0 32 0]⟩,
  ⟨"MEM_BANK_CNT", 0x0F0014, 0x4, 2, 0x0, 1, .grant, false, [ro 0 32 0]⟩,
  ⟨"MEM_SCRUB", 0x0F0020, 0x4, 2, 0x0, 1, .grant, false, [ro 0 32 0]⟩,
  ⟨"MEM_QOS_SEL", 0x0F0030, 0x0, 1, 0x0, 1, .host, true, [rsv 3 29, rw 0 3 0]⟩,
  ⟨"MEM_QOS_STAT", 0x0F0034, 0x0, 1, 0x0, 1, .grant, false, [ro 0 32 0]⟩,
  ⟨"MEM_PCIE_CTL", 0x0F0040, 0x0, 1, 0x0, 1, .host, false, [rsv 16 16, rwIn 0 16 200 1 1000]⟩,
  ⟨"MEM_PCIE_STAT", 0x0F0044, 0x0, 1, 0x0, 1, .grant, false, [ro 0 32 0]⟩,
  ⟨"MEM_RING_CTL", 0x0F0140, 0x20, 3, 0x0, 1, .host, false, [rw 31 1 0, rw 30 1 0, rsv 16 14, rw 0 16 100]⟩,
  ⟨"MEM_RING_BASE", 0x0F0144, 0x20, 3, 0x4, 2, .host, false, [rw 0 32 0]⟩,
  ⟨"MEM_RING_SIZE", 0x0F014C, 0x20, 3, 0x0, 1, .host, false, [rwIn 0 32 16 16 65536]⟩,
  ⟨"MEM_RING_PROD", 0x0F0150, 0x20, 3, 0x0, 1, .grant, false, [ro 0 32 0]⟩,
  ⟨"MEM_RING_CONS", 0x0F0154, 0x20, 3, 0x0, 1, .host, false, [rw 0 32 0]⟩,
  ⟨"MEM_RING_DROP", 0x0F0158, 0x20, 3, 0x0, 1, .grant, false, [rc 0 32 0]⟩,
  ⟨"MEM_QSPI_CTL", 0x0F0200, 0x0, 1, 0x0, 1, .host, false, [rsv 8 24, rwIn 0 8 4 1 255]⟩,
  ⟨"MEM_QSPI_CMD", 0x0F0204, 0x0, 1, 0x0, 1, .host, false, [wo 0 32]⟩,
  ⟨"MEM_QSPI_ADDR", 0x0F0208, 0x0, 1, 0x0, 1, .host, false, [rw 0 32 0]⟩,
  ⟨"MEM_QSPI_STAT", 0x0F020C, 0x0, 1, 0x0, 1, .grant, false, [ro 0 32 0]⟩,
  ⟨"MEM_QSPI_DATA", 0x0F0210, 0x0, 1, 0x0, 1, .host, false, [rw 0 32 0]⟩]

/-- Registers of the Pwr block. -/
def regsPwr : List RegDesc := [
  ⟨"PWR_CTL", 0x100000, 0x0, 1, 0x0, 1, .host, false, [rw 31 1 0, rsv 0 31]⟩,
  ⟨"PWR_STAT", 0x100004, 0x0, 1, 0x0, 1, .host, false, [ro 0 32 0]⟩,
  ⟨"PWR_EVT", 0x100008, 0x0, 1, 0x0, 1, .host, false, [rsqAll]⟩,
  ⟨"PWR_DOM_STAT", 0x10000C, 0x0, 1, 0x0, 1, .host, false, [ro 0 32 0]⟩,
  ⟨"PWR_RST_CMD", 0x100010, 0x0, 1, 0x0, 1, .host, false, [dngZ 2 30, dng 0 2 0]⟩,
  ⟨"PWR_RST_CAUSE", 0x100014, 0x0, 1, 0x0, 1, .host, false, [ro 6 26 0, ro 4 2 3, ro 0 4 1]⟩,
  ⟨"PWR_RST_COUNT", 0x100018, 0x0, 1, 0x0, 1, .host, false, [ro 0 32 0]⟩,
  ⟨"PWR_BOOT_MS", 0x10001C, 0x0, 1, 0x0, 1, .host, false, [ro 0 32 0]⟩]

/-- The registers of the block with index `b` of Table 17.10. -/
def blockRegs : Nat → List RegDesc
  | 0 => regsGlb
  | 1 => regsPlt
  | 2 => regsTb
  | 3 => regsTdc
  | 4 => regsRef
  | 5 => regsDpll
  | 6 => regsBnd
  | 7 => regsGnss
  | 8 => regsPort
  | 9 => regsSvc
  | 10 => regsKey
  | 11 => regsOut
  | 12 => regsBtb
  | 13 => regsWng
  | 14 => regsFlt
  | 15 => regsMem
  | 16 => regsPwr
  | 17 => regsGlb
  | _ => []

/-- The description of the register at a BAR0 offset, if one is there. -/
def findReg (off : Nat) : Option RegDesc := (blockRegs (off / 0x10000)).find? (fun d => d.covers off)

/-- The value a register has after the reset of its domain, before any plot value is loaded. -/
def regReset (off : Nat) : Word :=
  match findReg off with
  | some d => d.reset
  | none => 0

end Sys2Proof.Machine
end

