-- ==== Sys2Proof/Machine/SvcTypes.lean ====
section
/-! DEFINITION. Sys2Proof/Machine/SvcTypes.lean: state of the time service: entries, engines, sessions, rate limits, governor (spec/10_time_service.md). -/
namespace Sys2Proof.Machine

/-- The registers of one SERVICES entry, which SVC_ENT_SEL selects (Table 10.18, Table 10.19, Table 10.22). -/
structure Ent where
  cfg : Word := 0x91B07F00
  rate : Word := 0
  keyId : Word := 0
  stat : Word := 0xF8FE10C0
  rx : Word := 0
  tx : Word := 0
  authFail : Word := 0
  keymiss : Word := 0
  nak : Word := 0
  rlDrop : Word := 0
  unsup : Word := 0
  grantDeny : Word := 0
  /-- tick of the last ESMC information PDU, by port -/
  esmcAt : Sparse Nat := []
  /-- ESMC event PDUs still to send, by port -/
  esmcDue : List Nat := []
deriving DecidableEq, Repr, Inhabited

/-- A dispatched request (R265). -/
structure Job where
  rx : Rx
  /-- the blob that the request waits for (R277) -/
  fetch : Option KeyName
  fetched : Bool
  /-- engine cycles held against it -/
  cycles : Nat
  /-- it was dispatched to a cluster that was waking -/
  woke : Bool
deriving DecidableEq, Repr

/-- A service cluster beside SVCc_STAT. Cycle counts are in units of 1/1250 of a cycle: SERVED, DISCARDED, IDLE, STALLED (R297). -/
structure Cluster where
  wakeBy : Option Nat := none
  srv : Nat := 0
  dsc : Nat := 0
  idl : Nat := 0
  stl : Nat := 0
  /-- tick since which the load has allowed it to sleep (R294) -/
  lowFrom : Option Nat := none
deriving DecidableEq, Repr, Inhabited

/-- A session slot (Table 10.9). -/
structure Session where
  entry : Nat
  port : Nat
  ip6 : Bool
  l2 : Bool
  auth : Bool
  pid : BitVec 80
  vlan : BitVec 16
  addr : BitVec 128
  annExp : Nat := 0
  syncExp : Nat := 0
  drespExp : Nat := 0
  annLog : Int := 0
  syncLog : Int := 0
  drespLog : Int := 0
  annSeq : Nat := 0
  syncSeq : Nat := 0
  lastRx : Nat := 0
  keyId : Word := 0
  keyGen : Nat := 0
  /-- index of the last nominal instant served, of Announce and Sync (R288) -/
  annIdx : Nat := 0
  syncIdx : Nat := 0
deriving DecidableEq, Repr

/-- The receive side of a PTP reference slot (R280). -/
structure Pref where
  cfg : Word := 0x15000000
  /-- a two-step Sync that waits for its Follow_Up: sequenceId, receive stamp in TB0, correction, and the sequence numbers missing before it -/
  sync : Option (Nat × Int × Int × Nat) := none
  /-- t1 and t2 of the last complete Sync, 2⁻⁵⁶ ns -/
  t1 : Int := 0
  t2 : Int := 0
  /-- sequenceId of the last Delay_Req, and its departure t3 -/
  reqSeq : Nat := 0
  t3 : Option Int := none
  /-- clockIdentity and port of the upstream master -/
  master : BitVec 80 := 0
  /-- TB0 second by which the unicast grants of the master must be renewed -/
  grantEnd : Nat := 0
  /-- tick of the last Delay_Req -/
  reqAt : Nat := 0
  /-- forward delay in ps and offset of the Sync messages of the TB0 second `second`, and the tick of the last one (R127, R151) -/
  second : Nat := 0
  offs : List (Int × Int) := []
  syncTick : Nat := 0
  /-- mean path delay, once it has been measured -/
  path : Option Int := none
deriving DecidableEq, Repr, Inhabited

/-- The service block. -/
structure Svc where
  ents : Sparse Ent := []
  jobs : List Job := []
  /-- stamped messages for PTP reference slots -/
  refRx : List Rx := []
  prefs : Vector Pref 24 := Vector.replicate 24 {}
  clus : Vector Cluster 4 := Vector.replicate 4 {}
  /-- token buckets by complex × 2²⁰ + class × 2¹⁸ + index: units of 1/1,250,000,000 token and the tick they held at; what the unlisted buckets of class 1 (NTP) and 2 (PTP) hold stands in `base` -/
  buckets : Sparse (Option (Nat × Nat)) := []
  base : List (Nat × Nat) := [(0, 0), (32 * 1250000000, 0), (32 * 1250000000, 0)]
  /-- keys that blobs are being fetched for, oldest first (R277) -/
  fetching : List KeyName := []
  /-- sessions by slot number -/
  sess : Sparse (Option Session) := []
  /-- live SVC_RL writes that take effect on the next tick (R290) -/
  rlNext : List (Nat × Word) := []
  /-- load arrived in this microsecond and in the last eight, newest first, by class 1 to 3, in tenths of a transaction equivalent (R294) -/
  load : List Nat := [0, 0, 0]
  past : List (List Nat) := []
  /-- tick of the governor's last evaluation -/
  govAt : Option Nat := none
deriving DecidableEq, Repr, Inhabited

end Sys2Proof.Machine
end

