-- ==== Sys2Proof/Machine/TbTypes.lean ====
section
/-! DEFINITION. Sys2Proof/Machine/TbTypes.lean: state of one time base (spec/03_time_bases.md). Times and instants are counts of 2⁻⁵⁶ ns. -/
namespace Sys2Proof.Machine

/-- One second in units of 2⁻⁵⁶ ns. -/
def secU : Nat := 1000000000 * 2 ^ 56

/-- The range of a time value: 2⁴⁸ seconds (R3, R62). -/
def timeMod : Nat := 2 ^ 48 * secU

/-- The nominal increment (R5). -/
def nominalInc : Nat := 0x00CCCCCCCCCCCCCD

/-- An armed step: magnitude, sign and TB0 instant as copied at the command's decode (R71). -/
structure StepArm where
  mag : Nat
  back : Bool
  inst : Nat
deriving DecidableEq, Repr

/-- An armed or running slew (R75, R76). -/
structure SlewArm where
  off : Int
  left : Nat
  inst : Nat
  running : Bool
  /-- a CANCEL_SLEW is decoded and stops it at the next tick -/
  cancel : Bool
deriving DecidableEq, Repr

/-- The state of one time base beside its registers (OWNER, LEAP_CTL, LAST_ERR and LEAP_ACTIVE stand in the register file). -/
structure Tb where
  /-- seconds, nanoseconds and 56 fraction bits as one count (R59) -/
  value : Nat := 0
  /-- the value on the previous tick -/
  prev : Nat := 0
  /-- the value this tick would have without its step, leap or wrap: a consumer compares it with `value` (R345, R106) -/
  plain : Nat := 0
  /-- a step was applied on this tick (R101) -/
  stepped : Bool := false
  /-- the increment register (R5) -/
  inc : Nat := nominalInc
  /-- the last increment write since the previous tick, and whether the host made it (R70) -/
  incWrite : Option (Nat × Bool) := none
  /-- an OWNER write decoded since the previous tick: true is the host (R68) -/
  ownWrite : Option Bool := none
  step : Option StepArm := none
  slew : Option SlewArm := none
  /-- the second L of the armed leap (R81) -/
  leapAt : Nat := 0
deriving DecidableEq, Repr, Inhabited

end Sys2Proof.Machine
end

