-- ==== Sys2Proof/Machine/TdcTypes.lean ====
section
/-! DEFINITION. Sys2Proof/Machine/TdcTypes.lean: state of the TDC channels and of the all-pairs comparison (spec/04_tdc_measurement.md). -/
namespace Sys2Proof.Machine

/-- A stamped edge: its tick, its tap, and its flags of Table 4.4. -/
structure Edge where
  tick : Nat
  tap : Nat
  flags : Nat
deriving DecidableEq, Repr

/-- A channel beside its registers. -/
structure TdcCh where
  /-- the epoch of the next window, a time of the selected time base (R106) -/
  epoch : Nat := 0
  /-- the tick on which ARM was decoded, and the first tick a window may open after the dead time (R102) -/
  armTick : Nat := 0
  deadEnd : Nat := 0
  openTick : Nat := 0
  start : Option Edge := none
  stops : List Edge := []
  /-- the window saw more than 16 stops (R104) -/
  ovf : Bool := false
  /-- the last stamped stop: minimum spacing (Table 4.2) -/
  lastStop : Option Edge := none
  /-- edges counted by the stop divider -/
  divCnt : Nat := 0
  /-- tick on which a DISARM was decoded (R108) -/
  disarm : Option Nat := none
  fifo : List (BitVec 64) := []
  /-- tick of the lock loss in progress (R94) -/
  lostAt : Option Nat := none
  /-- lane phase channels: the clock of the next window, and by clock the stamp of its last window, or none where its phase is invalid (R110) -/
  nextClk : Nat := 0
  laneStamp : Sparse (Option (BitVec 64)) := []
deriving DecidableEq, Repr, Inhabited

/-- The TDC block. -/
structure Tdc where
  ch : Vector TdcCh 24 := Vector.replicate 24 {}
  /-- TB0 second of the last comparison whose results are readable (R114) -/
  pairE : Nat := 0
  /-- d_ij at the boundary on which pairing of (i, j) started, by 32 × i + j (Table 4.12, MODULO) -/
  pairStart : Sparse (Option Int) := []
deriving DecidableEq, Repr, Inhabited

end Sys2Proof.Machine
end

