-- ==== Sys2Proof/Machine/WngTypes.lean ====
section
/-! DEFINITION. Sys2Proof/Machine/WngTypes.lean: state of the wings link, the checkpoints and the lease beside their registers (spec/14_redundancy.md). Times are counts of 2⁻⁵⁶ ns. -/
namespace Sys2Proof.Machine

/-- A record of a TIME frame: |TBn − TB0|, rate ratio, bound, provenance (Table 14.4). -/
structure TimeRec where
  epoch : Nat
  ratio : Int
  bound : Nat
  prov : Word
deriving DecidableEq, Repr

/-- The payload of a TIME frame (Table 14.4). -/
structure TimeMsg where
  role : Nat
  flags : Nat
  q : Nat
  health : Word
  leaseNo : Word
  ckptAck : Word
  tseq : Nat
  rxTseq : Nat
  txPrev : Nat
  rxStamp : Nat
  tbMask : Nat
  negMask : Nat
  recs : List TimeRec
deriving DecidableEq, Repr

/-- One path of the link. -/
structure WPath where
  /-- block lock has held for 1 ms -/
  locked : Bool := false
  /-- heartbeat-only mode (R377) -/
  hb : Bool := false
  aliveTx : Nat := 0
  aliveRx : Option Nat := none
  /-- TSEQ of the last TIME frame sent, the last departures by TSEQ, and the records latched at the last departure -/
  tseq : Nat := 0
  departs : List (Nat × Nat) := []
  latched : List Byte := []
  txPrev : Nat := 0
  sentAt : Option Nat := none
  /-- the partner's last TIME frames by TSEQ: TB0 at the arrival, and its tick; the latest one -/
  arrivals : List (Nat × Nat × Nat) := []
  rxTseq : Nat := 0
  rxStamp : Nat := 0
  /-- ticks of the last valid TIME frame and of the last completed exchange -/
  timeAt : Option Nat := none
  exchAt : Option Nat := none
  /-- path delay of the latest exchange -/
  delay : Int := 0
  /-- heartbeats: count sent, and the count and ALIVE expected next -/
  hbTx : Nat := 0
  hbNext : Option (Nat × Nat) := none
  /-- the last frame sent -/
  sent : List Byte := []
deriving DecidableEq, Repr, Inhabited

/-- A checkpoint slot (R380). -/
structure CkSlot where
  seq : Option Nat := none
  count : Nat := 0
  chunks : Sparse (List Byte) := []
  complete : Bool := false
  /-- the image, once complete, and the tick on which it became so -/
  image : List Byte := []
  doneAt : Nat := 0
deriving DecidableEq, Repr, Inhabited

/-- A request that waits for an answer (R381): nonce, KIND, tick of its first departure once it has left. -/
structure LeaseReq where
  nonce : Nat
  kind : Nat
  tick : Option Nat
deriving DecidableEq, Repr

/-- A takeover on its way to T_k (R388), or a handback (R395): TB0 instant, C, F with the path that brought it, own tick t_w. -/
structure Takeover where
  inst : Nat
  handback : Bool
  image : Option (List Byte)
  frame : Option (TimeMsg × Nat)
  tw : Nat
deriving DecidableEq, Repr

/-- The pairing block. -/
structure Wng where
  paths : Vector WPath 2 := Vector.replicate 2 {}
  slots : Vector CkSlot 2 := Vector.replicate 2 {}
  /-- the partner's last valid TIME frame and its path, its tick, and the tick of the last TIME or HB frame -/
  frame : Option (TimeMsg × Nat) := none
  frameAt : Option Nat := none
  heardAt : Option Nat := none
  lost : Bool := false
  /-- tick on which PAIR_EN was set -/
  pairedAt : Nat := 0
  /-- partner's TB0 by own tick over the last 10 s (R370) -/
  lo : List (Nat × Nat) := []
  reqs : List LeaseReq := []
  /-- the holder's expiry tick (R382) -/
  expiry : Option Nat := none
  /-- tick of the last valid GRANT or REFUSE, or of PAIR_EN -/
  witAt : Nat := 0
  /-- ticks of the next RENEW, and of the next TAKE or HANDBACK request while its condition holds -/
  renewAt : Option Nat := none
  takeAt : Option Nat := none
  /-- nonce of the last RELEASE, and whether RELEASE_ACK has come for it (R383) -/
  released : Option Nat := none
  acked : Bool := false
  /-- the last lease message sent -/
  lease : List Byte := []
  /-- the hold-off timer (R395) -/
  holdFrom : Option Nat := none
  takeover : Option Takeover := none
  /-- tick of the last checkpoint, and the FINAL one that waits for its acknowledgement: sequence and tick (R378, R395) -/
  ckAt : Option Nat := none
  finalOut : Option (Nat × Nat) := none
  /-- the image and the frames of the last checkpoint sent -/
  image : List Byte := []
  chunks : List (List Byte) := []
  /-- a FATAL event has come since reset (R408) -/
  fatal : Bool := false
deriving DecidableEq, Repr, Inhabited

end Sys2Proof.Machine
end

