-- ==== Sys2Proof/Machine/State.lean ====
section
/-! DEFINITION. Sys2Proof/Machine/State.lean: everything the spec gives the block, as plain data; the reasons a step can stop; and the state after reset. Every register stands once, in `regs` by its BAR0 offset, with its reset value as what an unlisted offset reads as; registers the spec holds or latches per master stand in `held`. -/
namespace Sys2Proof.Machine

/-- Why a command could stop with a fault. -/
inductive Fault where
  /-- No command raises it: the spec turns every fault of the block into state (R398 to R420), and every command of the table has its effect there. Safe. -/
  | none
deriving DecidableEq, Repr

/-- Why a command could be refused. -/
inductive Refusal where
  /-- A command whose meaning is not written yet, by its mnemonic; raised by the dispatcher's arms only. Safe. -/
  | notModelled (mnemonic : String)
deriving DecidableEq, Repr

/-- The state of the YT-9640. -/
structure State where
  /-- the registers of PF BAR0 by offset -/
  regs : Sparse Word := []
  /-- registers held or latched per master, by master index × 2²⁴ + offset -/
  held : Sparse Word := []
  /-- per-master words written since they were last consumed, by the same key -/
  marks : Sparse Bool := []
  /-- what the last read of each master returned, by master index -/
  resp : Sparse Word := []
  /-- ticks of the time-base clock since PD1 left reset (R95); published modulo 2⁶⁴ -/
  tick : Nat := 0
  /-- tick of the last ledger refresh (R178) -/
  refreshAt : Nat := 0
  /-- PD1 is out of reset: the tick runs -/
  pd1 : Bool := false
  glb : Glb := {}
  plt : Plt := {}
  tbs : Vector Tb 64 := Vector.replicate 64 {}
  bnd : Vector Ledger 64 := Vector.replicate 64 {}
  cals : Vector Cal 32 := Vector.replicate 32 {}
  refs : Vector Ref 24 := Vector.replicate 24 {}
  sels : Vector Sel 16 := Vector.replicate 16 {}
  dplls : Vector Dpll 16 := Vector.replicate 16 {}
  uart : Uart := {}
  tdc : Tdc := {}
  ports : Vector Port 16 := Vector.replicate 16 {}
  out : Out := {}
  flt : Flt := {}
  svc : Svc := {}
  gnss : Gnss := {}
  btb : BtbBlk := {}
  wng : Wng := {}
  mem : Mem := {}
  key : Key := {}
  otp : Otp := {}
  pwr : Pwr := {}
  /-- the model's own counter of free values taken -/
  fv : Nat := 0
  /-- commands waiting, first in first out -/
  pending : List Instr := []
deriving DecidableEq, Repr

/-- The machine right after the reset of a power-on: POR has been released, nothing is listed in any memory, every register reads its reset value, and no plot is in force yet (R479, R480; values that no rule gives: assumption 1). -/
def State.reset : State := {}

end Sys2Proof.Machine
end

