-- ==== Sys2Proof/Machine/PlotView.lean ====
section
/-! DEFINITION. Sys2Proof/Machine/PlotView.lean: the fields of the plot's sections, read from the section bodies in the layouts of Table 2.4, and the dark plot of Table 2.7. -/
namespace Sys2Proof.Machine

/-- One byte of a section body as a number. -/
def pb (l : List Byte) (i : Nat) : Nat := (l.getD i 0).toNat

namespace Plot

/-- GLOBAL.ORG_ID. -/
def orgId (p : Plot) : Nat := leAt p.global 0 3
/-- GLOBAL.CLUSTERS: cluster `c` is present. -/
def cluster (p : Plot) (c : Nat) : Bool := (pb p.global 5).testBit c
/-- GLOBAL.COMPLEXES: complex `x` is present. -/
def complex (p : Plot) (x : Nat) : Bool := (pb p.global 6).testBit x
/-- GLOBAL.GNSS_CHAINS: chain `x` is present. -/
def chain (p : Plot) (x : Nat) : Bool := (pb p.global 7).testBit x
/-- POWER.PD_MODE of domain `d`. -/
def pdMode (p : Plot) (d : Nat) : Nat := pb p.power d
/-- The use of bank `b`: BANKS_FIXED, or BANKS_ASSIGN for a bank coded 6. -/
def bankUse (p : Plot) (b : Nat) : Nat := if pb p.banksFixed b = 6 then pb p.banksAssign b else pb p.banksFixed b
/-- PORTS.MODE of lane `n`. -/
def portMode (p : Plot) (n : Nat) : Nat := pb p.ports (8 * n)
/-- PORTS.FLAGS bit 0: the port is declared dormant. -/
def portDormant (p : Plot) (n : Nat) : Bool := (pb p.ports (8 * n + 1)).testBit 0
/-- PORTS.FLAGS bit 1: High Accuracy syntonization. -/
def portHA (p : Plot) (n : Nat) : Bool := (pb p.ports (8 * n + 1)).testBit 1
/-- PORTS.PAIR: the lane of the other path. -/
def portPair (p : Plot) (n : Nat) : Nat := pb p.ports (8 * n + 2)
/-- PORTS.STAMP_TB. -/
def stampTb (p : Plot) (n : Nat) : Nat := pb p.ports (8 * n + 3)
/-- PORTS.WAKE_PATTERN. -/
def wakePattern (p : Plot) (n : Nat) : Nat := leAt p.ports (8 * n + 4) 2
/-- The port that starts on lane `n` exists: its mode is 1 to 7. -/
def portPresent (p : Plot) (n : Nat) : Bool := 1 ≤ p.portMode n && p.portMode n ≤ 7
/-- The 16 bytes of a TIMEBASES entry. -/
def tbEntry (p : Plot) (n : Nat) : List Byte := slice p.timebases (16 * n) 16
/-- Time base `n` is present; TB0 always is. -/
def tbPresent (p : Plot) (n : Nat) : Bool := n = 0 || pb p.timebases (16 * n) = 1
/-- TIMESCALE: 0 TAI, 1 UTC, 2 free. -/
def tbScale (p : Plot) (n : Nat) : Nat := pb p.timebases (16 * n + 1)
/-- OWNER of the entry: true is the host. -/
def tbOwner (p : Plot) (n : Nat) : Bool := pb p.timebases (16 * n + 2) = 1
/-- The DPLL that steers the time base. -/
def tbDpll (p : Plot) (n : Nat) : Option Nat :=
  if n * 16 + 3 < p.timebases.length && pb p.timebases (16 * n + 3) < 16 then some (pb p.timebases (16 * n + 3)) else none
/-- RATE_MODE 0 on a time base other than TB0: it copies TB0's rate (R64). -/
def tbSameRate (p : Plot) (n : Nat) : Bool := n ≠ 0 && pb p.timebases (16 * n + 4) = 0
/-- TENANT_MASK. -/
def tbTenants (p : Plot) (n : Nat) : Nat := leAt p.timebases (16 * n + 6) 2
/-- EPOCH_OFFSET_S, signed. -/
def tbEpoch (p : Plot) (n : Nat) : Int := signed 64 (leAt p.timebases (16 * n + 8) 8)
/-- The time base that DPLL `d` steers. -/
def dpllTb (p : Plot) (d : Nat) : Option Nat :=
  (List.range 64).find? (fun n => p.tbPresent n && p.tbDpll n = some d)
/-- The 8 bytes of a REFMAP entry. -/
def refEntry (p : Plot) (n : Nat) : List Byte := slice p.refmap (8 * n) 8
/-- REFMAP.SOURCE of slot `n`. -/
def refSource (p : Plot) (n : Nat) : Nat := pb p.refmap (8 * n)
/-- REFMAP.PORT. -/
def refPort (p : Plot) (n : Nat) : Nat := pb p.refmap (8 * n + 1)
/-- REFMAP.PRIORITY. -/
def refPrio (p : Plot) (n : Nat) : Nat := pb p.refmap (8 * n + 2)
/-- REFMAP.FIXED_QUALITY. -/
def refQuality (p : Plot) (n : Nat) : Nat := pb p.refmap (8 * n + 3)
/-- REFMAP.RATE_LIST. -/
def refRateList (p : Plot) (n : Nat) : Nat := pb p.refmap (8 * n + 4)
/-- SERVICES.COUNT. -/
def svcCount (p : Plot) : Nat := leAt p.services 0 2
/-- SERVICES entry `i`: TB, service, port mask, domain, options. The entries follow the 2-byte count directly (assumption 9). -/
def svcTb (p : Plot) (i : Nat) : Nat := pb p.services (2 + 8 * i)
def svcKind (p : Plot) (i : Nat) : Nat := pb p.services (2 + 8 * i + 1)
def svcPorts (p : Plot) (i : Nat) : Nat := leAt p.services (2 + 8 * i + 2) 2
def svcDomain (p : Plot) (i : Nat) : Nat := pb p.services (2 + 8 * i + 4)
def svcOptions (p : Plot) (i : Nat) : Nat := pb p.services (2 + 8 * i + 5)
/-- PARTITION.ENGINE of engine `e`. -/
def engine (p : Plot) (e : Nat) : Nat := pb p.part e
def minAwake (p : Plot) : Nat := pb p.part 0x40
def sysMin (p : Plot) : Nat := leAt p.part 0x42 2
def sysMax (p : Plot) : Nat := leAt p.part 0x44 2
/-- QOS weights and outstanding limits. -/
def qosWeight (p : Plot) (i : Nat) : Nat := pb p.qos i
def qosMaxOut (p : Plot) (i : Nat) : Nat := pb p.qos (8 + i)
/-- OUTPUTS.APLL_FREQ[k], k from 1 to 4, µHz. -/
def apllFreq (p : Plot) (k : Nat) : Nat := leAt p.outputs (8 * (k - 1)) 8
/-- OUTPUTS.OUT[k]. -/
def outApll (p : Plot) (k : Nat) : Nat := pb p.outputs (0x20 + 16 * k)
def outMode (p : Plot) (k : Nat) : Nat := pb p.outputs (0x20 + 16 * k + 1)
def outCurtain (p : Plot) (k : Nat) : Nat := pb p.outputs (0x20 + 16 * k + 2)
def outTb (p : Plot) (k : Nat) : Nat := pb p.outputs (0x20 + 16 * k + 3)
def outFreq (p : Plot) (k : Nat) : Nat := leAt p.outputs (0x20 + 16 * k + 4) 8
def outDll (p : Plot) (k : Nat) : Int := signed 32 (leAt p.outputs (0x20 + 16 * k + 12) 4)
/-- OUTPUTS.CUE[c]: time base, owner (0xFF the PF, 0 to 15 a VF), electrical code. -/
def cueTb (p : Plot) (c : Nat) : Nat := pb p.outputs (0xE0 + 4 * c)
def cueOwner (p : Plot) (c : Nat) : Nat := if p.outputs.length ≤ 0xE0 + 4 * c + 1 then 0xFF else pb p.outputs (0xE0 + 4 * c + 1)
def cueElec (p : Plot) (c : Nat) : Nat := pb p.outputs (0xE0 + 4 * c + 2)
/-- FAULT.PROFILE 1: FENCE. -/
def fenceProfile (p : Plot) : Bool := pb p.faultSec 0 = 1
def reactCount (p : Plot) : Nat := leAt p.faultSec 4 2
/-- Byte `k` of reaction entry `i` (Table 15.2). -/
def reactByte (p : Plot) (i k : Nat) : Nat := pb p.faultSec (8 + 8 * i + k)
/-- The 2-bit ACCESS code of master `m` on block `b`. -/
def accessCode (p : Plot) (m b : Nat) : Nat := (leAt p.access (8 * m) 8 >>> (2 * b)) % 4
def limitCount (p : Plot) : Nat := leAt p.limits 0 4
/-- Word `k` of LIMITS entry `i`: register offset, mask, minimum, maximum. -/
def limitWord (p : Plot) (i k : Nat) : Nat := leAt p.limits (4 + 16 * i + 4 * k) 4
/-- BTB entry: enabled, slave role, time base, slot mask. -/
def btbOn (p : Plot) (b : Nat) : Bool := pb p.btb (8 * b) = 1
def btbSlave (p : Plot) (b : Nat) : Bool := pb p.btb (8 * b + 1) = 1
def btbTb (p : Plot) (b : Nat) : Nat := pb p.btb (8 * b + 2)
def btbMask (p : Plot) (b : Nat) : Nat := leAt p.btb (8 * b + 4) 4

end Plot

/-- Number of trailing zero bits of a mask, at most `k`. -/
def trailing : Nat → Nat → Nat
  | 0, _ => 0
  | k + 1, m => if m % 2 = 1 then 0 else 1 + trailing k (m / 2)

/-- A value written to the register at `off` stays inside every LIMITS window on it (R56). -/
def Plot.inLimits (p : Plot) (off v : Nat) : Bool :=
  (List.range p.limitCount).all (fun i =>
    if p.limitWord i 0 = off then
      let m := p.limitWord i 1
      let f := (v &&& m) >>> trailing 32 m
      decide (p.limitWord i 2 ≤ f) && decide (f ≤ p.limitWord i 3)
    else true)

/-- The ACCESS row of the PF and the management SPI in the dark plot: read and write on GLB, PLT, FLT, MEM and PWR (R46). -/
def darkRow : Nat := 3 + 3 * 4 + 3 * 4 ^ 14 + 3 * 4 ^ 15 + 3 * 4 ^ 16

/-- The dark plot of Table 2.7 as section bodies: PD0, PD1, PD9 and PD10 on, TB0 only, TAI and host-owned, nothing else. -/
def darkPlot : Plot where
  global := [0, 0, 0, 0, 1, 0, 0, 0]
  power := [1, 1, 0, 0, 0, 0, 0, 0, 0, 1, 1, 0]
  timebases := [1, 0, 1, 0xFF] ++ List.replicate 12 0
  access := leBytes 8 darkRow ++ List.replicate (8 * 22) 0 ++ leBytes 8 darkRow

end Sys2Proof.Machine
end

