-- ==== Sys2Proof/Machine/Ops.lean ====
section
/-! DEFINITION. Sys2Proof/Machine/Ops.lean: the named operations over the registers: reading and writing a register and its fields, per-master holding, error records (R458), sticky events (R451), interrupts (R459) and the checks every write passes (R448, R449, R56). -/
namespace Sys2Proof.Machine

/-- The outcome type of a command. -/
abbrev Out1 := Host.Outcome State Fault Refusal

/-- What the register at `off` holds. -/
def State.rd (s : State) (off : Nat) : Word := Sparse.get regReset s.regs off

/-- The register at `off` holds `v` from now on. -/
def State.wr (s : State) (off : Nat) (v : Word) : State := { s with regs := Sparse.set regReset s.regs off v }

/-- The field of `wd` bits at bit `lo` of the register at `off`. -/
def State.fld (s : State) (off lo wd : Nat) : Nat := fget (s.rd off) lo wd

/-- Sets one field. -/
def State.setFld (s : State) (off lo wd n : Nat) : State := s.wr off (fset (s.rd off) lo wd n)

/-- One bit of a register. -/
def State.bit (s : State) (off i : Nat) : Bool := s.fld off i 1 = 1

/-- Sets one bit. -/
def State.setBit (s : State) (off i : Nat) (b : Bool) : State := s.setFld off i 1 (b2n b)

/-- The counter of the performance-counter reader (Table 17.12) that counts the events of the block register at `off`. -/
def pmcId (off : Nat) : Option Nat :=
  if 0x080000 ≤ off && off < 0x090000 then
    if 0x100 ≤ off % 0x1000 && off % 0x1000 < 0x140 then some ((0x20 + (off - 0x080000) / 0x1000) * 256 + (off % 0x1000 - 0x100) / 4) else none
  else if 0x090100 ≤ off && off < 0x090500 && off % 0x100 = 0x30 then some ((0x10 + (off - 0x090100) / 0x100) * 256 + 4)
  else match off with
    | 0x0F0024 => some 0x4030
    | 0x0A00D8 => some 0x5000
    | 0x0A00DC => some 0x5001
    | 0x0A00E0 => some 0x5002
    | 0x0A00E4 => some 0x5003
    | 0x0E0080 => some 0x6001
    | _ => none

/-- The reader counts `n` events of the register at `off` (R467). -/
def State.tally (s : State) (off n : Nat) : State :=
  match pmcId off with
  | some i =>
    { s with glb := { s.glb with pmc := Sparse.set (fun _ => 0) s.glb.pmc i (Sparse.get (fun _ => 0) s.glb.pmc i + BitVec.ofNat 64 n) } }
  | none => s

/-- Adds to a 32-bit counter that wraps. -/
def State.bump (s : State) (off n : Nat) : State := (s.wr off (s.rd off + BitVec.ofNat 32 n)).tally off n

/-- Adds to a 32-bit counter that saturates. -/
def State.bumpSat (s : State) (off n : Nat) : State :=
  (s.wr off (BitVec.ofNat 32 (min ((s.rd off).toNat + n) 0xFFFFFFFF))).tally off n

/-- The key of a register held for one master. -/
def mkey (m : Nat) (off : Nat) : Nat := m * 2 ^ 24 + off

/-- A register held or latched for master index `m`; before its first write or latch it reads its reset value. -/
def State.hget (s : State) (m off : Nat) : Word := Sparse.get (fun k => regReset (k % 2 ^ 24)) s.held (mkey m off)

/-- Sets a register held or latched for master index `m`. -/
def State.hset (s : State) (m off : Nat) (v : Word) : State :=
  { s with held := Sparse.set (fun k => regReset (k % 2 ^ 24)) s.held (mkey m off) v }

/-- Latches a run of consecutive registers for a master. -/
def State.hsetAll (s : State) (m off : Nat) : List Word → State
  | [] => s
  | v :: t => (s.hset m off v).hsetAll m (off + 4) t

/-- The master has written this held word since it was last consumed. -/
def State.marked (s : State) (m off : Nat) : Bool := Sparse.get (fun _ => false) s.marks (mkey m off)

/-- Marks a held word as written or consumed. -/
def State.mark (s : State) (m off : Nat) (b : Bool) : State :=
  { s with marks := Sparse.set (fun _ => false) s.marks (mkey m off) b }

/-- A time of Table 0.3 from four words, in units of 2⁻⁵⁶ ns. -/
def timeOf (w0 w1 w2 w3 : Word) : Nat :=
  (fget w3 0 16 * 2 ^ 32 + w2.toNat) * secU + w1.toNat * 2 ^ 56 + w0.toNat * 2 ^ 24

/-- The time in the four registers at `off`. -/
def State.timeAt (s : State) (off : Nat) : Nat :=
  timeOf (s.rd off) (s.rd (off + 4)) (s.rd (off + 8)) (s.rd (off + 12))

/-- The time in four registers held for master index `m`. -/
def State.htimeAt (s : State) (m off : Nat) : Nat :=
  timeOf (s.hget m off) (s.hget m (off + 4)) (s.hget m (off + 8)) (s.hget m (off + 12))

/-- Seconds of a time. -/
def secOf (t : Nat) : Nat := t / secU

/-- Nanoseconds of a time. -/
def nsOf (t : Nat) : Nat := t % secU / 2 ^ 56

/-- The published words of a time: the fraction is truncated to 32 bits (R3, R59). -/
def timeWords (t : Nat) : List Word :=
  [BitVec.ofNat 32 (t % 2 ^ 56 / 2 ^ 24), BitVec.ofNat 32 (nsOf t), BitVec.ofNat 32 (secOf t),
   BitVec.ofNat 32 (secOf t / 2 ^ 32 % 2 ^ 16)]

/-- Writes consecutive registers. -/
def State.wrAll (s : State) (off : Nat) : List Word → State
  | [] => s
  | v :: t => (s.wr off v).wrAll (off + 4) t

/-- The next free value of width `w`, and the state that has taken it. -/
def State.fresh (s : State) (w : Nat) : BitVec w × State := (Config.freeValue w s.fv, { s with fv := s.fv + 1 })

/-- TB0's value. -/
def State.tb0 (s : State) : Nat := s.tbs[0].value

/-- 3,600 s, the horizon of R27. -/
def horizon : Nat := 3600 * secU

/-- The instant rules of R27 against the value `now`: earlier than now, or more than 3,600 s later. -/
def badInstant (now inst : Nat) : Bool := decide (inst < now) || decide (now + horizon < inst)

/-- Ticks in a millisecond and in a microsecond (0.8 ns each). -/
def ticksPerMs : Nat := 1250000
def ticksPerUs : Nat := 1250
def ticksPerS : Nat := 1250000000

/-- The life-cycle state MANUFACTURE, in which R449 and R419 differ. -/
def State.manufacture (s : State) : Bool := s.otp.lifecycle = .manufacture

/-- The dark plot, or no plot yet: the access rule of R46 holds. -/
def State.dark (s : State) : Bool := s.bit 0x010008 4 || !s.plt.inForce

/-- The ACCESS code of master index `m` on block `b` (R56, R46). -/
def State.access (s : State) (m b : Nat) : Nat :=
  if s.plt.inForce then s.plt.plot.accessCode m b
  else if m = 0 || m = 23 then (darkRow >>> (2 * b)) % 4 else 0

/-- A curtain is in force (R408). -/
def State.curtain (s : State) : Bool := s.bit 0x0E000C 30

/-- WNG_STAT.ROLE: 0 SOLO, 1 UNDERSTUDY, 2 ALIGNING, 3 TAKING_OVER, 4 LEAD, 5 LEAD_BLIND, 6 LEAD_DEGRADED (Table 14.16). -/
def State.role (s : State) : Nat := s.fld 0x0D0008 29 3

/-- The role serves: SOLO or a lead (Table 14.1). -/
def State.serving (s : State) : Bool := s.role = 0 || decide (4 ≤ s.role)

/-- The role is a lead. -/
def State.leads (s : State) : Bool := decide (4 ≤ s.role)

/-- Every DPLL is RELEASED by the role (R369). -/
def State.roleReleased (s : State) : Bool := s.role = 1 || s.role = 3

/-- Outputs, cues and buses take their curtain behaviour: by a curtain, during a full apply, by a role that does not serve, or by a leaseless lead (R339, R47, R369, R385). -/
def State.muted (s : State) : Bool := s.curtain || s.plt.applying || !s.serving || (s.role = 6 && s.bit 0x0D0000 4)

/-- Services announce the UNTRACEABLE row of Table 10.11 whatever the ledger says (R385, R408). -/
def State.disowned (s : State) : Bool := s.curtain || s.role = 6

/-! ### Interrupts and sticky events -/

/-- One source of a block's interrupt: the RSQ register, the register and lowest bit of its enable, and whether one enable bit covers all flags. -/
structure IrqSrc where
  evt : Nat
  en : Nat
  lo : Nat
  whole : Bool
  mask : Nat := 0xFFFFFF

/-- The sources of the interrupt condition of block `b` (Table 17.10 order). A source with `en = 0xFFFFFF` has no enable bit and counts as enabled (assumption 10). -/
def irqSrcs : Nat → List IrqSrc
  | 0 => [⟨0x00000C, 0x000008, 0, false, 0xFFFFFF⟩]
  | 1 => [⟨0x01000C, 0xFFFFFF, 0, true, 0xFFFFFF⟩]
  | 2 => (List.range 64).map (fun n => ⟨0x02003C + 0x100 * n, 0x020018 + 0x100 * n, 4, true, 0xFFFFFF⟩)
  | 3 => (List.range 24).map (fun n => ⟨0x030108 + 0x40 * n, 0x030100 + 0x40 * n, 31, true, 0x7F00⟩)
  | 4 => (List.range 24).map (fun n => ⟨0x040008 + 0x100 * n, 0x040000 + 0x100 * n, 16, false, 0xFFF⟩)
      ++ (List.range 24).map (fun n => ⟨0x040008 + 0x100 * n, 0x040000 + 0x100 * n, 0, false, 0x1000⟩)
      ++ (List.range 16).map (fun d => ⟨0x042014 + 0x40 * d, 0x042000 + 0x40 * d, 16, true, 0xFFFFFF⟩)
  | 5 => (List.range 16).map (fun d => ⟨0x05000C + 0x100 * d, 0x050000 + 0x100 * d, 31, true, 0xFFFFFF⟩)
  | 6 => (List.range 64).map (fun n => ⟨0x060008 + 0x80 * n, 0x060000 + 0x80 * n, 0, true, 0xFFFFFF⟩)
  | 7 => ⟨0x070008, 0x070000, 31, true, 0xFFFFFF⟩ :: (List.range 2).map (fun x => ⟨0x070108 + 0x100 * x, 0x070000, 31, true, 0xFFFFFF⟩)
  | 8 => (List.range 16).map (fun n => ⟨0x08000C + 0x1000 * n, 0x080000 + 0x1000 * n, 31, true, 0xFFFFFF⟩)
  | 9 => [⟨0x090008, 0xFFFFFF, 0, true, 0xFFFFFF⟩]
  | 10 => [⟨0x0A0008, 0x0A0000, 31, true, 0xFFFFFF⟩]
  | 11 => [⟨0x0B0068, 0x0B0060, 31, true, 0xFFFFFF⟩]
      ++ (List.range 12).map (fun k => ⟨0x0B0108 + 0x40 * k, 0x0B0100 + 0x40 * k, 31, true, 0xFFFFFF⟩)
      ++ (List.range 16).map (fun c => ⟨0x0B080C + 0x40 * c, 0x0B0800 + 0x40 * c, 31, true, 0xFFFFFF⟩)
  | 12 => (List.range 4).map (fun b => ⟨0x0C000C + 0x200 * b, 0x0C0000 + 0x200 * b, 31, true, 0xFFFFFF⟩)
  | 13 => [⟨0x0D000C, 0x0D0000, 31, true, 0xFFFFFF⟩]
  | 15 => [⟨0x0F0008, 0x0F0000, 31, true, 0xFFFFFF⟩]
  | 16 => [⟨0x100008, 0x100000, 31, true, 0xFFFFFF⟩]
  | 14 => [⟨0x0E0010, 0x0E0000, 31, true, 0xFFFFFF⟩]
  | _ => []

/-- A source asserts the condition: a sticky flag is set whose enable is 1. -/
def State.srcOn (s : State) (x : IrqSrc) : Bool :=
  let flags := s.fld x.evt 0 24 &&& x.mask
  if x.en = 0xFFFFFF then flags ≠ 0
  else if x.whole then flags ≠ 0 && s.bit x.en x.lo
  else flags &&& ((s.rd x.en).toNat >>> x.lo) ≠ 0

/-- The interrupt condition of block `b` (R459). -/
def State.irqOn (s : State) (b : Nat) : Bool := (irqSrcs b).any s.srcOn

/-- The vector of block `b` fires, or waits while it is masked (R459). -/
def State.fire (s : State) (b : Nat) : State :=
  let q := s.glb.irq
  let q' : Irq :=
    if q.masked.contains b then
      { q with waiting := if q.waiting.contains b then q.waiting else q.waiting ++ [b] }
    else { q with fired := Sparse.set (fun _ => 0) q.fired b (Sparse.get (fun _ => 0) q.fired b + 1) }
  { s with glb := { s.glb with irq := q' } }

/-- The vector of block `b` fires when its condition rises between two states (R459). -/
def State.irqRise (s : State) (before : State) (b : Nat) : State :=
  if s.irqOn b && !before.irqOn b then s.fire b else s

/-- The word of an RSQ register after hardware sets the flags of `mask`: SEQ advances by 1 (R451). -/
def rsqSet (w : Word) (mask : Nat) : Word :=
  fset (w ||| BitVec.ofNat 32 (mask % 2 ^ 24)) 24 8 (fget w 24 8 + 1)

/-- Hardware sets flags of an RSQ register; the block's vector fires if its condition rises. Nothing happens for no flag. -/
def State.raise (s : State) (evt mask : Nat) : State :=
  if mask = 0 then s else (s.wr evt (rsqSet (s.rd evt) mask)).irqRise s (evt / 0x10000)

/-- A write to an RSQ register: flags clear only if the written SEQ is the current one; the vector fires again if the condition is still asserted (R451, R459). -/
def State.rsqWrite (s : State) (evt : Nat) (v : Word) : State :=
  let s1 := if fget v 24 8 = s.fld evt 24 8 then s.wr evt (fset (s.rd evt) 0 24 0) else s
  if s1.irqOn (evt / 0x10000) then s1.fire (evt / 0x10000) else s1

/-! ### Rejected accesses -/

/-- The error record of master index `m`. -/
def State.err (s : State) (m : Nat) : ErrRec := Sparse.get (fun _ => {}) s.glb.errs m

/-- Overwrites the error record of master index `m` (R458). -/
def State.recordErr (s : State) (m : Nat) (e : Err) (matrix write : Bool) (addr : Nat) : State :=
  let r : ErrRec :=
    { code := e.code, matrix := matrix, write := write, count := (s.err m).count + 1, addr := BitVec.ofNat 32 addr }
  { s with glb := { s.glb with errs := Sparse.set (fun _ => {}) s.glb.errs m r } }

/-- Where the LAST_ERR field of the unit that owns a register lies: the register and the field's lowest bit. -/
def lastErrAt (off : Nat) : Option (Nat × Nat) :=
  match off / 0x10000 with
  | 2 => if off < 0x024000 then some (off / 0x100 * 0x100 + 0x1C, 24) else none
  | 3 => if 0x030100 ≤ off && off < 0x030700 then some (0x030108 + (off - 0x030100) / 0x40 * 0x40, 24) else none
  | 5 => if off < 0x051000 then some (off / 0x100 * 0x100 + 8, 8) else none
  | 8 => some (off / 0x1000 * 0x1000 + 8, 16)
  | 10 => some (0x0A0004, 8)
  | 11 => if 0x0B0800 ≤ off && off < 0x0B0C00 then some (0x0B0808 + (off - 0x0B0800) / 0x40 * 0x40, 8)
          else if 0x0B0100 ≤ off && off < 0x0B0400 then some (0x0B0104 + (off - 0x0B0100) / 0x40 * 0x40, 8) else none
  | 12 => if off < 0x0C0800 then some (off / 0x200 * 0x200 + 8, 8) else none
  | 13 => some (0x0D0008, 8)
  | 14 => some (0x0E000C, 8)
  | 15 => if 0x0F0200 ≤ off && off < 0x0F0300 then some (0x0F020C, 8) else some (0x0F0004, 8)
  | _ => none

/-- Sets the LAST_ERR field of the unit at `off`, where it has one. -/
def State.setLastErr (s : State) (off : Nat) (e : Err) : State :=
  match lastErrAt off with
  | some (r, lo) => s.setFld r lo 8 e.code
  | none => s

/-- R450, R458: a rejected write changes nothing but the error record of the master and the unit's LAST_ERR; while POR holds the device no access reaches it. -/
def State.reject (s : State) (m : Master) (off : Nat) (e : Err) : State :=
  if s.pwr.por then s else (s.recordErr m.idx e false true off).setLastErr off e

/-- What a read returns to master index `m`. -/
def State.answer (s : State) (m : Nat) (v : Word) : State := { s with resp := Sparse.set (fun _ => 0) s.resp m v }

/-- A rejected read: it returns 0 and leaves the record only (R450, R458). -/
def State.rejectRead (s : State) (m : Master) (off : Nat) (e : Err) : State :=
  if s.pwr.por then s else (s.recordErr m.idx e false false off).answer m.idx 0

/-! ### The checks of a write -/

/-- The instance that a register belongs to is absent in the plot in force (R56). -/
def State.absent (s : State) (off : Nat) : Bool :=
  let p := s.plt.plot
  match off / 0x10000 with
  | 2 => decide (off < 0x024000) && !p.tbPresent ((off - 0x020000) / 0x100)
  | 4 => decide (off < 0x041800) && p.refSource ((off - 0x040000) / 0x100) = 0
  | 6 => decide (off < 0x062000) && !p.tbPresent ((off - 0x060000) / 0x80)
  | 9 => decide (0x090100 ≤ off) && decide (off < 0x090500) && !p.cluster ((off - 0x090100) / 0x100)
  | 8 => !p.portPresent ((off - 0x080000) / 0x1000)
  | 12 => decide (off < 0x0C0800) && !p.btbOn ((off - 0x0C0000) / 0x200)
  | _ => false

/-- A master that a register's own rule lets write (R57, R200, R349, R420, R464 and the like). -/
def mayWrite (who : Writers) (m : Master) (off : Nat) : Bool :=
  match who with
  | .grant => true
  | .own => true
  | .host => m.host
  | .hostCore => m.host || m.isCore
  | .mbx => if off < 0x000140 then m = .pf else m = .mspi

/-- A master that may write block `b` at all (R57, R200, R228, R264, R298, R301, R349, R365, R397, R420, R446, R484, Table 17.14). -/
def mayWriteBlock (b : Nat) (m : Master) : Bool :=
  if [1, 6, 7, 11, 12, 13, 14, 15, 16, 17].contains b then m.host
  else if [8, 9, 10].contains b then m.host || m.isCore
  else true

/-- The halves of an increment: LIMITS windows on them are judged at the write that applies the 64-bit value (R65). -/
def limitsLater (off : Nat) : Bool :=
  decide (0x020000 ≤ off) && decide (off < 0x024000) && [0x20, 0x24, 0xC0, 0xC4].contains (off % 0x100)

/-- The checks every write passes before its own rule is judged, in the model's order (assumption 11): an address no block decodes, the dark plot, the writers of the register, the ACCESS row, read-only registers, absent instances, reserved bits and ranges, LIMITS windows. -/
def State.checkWrite (s : State) (m : Master) (off : Nat) (v : Word) : Option Err :=
  let b := off / 0x10000
  if s.pwr.por || 18 ≤ b then some .decode
  else if m.isVf then some .perm
  else if s.dark && !(m.host && (darkRow >>> (2 * b)) % 4 = 3) then some .perm
  else match findReg off with
    | none => if !mayWriteBlock b m then some .perm else if s.access m.idx b ≠ 3 then some .plot else none
    | some d =>
      if !mayWrite d.who m off then some .perm
      else if s.access m.idx b ≠ 3 then some .plot
      else if d.readOnly then some .perm
      else if s.absent off then some .plot
      else if (d.badReserved (if d.perMaster then s.hget m.idx off else s.rd off) v && !s.manufacture)
          || d.badZero v || d.badRange v then some .range
      else if !limitsLater off && !s.plt.plot.inLimits off v.toNat then some .plot
      else none

/-- A write under the common checks: rejected with the first failing check, else `k`. -/
def State.guardW (s : State) (m : Master) (off : Nat) (v : Word) (k : State → State) : State :=
  match s.checkWrite m off v with
  | some e => s.reject m off e
  | none => k s

/-- A completed pair on a DNG register under the common checks: after its effect, the register holds the value of its last accepted pair (R454, R455). -/
def State.guardD (s : State) (m : Master) (off : Nat) (v : Word) (k : State → State) : State :=
  s.guardW m off v fun s =>
    let s1 := k s
    if (s1.err m.idx).count = (s.err m.idx).count then s1.wr off v else s1

/-- The effect of a write on a register whose fields have no behaviour of their own: RW fields take the written bits (R448); a rise of the block's interrupt condition by an enable bit fires its vector. -/
def State.plainWrite (s : State) (m : Master) (off : Nat) (v : Word) : State :=
  match findReg off with
  | none => s
  | some d =>
    if d.perMaster then (s.hset m.idx off (d.merge (s.hget m.idx off) v)).mark m.idx off true
    else (s.wr off (d.merge (s.rd off) v)).irqRise s (off / 0x10000)

/-- The checks every read passes (R56, R433, R46, R301, R420, R446): a code, or nothing where the read may return a value. -/
def State.checkRead (s : State) (m : Master) (off : Nat) : Option Err :=
  let b := off / 0x10000
  if s.pwr.por || 18 ≤ b then some .decode
  else if m.isVf then some .perm
  else if s.dark && !(m.host && (darkRow >>> (2 * b)) % 4 = 3) then some .perm
  else if s.access m.idx b % 2 = 0 then some .perm
  else if (b = 10 || b = 14 || b = 15) && !(m.host || m.isCore) then some .perm
  else match findReg off with
    | some d => if d.who = .mbx && !mayWrite .mbx m off then some .perm else none
    | none => none

end Sys2Proof.Machine
end

