-- ==== Sys2Proof/Machine/Tb.lean ====
section
/-! DEFINITION. Sys2Proof/Machine/Tb.lean: writes and commands of the time bases (spec/03_time_bases.md, R59 to R88). -/
namespace Sys2Proof.Machine

/-- A register of time base `n`'s page (Table 3.3). -/
def tbReg (n o : Nat) : Nat := 0x020000 + 0x100 * n + o

/-- The host owns the time base (R67). -/
def State.tbHost (s : State) (n : Nat) : Bool := s.bit (tbReg n 0x18) 0

/-- The time base is fenced (Table 15.3). -/
def State.tbFenced (s : State) (n : Nat) : Bool := s.bit (0x0E002C + 4 * (n / 32)) (n % 32)

/-- Changes the state of one time base. -/
def State.modTb (s : State) (n : Fin 64) (f : Tb → Tb) : State := { s with tbs := s.tbs.set n (f s.tbs[n]) }

/-- Sets flags of TBn_EVT. -/
def State.tbEvent (s : State) (n mask : Nat) : State := s.raise (tbReg n 0x3C) mask

/-- The effective increment of TB0: its increment plus the offset of a running slew (R61). -/
def tbSlewOff (t : Tb) : Int := match t.slew with
  | some w => if w.running then w.off else 0
  | none => 0

/-- The increment in force of time base `n`: its own, or TB0's effective increment on a same-rate time base (R64). -/
def State.tbInc (s : State) (n : Fin 64) : Nat :=
  if s.plt.plot.tbSameRate n then (((s.tbs[0].inc : Int) + tbSlewOff s.tbs[0])).toNat else s.tbs[n].inc

/-- The effective increment: slew offset included (R61). -/
def State.tbEffInc (s : State) (n : Fin 64) : Nat := ((s.tbInc n : Int) + tbSlewOff s.tbs[n]).toNat

/-- The window of R65. -/
def incInWindow (v : Nat) : Bool := decide (0x00CC985F06F69447 ≤ v) && decide (v ≤ 0x00CD013A92A30553)

/-- LIMITS on the two halves of an increment (R65); `o` is the page offset of the LO register. -/
def State.incLimits (s : State) (n o v : Nat) : Bool :=
  s.plt.plot.inLimits (tbReg n o) (v % 2 ^ 32) && s.plt.plot.inLimits (tbReg n (o + 4)) (v / 2 ^ 32)

/-- A write or command of the owner from someone who is not the owner: ERR_OWNER and OWNER_REJECT (R67). -/
def State.ownerReject (s : State) (m : Master) (n off : Nat) : State := (s.reject m off .owner).tbEvent n 0x80

/-- The master acts as the host owner in force of time base `n` (R67). -/
def State.actsAsOwner (s : State) (m : Master) (n : Nat) : Bool := m.host && s.tbHost n

/-- TBn_INC_LO and TBn_STG_INC_LO (`o` is the page offset): held per master until the HI write (R66). -/
def State.tbIncLo (s : State) (m : Master) (n : Fin 64) (o : Nat) (v : Word) : State :=
  s.guardW m (tbReg n o) v fun s =>
    if s.plt.plot.tbSameRate n then s.reject m (tbReg n o) .plot
    else (s.hset m.idx (tbReg n o) v).mark m.idx (tbReg n o) true

/-- The value a HI write combines with the held low half. -/
def State.incValue (s : State) (m : Master) (n o : Nat) (v : Word) : Nat :=
  v.toNat * 2 ^ 32 + (s.hget m.idx (tbReg n o)).toNat

/-- The checks of a HI write, live (`o` = 0x20) or staging (0xC0): R64, R66, R65. -/
def State.incHiErr (s : State) (m : Master) (n : Fin 64) (o : Nat) (v : Word) : Option Err :=
  if s.plt.plot.tbSameRate n then some .plot
  else if !s.marked m.idx (tbReg n o) then some .seq
  else if !incInWindow (s.incValue m n o v) then some .range
  else if !s.incLimits n o (s.incValue m n o v) then some .plot
  else none

/-- TBn_INC_HI: the 64-bit increment by the host owner; it takes effect at the next tick (R65 to R67, R70). -/
def State.tbIncHi (s : State) (m : Master) (n : Fin 64) (v : Word) : State :=
  s.guardW m (tbReg n 0x24) v fun s =>
    match s.incHiErr m n 0x20 v with
    | some e => s.reject m (tbReg n 0x24) e
    | none =>
      if !s.actsAsOwner m n then s.ownerReject m n (tbReg n 0x24)
      else if s.tbFenced n then s.reject m (tbReg n 0x24) .state
      else (s.modTb n fun t => { t with incWrite := some (s.incValue m n 0x20 v, true) }).mark m.idx (tbReg n 0x20) false

/-- TBn_STG_INC_HI: stages the combined increment and sets TBn_STG_VALID.INC (R88). -/
def State.tbStgIncHi (s : State) (m : Master) (n : Fin 64) (v : Word) : State :=
  s.guardW m (tbReg n 0xC4) v fun s =>
    match s.incHiErr m n 0xC0 v with
    | some e => s.reject m (tbReg n 0xC4) e
    | none =>
      let w := s.incValue m n 0xC0 v
      ((((s.wr (tbReg n 0xC0) (BitVec.ofNat 32 w)).wr (tbReg n 0xC4) (BitVec.ofNat 32 (w / 2 ^ 32))).setBit
        (tbReg n 0xCC) 0 true)).mark m.idx (tbReg n 0xC0) false

/-- TBn_CTL: IRQ_EN at once, OWNER requested for the next tick (R67, R68). -/
def State.tbCtl (s : State) (m : Master) (n : Fin 64) (v : Word) : State :=
  s.guardW m (tbReg n 0x18) v fun s =>
    let b := fget v 0 1 = 1
    if !m.host then
      if b ≠ s.tbHost n then s.reject m (tbReg n 0x18) .perm
      else (s.setBit (tbReg n 0x18) 4 (fget v 4 1 = 1)).irqRise s 2
    else if b ≠ s.tbHost n && s.tbFenced n then s.reject m (tbReg n 0x18) .state
    else if !b && s.plt.plot.tbDpll n = none then s.reject m (tbReg n 0x18) .plot
    else ((s.setBit (tbReg n 0x18) 4 (fget v 4 1 = 1)).irqRise s 2).modTb n fun t => { t with ownWrite := some b }

/-- TBn_STG_CTL: stages an owner and sets TBn_STG_VALID.CTL (R88). Only the PF and the management SPI may change OWNER (R67). -/
def State.tbStgCtl (s : State) (m : Master) (n : Fin 64) (v : Word) : State :=
  s.guardW m (tbReg n 0xC8) v fun s =>
    if !m.host then s.reject m (tbReg n 0xC8) .perm
    else if fget v 0 1 = 0 && s.plt.plot.tbDpll n = none then s.reject m (tbReg n 0xC8) .plot
    else (s.setBit (tbReg n 0xC8) 0 (fget v 0 1 = 1)).setBit (tbReg n 0xCC) 1 true

/-- A staging valid register: bits written 0 clear, bits written 1 are ignored (R88). -/
def State.stgValid (s : State) (m : Master) (off : Nat) (v : Word) : State :=
  s.guardW m off v fun s => s.wr off (s.rd off &&& v)

/-- ARM_STEP of `n` by whoever `own` says is the owner, in the copied values: BUSY before the instant (R71, R72, R27). -/
def State.stepErr (s : State) (n : Fin 64) (inst : Nat) : Option Err :=
  if s.tbFenced n then some .state
  else if s.tbs[n].step.isSome then some .busy
  else if badInstant s.tb0 inst then some .time
  else none

/-- TBn_CMD ARM_STEP by the host (R71, R72). -/
def State.tbArmStep (s : State) (m : Master) (n : Fin 64) (back : Bool) : State :=
  s.guardW m (tbReg n 0x38) (BitVec.ofNat 32 (1 + 8 * b2n back)) fun s =>
    if !s.actsAsOwner m n then s.ownerReject m n (tbReg n 0x38)
    else match s.stepErr n (s.timeAt (tbReg n 0x50)) with
      | some e => s.reject m (tbReg n 0x38) e
      | none => s.modTb n fun t =>
          { t with step := some ⟨s.timeAt (tbReg n 0x40), back, s.timeAt (tbReg n 0x50)⟩ }

/-- TBn_CMD CANCEL_STEP: removes a pending step, otherwise ERR_STATE (R72). -/
def State.tbCancelStep (s : State) (m : Master) (n : Fin 64) : State :=
  s.guardW m (tbReg n 0x38) 2 fun s =>
    if !s.actsAsOwner m n then s.ownerReject m n (tbReg n 0x38)
    else if s.tbFenced n then s.reject m (tbReg n 0x38) .state
    else if s.tbs[n].step.isNone then s.reject m (tbReg n 0x38) .state
    else (s.modTb n fun t => { t with step := none }).tbEvent n 8

/-- The signed slew offset in the registers. -/
def State.slewOffReg (s : State) (n : Nat) : Int :=
  signed 64 ((s.rd (tbReg n 0x2C)).toNat * 2 ^ 32 + (s.rd (tbReg n 0x28)).toNat)

/-- The slew count in the registers. -/
def State.slewCntReg (s : State) (n : Nat) : Nat := s.fld (tbReg n 0x34) 0 16 * 2 ^ 32 + (s.rd (tbReg n 0x30)).toNat

/-- The largest slew offset of R75. -/
def slewMax : Nat := 0x0000346DC5D63886

/-- The checks of ARM_SLEW (R75). -/
def State.slewErr (s : State) (n : Fin 64) (off : Int) (cnt inst : Nat) : Option Err :=
  if s.tbFenced n then some .state
  else if slewMax < off.natAbs || cnt = 0 || 2 ^ 48 ≤ cnt then some .range
  else if s.tbs[n].slew.isSome then some .busy
  else if badInstant s.tb0 inst then some .time
  else none

/-- TBn_CMD ARM_SLEW by the host (R75). -/
def State.tbArmSlew (s : State) (m : Master) (n : Fin 64) : State :=
  s.guardW m (tbReg n 0x38) 3 fun s =>
    if !s.actsAsOwner m n then s.ownerReject m n (tbReg n 0x38)
    else match s.slewErr n (s.slewOffReg n) (s.slewCntReg n) (s.timeAt (tbReg n 0x60)) with
      | some e => s.reject m (tbReg n 0x38) e
      | none => s.modTb n fun t =>
          { t with slew := some ⟨s.slewOffReg n, s.slewCntReg n, s.timeAt (tbReg n 0x60), false, false⟩ }

/-- TBn_CMD CANCEL_SLEW: stops an armed or running slew at the next tick (R76). -/
def State.tbCancelSlew (s : State) (m : Master) (n : Fin 64) : State :=
  s.guardW m (tbReg n 0x38) 4 fun s =>
    if !s.actsAsOwner m n then s.ownerReject m n (tbReg n 0x38)
    else if s.tbFenced n then s.reject m (tbReg n 0x38) .state
    else match s.tbs[n].slew with
      | none => s.reject m (tbReg n 0x38) .state
      | some w => s.modTb n fun t => { t with slew := some { w with cancel := true } }

/-- TBn_CMD by its value (Table 3.6): any other command fails with ERR_RANGE. -/
def State.tbCmd (s : State) (m : Master) (n : Fin 64) (v : Word) : State :=
  s.guardW m (tbReg n 0x38) v fun s => match fget v 0 3 with
    | 1 => s.tbArmStep m n (fget v 3 1 = 1)
    | 2 => s.tbCancelStep m n
    | 3 => s.tbArmSlew m n
    | 4 => s.tbCancelSlew m n
    | _ => s.reject m (tbReg n 0x38) .range

/-! ### Leap seconds -/

/-- The second L in TBn_LEAP_AT. -/
def State.leapAtReg (s : State) (n : Nat) : Nat := s.fld (tbReg n 0x84) 0 16 * 2 ^ 32 + (s.rd (tbReg n 0x80)).toNat

/-- The master is the source of leap announcements that SRC names: 1 the host, 0 the control cores (R80). -/
def leapSource (m : Master) (src : Nat) : Bool := if src = 1 then m.host else m.isCore

/-- The leap armed on `n` can no longer be changed: its value has reached L − 1 s (R81). -/
def State.leapFixed (s : State) (n : Fin 64) : Bool :=
  s.fld (tbReg n 0x78) 0 2 ≠ 0 && decide (s.tbs[n].leapAt * secU ≤ s.tbs[n].value + secU)

/-- The checks of a PEND write (R81). -/
def State.leapErr (s : State) (n : Fin 64) (pend : Nat) : Option Err :=
  if s.leapFixed n then some .time
  else if pend = 0 then none
  else if s.leapAtReg n % 86400 ≠ 0 then some .range
  else if s.leapAtReg n * secU ≤ s.tbs[n].value + secU then some .time
  else if s.tbs[n].value + 366 * 86400 * secU < s.leapAtReg n * secU then some .time
  else none

/-- TBn_LEAP_CTL (R80, R81): SRC by the host, PEND by the source that the written SRC names. -/
def State.leapCtl (s : State) (m : Master) (n : Fin 64) (v : Word) : State :=
  s.guardW m (tbReg n 0x78) v fun s =>
    let src := fget v 4 1
    let pend := fget v 0 2
    if s.plt.plot.tbScale n ≠ 1 then s.reject m (tbReg n 0x78) .plot
    else if src ≠ s.fld (tbReg n 0x78) 4 1 && !m.host then s.reject m (tbReg n 0x78) .perm
    else if pend = s.fld (tbReg n 0x78) 0 2 then s.setFld (tbReg n 0x78) 4 1 src
    else if !leapSource m src then s.reject m (tbReg n 0x78) .owner
    else match s.leapErr n pend with
      | some e => s.reject m (tbReg n 0x78) e
      | none => ((s.setFld (tbReg n 0x78) 4 1 src).setFld (tbReg n 0x78) 0 2 pend).modTb n fun t =>
          { t with leapAt := if pend = 0 then t.leapAt else s.leapAtReg n }

/-- TBn_LEAP_AT_LO (`hi` false) and HI: checked against the timescale and SRC (R80). -/
def State.leapAtW (s : State) (m : Master) (n : Fin 64) (hi : Bool) (v : Word) : State :=
  let off := tbReg n (if hi then 0x84 else 0x80)
  s.guardW m off v fun s =>
    if s.plt.plot.tbScale n ≠ 1 then s.reject m off .plot
    else if !leapSource m (s.fld (tbReg n 0x78) 4 1) then s.reject m off .owner
    else s.plainWrite m off v

/-! ### The meanings -/

/-- TB_INC_LO_WRITE (R66). -/
def execTbIncLoWrite (m : Master) (n : Fin 64) (v : Word) (s : State) : Out1 := .next (s.tbIncLo m n 0x20 v)
/-- TB_INC_HI_WRITE (R65). -/
def execTbIncHiWrite (m : Master) (n : Fin 64) (v : Word) (s : State) : Out1 := .next (s.tbIncHi m n v)
/-- TB_STG_INC_LO_WRITE (R66). -/
def execTbStgIncLoWrite (m : Master) (n : Fin 64) (v : Word) (s : State) : Out1 := .next (s.tbIncLo m n 0xC0 v)
/-- TB_STG_INC_HI_WRITE (R88). -/
def execTbStgIncHiWrite (m : Master) (n : Fin 64) (v : Word) (s : State) : Out1 := .next (s.tbStgIncHi m n v)
/-- TB_OWNER_WRITE (R67): a write of TBn_CTL with value `v`. -/
def execTbOwnerWrite (m : Master) (n : Fin 64) (v : Word) (s : State) : Out1 := .next (s.tbCtl m n v)
/-- TB_STG_CTL_WRITE (R88). -/
def execTbStgCtlWrite (m : Master) (n : Fin 64) (v : Word) (s : State) : Out1 := .next (s.tbStgCtl m n v)
/-- The register of a staging valid bit (R88, R290, R361). -/
def stgValidReg : StgTarget → Nat
  | .tb n => tbReg n 0xCC
  | .svc => 0x090020
  | .btb b => 0x0C0000 + 0x200 * b + 0x18
/-- STG_VALID_DISCARD (R88). -/
def execStgValidDiscard (m : Master) (t : StgTarget) (v : Word) (s : State) : Out1 := .next (s.stgValid m (stgValidReg t) v)
/-- ARM_STEP (R71). -/
def execArmStep (m : Master) (n : Fin 64) (back : Bool) (s : State) : Out1 := .next (s.tbArmStep m n back)
/-- CANCEL_STEP (R72). -/
def execCancelStep (m : Master) (n : Fin 64) (s : State) : Out1 := .next (s.tbCancelStep m n)
/-- ARM_SLEW (R75). -/
def execArmSlew (m : Master) (n : Fin 64) (s : State) : Out1 := .next (s.tbArmSlew m n)
/-- CANCEL_SLEW (R76). -/
def execCancelSlew (m : Master) (n : Fin 64) (s : State) : Out1 := .next (s.tbCancelSlew m n)
/-- LEAP_CTL_WRITE (R80). -/
def execLeapCtlWrite (m : Master) (n : Fin 64) (v : Word) (s : State) : Out1 := .next (s.leapCtl m n v)
/-- LEAP_AT_WRITE (R80). -/
def execLeapAtWrite (m : Master) (n : Fin 64) (hi : Bool) (v : Word) (s : State) : Out1 := .next (s.leapAtW m n hi v)

end Sys2Proof.Machine
end

