-- ==== Sys2Proof/Machine/LedgerOps.lean ====
section
/-! DEFINITION. Sys2Proof/Machine/LedgerOps.lean: the error bound ledger: components, sums, raises, falls, growth, the published bound and its provenance (spec/07_error_bound.md). -/
namespace Sys2Proof.Machine

/-- A register of ledger `n` (Table 7.9). -/
def bndReg (n o : Nat) : Nat := 0x060000 + 0x80 * n + o
/-- A register of calibration record `k`. -/
def calReg (k o : Nat) : Nat := 0x062000 + 0x10 * k + o
/-- A register of reference slot `n`. -/
def refReg (n o : Nat) : Nat := 0x040000 + 0x100 * n + o
/-- A register of selector `d`. -/
def selReg (d o : Nat) : Nat := 0x042000 + 0x40 * d + o
/-- A register of DPLL `d`. -/
def dpllReg (d o : Nat) : Nat := 0x050000 + 0x100 * d + o

def State.modBnd (s : State) (n : Fin 64) (f : Ledger → Ledger) : State := { s with bnd := s.bnd.set n (f s.bnd[n]) }
def State.modCal (s : State) (k : Fin 32) (f : Cal → Cal) : State := { s with cals := s.cals.set k (f s.cals[k]) }

/-- A component holds 48 bits and stays at its maximum (R176). -/
def cap48 (v : Nat) : Nat := min v (2 ^ 48 - 1)

/-- The sum of the eight components with the terms of R183, saturating, in units of 10⁻²² ps (R176). -/
def Ledger.sum (l : Ledger) : Nat :=
  let c := l.comps
  min ((c.ref + c.meas + c.servo + c.path + c.quant + c.switch + c.extra + l.tb0Max + l.tb0AtTv + l.tb0Switch) * psU + l.hold)
    ((2 ^ 48 - 1) * psU)

/-- B(t) = B_r + s_r × (t − t_r) in units of 10⁻²⁹ ps (R179): 8 × 10⁻¹⁰ s a tick. -/
def Ledger.atTick (l : Ledger) (t : Nat) : Nat := l.base + l.slope * (t - l.baseTick) * 8

/-- The finite bound in ps, rounded up (R176). -/
def Ledger.ps (l : Ledger) (t : Nat) : Nat := divUp (l.atTick t) (psU * 10 ^ 7)

/-- The published bound: units of 0.25 ns rounded up, limited to 0xFFFF_FFFE, 0xFFFF_FFFF while untraceable (R176, R7). -/
def Ledger.bound (l : Ledger) (t : Nat) : Nat :=
  if l.why ≠ 0 then 0xFFFFFFFF else min (divUp (l.atTick t) (250 * psU * 10 ^ 7)) 0xFFFFFFFE

/-- The bound of a time base at this tick; an absent one reads 0xFFFF_FFFF (R56). -/
def State.bound (s : State) (n : Fin 64) : Nat :=
  if s.plt.plot.tbPresent n then s.bnd[n].bound s.tick else 0xFFFFFFFF

/-- The time base is untraceable. -/
def State.untraceable (s : State) (n : Fin 64) : Bool := !s.plt.plot.tbPresent n || s.bnd[n].why ≠ 0

/-- RAISE_SEQ advances once on a tick, and RAISED is set (R184). -/
def State.markRaise (s : State) (n : Fin 64) : State :=
  if s.bnd[n].raised then s
  else (s.modBnd n fun l => { l with raiseSeq := l.raiseSeq + 1, raised := true }).raise (bndReg n 8) 4

/-- The growth since the last refresh at the current slope, 10⁻²⁹ ps (R179). -/
def State.sinceRefresh (s : State) (n : Fin 64) : Nat := s.bnd[n].slope * (s.tick - s.refreshAt) * 8

/-- A new base B_r at this tick with the current slope (R180): the sum, with HOLD as it has grown since the last refresh. -/
def State.rebase (s : State) (n : Fin 64) : State :=
  s.modBnd n fun l => { l with base := max (l.sum * 10 ^ 7 + s.sinceRefresh n) (l.floor * 10 ^ 7), baseTick := s.tick }

/-- One ledger becomes untraceable for a cause of Table 7.4; UNTRACEABLE is raised on the entry (R189). -/
def State.untraceOne (s : State) (n : Fin 64) (why : Nat) : State :=
  let was := s.bnd[n].why
  let s1 := s.modBnd n fun l => { l with why := why, firstSince := none, firstPeak := 0 }
  if was = 0 then (s1.raise (bndReg n 8) 1).markRaise n else s1

/-- A time base becomes untraceable; with TB0, every same-rate time base does (reason 5 of Table 7.4). -/
def State.untrace (s : State) (n : Fin 64) (why : Nat) : State :=
  if !s.plt.plot.tbPresent n then s
  else
    let s1 := s.untraceOne n why
    if n.val = 0 then
      (List.finRange 64).foldl (fun s (k : Fin 64) =>
        if s.plt.plot.tbPresent k && s.plt.plot.tbSameRate k && s.bnd[k].why = 0 then s.untraceOne k 5 else s) s1
    else s1

/-- Raises one component. -/
def up (cur : Nat) : Option Nat → Nat
  | none => cur
  | some v => max cur (cap48 v)

/-- The components after a raise: none falls (R180). -/
def Comps.risen (c : Comps) (f : Falls) : Comps :=
  { ref := up c.ref f.ref, meas := up c.meas f.meas, servo := up c.servo f.servo, path := up c.path f.path,
    quant := up c.quant f.quant, switch := up c.switch f.switch, extra := up c.extra f.extra }

/-- The later of two offers of a fall. -/
def later (a b : Option Nat) : Option Nat := if b.isSome then b else a

/-- Falls that wait for the next refresh, with new reasons added (R181). -/
def Falls.add (a b : Falls) : Falls :=
  { ref := later a.ref b.ref, meas := later a.meas b.meas, servo := later a.servo b.servo, hold := later a.hold b.hold,
    path := later a.path b.path, quant := later a.quant b.quant, switch := later a.switch b.switch,
    extra := later a.extra b.extra }

/-- A pending fall may not go below a later rise of the same component (R181). -/
def liftFall (a b : Option Nat) : Option Nat :=
  match a, b with
  | some x, some y => some (max x y)
  | _, _ => a

/-- Pending falls after a rise. -/
def Falls.lifted (a b : Falls) : Falls :=
  { ref := liftFall a.ref b.ref, meas := liftFall a.meas b.meas, servo := liftFall a.servo b.servo,
    hold := liftFall a.hold b.hold, path := liftFall a.path b.path, quant := liftFall a.quant b.quant,
    switch := liftFall a.switch b.switch, extra := liftFall a.extra b.extra }

/-- A raise event: the offered values that are higher act at once with a new base, and RAISE_SEQ advances (R180). `hold` is in units of 10⁻²² ps. -/
def State.ledgerRise (s : State) (n : Fin 64) (f : Falls) : State :=
  let l := s.bnd[n]
  let c := l.comps.risen f
  let h := match f.hold with | some v => max l.hold v | none => l.hold
  let s := s.modBnd n fun l => { l with falls := l.falls.lifted f }
  if c = l.comps && h = l.hold then s
  else
    let s1 := (s.modBnd n fun l => { l with comps := c, hold := h }).rebase n
    if l.why = 0 && l.atTick s.tick < s1.bnd[n].base then s1.markRaise n else s1

/-- Values justified by a reason: higher ones rise now, lower ones wait for the next refresh (R180, R181). -/
def State.ledgerOffer (s : State) (n : Fin 64) (f : Falls) : State :=
  (s.ledgerRise n f).modBnd n fun l => { l with falls := l.falls.add f }

/-- A switch or a holdover exit: the components become the new slot's, and the bound stays at least what it was until a verified sample (Table 5.7, Table 6.7). -/
def State.ledgerSwitch (s : State) (n : Fin 64) (f : Falls) : State :=
  let l := s.bnd[n]
  let b := divUp (l.atTick s.tick) (10 ^ 7)
  let c : Comps :=
    { ref := f.ref.getD l.comps.ref, meas := up l.comps.meas f.meas, servo := l.comps.servo,
      path := up l.comps.path f.path, quant := up l.comps.quant f.quant, switch := f.switch.getD l.comps.switch,
      extra := l.comps.extra }
  let rest : Falls := { f with ref := none, switch := none, hold := none }
  let l1 : Ledger := { l with comps := c, hold := f.hold.getD l.hold, floor := b, floorEnds := false, falls := l.falls.add rest, slope := 0 }
  let s1 := (s.modBnd n fun _ => l1).rebase n
  if l.why = 0 && l.atTick s.tick < s1.bnd[n].base then s1.markRaise n else s1

/-! ### Terms of the selected slot -/

/-- The upper limit of a clockAccuracy code in ps, rounded up to whole ps; none for 0x31, 0xFE and codes not listed (R134, R502). -/
def accLimit (code : Nat) : Option Nat :=
  if code < 0x17 || 0x31 ≤ code then none
  else
    let i := code - 0x17
    let e := i / 2
    some (if i = 25 then 10 ^ 13 else if i % 2 = 0 then (if i = 0 then 1 else 10 ^ e) else (25 * 10 ^ e + 9) / 10)

/-- Ten times the exact limit of accuracy code 0x17 + `i` in ps (R134). -/
def accLimit10 (i : Nat) : Nat := if i = 25 then 10 ^ 14 else if i % 2 = 0 then 10 ^ (i / 2 + 1) else 25 * 10 ^ (i / 2)

/-- The smallest accuracy code whose limit is at least an uncertainty in ps (R134). -/
def accCode (ps : Nat) : Nat :=
  match (List.range 26).find? (fun i => decide (10 * ps ≤ accLimit10 i)) with
  | some i => 0x17 + i
  | none => 0x31

/-- Source kinds by SOURCE code (Table 5.1). -/
def isClkin (src : Nat) : Bool := decide (0x10 ≤ src) && decide (src ≤ 0x17)
def isGnss (src : Nat) : Bool := src = 0x20 || src = 0x21
def isAtom (src : Nat) : Bool := src = 0x30
def isWings (src : Nat) : Bool := src = 0x40
def isPtp (src : Nat) : Bool := src = 0x50
def isSyncE (src : Nat) : Bool := src = 0x51

/-- The calibration target of a slot: kind and index (Table 7.12). -/
def State.calTarget (s : State) (k : Fin 24) : Nat × Nat :=
  let src := s.plt.plot.refSource k
  if isClkin src then (2, src - 0x10)
  else if isAtom src then (3, 0)
  else if isGnss src then (4, src - 0x20)
  else if isWings src then (1, s.refs[k].path)
  else (0, s.plt.plot.refPort k)

/-- The valid calibration record in force for a target (R187). -/
def State.calFor (s : State) (kind idx : Nat) : Option (Fin 32) :=
  (List.finRange 32).find? (fun k => s.cals[k].inForce.valid && s.cals[k].inForce.kind = kind && s.cals[k].inForce.index = idx)

/-- MEAS of Table 7.2. -/
def State.measOf (s : State) (k : Fin 24) : Nat :=
  let src := s.plt.plot.refSource k
  if isGnss src then 0 else if isPtp src then max 100 s.refs[k].measPs else if isWings src then 50 else 30

/-- QUANT of Table 7.2. -/
def State.quantOf (s : State) (k : Fin 24) : Nat :=
  let src := s.plt.plot.refSource k
  if isGnss src then 1 else if isPtp src || isWings src then (if s.refs[k].refined then 3 else 801) else 3

/-- PATH of one path of the wings slot: its record, else half its latest measured round trip, else 100 ns (R175). -/
def State.wingsTerm (s : State) (x : Nat) : Nat :=
  match s.calFor 1 x with
  | some c => s.cals[c].inForce.uncPath
  | none => if s.rd (0x0D0104 + 0x40 * x) = 0 then 100000 else (s.rd (0x0D0104 + 0x40 * x)).toNat

/-- PATH of Table 7.2; the wings slot before its first sample takes the larger of its two paths (R175). -/
def State.pathOf (s : State) (k : Fin 24) : Nat :=
  if isWings (s.plt.plot.refSource k) && s.refs[k].phase.isNone then max (s.wingsTerm 0) (s.wingsTerm 1)
  else
  let t := s.calTarget k
  match s.calFor t.1 t.2 with
  | some c => s.cals[c].inForce.uncPath
  | none => if isPtp (s.plt.plot.refSource k) || isWings (s.plt.plot.refSource k) then s.refs[k].pathPs else 100000

/-- The effective Q of a slot at a selector (R138): 0x06FE until one has entered the key. -/
def State.effQ (s : State) (d : Fin 16) (k : Nat) : Nat := Sparse.get (fun _ => 0x06FE) s.sels[d].effQ k

/-- REF: the limit of the effective accuracy code or the solution uncertainty, plus the ensemble term of Table 5.7 (R502). -/
def State.refOf (s : State) (d : Fin 16) (k : Fin 24) : Nat :=
  let r := s.refs[k]
  let u := if isGnss (s.plt.plot.refSource k) then r.unc else (accLimit (s.effQ d k % 256)).getD 0
  let e := match r.ensX with
    | none => 0
    | some x => x.natAbs + 2 * (x - r.ensXPrev.getD x).natAbs
  u + e

/-- The selected slot of selector `d`. -/
def State.selected (s : State) (d : Nat) : Option (Fin 24) :=
  if s.bit (selReg d 0x10) 30 then none
  else if h : s.fld (selReg d 0x10) 0 5 < 24 then some ⟨s.fld (selReg d 0x10) 0 5, h⟩ else none

/-- The selector of time base `n`'s DPLL, as an index. -/
def State.tbLoop (s : State) (n : Nat) : Option (Fin 16) :=
  match s.plt.plot.tbDpll n with
  | some d => if h : d < 16 then some ⟨d, h⟩ else none
  | none => none

/-- Picoseconds of a phase, rounded up in magnitude (R176). -/
def phasePs (p : Int) : Nat := divUp (p.natAbs * 1000) (2 ^ 56)

/-! ### Growth -/

/-- Class floors of Table 6.5 in 10⁻¹⁵ and 10⁻²¹ /s; class 3 is NONE. -/
def classFloorY (c : Nat) : Nat := match c with | 0 => 10000 | 1 => 50000 | 2 => 100000 | 4 => 20000 | _ => 0
def classFloorD (c : Nat) : Nat := match c with | 0 => 19290 | 1 => 115741 | 2 => 1157407 | 4 => 347222 | _ => 0

/-- The class declared for a flywheel: ATOM's code, or for the local oscillator 2 (OCXO) or 4 (double-oven OCXO). -/
def State.fwClass (s : State) (lo : Bool) : Nat :=
  if lo then (if s.fld 0x051000 4 2 = 1 then 4 else 2) else s.fld 0x051000 0 2

/-- The floor in force: the larger of the last value written and the class floor (R173). Registers in order Y_ATOM, D_ATOM, Y_LO, D_LO. -/
def State.fwFloor (s : State) (i : Nat) : Nat :=
  let c := s.fwClass (decide (2 ≤ i))
  max (s.rd (0x051004 + 4 * i)).toNat (if i % 2 = 0 then classFloorY c else classFloorD c)

/-- c1 (10⁻¹⁵) and c2 (10⁻²¹ /s) of R165: of ATOM with the fitted uncertainties, or of the local oscillator. -/
def State.coefs (s : State) (d : Nat) (atom : Bool) : Nat × Nat :=
  if atom then
    (max (3 * (signed 32 (s.rd (dpllReg d 0x6C)).toNat).natAbs) (s.fwFloor 0),
     max (3 * (signed 32 (s.rd (dpllReg d 0x70)).toNat).natAbs) (s.fwFloor 1))
  else (s.fwFloor 2, s.fwFloor 3)

/-- Growth of one refresh at tick `t` from t_v, in units of 10⁻²² ps (R165). -/
def growMs (c : Nat × Nat) (tv t : Nat) : Nat := c.1 * 10 ^ 16 + 8 * c.2 * (t - tv)

/-- Growth over every refresh after t_v up to tick `t` (R165, R182). -/
def growSince (c : Nat × Nat) (tv t : Nat) : Nat :=
  let n := t / ticksPerMs - tv / ticksPerMs
  let r1 := (tv / ticksPerMs + 1) * ticksPerMs
  n * c.1 * 10 ^ 16 + 8 * c.2 * (n * (r1 - tv) + ticksPerMs * (n * (n - 1) / 2))

/-- The slope of R178 at a refresh, and with `k` = 2 the slope announced for the next one (R185), in units of 10⁻³¹. -/
def slopeOf (c : Nat × Nat) (tv t k : Nat) : Nat := c.1 * 10 ^ 16 + c.2 * ((t - tv) * 8 + k * 10 ^ 7)

/-- STATE of DPLLd_STAT: 0 RELEASED, 1 FREE, 2 ACQUIRING, 3 LOCKED, 4 HOLDOVER. -/
def State.dpllState (s : State) (d : Nat) : Nat := s.fld (dpllReg d 8) 29 3

/-- The loop is on the atomic flywheel. -/
def State.onFlywheel (s : State) (d : Nat) : Bool := s.dpllState d = 4 && s.fld (dpllReg d 8) 26 2 = 2

/-- The coefficients by which HOLD grows now: in holdover, while stale, or inherited (R165, R182, R193). -/
def State.growth (s : State) (n : Fin 64) : Option (Nat × Nat) :=
  match s.tbLoop n with
  | none => if s.bnd[n].inherited then some (s.coefs 0 false) else none
  | some d =>
    if s.dpllState d = 4 then some (s.coefs d (s.onFlywheel d))
    else if s.bnd[n].stale || s.bnd[n].inherited then some (s.coefs d false)
    else none

/-! ### Provenance -/

/-- MODE of Table 7.6. -/
def State.provMode (s : State) (n : Fin 64) : Nat :=
  if s.untraceable n then 0
  else if s.bnd[n].inherited then 6
  else match s.tbLoop n with
    | none => 1
    | some d =>
      if s.dpllState d = 4 then (if s.onFlywheel d then 4 else 3)
      else if s.bnd[n].stale then 5
      else if s.bit (selReg d 0x10) 29 then 2 else 1

/-- The provenance code of Table 7.6. -/
def State.prov (s : State) (n : Fin 64) : Word :=
  let l := s.bnd[n]
  let slot : Option (Fin 24) := match l.slot with
    | some k => if h : k < 24 then some ⟨k, h⟩ else none
    | none => none
  let cal := match slot with
    | some k => s.calFor (s.calTarget k).1 (s.calTarget k).2
    | none => none
  let w := fset 0 29 3 (s.provMode n)
  let w := fset w 24 5 (match slot with | some k => k.val | none => 31)
  let w := fset w 16 8 (match slot with | some k => s.plt.plot.refSource k | none => 0)
  let w := fset w 11 5 (match cal with | some c => c.val | none => 0)
  let w := fset w 10 1 (b2n cal.isSome)
  let w := fset w 8 1 (b2n (s.rd (bndReg n 0xC) ≠ 0))
  fset w 0 8 l.epoch.toNat

/-- The port term of Table 7.3 for a lane, ps; `refined` is the lane's sub-tick refinement. -/
def State.portTerm (s : State) (lane : Nat) (refined : Bool) : Nat :=
  let m := s.plt.plot.portMode lane
  let base := match s.calFor 0 lane with
    | none => 2000
    | some c =>
      let fast := decide (4 ≤ m) && decide (m ≤ 7) && s.plt.plot.portHA lane
      max (if fast then 15 else 100) s.cals[c].inForce.uncStamp
  base + (if refined then 0 else 800)

/-- The bound of a frame: the bound at the stamp tick plus the port term, rounded up (R186). -/
def State.frameBound (s : State) (n : Fin 64) (lane : Nat) (refined : Bool) : Nat :=
  if s.untraceable n then 0xFFFFFFFF
  else min (divUp (s.bnd[n].atTick s.tick + s.portTerm lane refined * psU * 10 ^ 7) (250 * psU * 10 ^ 7)) 0xFFFFFFFE

/-- The projection of R185 to a departure tick: past the next refresh the announced slope applies. -/
def Ledger.project (l : Ledger) (t : Nat) : Nat :=
  let nxt := l.baseTick / ticksPerMs * ticksPerMs + ticksPerMs
  if t ≤ nxt then l.atTick t else l.atTick nxt + l.announced * (t - nxt) * 8

end Sys2Proof.Machine
end

