-- ==== Sys2Proof/Machine/OutOps.lean ====
section
/-! DEFINITION. Sys2Proof/Machine/OutOps.lean: the outputs' aligners, curtain behaviour and glides, and the cues (spec/12_outputs_cues.md). -/
namespace Sys2Proof.Machine

/-- A register of output `k`'s page (Table 12.11). -/
def outReg (k o : Nat) : Nat := 0x0B0100 + 0x40 * k + o
/-- A register of APLLk, counted from 0 for APLL1. -/
def apllReg (k o : Nat) : Nat := 0x0B0010 + 0x10 * k + o
/-- A register of cue `c`'s page (Table 12.12). -/
def cueReg (c o : Nat) : Nat := 0x0B0800 + 0x40 * c + o

/-- APLL0 is locked. -/
def State.apll0Locked (s : State) : Bool := s.bit 0x0B0000 0
/-- SYSPLL is locked. -/
def State.sysLocked (s : State) : Bool := s.bit 0x0B0064 31

def State.modOut (s : State) (k : Fin 12) (f : OutSt → OutSt) : State :=
  { s with out := { s.out with outs := s.out.outs.set k (f s.out.outs[k]) } }
def State.modApll (s : State) (k : Fin 4) (f : Apll → Apll) : State :=
  { s with out := { s.out with aplls := s.out.aplls.set k (f s.out.aplls[k]) } }
def State.modCue (s : State) (c : Fin 16) (f : Cue → Cue) : State :=
  { s with out := { s.out with cues := s.out.cues.set c (f s.out.cues[c]) } }

/-- STATE of OUTk_STAT: 0 OFF, 1 FREQ_ONLY, 2 ALIGNING, 3 ALIGNED, 4 COAST. -/
def State.outState (s : State) (k : Nat) : Nat := s.fld (outReg k 4) 29 3

/-- Enters an aligner state; OUTk_REALIGNS counts the entries into ALIGNING. -/
def State.outEnter (s : State) (k st : Nat) : State :=
  let s1 := s.setFld (outReg k 4) 29 3 st
  if st = 2 && s.outState k ≠ 2 then s1.bump (outReg k 0x2C) 1 else s1

/-- The output's APLL, counted from 0 for APLL1. -/
def State.outPll (s : State) (k : Nat) : Nat := s.plt.plot.outApll k - 1

/-- Both time bases follow TB0's rate; TB0 is same-rate by definition (R64). -/
def State.sameRatePair (s : State) (a b : Nat) : Bool :=
  (a = 0 || s.plt.plot.tbSameRate a) && (b = 0 || s.plt.plot.tbSameRate b)

/-- The alignment period of a frequency in µHz: some whole number of seconds from 1 to 1,000 holds an integer number of cycles (R326). -/
def hasAlignPeriod (f : Nat) : Bool := (List.range 1000).any (fun i => f * (i + 1) % 1000000 = 0)

/-- The output is alignable (R326). -/
def State.alignable (s : State) (k : Nat) : Bool :=
  let a := s.outPll k
  let t := s.plt.plot.outTb k
  let slave := s.fld (apllReg a 0) 0 6
  hasAlignPeriod (s.plt.plot.outFreq k) && !s.bit (apllReg a 4) 30 && (slave = t || s.sameRatePair slave t)

/-- The output's reference is lost (R330). -/
def State.outRefLost (s : State) (k : Nat) : Bool := s.tbFenced (s.plt.plot.outTb k) || !s.apll0Locked

/-- The output takes the SQUELCH behaviour: by its plot field, or by MUTE (R339). -/
def State.outSquelch (s : State) (k : Nat) : Bool := s.bit (outReg k 0) 0 || s.plt.plot.outCurtain k = 1

/-- A cause of the curtain behaviour stands: a curtain, its APLL out of lock, or MUTE (R339). -/
def State.outHeldOff (s : State) (k : Nat) : Bool := s.muted || s.bit (outReg k 4) 26 || s.bit (outReg k 0) 0

/-- The state an enabled output starts or restarts in (Table 12.2, R340). -/
def State.outStart (s : State) (k : Nat) : Nat := if s.alignable k then 2 else 1

/-- The output's first rising edge comes at the first grid instant at least 10 µs later (Table 12.2, OFF row). -/
def State.outLow (s : State) (k : Fin 12) : State :=
  s.modOut k fun o => { o with low := true, restartFrom := some s.tick }

/-- Takes up the transitions of Table 12.2 that follow from its reference and its alignability. -/
def State.outSettle (s : State) (k : Fin 12) : State :=
  if s.bit (outReg k 4) 27 then s
  else match s.outState k with
    | 0 => s
    | 1 => if s.alignable k then s.outEnter k 2 else s
    | 4 => if !s.alignable k then s.outEnter k 1
           else if s.outRefLost k then s else s.outEnter k 2
    | _ => if !s.alignable k then s.outEnter k 1
           else if s.outRefLost k then (s.outEnter k 4).raise (outReg k 8) 8 else s

/-- The curtain behaviour of Table 12.6 begins: HOLD freezes the aligner and stops a glide, SQUELCH drives the output low. -/
def State.outHoldOff (s : State) (k : Fin 12) : State :=
  if s.outState k = 0 then s
  else
    let first := !s.bit (outReg k 4) 27
    let s1 := if first then (s.setBit (outReg k 4) 27 true).raise (outReg k 8) 0x20 else s
    let s2 := (s1.modOut k fun o =>
      if s.outSquelch k then { o with low := true, restartFrom := none, glide := none, stopped := none }
      else { o with glide := none, stopped := if o.glide.isSome then o.glide else o.stopped }).setBit (outReg k 4) 28 false
    s2

/-- The release of R340, once no cause stands: a HOLD output enters ALIGNING or FREQ_ONLY and a stopped glide restarts from the frequency reached with the full T_g; a SQUELCH output restarts under the OFF row. `squelched` says which behaviour it had. -/
def State.outRelease (s : State) (k : Fin 12) (squelched : Bool) : State :=
  if s.outHeldOff k || !s.bit (outReg k 4) 27 then s
  else
    let s1 := (s.setBit (outReg k 4) 27 false).outEnter k (s.outStart k)
    if squelched then
      (s1.modOut k fun o => { o with freq := s.plt.plot.outFreq k }).outLow k
    else match s.out.outs[k].stopped with
      | some g => (s1.modOut k fun o => { o with stopped := none, glide := some { g with fromF := o.freq, start := s.tick } }).setBit (outReg k 4) 28 true
      | none => s1

/-- Every output for which `f` holds takes the curtain behaviour. -/
def State.outsHoldOff (s : State) (f : Nat → Bool) : State :=
  (List.finRange 12).foldl (fun s (k : Fin 12) => if f k.val then s.outHoldOff k else s) s

/-- Every output for which `f` holds is released from the curtain behaviour. -/
def State.outsRelease (s : State) (f : Nat → Bool) : State :=
  (List.finRange 12).foldl (fun s (k : Fin 12) => if f k.val then s.outRelease k (s.outSquelch k) else s) s

/-- Every output takes up changes of its reference. -/
def State.outsSettle (s : State) : State := (List.finRange 12).foldl (fun s k => s.outSettle k) s

/-- The period of a frequency in ps is `10^18 / f`; a pulse output runs at 1 kHz or less (R327). -/
def pulseFreq (f : Nat) : Bool := decide (f ≤ 1000000000)

/-- Number of grid instants of frequency `f` (µHz) at or before a time shifted by the phase offset (R326). -/
def gridIndex (f : Nat) (ofs : Int) (t : Nat) : Int :=
  (((t : Int) - ofs * (2 ^ 56 : Nat) / 5000) * (f : Int)) / ((secU * 1000000 : Nat) : Int)

/-- A grid instant of the output falls in the tick just formed (R326, R329). -/
def State.gridDue (s : State) (k : Fin 12) : Bool :=
  let f := s.plt.plot.outFreq k
  let t := s.tbs[(s.plt.plot.outTb k) % 64]'(Nat.mod_lt _ (by decide))
  if s.outState k = 1 then true else gridIndex f s.out.outs[k].phOfs t.prev < gridIndex f s.out.outs[k].phOfs t.value

/-- The plot enables, changes or stops an output: mode 0 is OFF, otherwise it starts low (Table 12.2). -/
def State.outEnable (s : State) (k : Fin 12) : State :=
  if s.plt.plot.outMode k = 0 then
    ((s.setFld (outReg k 4) 29 3 0).setBit (outReg k 4) 28 false).modOut k fun _ => { low := true }
  else
    ((s.outEnter k (s.outStart k)).modOut k fun o => { o with freq := s.plt.plot.outFreq k, glide := none, stopped := none }).outLow k

/-! ### Cues -/

/-- Removes an armed cue: ARMED clears. -/
def State.cueDisarmed (s : State) (c : Fin 16) : State :=
  ((s.modCue c fun q => { q with arm := none }).setBit (cueReg c 8) 31 false).wr (cueReg c 0x30) 0

/-- Cancels a cue at a tick: EVT.CANCELLED, and MISS where the rule counts the cancellation (R347). -/
def State.cueCancel (s : State) (c : Fin 16) (counted : Bool) : State :=
  let s1 := s.cueDisarmed c
  (if counted then s1.bumpSat (cueReg c 0x38) 1 else s1).raise (cueReg c 0xC) 0x10

/-- CUEc_LEFT after index `i` of a train of `n` pulses: 0xFFFF_FFFF for an unlimited train. -/
def cueLeft (a : CueArm) (i : Nat) : Word :=
  if a.period = 0 then BitVec.ofNat 32 (1 - i) else if a.count = 0 then 0xFFFFFFFF else BitVec.ofNat 32 (a.count - i)

/-- The train uses up `n` instants and disarms with DONE after its last one (R344). -/
def State.cueAdvance (s : State) (c : Fin 16) (a : CueArm) (n : Nat) : State :=
  if a.period = 0 || (a.count ≠ 0 && a.count ≤ a.next + n) then
    (s.cueDisarmed c).raise (cueReg c 0xC) 2
  else
    (s.modCue c fun q => { q with arm := some { a with next := a.next + n } }).wr (cueReg c 0x30) (cueLeft a (a.next + n))

/-- Instants of the train, from the next one, at or before `v`; at most those that remain (R345). -/
def cuePassed (a : CueArm) (v : Nat) : Nat :=
  let i := a.first + a.next * a.period
  let n := if a.period = 0 then 1 else (v - i) / a.period + 1
  if a.period ≠ 0 && a.count ≠ 0 then min n (a.count - a.next) else n

/-- The pulse of width `w` ns begins on this tick (R344). -/
def State.cuePulse (s : State) (c : Fin 16) (w : Nat) : State :=
  ((s.modCue c fun q => { q with endTick := some (s.tick + (w * 5 + 3) / 4) }).setBit (cueReg c 8) 30 true).bump (cueReg c 0x34) 1

/-- What a cue does with its next instant on the tick just formed (R344 to R347): a DISARM of an earlier tick cancels it; an instant reached by the time base's own advance fires or is suppressed; one that a step, a leap deletion or the like carried past is skipped. -/
def State.cueTick (s : State) (c : Fin 16) : State :=
  match s.out.cues[c].arm with
  | none => s
  | some a =>
    let n := s.plt.plot.cueTb c % 64
    let t := s.tbs[n]'(Nat.mod_lt _ (by decide))
    let inst := a.first + a.next * a.period
    if (match a.disarm with | some d => decide (d < s.tick) | none => false) then s.cueCancel c false
    else if s.tick ≤ a.armTick || t.value < inst then s
    else if !(t.prev < inst && inst ≤ t.plain) then
      let k := cuePassed a t.value
      ((s.bumpSat (cueReg c 0x38) k).raise (cueReg c 0xC) 4).cueAdvance c a k
    else if s.muted || s.tbFenced n then
      ((s.bumpSat (cueReg c 0x38) 1).raise (cueReg c 0xC) 8).cueAdvance c a 1
    else ((s.cuePulse c a.width).raise (cueReg c 0xC) 1).cueAdvance c a 1

/-- The trailing edge, once its tick has come (R344). -/
def State.cueEnd (s : State) (c : Fin 16) : State :=
  match s.out.cues[c].endTick with
  | none => s
  | some e => if e ≤ s.tick then (s.modCue c fun q => { q with endTick := none }).setBit (cueReg c 8) 30 false else s

/-- A curtain drives a pulse in progress inactive (Table 12.6). -/
def State.cuesCut (s : State) : State :=
  (List.finRange 16).foldl (fun s c => if s.out.cues[c].endTick.isSome then
    (s.modCue c fun q => { q with endTick := none }).setBit (cueReg c 8) 30 false else s) s

/-- The cue's owner: 0xFF the PF and the management SPI, otherwise a VF; the PF may DISARM any cue (R342). -/
def State.cuePerm (s : State) (m : Master) (c : Nat) (disarm : Bool) : Bool :=
  match m with
  | .pf => s.plt.plot.cueOwner c = 0xFF || disarm
  | .mspi => s.plt.plot.cueOwner c = 0xFF
  | .vf v => s.plt.plot.cueOwner c = v.val
  | _ => false

/-- Where a master's access to a cue register is recorded: in the VF page for a VF (R466). -/
def cueAddr (m : Master) (c o : Nat) : Nat := if m.isVf then 0x6000 + 0x40 * c + o else cueReg c o

/-- The checks of a cue write (R342, R349, R56, R449). -/
def State.cueCheck (s : State) (m : Master) (c o : Nat) (v : Word) (disarm : Bool) : Option Err :=
  if s.pwr.por || s.dark || !s.cuePerm m c disarm then some .perm
  else if s.access m.idx 11 ≠ 3 then some .plot
  else match findReg (cueReg c o) with
    | none => some .perm
    | some d =>
      if d.readOnly then some .perm
      else if (d.badReserved (s.rd (cueReg c o)) v && !s.manufacture) || d.badZero v || d.badRange v then some .range
      else if !s.plt.plot.inLimits (cueReg c o) v.toNat then some .plot
      else none

/-- A rejected cue write or command: the master's record and CUEc_STAT.LAST_ERR. -/
def State.cueReject (s : State) (m : Master) (c o : Nat) (e : Err) : State :=
  if s.pwr.por then s else (s.recordErr m.idx e false true (cueAddr m c o)).setFld (cueReg c 8) 8 8 e.code

/-- CUEc_PERIOD in units of 2⁻¹⁶ ns. -/
def State.cuePeriod (s : State) (c : Nat) : Nat := (s.rd (cueReg c 0x24)).toNat * 2 ^ 32 + (s.rd (cueReg c 0x20)).toNat

/-- The checks of ARM (R343, R27, Table 12.7: an instant at or before the decode tick fails). -/
def State.cueArmErr (s : State) (c : Fin 16) : Option Err :=
  let p := s.cuePeriod c
  let w := (s.rd (cueReg c 0x2C)).toNat
  let inst := s.timeAt (cueReg c 0x10)
  let now := (s.tbs[s.plt.plot.cueTb c % 64]'(Nat.mod_lt _ (by decide))).value
  if p ≠ 0 && (p < 100 * 2 ^ 16 || 1000 * 1000000000 * 2 ^ 16 < p) then some .range
  else if w < 2 || 1000000000 < w then some .range
  else if p ≠ 0 && p < (w + 2) * 2 ^ 16 then some .range
  else if s.out.cues[c].arm.isSome then some .busy
  else if inst ≤ now || now + horizon < inst then some .time
  else none

/-- CUEc_CMD = ARM (R343). -/
def State.cueArmCmd (s : State) (m : Master) (c : Fin 16) : State :=
  match s.cueCheck m c 4 1 false with
  | some e => s.cueReject m c 4 e
  | none =>
    match s.cueArmErr c with
    | some e => s.cueReject m c 4 e
    | none =>
      let a : CueArm := ⟨s.timeAt (cueReg c 0x10), s.cuePeriod c * 2 ^ 40, (s.rd (cueReg c 0x28)).toNat,
        (s.rd (cueReg c 0x2C)).toNat, 0, s.tick, none⟩
      ((s.modCue c fun q => { q with arm := some a }).setBit (cueReg c 8) 31 true).wr (cueReg c 0x30) (cueLeft a 0)

/-- CUEc_CMD = DISARM (R347): nothing to cancel where the cue is not armed. -/
def State.cueDisarmCmd (s : State) (m : Master) (c : Fin 16) : State :=
  match s.cueCheck m c 4 2 true with
  | some e => s.cueReject m c 4 e
  | none => s.modCue c fun q => { q with arm := q.arm.map fun a =>
      { a with disarm := if a.disarm.isSome then a.disarm else some s.tick } }

/-- A write to CUEc_CMD by value (Table 12.15). -/
def State.cueCmd (s : State) (m : Master) (c : Fin 16) (v : Word) : State :=
  match v.toNat with
  | 1 => s.cueArmCmd m c
  | 2 => s.cueDisarmCmd m c
  | _ => match s.cueCheck m c 4 v false with
    | some e => s.cueReject m c 4 e
    | none => s.cueReject m c 4 .range

/-- A write to a cue register other than CMD, from BAR0 or from the owner's VF page. -/
def State.cueWrite (s : State) (m : Master) (c : Fin 16) (o : Nat) (v : Word) : State :=
  if o = 4 then s.cueCmd m c v
  else match s.cueCheck m c o v false with
    | some e => s.cueReject m c o e
    | none => if o = 0xC then s.rsqWrite (cueReg c o) v else s.plainWrite m (cueReg c o) v

end Sys2Proof.Machine
end

