-- ==== Sys2Proof/Machine/ServoOps.lean ====
section
/-! DEFINITION. Sys2Proof/Machine/ServoOps.lean: the DPLL state machine (Table 6.4), selectors (R136 to R145) and the qualification of slots (Table 5.4). -/
namespace Sys2Proof.Machine

def State.modRef (s : State) (n : Fin 24) (f : Ref → Ref) : State := { s with refs := s.refs.set n (f s.refs[n]) }
def State.modSel (s : State) (d : Fin 16) (f : Sel → Sel) : State := { s with sels := s.sels.set d (f s.sels[d]) }
def State.modDpll (s : State) (d : Fin 16) (f : Dpll → Dpll) : State := { s with dplls := s.dplls.set d (f s.dplls[d]) }

/-- The time base a TIME-kind loop serves; none for a FREQ-kind loop (R149, R136). -/
def State.loopTb (s : State) (d : Nat) : Option (Fin 64) :=
  match s.plt.plot.dpllTb d with
  | some n => if h : n < 64 then some ⟨n, h⟩ else none
  | none => none

/-- Signed TAI − UTC of a UTC time base, 0 otherwise (R84). -/
def State.taiUtc (s : State) (n : Nat) : Int :=
  if s.plt.plot.tbScale n = 1 then signed 16 (s.fld (tbReg n 0x78) 16 16) else 0

/-- The slot is a CLKIN at 1 Hz: it bears time modulo 1 s (R118). -/
def State.oneHz (s : State) (k : Fin 24) : Bool := isClkin (s.plt.plot.refSource k) && s.refs[k].rate = 1000000

/-- Brings a phase into half a second either side of 0 (R118). -/
def modSecond (p : Int) : Int :=
  let r := p % (secU : Int)
  if 2 * r > (secU : Int) then r - secU else r

/-- The slot's phase against the time base is known modulo 1 s: a 1 Hz input, or a GNSS slot on a free-timescale time base (R118, R225). -/
def State.modOne (s : State) (k : Fin 24) (n : Nat) : Bool :=
  s.oneHz k || (isGnss (s.plt.plot.refSource k) && s.plt.plot.tbScale n = 2)

/-- The slot's latest phase against a time base, by the epoch relation (R78, R142). -/
def State.phaseVs (s : State) (k : Fin 24) (n : Fin 64) : Option Int :=
  s.refs[k].phase.map fun p =>
    let q := p - ((s.tbs[n].value : Int) - (s.tb0 : Int) + s.taiUtc n * secU)
    if s.modOne k n then modSecond q else q

/-- A slot that bears seconds: GNSS, PTP or wings (R118). -/
def State.bearsSeconds (s : State) (k : Fin 24) : Bool :=
  let src := s.plt.plot.refSource k
  isGnss src || isPtp src || isWings src

/-- SELd_REMAIN, in units of 0.25 ns with the magnitude rounded up (R503). -/
def State.setRemain (s : State) (d : Fin 16) (r : Int) : State :=
  (s.modSel d fun q => { q with remain := r, pullAt := s.tick }).wr (selReg d 0x18) (sat32 (divAway r (2 ^ 54)))

/-- A pull is in progress (SELd_STAT.SWITCHING). -/
def State.switching (s : State) (d : Nat) : Bool := s.bit (selReg d 0x10) 29

/-- The bandwidth ceiling of the selected slot (Table 6.2). -/
def State.bwCeiling (s : State) (d : Nat) (k : Fin 24) : Nat :=
  let src := s.plt.plot.refSource k
  if s.oneHz k then 7 else if isGnss src then 8 else if isPtp src then 11 else if isWings src then 15
  else if s.bit (dpllReg d 0) 8 then 23 else 17

/-- Enters a state of Table 6.4 and shows the bandwidth code in effect (R152). -/
def State.dpllEnter (s : State) (d : Fin 16) (st : Nat) : State :=
  let s1 := s.setFld (dpllReg d 8) 29 3 st
  let code := match st with | 2 => s.fld (dpllReg d 4) 8 5 | 3 => s.fld (dpllReg d 4) 0 5 | _ => 0
  let eff := match s.selected d with | some k => min code (s.bwCeiling d k) | none => 0
  let fast := s.bit (dpllReg d 0) 8 && (st = 2 || st = 3) && (match s.selected d with
    | some k => let src := s.plt.plot.refSource k
                (isClkin src && !s.oneHz k) || isAtom src || isSyncE src
    | none => false)
  let s2 := ((s1.setFld (dpllReg d 8) 17 5 eff).setBit (dpllReg d 8) 22 fast).modDpll d fun q => { q with lockSince := none, lastVer := s.tick }
  match s.loopTb d with
  | some n => if st = 2 || st = 3 then s2 else s2.modBnd n fun l => { l with firstSince := none, firstPeak := 0 }
  | none => s2

/-- Flags of DPLLd_EVT. -/
def State.dpllEvent (s : State) (d mask : Nat) : State := s.raise (dpllReg d 0xC) mask

/-- The first whole TB0 millisecond at least 2 ms ahead (R157). -/
def stepInstant (now : Nat) : Nat :=
  let ms := 1000000 * 2 ^ 56
  divUp (now + 2 * ms) ms * ms

/-- Entry to ACQUIRING of a TIME loop: the first time-set arms a step where R157 lets it, otherwise the loop pulls by `p`. -/
def State.acquire (s : State) (d : Fin 16) (n : Fin 64) (k : Fin 24) : State :=
  let s1 := ((s.dpllEnter d 2).setFld (dpllReg d 8) 0 5 k).setBit (selReg d 0x10) 29 false
  match s.phaseVs k n with
  | none => (s1.setRemain d 0).modSel d fun q => { q with noPhase := true }
  | some p =>
    let s2 := s1.modSel d fun q => { q with noPhase := false }
    if s.bit (dpllReg d 0) 7 && s.untraceable n && (s.rd (dpllReg d 0x38)).toNat * 2 ^ 56 < p.natAbs
        && s.bearsSeconds k && !s.modOne k n && s.tbs[n].step.isNone then
      (s2.modTb n fun t => { t with step := some ⟨p.natAbs, decide (p < 0), stepInstant s.tb0⟩ }).modDpll d fun q =>
        { q with stepping := true }
    else
      let s3 := (s2.setRemain d p).setBit (selReg d 0x10) 29 (p ≠ 0)
      if p = 0 then s3.raise (selReg d 0x14) 4 else s3

/-- Terms of a slot for the ledger at a switch start (Table 5.7, Table 7.2). -/
def State.switchTerms (s : State) (d : Fin 16) (k : Fin 24) (hold : Option Nat) : Falls :=
  { ref := some (s.refOf d k), meas := some (s.measOf k), path := some (s.pathOf k), quant := some (s.quantOf k),
    switch := some (phasePs s.sels[d].remain), hold := hold }

/-- The ledger of a TIME loop's time base takes a switch start (Table 5.7); a slot without an upper limit makes it untraceable (R502). -/
def State.ledgerToSlot (s : State) (d : Fin 16) (n : Fin 64) (k : Fin 24) (hold : Option Nat) : State :=
  let s1 := (s.ledgerSwitch n (s.switchTerms d k hold)).modBnd n fun l => { l with slot := some k.val }
  if !isGnss (s.plt.plot.refSource k) && (accLimit (s.effQ d k % 256)).isNone then s1.untrace n 12 else s1

/-- Writes an increment from the DPLL for the next tick: nominal + trunc(nominal × y); not on a same-rate time base (R150, R64). -/
def State.dpllInc (s : State) (n : Fin 64) (y : Int) : State :=
  if s.plt.plot.tbSameRate n then s
  else s.modTb n fun t => { t with incWrite := some (((nominalInc : Int) + ((nominalInc : Int) * y).tdiv (2 ^ 64 : Nat)).toNat, false) }

/-- Shows a control value (DPLLd_CV) or the frozen one (DPLLd_HO_CV). -/
def State.showCv (s : State) (d o : Nat) (y : Int) : State :=
  (s.wr (dpllReg d o) (BitVec.ofInt 32 y)).wr (dpllReg d (o + 4)) (BitVec.ofInt 32 (y / (2 ^ 32 : Nat)))

/-- The control value in DPLLd_CV. -/
def State.cv (s : State) (d : Nat) : Int :=
  signed 64 ((s.rd (dpllReg d 0x14)).toNat * 2 ^ 32 + (s.rd (dpllReg d 0x10)).toNat)

/-- The mean of the integrator over the interval of R161, or over what history there is, or the present integrator. -/
def State.frozenCv (s : State) (d : Fin 16) : Int :=
  let g := (s.rd (dpllReg d 0x40)).toNat * ticksPerMs
  let a := (s.rd (dpllReg d 0x3C)).toNat * ticksPerS
  let before := s.dplls[d].history.filter (fun p => p.1 + g ≤ s.tick)
  let inside := before.filter (fun p => s.tick ≤ p.1 + g + a)
  if inside.isEmpty then s.dplls[d].integ
  else (inside.foldl (fun (x : Int) (p : Nat × Int) => x + p.2) 0).tdiv inside.length

/-- Entry to HOLDOVER (R161, R162, R168): freeze at y_h; the pull stops; HOLD grows from t_v. -/
def State.dpllHoldover (s : State) (d : Fin 16) : State :=
  let y := s.frozenCv d
  let s1 := (((((s.dpllEnter d 4).setFld (dpllReg d 8) 26 2 1).showCv d 0x10 y).showCv d 0x18 y).dpllEvent d 4).setBit (selReg d 0x10) 29 false
  match s.loopTb d with
  | none => s1
  | some n =>
    let q := s.dplls[d]
    let s2 := s1.dpllInc n y
    let s3 := if q.exitVerified then s2 else
      s2.modBnd n fun l => { l with tv := q.exitTv, hold := max l.hold q.exitGrowth }
    let s4 := s3.ledgerRise n { hold := some (growSince (s.coefs d false) s3.bnd[n].tv s.tick) }
    let s5 := s4.modBnd n fun l => { l with stale := false, tb0AtTv := if s.plt.plot.tbSameRate n then l.tb0Tv else 0, tb0Max := if s.plt.plot.tbSameRate n then l.tb0Track else 0 }
    if q.verified then s5 else if s5.untraceable n then s5 else s5.untrace n 1

/-- The loop writes nothing more: RELEASED (Table 6.4). -/
def State.dpllRelease (s : State) (d : Fin 16) : State :=
  ((((s.dpllEnter d 0).setFld (dpllReg d 8) 26 2 0).setBit (selReg d 0x10) 29 false).modDpll d fun q =>
    { q with stepping := false, verified := false, exitVerified := true, peaks := [], acquireNext := false })

/-- RELEASED to FREE: the integrator takes the frequency found; ACQUIRING begins on the next tick where a slot is selected (Table 6.4). -/
def State.dpllFree (s : State) (d : Fin 16) (integ : Int) : State :=
  (s.dpllEnter d 1).modDpll d fun q =>
    { q with integ := integ, acquireNext := (s.selected d).isSome, history := [] }

/-- The frequency of an increment against the nominal one, units of 2⁻⁶⁴ (Table 6.4). -/
def incOffset (inc : Nat) : Int := (((inc : Int) - nominalInc) * (2 ^ 64 : Nat)).tdiv nominalInc

/-- The holdover exit of a TIME loop with distance `r` to the new slot (R167, R168). -/
def State.holdoverExit (s : State) (d : Fin 16) (n : Fin 64) (k : Fin 24) (r : Int) : State :=
  let q := s.dplls[d]
  let b := s.bnd[n].ps s.tick
  let lim := if isGnss (s.plt.plot.refSource k) then some s.refs[k].unc else accLimit (s.effQ d k % 256)
  let s1 := ((s.setFld (dpllReg d 8) 26 2 0).dpllEvent d 8).modDpll d fun _ =>
    { q with integ := s.cv d, exitVerified := false, exitTv := s.bnd[n].tv, exitGrowth := s.bnd[n].hold }
  match lim with
  | none => (((s1.untrace n 12).modBnd n fun l => { l with slot := some k.val, hold := 0 })).acquire d n k
  | some u =>
    if s.untraceable n || phasePs r ≤ b + u then (s1.acquire d n k).ledgerToSlot d n k (some 0)
    else
      (((s1.untrace n 4).dpllEvent d 0x40).modBnd n fun l => { l with slot := some k.val, hold := 0 }).acquire d n k

/-- The loop takes a slot its selector has selected (Table 6.4). -/
def State.dpllTake (s : State) (d : Fin 16) (k : Fin 24) : State :=
  match s.loopTb d with
  | none =>
    match s.dpllState d with
    | 0 => s
    | st =>
      let s1 := if st = 4 then (s.setFld (dpllReg d 8) 26 2 0).dpllEvent d 8 else s
      ((s1.dpllEnter d 2).setFld (dpllReg d 8) 0 5 k).modDpll d fun q => { q with zero := s.refs[k].phase.getD 0 }
  | some n =>
    match s.dpllState d with
    | 0 => s
    | 4 => match s.phaseVs k n with
      | none => s.modSel d fun q => { q with noPhase := true }
      | some r => s.holdoverExit d n k r
    | _ => (s.acquire d n k).ledgerToSlot d n k none

/-- The loop loses its slot: ACQUIRING and LOCKED go to HOLDOVER (Table 6.4). -/
def State.dpllLose (s : State) (d : Fin 16) : State :=
  if s.dpllState d = 2 || s.dpllState d = 3 then s.dpllHoldover d
  else s.modDpll d fun q => { q with acquireNext := false }

/-! ### Selection -/

/-- STATE of REFn_STAT: 0 UNUSED, 1 QUALIFYING, 2 QUALIFIED, 3 DEGRADED, 4 DISQUALIFIED. -/
def State.refState (s : State) (k : Nat) : Nat := s.fld (refReg k 4) 29 3
/-- The live monitor bits. -/
def State.live (s : State) (k : Nat) : Nat := s.fld (refReg k 4) 0 12
/-- Hard and soft monitors of Table 5.3. -/
def hardMask : Nat := 0xD5F
def softMask : Nat := 0x2A0

/-- A TIME selector accepts the slot's kind: time-bearing, or a CLKIN whose rate may be 1 Hz (R136). -/
def State.timeKind (s : State) (k : Nat) : Bool :=
  let src := s.plt.plot.refSource k
  isGnss src || isPtp src || isWings src || (isClkin src && [0, 1, 7].contains (s.plt.plot.refRateList k))

/-- The slot is selectable by the selector (R137, R118). -/
def State.selectable (s : State) (d : Fin 16) (k : Fin 24) : Bool :=
  let st := s.refState k
  s.bit (selReg d 4) k && (st = 2 || st = 3) && s.effQ d k / 256 ≠ 7 &&
  (match s.loopTb d with
   | none => true
   | some n => s.timeKind k && (!isClkin (s.plt.plot.refSource k) || s.oneHz k) && (!s.modOne k n || !s.untraceable n))

/-- The ranking key (state, Q, PRIO, n), lower first (R137). -/
def State.rankKey (s : State) (d : Fin 16) (k : Fin 24) : Nat :=
  (((if s.refState k = 2 then 0 else 1) * 65536 + s.effQ d k) * 256 + s.fld (refReg k 0x10) 0 8) * 32 + k.val

/-- The pair (state, class) by which a non-revertive selector judges (R139). -/
def State.pairKey (s : State) (d : Fin 16) (k : Fin 24) : Nat :=
  (if s.refState k = 2 then 0 else 1) * 256 + s.effQ d k / 256

/-- The first of the selectable slots in the ranking. -/
def State.best (s : State) (d : Fin 16) : Option (Fin 24) :=
  (List.finRange 24).foldl (fun b k =>
    if s.selectable d k then
      match b with
      | none => some k
      | some j => if s.rankKey d k < s.rankKey d j then some k else b
    else b) none

/-- What the selector's mode chooses (R139, R140); while ALIGNING a TIME selector takes only the wings slot (R395). -/
def State.choice (s : State) (d : Fin 16) : Option (Fin 24) :=
  if s.role = 2 && (s.loopTb d).isSome then (List.finRange 24).find? (fun k => isWings (s.plt.plot.refSource k) && s.selectable d k)
  else match s.fld (selReg d 0) 0 2 with
  | 1 => if h : s.fld (selReg d 0) 8 5 < 24 then
      (if s.selectable d ⟨_, h⟩ then some ⟨_, h⟩ else none) else none
  | 2 => none
  | _ =>
    match s.selected d, s.best d with
    | some c, some b =>
      if s.bit (selReg d 0) 4 || !s.selectable d c then some b
      else if s.pairKey d b < s.pairKey d c then some b else some c
    | _, b => b

/-- One evaluation of a selector (R139 to R143). -/
def State.selEval (s : State) (d : Fin 16) : State :=
  let s := if s.fld (selReg d 0) 0 2 = 1 && s.role ≠ 2 && (s.choice d).isNone then s.raise (selReg d 0x14) 0x10 else s
  match s.choice d with
  | none =>
    match s.selected d with
    | none => s
    | some _ => (((s.setBit (selReg d 0x10) 30 true).setBit (selReg d 0x10) 29 false).raise (selReg d 0x14) 8).dpllLose d
  | some k =>
    if s.selected d = some k then s
    else
      let s1 := ((s.setFld (selReg d 0x10) 8 5 (s.sels[d].lastSel.getD 31)).setFld (selReg d 0x10) 0 5 k).setBit (selReg d 0x10) 30 false
      let s2 := ((s1.modSel d fun q => { q with lastSel := some k.val, noPhase := false }).bump (selReg d 0x1C) 1).raise (selReg d 0x14)
        (if s.switching d then 3 else 1)
      s2.dpllTake d k

/-- Every selector evaluates (R133). -/
def State.selEvalAll (s : State) : State := (List.finRange 16).foldl (fun s d => s.selEval d) s

/-- The selectors whose time base changed between finite and untraceable since `before` evaluate (R139). -/
def State.selFollow (s before : State) : State :=
  (List.finRange 16).foldl (fun s (d : Fin 16) => match before.loopTb d with
    | none => s
    | some n => if s.untraceable n ≠ before.untraceable n then s.selEval d else s) s

/-! ### Qualification -/

/-- The monitors that act on a source kind (Table 5.1). -/
def monitorMask (src : Nat) : Nat :=
  if isClkin src then 0x8FF else if isGnss src || isWings src then 0xCF1 else if isAtom src then 0x8F7
  else if isPtp src then 0xFF1 else if isSyncE src then 0xCF7 else 0

/-- Enters a qualification state; STATE_CHG is set on every change (R129). -/
def State.refEnter (s : State) (k st : Nat) : State :=
  if s.refState k = st then s else (s.setFld (refReg k 4) 29 3 st).raise (refReg k 8) 0x1000

/-- A duration in ticks of the register at `o` of a slot, in seconds. -/
def State.refSecs (s : State) (k o : Nat) : Nat := (s.rd (refReg k o)).toNat * ticksPerS

/-- The tick at which a timer started now expires: REFn_WTR or REFn_QUAL_TIME, and with WTR = 0 the next tick (R131, R132). -/
def State.refDue (s : State) (k : Nat) : Nat :=
  s.tick + max 1 (s.refSecs k (if s.bit (refReg k 4) 28 then 0x44 else 0x40))

/-- A calibration record of a target that waits takes effect: the slot enters QUALIFYING, or the lane's link comes up (R188). -/
def State.calSettle (s : State) (kind idx : Nat) : State :=
  (List.finRange 32).foldl (fun s (c : Fin 32) => match s.cals[c].wait with
    | none => s
    | some r =>
      if r.kind = kind && r.index = idx then (s.modCal c fun q => { q with inForce := r, wait := none }).setBit (calReg c 0) 30 false
      else s) s

/-- Sets the live bits of `on` and clears those of `off` among the monitors of the slot's kind; each bit that sets is recorded in the history (R129). -/
def State.refLive (s : State) (k : Fin 24) (on off : Nat) : State :=
  let m := monitorMask (s.plt.plot.refSource k)
  let old := s.live k
  let new := (old &&& (0xFFF ^^^ (off &&& m))) ||| (on &&& m)
  if s.refState k = 0 then s
  else (s.setFld (refReg k 4) 0 12 new).raise (refReg k 8) (new &&& (0xFFF ^^^ old))

/-- A rate identification starts: RATE is live until a rate is found (R123). -/
def State.identify (s : State) (k : Fin 24) : State :=
  if isClkin (s.plt.plot.refSource k) then (s.refLive k 8 0).modRef k fun r => { r with identifying := true } else s

/-- The transitions of Table 5.4 that the present live bits make, timers included; an expired timer is not among them. -/
def State.refSettle (s : State) (k : Fin 24) : State :=
  let hard := s.live k &&& hardMask
  let soft := s.live k &&& softMask
  match s.refState k with
  | 1 =>
    if hard ≠ 0 then s.modRef k fun r => { r with timer := none }
    else if s.refs[k].timer.isSome then s
    else s.modRef k fun r => { r with timer := some (s.refDue k) }
  | 2 =>
    if hard ≠ 0 then s.refEnter k 4
    else if soft ≠ 0 then (s.refEnter k 3).modRef k fun r => { r with softClear := none } else s
  | 3 =>
    if hard ≠ 0 then s.refEnter k 4
    else s.modRef k fun r => { r with softClear := if soft ≠ 0 then none else (if r.softClear.isSome then r.softClear else some s.tick) }
  | 4 =>
    if hard = 0 then
      let s1 := (((s.refEnter k 1).setBit (refReg k 4) 28 true).calSettle (s.calTarget k).1 (s.calTarget k).2).identify k
      s1.modRef k fun r => { r with timer := if s1.live k &&& hardMask = 0 then some (s.refDue k) else none }
    else s
  | _ => s

/-- A change of monitor bits with the transitions and the selector evaluations it leads to (R133). -/
def State.refMonitor (s : State) (k : Fin 24) (on off : Nat) : State :=
  let s1 := (s.refLive k on off).refSettle k
  if s1.refState k ≠ s.refState k then s1.selEvalAll.selFollow s else s1

end Sys2Proof.Machine
end

