-- ==== Sys2Proof/Machine/TdcOps.lean ====
section
/-! DEFINITION. Sys2Proof/Machine/TdcOps.lean: TDC windows, stamps and FIFOs, and the lane phase channels (spec/04_tdc_measurement.md, R90 to R111). -/
namespace Sys2Proof.Machine

/-- A register of channel `n` (Table 4.7). -/
def tdcReg (n o : Nat) : Nat := 0x030100 + 0x40 * n + o

def State.modTdc (s : State) (n : Fin 24) (f : TdcCh → TdcCh) : State :=
  { s with tdc := { s.tdc with ch := s.tdc.ch.set n (f s.tdc.ch[n]) } }

/-- The VENDOR world owns the channel (Table 4.1). -/
def State.tdcVendor (s : State) (n : Nat) : Bool :=
  if n < 8 then (List.range 24).any (fun k => s.plt.plot.refSource k = 0x10 + n)
  else decide (16 ≤ n)

/-- A master acts for the owner of the channel (R90, R91). -/
def State.tdcOwns (s : State) (m : Master) (n : Nat) : Bool := if s.tdcVendor n then m.isCore else m.host

/-- The line is locked (R93). -/
def State.tdcLocked (s : State) (n : Nat) : Bool := s.bit 0x030010 n

/-- The channel is armed; a window is open. -/
def State.tdcArmed (s : State) (n : Nat) : Bool := s.bit (tdcReg n 8) 1
def State.tdcIsOpen (s : State) (n : Nat) : Bool := s.bit (tdcReg n 8) 2

def State.tdcMode (s : State) (n : Nat) : Nat := s.fld (tdcReg n 0) 0 2
def State.tdcKind (s : State) (n : Nat) : Nat := s.fld (tdcReg n 0) 8 2
def State.tdcSel (s : State) (n : Nat) : Nat := s.fld (tdcReg n 0) 2 6

/-- The time base of an epoch start. -/
def State.tdcTb (s : State) (n : Nat) : Tb := s.tbs[s.tdcSel n % 64]'(Nat.mod_lt _ (by decide))

/-- The channel index of the input that an edge start uses: CLKIN i is input i, CAP i is input 8 + i. -/
def State.tdcStartInput (s : State) (n : Nat) : Option Nat :=
  match s.tdcKind n with
  | 1 => some (8 + s.tdcSel n)
  | 2 => some (s.tdcSel n)
  | _ => none

/-- Nanoseconds in a register, in units of 2⁻⁵⁶ ns. -/
def State.nsAt (s : State) (off : Nat) : Nat := (s.rd off).toNat * 2 ^ 56

/-- The 64-bit stamp of an edge (Table 4.3). -/
def Edge.word (e : Edge) : BitVec 64 :=
  BitVec.ofNat 64 ((e.tick % 2 ^ 40) * 2 ^ 24 + e.tap * 2 ^ 15 + e.flags)

/-- Order of stamps by (COARSE, TAP). -/
def Edge.key (e : Edge) : Nat := e.tick * 512 + e.tap

/-- The FIFO of a channel, with FIFO_ENT following it (R109); the block's vector fires if its condition rises. -/
def State.setFifo (s : State) (n : Fin 24) (f : List (BitVec 64)) : State :=
  ((s.modTdc n fun c => { c with fifo := f }).setFld (tdcReg n 8) 8 7 f.length).irqRise s 3

/-- Adds `k` to TDCn_MISS (R104). -/
def State.tdcMiss (s : State) (n k : Nat) : State := s.bumpSat (tdcReg n 0x3C) k

/-- Insertion of a stop by (COARSE, TAP). -/
def insertEdge (e : Edge) : List Edge → List Edge
  | [] => [e]
  | a :: t => if e.key < a.key then e :: a :: t else a :: insertEdge e t

/-- The EARLY and COINC flags of a stop against the start (R103). -/
def stopFlags (st e : Edge) : Edge :=
  { e with flags := e.flags + (if e.key < st.key then 2 else 0) + (if e.key = st.key then 1 else 0) }

/-- OVF in the last record of a window that saw more than 16 stops (R104). -/
def markLast : List Edge → List Edge
  | [] => []
  | [e] => [{ e with flags := e.flags + 4 }]
  | a :: t => a :: markLast t

/-- The records of a closed window: the start record first, then the stops in order (R105). -/
def windowRecords (c : TdcCh) (st : Edge) : List (BitVec 64) :=
  let stops := (c.stops.foldl (fun l e => insertEdge e l) []).map (stopFlags st)
  let stops := if c.ovf then markLast stops else stops
  ({ st with flags := st.flags + 0x80 + (if c.ovf then 4 else 0) } : Edge).word :: stops.map Edge.word

/-- Pushes a window whole, or drops it (R105). -/
def State.tdcPush (s : State) (n : Fin 24) (recs : List (BitVec 64)) : State :=
  let f := s.tdc.ch[n].fifo
  if 64 < f.length + recs.length then s.bumpSat (tdcReg n 0x38) 1 else s.setFifo n (f ++ recs)

/-- The first epoch of a sequence after a value, and the number of epochs passed over; `k` bounds the search by division. -/
def nextEpoch (epoch period v : Nat) : Nat × Nat :=
  if period = 0 then (epoch, 0)
  else if v < epoch then (epoch, 0)
  else let k := (v - epoch) / period + 1; (epoch + k * period, k)

/-- PERIODIC: the next epoch, with every epoch at or before the time base's value skipped and counted (R106). -/
def State.tdcPeriodic (s : State) (n : Fin 24) : State :=
  let c := s.tdc.ch[n]
  let p := s.nsAt (tdcReg n 0x18)
  let r := nextEpoch (c.epoch + p) p (s.tdcTb n).value
  (s.modTdc n fun c => { c with epoch := r.1 }).tdcMiss n r.2

/-- Closes the open window with the start record `st`, and arms the next window or disarms (R102, R105, R106). `stop` ends the channel. -/
def State.tdcClose (s : State) (n : Fin 24) (st : Edge) (stop : Bool) : State :=
  let c := s.tdc.ch[n]
  let s1 := (s.tdcPush n (windowRecords c st)).setBit (tdcReg n 8) 2 false
  let s2 := s1.modTdc n fun c => { c with start := none, stops := [], ovf := false, deadEnd := s.tick + 16, disarm := none }
  if stop || s.tdcMode n = 0 then s2.setBit (tdcReg n 8) 1 false
  else if s.tdcMode n = 1 then s2.tdcPeriodic n else s2

/-- The start record of a window without a start (R102). -/
def noStart (tick : Nat) : Edge := ⟨tick, 0, 0x40⟩

/-- TDC_WINDOW_OPEN: an armed channel whose opening instant has come (R102). -/
def State.tdcTryOpen (s : State) (n : Fin 24) : State :=
  let c := s.tdc.ch[n]
  if s.tdcArmed n && !s.tdcIsOpen n && c.disarm.isNone && c.deadEnd ≤ s.tick && c.armTick < s.tick &&
      (s.tdcKind n ≠ 0 || decide (c.epoch ≤ (s.tdcTb n).value + s.nsAt (tdcReg n 0xC))) then
    (s.modTdc n fun c => { c with openTick := s.tick, start := none, stops := [], ovf := false }).setBit (tdcReg n 8) 2 true
  else s

/-- TDC_EPOCH_START: the first tick at which the time base is at or past the epoch (R101). -/
def State.tdcTryStart (s : State) (n : Fin 24) : State :=
  let c := s.tdc.ch[n]
  let t := s.tdcTb n
  if s.tdcIsOpen n && s.tdcKind n = 0 && c.start.isNone && decide (c.epoch ≤ t.value) then
    let busy := if s.tdcLocked n then 0 else 0x10
    let tap := if t.prev < t.value then 512 * (c.epoch - t.prev) / (t.value - t.prev) else 512
    let st : Edge :=
      if t.stepped then ⟨s.tick, 0, 8 + busy⟩
      else if 512 ≤ tap then ⟨s.tick, 0, busy⟩ else ⟨s.tick - 1, tap, busy⟩
    s.modTdc n fun c => { c with start := some st }
  else s

/-- TDC_WINDOW_CLOSE: tick Z, or the first tick after a DISARM (R102, R108). -/
def State.tdcTryClose (s : State) (n : Fin 24) : State :=
  let c := s.tdc.ch[n]
  match c.disarm with
  | some d =>
    if d < s.tick then
      if s.tdcIsOpen n then s.tdcClose n (c.start.getD (noStart s.tick)) true
      else (s.setBit (tdcReg n 8) 1 false).modTdc n fun c => { c with disarm := none }
    else s
  | none =>
    match c.start with
    | some st =>
      if s.tdcIsOpen n && decide (st.tick + (s.rd (tdcReg n 0x10)).toNat ≤ s.tick) then s.tdcClose n st false else s
    | none => s

/-- TDC_WINDOW_TIMEOUT: an edge-start window without a start (R102). -/
def State.tdcTryTimeout (s : State) (n : Fin 24) : State :=
  let c := s.tdc.ch[n]
  if s.tdcIsOpen n && s.tdcKind n ≠ 0 && c.start.isNone && decide (c.openTick + (s.rd (tdcReg n 0x14)).toNat ≤ s.tick) then
    s.tdcClose n (noStart s.tick) false
  else s

/-- What the channels do on a tick, in the order open, start, timeout, close. -/
def State.tdcTick (s : State) : State :=
  (List.finRange 19).foldl (fun s (j : Fin 19) =>
    let n : Fin 24 := ⟨j.val, Nat.lt_of_lt_of_le j.isLt (by decide)⟩
    (((s.tdcTryOpen n).tdcTryStart n).tdcTryTimeout n).tdcTryClose n) s

/-- The polarity of an edge is one that STOP_EDGE takes. -/
def State.tdcTakes (s : State) (n : Nat) (fall : Bool) : Bool :=
  match s.fld (tdcReg n 0) 10 2 with
  | 0 => !fall
  | 1 => fall
  | _ => true

/-- Stamps closer than 1.6 ns, that is 1,024 taps, are not stamped (Table 4.2). -/
def tooClose (a : Option Edge) (e : Edge) : Bool :=
  match a with
  | some x => decide (e.key < x.key + 1024)
  | none => false

/-- A stop on channel `n` after its divider (R103, R104). -/
def State.tdcStop (s : State) (n : Fin 24) (e : Edge) : State :=
  let c := s.tdc.ch[n]
  let past := match c.start with
    | some st => decide (st.tick + (s.rd (tdcReg n 0x10)).toNat ≤ e.tick)
    | none => false
  if !s.tdcArmed n || !s.tdcIsOpen n || past || tooClose c.lastStop e then s.tdcMiss n 1
  else if 16 ≤ c.stops.length then (s.modTdc n fun c => { c with ovf := true, lastStop := some e }).tdcMiss n 1
  else s.modTdc n fun c => { c with stops := c.stops ++ [e], lastStop := some e }

/-- An edge at the input of channel `i`: at the present tick, tap `tap`. It starts windows that wait for it and is a stop of channel `i` unless that channel consumed it as its start (R97, R99, R103). -/
def State.tdcEdgeAt (s : State) (i : Fin 24) (tap : Nat) (fall sat : Bool) : State :=
  let mk (n : Nat) : Edge :=
    ⟨s.tick, if sat then 511 else tap, (if fall then 0x20 else 0) + (if s.tdcLocked n then 0 else 0x10) + (if sat then 8 else 0)⟩
  let waits := fun (s : State) (n : Fin 24) =>
    s.tdcIsOpen n && s.tdcStartInput n = some i.val && s.tdc.ch[n].start.isNone && s.tdcTakes n fall
  let own := waits s i
  let s1 := (List.finRange 24).foldl (fun s (n : Fin 24) =>
    if waits s n then s.modTdc n fun c => { c with start := some (mk n) } else s) s
  if own || !s1.tdcTakes i fall then s1
  else
    let k := s1.tdc.ch[i].divCnt + 1
    if s1.fld (tdcReg i 0) 12 16 + 1 ≤ k then (s1.modTdc i fun c => { c with divCnt := 0 }).tdcStop i (mk i)
    else s1.modTdc i fun c => { c with divCnt := k }

/-! ### Host and vendor accesses -/

/-- A write to a configuration or command register of a channel: its owner only (R91). -/
def State.tdcGuard (s : State) (m : Master) (n : Nat) (o : Nat) (v : Word) (k : State → State) : State :=
  s.guardW m (tdcReg n o) v fun s => if s.tdcOwns m n then k s else s.reject m (tdcReg n o) .perm

/-- TDCn_CFG holds legal codes together (Table 4.8). -/
def cfgOk (v : Word) : Bool :=
  let mode := fget v 0 2
  let kind := fget v 8 2
  !(kind ≠ 0 && 8 ≤ fget v 2 6) && !(mode = 1 && kind ≠ 0) && !(mode = 2 && kind = 0)

/-- A write of a configuration register (R91, R107): only while not armed. -/
def State.tdcConfig (s : State) (m : Master) (n : Nat) (o : Nat) (v : Word) : State :=
  s.tdcGuard m n o v fun s =>
    if s.tdcArmed n then s.reject m (tdcReg n o) .busy
    else if o = 0 && !cfgOk v then s.reject m (tdcReg n o) .range
    else s.plainWrite m (tdcReg n o) v

/-- The checks of ARM (R100, R106, R107). -/
def State.tdcArmErr (s : State) (n : Fin 24) : Option Err :=
  let pre := (s.rd (tdcReg n 0xC)).toNat
  let len := (s.rd (tdcReg n 0x10)).toNat
  let per := (s.rd (tdcReg n 0x18)).toNat
  let kind := s.tdcKind n
  if s.tdcArmed n then some .busy
  else if (decide (8 ≤ n.val) && decide (n.val ≤ 15) || kind = 1) && s.plt.plot.pdMode 11 = 0 then some .plot
  else if kind = 0 && !s.plt.plot.tbPresent (s.tdcSel n) then some .plot
  else if kind ≠ 0 && (pre ≠ 0 || (s.rd (tdcReg n 0x14)).toNat = 0) then some .range
  else if s.tdcMode n = 1 && per * 5 ≤ pre * 5 + 4 * (len + 16) then some .range
  else if kind = 0 && badInstant (s.tdcTb n).value (s.timeAt (tdcReg n 0x20)) then some .time
  else none

/-- TDCn_CMD = ARM (R107). -/
def State.tdcArmCmd (s : State) (m : Master) (n : Fin 24) : State :=
  s.tdcGuard m n 4 1 fun s =>
    match s.tdcArmErr n with
    | some e => s.reject m (tdcReg n 4) e
    | none =>
      let arm := fun (c : TdcCh) =>
        ({ c with epoch := s.timeAt (tdcReg n 0x20), armTick := s.tick, start := none, stops := [], ovf := false, disarm := none, divCnt := 0 } : TdcCh)
      (s.modTdc n arm).setBit (tdcReg n 8) 1 true

/-- TDCn_CMD = DISARM: it acts on the first tick after its decode (R108). -/
def State.tdcDisarmCmd (s : State) (m : Master) (n : Fin 24) : State :=
  s.tdcGuard m n 4 2 fun s =>
    if s.tdcArmed n then s.modTdc n fun c => { c with disarm := if c.disarm.isSome then c.disarm else some s.tick } else s

/-- TDCn_CMD = FLUSH (R108). -/
def State.tdcFlushCmd (s : State) (m : Master) (n : Fin 24) : State :=
  s.tdcGuard m n 4 3 fun s => s.setFifo n []

/-- TDCn_CMD by value (Table 4.9). -/
def State.tdcCmd (s : State) (m : Master) (n : Fin 24) (v : Word) : State :=
  match v.toNat with
  | 1 => s.tdcArmCmd m n
  | 2 => s.tdcDisarmCmd m n
  | 3 => s.tdcFlushCmd m n
  | _ => s.tdcGuard m n 4 v fun s => s.reject m (tdcReg n 4) .range

/-- A host read of the FIFO, DROP or MISS register of a VENDOR channel (R91). -/
def State.tdcReadErr (s : State) (m : Master) (n o : Nat) : Option Err :=
  match s.checkRead m (tdcReg n o) with
  | some e => some e
  | none => if m.host && s.tdcVendor n then some .perm else none

/-- TDCn_FIFO_LO: pops the oldest entry and latches its upper half (R109). -/
def State.tdcFifoRead (s : State) (m : Master) (n : Fin 24) : State :=
  match s.tdcReadErr m n 0x30 with
  | some e => s.rejectRead m (tdcReg n 0x30) e
  | none =>
    match s.tdc.ch[n].fifo with
    | [] => s.answer m.idx 0
    | w :: t =>
      ((s.setFifo n t).hset m.idx (tdcReg n 0x34) (BitVec.ofNat 32 (w.toNat / 2 ^ 32))).answer m.idx (BitVec.ofNat 32 w.toNat)

/-- TDC_TICK_LO: latches the upper half (R96). -/
def State.tdcTickRead (s : State) (m : Master) : State :=
  match s.checkRead m 0x030000 with
  | some e => s.rejectRead m 0x030000 e
  | none => (s.hset m.idx 0x030004 (BitVec.ofNat 32 (s.tick / 2 ^ 32))).answer m.idx (BitVec.ofNat 32 s.tick)

/-! ### Lane phase channels -/

/-- Clocks in the rotation of channel 19 + `g`: eight, and four on the wings channel (R110). -/
def laneClocks (g : Nat) : Nat := if g = 4 then 4 else 8

/-- The clock's lane is powered: lanes 0 to 7 in complex A, 8 to 15 in complex B. -/
def State.clockOn (s : State) (g clk : Nat) : Bool :=
  g = 4 || s.plt.plot.complex (if 4 * g + clk / 2 < 8 then 0 else 1)

/-- The next clock of the rotation at or after `c` whose complex is powered; `k` bounds the search. -/
def State.pickClock (s : State) (g : Nat) : Nat → Nat → Option Nat
  | 0, _ => none
  | k + 1, c =>
    let c := c % laneClocks g
    if s.clockOn g c then some c else s.pickClock g k (c + 1)

/-- One window of a lane phase channel: the first edge of the selected clock at `edge` (ticks after the window's tick, tap), or none (R110). -/
def State.laneWindow (s : State) (g : Fin 5) (edge : Option (Nat × Fin 512)) : State :=
  let n : Fin 24 := ⟨19 + g.val, by have := g.isLt; omega⟩
  let c := s.tdc.ch[n]
  match s.pickClock g (laneClocks g) c.nextClk with
  | none => s
  | some k =>
    let busy := if s.tdcLocked n then 0 else 0x10
    let st := edge.map fun e => (Edge.mk (s.tick + e.1) e.2.val (k * 0x20 + busy)).word
    s.modTdc n fun c => { c with nextClk := (k + 1) % laneClocks g, laneStamp := Sparse.set (fun _ => none) c.laneStamp k st }

/-- The lane's stamps are refined: its channel is locked and the phase of both its clocks is valid (R111). -/
def State.laneRefined (s : State) (lane : Nat) : Bool :=
  let g := lane / 4
  if h : g < 4 then
    let n : Fin 24 := ⟨19 + g, by omega⟩
    s.tdcLocked n &&
      (Sparse.get (fun _ => none) s.tdc.ch[n].laneStamp (2 * (lane % 4))).isSome &&
      (Sparse.get (fun _ => none) s.tdc.ch[n].laneStamp (2 * (lane % 4) + 1)).isSome
  else false

/-- A wings path's stamps are refined. -/
def State.wingsRefined (s : State) (p : Nat) : Bool :=
  s.tdcLocked 23 && (Sparse.get (fun _ => none) s.tdc.ch[(23 : Fin 24)].laneStamp (2 * p)).isSome
    && (Sparse.get (fun _ => none) s.tdc.ch[(23 : Fin 24)].laneStamp (2 * p + 1)).isSome

end Sys2Proof.Machine
end

