-- ==== Sys2Proof/Machine/RefOps.lean ====
section
/-! DEFINITION. Sys2Proof/Machine/RefOps.lean: arrivals, phase samples and qualities of reference slots, and the all-pairs comparison (spec/05_references.md, R112 to R115). -/
namespace Sys2Proof.Machine

/-- The rates of a list of Table 5.2 in µHz; list 0 is the one rate in REFn_NOM. -/
def rateList (i nom : Nat) : List Nat :=
  match i with
  | 0 => if nom = 0 then [] else [nom]
  | 1 => [1000000]
  | 2 => [10000000000000]
  | 3 => [10000000000000, 5000000000000]
  | 4 => [2048000000000, 1544000000000]
  | 5 => [10000000000000, 25000000000000, 100000000000000]
  | 6 => [25000000000000, 125000000000000, 156250000000000, 161132812500000]
  | 7 => [1000000, 10000000000000]
  | _ => []

/-- REFn_NOM in µHz. -/
def State.refNom (s : State) (k : Nat) : Nat := (s.rd (refReg k 0x18)).toNat * 2 ^ 32 + (s.rd (refReg k 0x14)).toNat

/-- The rates a slot may have. -/
def State.refRates (s : State) (k : Nat) : List Nat := rateList (s.plt.plot.refRateList k) (s.refNom k)

/-- Nominal rate in µHz for the activity deadline: the rate found, the lowest listed one while none is, 10 MHz for ATOM and 25 MHz for SyncE (R117, R121). -/
def State.actRate (s : State) (k : Fin 24) : Nat :=
  let src := s.plt.plot.refSource k
  if isAtom src then 10000000000000
  else if isSyncE src then 25000000000000
  else if s.refs[k].identifying || s.refs[k].rate = 0 then (s.refRates k).foldl (fun a b => if a = 0 then b else min a b) 0
  else s.refs[k].rate

/-- The tick at which ACT sets without a further arrival (R121); none before the first arrival. -/
def State.actDeadline (s : State) (k : Fin 24) : Option Nat :=
  let src := s.plt.plot.refSource k
  let r := s.refs[k]
  r.lastMsg.map fun t =>
    if isGnss src then t + 2 * ticksPerS
    else if isWings src then t + 2 * ticksPerMs
    else if isPtp src then min (t + 3 * r.syncIv) (r.lastAnn + 3 * r.annIv)
    else if s.actRate k ≤ 1000000 then t + 1875000000
    else t + divUp (2 * ticksPerS * 1000000) (s.actRate k)

/-- ACT or GLITCH clears: a slot that stays or becomes unqualified identifies its rate again (R123, Table 5.6). -/
def State.refClear (s : State) (k : Fin 24) (bits : Nat) : State :=
  if s.live k &&& bits = 0 then s
  else
    let s1 := s.refLive k 0 bits
    let s2 := if s1.refState k ≠ 4 || s1.live k &&& hardMask ≠ 0 then s1.identify k else s1
    let s3 := s2.refSettle k
    if s3.refState k ≠ s.refState k then s3.selEvalAll.selFollow s else s3

/-- An arrival of what the activity monitor waits for (R121). -/
def State.refArrive (s : State) (k : Fin 24) : State :=
  if s.refState k = 0 then s
  else (s.modRef k fun r => { r with lastMsg := some s.tick }).refClear k 1

/-- ACT sets: the deadline has come, or the arrivals cannot come any more (R121). -/
def State.refSilent (s : State) (k : Fin 24) : State := if s.refState k = 0 then s else s.refMonitor k 1 0

/-- Every slot of a port whose kind is `f` goes silent or the like. -/
def State.refsOn (s : State) (f : State → Nat → Bool) (g : State → Fin 24 → State) : State :=
  (List.finRange 24).foldl (fun s (k : Fin 24) => if f s k.val then g s k else s) s

/-! ### Advertised quality -/

/-- The class of a PTP clockClass (Table 5.5). -/
def ptpClass (c : Nat) : Nat :=
  if c = 6 || c = 13 then 1 else if c = 7 || c = 14 || c = 135 then 2
  else if [52, 58, 140, 150, 160, 165, 187, 193].contains c then 3
  else if c = 255 then 7 else 6

/-- Q and the RAW field of an advertisement (R134, R135). -/
def qualityOf : AdvQuality → Nat × Nat
  | .ptp c a none => (ptpClass c.toNat * 256 + a.toNat, c.toNat)
  | .ptp c _ (some b) =>
    if b = 0xFFFFFFFF then (7 * 256 + 0xFE, c.toNat) else (ptpClass c.toNat * 256 + accCode (b.toNat * 250), c.toNat)
  | .sync q n =>
    ((match q with | .prc | .prs | .ePrc | .prtc | .ePrtc => 4 | .other => 5 | .dnu | .dus | .failed => 7) * 256 + 0xFE, n.toNat)
  | .gnss fail u => ((if fail then 7 else 1) * 256 + accCode u, 0)
  | .wings q => (q.toNat, 0)

/-- The quality of a fixed input (R135). -/
def fixedQuality (b : Nat) : Nat := b / 32 * 256 + (if b % 32 = 31 then 0xFE else 0x17 + b % 32)

/-- The Q in REFn_QUAL. -/
def State.refQ (s : State) (k : Nat) : Nat := s.fld (refReg k 0xC) 0 16

/-- The time base of a TIME selector that has selected the slot. -/
def State.feeds (s : State) (d : Fin 16) (k : Fin 24) : Option (Fin 64) := if s.selected d = some k then s.loopTb d else none

/-- The ledger takes a changed reference uncertainty of a selected slot; an accuracy code without an upper limit makes the time base untraceable (R180, R502). -/
def State.refTerm (s : State) (d : Fin 16) (k : Fin 24) (fall : Bool) : State :=
  match s.feeds d k with
  | none => s
  | some n =>
    if !isGnss (s.plt.plot.refSource k) && (accLimit (s.effQ d k % 256)).isNone then s.untrace n 12
    else if s.dpllState d = 4 then s
    else if fall then s.ledgerOffer n { ref := some (s.refOf d k) } else s.ledgerRise n { ref := some (s.refOf d k) }

/-- The effective Q of a slot at a selector takes the value `q` (R138). -/
def State.setEffQ (s : State) (d : Fin 16) (k : Fin 24) (q : Nat) : State :=
  let worse := s.effQ d k < q
  (s.modSel d fun x =>
    { x with effQ := Sparse.set (fun _ => 0x06FE) x.effQ k q, holdFrom := Sparse.set (fun _ => none) x.holdFrom k none }).refTerm d k (!worse)

/-- One selector learns of a new Q: a worse one enters the key at once, a better one begins its hold (R138). -/
def State.selQuality (s : State) (d : Fin 16) (k : Fin 24) (q : Nat) : State :=
  if s.effQ d k < q then s.setEffQ d k q
  else s.modSel d fun x =>
    { x with holdFrom := Sparse.set (fun _ => none) x.holdFrom k (if q = s.effQ d k then none else some s.tick) }

/-- A slot's advertised quality: REFn_QUAL, the effective Q of every selector, the DNU monitor, then the selectors (R134, R137, R138). -/
def State.advertise (s : State) (k : Fin 24) (q raw : Nat) : State :=
  let s1 := (s.setFld (refReg k 0xC) 16 8 raw).setFld (refReg k 0xC) 0 16 q
  if q = s.refQ k then s1
  else
    let s2 := (List.finRange 16).foldl (fun s (d : Fin 16) => s.selQuality d k q) s1
    let dnu := q / 256 = 7
    ((s2.refLive k (if dnu then 0x400 else 0) (if dnu then 0 else 0x400)).refSettle k).selEvalAll.selFollow s

/-- QHOLD_EXPIRE: the hold of an improved Q has run (R138). -/
def State.qholdEnd (s : State) (d : Fin 16) (k : Fin 24) : State :=
  match Sparse.get (fun _ => none) s.sels[d].holdFrom k with
  | none => s
  | some t =>
    if t + (s.rd (selReg d 0xC)).toNat * ticksPerMs ≤ s.tick then
      let s1 := s.setEffQ d k (s.refQ k)
      (s1.selEval d).selFollow s
    else s

/-! ### Phase samples -/

/-- A phase in 2⁻⁵⁶ ns from ps. -/
def psPhase (p : Int) : Int := p * (2 ^ 56 : Nat) / 1000

/-- A clock reference: its phase is known modulo its period (R113). -/
def isClock (src : Nat) : Bool := isClkin src || isAtom src || isSyncE src

/-- The phase moved by more than a quarter of the clock's period since the sample before (R113). -/
def State.discontinuous (s : State) (k : Fin 24) (p : Int) : Bool :=
  match s.refs[k].phase with
  | none => false
  | some q =>
    let f := s.actRate k
    let m := if s.oneHz k then modSecond (p - q) else p - q
    isClock (s.plt.plot.refSource k) && decide (secU * 1000000 < 4 * m.natAbs * f)

/-- A pending REFn_PH_COMP write acts as a switch to the same slot at this sample (R145). -/
def State.compSwitch (s : State) (k : Fin 24) : State :=
  (List.finRange 16).foldl (fun s (d : Fin 16) => match s.feeds d k with
    | none => s
    | some n =>
      let s1 := (s.bump (selReg d 0x1C) 1).raise (selReg d 0x14) (if s.switching d then 2 else 0)
      if s.dpllState d = 2 || s.dpllState d = 3 then (s1.acquire d n k).ledgerToSlot d n k none else s1) s

/-- The slot's first phase sample fixes the targets that wait for it (R142, R167). -/
def State.firstPhase (s : State) (k : Fin 24) : State :=
  (List.finRange 16).foldl (fun s (d : Fin 16) =>
    if s.sels[d].noPhase then
      match s.feeds d k with
      | none => s
      | some n =>
        if s.dpllState d = 4 then
          match s.phaseVs k n with
          | some r => (s.modSel d fun q => { q with noPhase := false }).holdoverExit d n k r
          | none => s
        else if s.dpllState d = 2 || s.dpllState d = 3 then (s.acquire d n k).ledgerToSlot d n k none
        else s
    else s) s

/-- A phase sample of a slot against TB0: `raw` before compensation, the tick it names, whether CALBUSY or SAT touched it (R99, R112, R113, R119). -/
def State.refSample (s : State) (k : Fin 24) (raw : Int) (tick : Nat) (touched : Bool) : State :=
  if s.refState k = 0 then s
  else
    let r := s.refs[k]
    let comp := r.compPend.getD r.comp
    let p := raw - psPhase comp
    let disc := s.discontinuous k p
    let s1 := s.modRef k fun r =>
      { r with comp := comp, compPend := none, phase := some p, phaseTick := tick, touched := touched, cont := !disc }
    let s2 := if r.compPend.isSome then s1.compSwitch k else s1
    let s3 := (s2.refMonitor k (if disc then 4 else 0) (if disc then 0 else 4)).refArrive k
    (s3.firstPhase k).selFollow s

/-! ### The all-pairs comparison -/

/-- The sample of a slot counts at a second boundary: not older than a second and the 50 ms in which a solution is published (assumption 20). -/
def State.validAtE (s : State) (k : Fin 24) : Option Int :=
  let r := s.refs[k]
  if s.refState k ≠ 0 && !r.touched && s.tick ≤ r.phaseTick + ticksPerS + 50 * ticksPerMs then r.phase else none

/-- Phase of slot `k` at the boundary `τ` seconds before the last one. -/
def State.phaseAt (s : State) (k : Fin 24) (τ : Nat) : Option Int := (s.refs[k].secPh.getD τ none)

/-- d_ij at a boundary (R114); modulo 1 s where a member is a 1 Hz input (R118). -/
def State.pairD (s : State) (i j : Fin 24) (τ : Nat) : Option Int :=
  match s.phaseAt i τ, s.phaseAt j τ with
  | some a, some b => some (if s.oneHz i || s.oneHz j then modSecond (a - b) else a - b)
  | _, _ => none

/-- Both members have been valid for the whole of τ seconds (Table 4.12). -/
def State.pairValid (s : State) (i j : Fin 24) (τ : Nat) : Bool :=
  decide (τ < s.refs[i].secPh.length) && decide (τ < s.refs[j].secPh.length) &&
  (s.refs[i].secPh.take (τ + 1)).all Option.isSome && (s.refs[j].secPh.take (τ + 1)).all Option.isSome

/-- τ of a TAU code. -/
def tauSec (c : Nat) : Nat := match c with | 0 => 1 | 1 => 10 | 2 => 100 | _ => 1000

/-- The start of pairing of every pair follows its validity at E. -/
def State.pairStarts (s : State) : State :=
  let upd := fun (l : Sparse (Option Int)) (i j : Fin 24) =>
    let key := 32 * i.val + j.val
    match s.pairD i j 0 with
    | none => Sparse.set (fun _ => none) l key none
    | some d => if (Sparse.get (fun _ => none) l key).isSome then l else Sparse.set (fun _ => none) l key (some d)
  let l := (List.finRange 24).foldl (fun l (i : Fin 24) => (List.finRange 24).foldl (fun l (j : Fin 24) => upd l i j) l) s.tdc.pairStart
  { s with tdc := { s.tdc with pairStart := l } }

/-- The results for a boundary become readable: once per TB0 second (R114). -/
def State.pairCompare (s : State) : State :=
  if secOf s.tb0 = s.tdc.pairE then s
  else
    let s1 := (List.finRange 24).foldl (fun s (k : Fin 24) =>
      s.modRef k fun r => { r with secPh := (s.validAtE k :: r.secPh).take 1001 }) s
    let s2 : State := { s1 with tdc := { s1.tdc with pairE := secOf s.tb0 } }
    s2.pairStarts

/-- A slot index from a five-bit field. -/
def slotOf (n : Nat) : Fin 24 := ⟨n % 24, Nat.mod_lt _ (by decide)⟩

/-- TDC_PAIR_PH, FF, STAT and EPOCH of a pair and τ (Table 4.12, R115). -/
def State.pairRegs (s : State) (i j : Fin 24) (τ : Nat) : Int × Word × Word × Word :=
  let modulo := isClock (s.plt.plot.refSource i) && !s.oneHz i || isClock (s.plt.plot.refSource j) && !s.oneHz j
  let base := if modulo then (Sparse.get (fun _ => none) s.tdc.pairStart (32 * i.val + j.val)).getD 0 else 0
  let valid := (s.pairD i j 0).isSome
  let ffv := s.pairValid i j τ
  let ff := match s.pairD i j 0, s.pairD i j τ with
    | some a, some b => if ffv then sat32 (divAway ((a - b) * 1000000) (2 ^ 56 * τ)) else 0
    | _, _ => 0
  let ph : Int := match s.pairD i j 0 with
    | some a => (a - base) / ((2 ^ 40 : Nat) : Int)
    | none => 0
  (ph, ff, BitVec.ofNat 32 (b2n valid + 2 * b2n ffv + 4 * b2n modulo), BitVec.ofNat 32 s.tdc.pairE)

/-- TDC_PAIR_PH_LO: latches the rest of the pair's results for the reading master (R115). -/
def State.pairRead (s : State) (m : Master) : State :=
  match s.checkRead m 0x030024 with
  | some e => s.rejectRead m 0x030024 e
  | none =>
    let sel := s.hget m.idx 0x030020
    let r := s.pairRegs (slotOf (fget sel 0 5)) (slotOf (fget sel 8 5)) (tauSec (fget sel 16 2))
    (s.hsetAll m.idx 0x030028 [BitVec.ofInt 32 (r.1 / ((2 ^ 32 : Nat) : Int)), r.2.1, r.2.2.1, r.2.2.2]).answer m.idx (BitVec.ofInt 32 r.1)

/-! ### The ensemble -/

/-- Insertion into a rising list of integers. -/
def insertInt (x : Int) : List Int → List Int
  | [] => [x]
  | a :: t => if x ≤ a then x :: a :: t else a :: insertInt x t

/-- Twice the median of a list (R125). -/
def median2 (l : List Int) : Int :=
  let r := l.foldl (fun acc x => insertInt x acc) []
  let n := r.length
  if n % 2 = 1 then 2 * r.getD (n / 2) 0 else r.getD (n / 2 - 1) 0 + r.getD (n / 2) 0

/-- The slot bears time (Table 5.1). -/
def State.bearsTime (s : State) (k : Fin 24) : Bool := s.bearsSeconds k || s.oneHz k

/-- The peers of a slot for the verdict (R125). -/
def State.peers (s : State) (i : Fin 24) : List (Fin 24) :=
  (List.finRange 24).filter (fun j =>
    j ≠ i && (s.refState j = 2 || s.refState j = 3) && s.pairValid i j (tauSec (s.fld (refReg i 0x28) 0 2)))

/-- Twice the frequency deviation of a slot times τ, in 2⁻⁵⁶ ns, where there are at least two peers (R125). -/
def State.ensFreq2 (s : State) (i : Fin 24) : Option Int :=
  let τ := tauSec (s.fld (refReg i 0x28) 0 2)
  let l := (s.peers i).filterMap (fun j => match s.pairD i j 0, s.pairD i j τ with
    | some a, some b => some (a - b) | _, _ => none)
  if 2 ≤ l.length then some (median2 l) else none

/-- Twice the phase deviation of a time-bearing slot, in 2⁻⁵⁶ ns, where there are at least two time-bearing peers. -/
def State.ensPhase2 (s : State) (i : Fin 24) : Option Int :=
  if !s.bearsTime i then none
  else
    let l := ((s.peers i).filter (fun j => s.bearsTime j)).filterMap (fun j => s.pairD i j 0)
    if 2 ≤ l.length then some (median2 l) else none

/-- The monitor bits that the verdict on a slot sets and clears, with the hysteresis of R128 (R125, R126). -/
def State.ensBits (s : State) (i : Fin 24) : Nat × Nat :=
  let τ := tauSec (s.fld (refReg i 0x28) 0 2)
  let y := s.ensFreq2 i
  let x := s.ensPhase2 i
  let fOver := fun (lim : Nat) => match y with | some v => decide (lim * 2 * 2 ^ 56 * τ < v.natAbs * 1000) | none => false
  let pOver := fun (lim : Nat) => match x with | some v => decide (lim * 2 * 2 ^ 56 < v.natAbs) | none => false
  let fBack := match y with | some v => decide (v.natAbs * 10000 ≤ 8 * (s.rd (refReg i 0x2C)).toNat * 2 * 2 ^ 56 * τ) | none => true
  let pBack := match x with | some v => decide (v.natAbs * 10 ≤ 8 * (s.rd (refReg i 0x34)).toNat * 2 * 2 ^ 56) | none => true
  let hard := fOver (s.rd (refReg i 0x30)).toNat || pOver (s.rd (refReg i 0x38)).toNat
  let soft := fOver (s.rd (refReg i 0x2C)).toNat || pOver (s.rd (refReg i 0x34)).toNat
  ((if hard then 0x40 else 0) + (if soft then 0x80 else 0),
   (if hard then 0 else 0x40) + (if !soft && fBack && pBack then 0x80 else 0))

/-- The measures and live bits of one slot's verdict. -/
def State.ensOne (s : State) (i : Fin 24) : State :=
  if s.refState i = 0 then s
  else
    let y := s.ensFreq2 i
    let x := s.ensPhase2 i
    let b := s.ensBits i
    let τ := tauSec (s.fld (refReg i 0x28) 0 2)
    let s1 := s.setBit (refReg i 4) 27 (y.isNone && x.isNone)
    let s2 := s1.modRef i fun r =>
      { r with ensFf := match y with | some v => divAway (v * 1000) (2 * 2 ^ 56 * τ) | none => r.ensFf,
               ensPh := match x with | some v => divAway v (2 * 2 ^ 56) | none => r.ensPh,
               ensX := match x with | some v => some (divAway (v * 1000) (2 * 2 ^ 56)) | none => r.ensX,
               ensXPrev := match x with | some _ => r.ensX | none => r.ensXPrev }
    s2.refLive i b.1 b.2

/-- ENSEMBLE_VERDICT: all monitor bits, then all transitions, then the ledgers and the selectors (R125, R133, Table 5.7). -/
def State.ensemble (s : State) : State :=
  let s1 := (List.finRange 24).foldl (fun s i => s.ensOne i) s
  let s2 := (List.finRange 24).foldl (fun s i => s.refSettle i) s1
  let s3 := (List.finRange 16).foldl (fun s (d : Fin 16) => match s.selected d with
    | some k => if (s.ensPhase2 k).isSome then s.refTerm d k true else s
    | none => s) s2
  s3.selEvalAll.selFollow s

end Sys2Proof.Machine
end

