-- ==== Sys2Proof/Machine/DpllOps.lean ====
section
/-! DEFINITION. Sys2Proof/Machine/DpllOps.lean: the update of a loop, its limits, lock, flywheel and what a verified sample brings to the ledger (spec/06_servo_holdover.md, R149 to R173). -/
namespace Sys2Proof.Machine

/-- A number held within ±`lim`. -/
def clampAbs (x : Int) (lim : Nat) : Int := max (-(lim : Int)) (min (lim : Int) x)

/-- DPLLd_PULL in units of 2⁻⁶⁴. -/
def State.pullLim (s : State) (d : Nat) : Nat := (s.rd (dpllReg d 0x24)).toNat * 2 ^ 64 / 10 ^ 12
/-- SELd_SLOPE in units of 2⁻⁶⁴. -/
def State.slopeLim (s : State) (d : Nat) : Nat := s.fld (selReg d 8) 0 10 * 2 ^ 64 / 10 ^ 9
/-- DPLLd_FRATE over `dt` ticks in units of 2⁻⁶⁴. -/
def State.frateLim (s : State) (d : Nat) (dt : Nat) : Nat := (s.rd (dpllReg d 0x28)).toNat * dt * 8 * 2 ^ 64 / 10 ^ 25

/-- The APLL that a FREQ loop steers, counted from 0 for APLL1; one that the plot leaves off is steered by none. -/
def State.loopApll (s : State) (d : Nat) : Option (Fin 4) :=
  (match s.fld (dpllReg d 0) 9 3 with
  | 1 => some (0 : Fin 4) | 2 => some 1 | 3 => some 2 | 4 => some 3 | _ => none).filter (fun k => s.plt.plot.apllFreq (k.val + 1) ≠ 0)

/-- The proportional path may move phase by at most SELd_SLOPE, but on an untraceable time base (R142, R157, R160). -/
def State.slopeApplies (s : State) (d : Nat) : Bool :=
  match s.loopTb d with
  | some n => !s.untraceable n
  | none => true

/-- A slew of a same-rate time base by its loop: at most 1 s, offset limited by the pull limits; both free within them (R157, assumption 12). -/
def State.loopSlew (s : State) (d : Fin 16) (n : Fin 64) : State :=
  if s.tbs[n].slew.isSome || s.tbs[n].step.isSome then s
  else
    let a := s.fresh 64
    let b := a.2.fresh 32
    let lim := min slewMax (nominalInc * (if s.slopeApplies d then s.slopeLim d else s.pullLim d) / 2 ^ 64)
    let off := clampAbs a.1.toInt lim
    if off = 0 then b.2
    else b.2.modTb n fun t => { t with slew := some ⟨off, b.1.toNat % ticksPerS + 1, s.tb0, false, false⟩ }

/-- A new control value: integrator and proportional path are the gains' doing and stay free values; the limits of R150 and of DPLLd_FRATE and SELd_SLOPE hold (assumption 12). -/
def State.control (s : State) (d : Fin 16) : State :=
  let a := s.fresh 64
  let b := a.2.fresh 64
  let prop := if s.slopeApplies d then clampAbs b.1.toInt (s.slopeLim d) else b.1.toInt
  let cv := s.cv d
  let fr := s.frateLim d (s.tick - s.dplls[d].lastUpd)
  let want := max (cv - fr) (min (cv + fr) (a.1.toInt + prop))
  let y := clampAbs want (s.pullLim d)
  let integ := clampAbs a.1.toInt (s.pullLim d)
  let keep := (s.rd (dpllReg d 0x40)).toNat * ticksPerMs + (s.rd (dpllReg d 0x3C)).toNat * ticksPerS
  let s1 := (b.2.showCv d 0x10 y).modDpll d fun q =>
    { q with integ := integ, lastUpd := s.tick, history := (q.history.filter (fun (p : Nat × Int) => s.tick ≤ p.1 + keep)) ++ [(s.tick, integ)] }
  let lim := decide (y ≠ want)
  let s2 := s1.setBit (dpllReg d 8) 23 lim
  let s3 := if lim && !s.bit (dpllReg d 8) 23 then s2.dpllEvent d 0x200 else s2
  let s4 := s3.setBit (dpllReg d 8) 24 (s.dpllState d = 3 && decide (prop ≠ b.1.toInt))
  match s.loopTb d with
  | some n => if s.plt.plot.tbSameRate n then s4.loopSlew d n else s4.dpllInc n y
  | none => match s.loopApll d with
    | some k => s4.modApll k fun a => { a with steer := y }
    | none => s4

/-- The bandwidth code in effect follows DPLLd_BW at an update (R152, R154). -/
def State.bwShow (s : State) (d : Fin 16) (k : Fin 24) : State :=
  let code := if s.dpllState d = 3 then s.fld (dpllReg d 4) 0 5 else s.fld (dpllReg d 4) 8 5
  s.setFld (dpllReg d 8) 17 5 (min code (s.bwCeiling d k))

/-- The lock criteria of R158 for phase error `e` in ps and frequency error `fe` in 10⁻¹⁵; a pull or its clamp keeps them from being met (Table 6.6). -/
def State.lockMet (s : State) (d : Nat) (e fe : Int) : Bool :=
  decide (e.natAbs ≤ (s.rd (dpllReg d 0x2C)).toNat * 1000) && decide (fe.natAbs ≤ (s.rd (dpllReg d 0x30)).toNat * 1000)
    && !s.switching d && !s.bit (dpllReg d 8) 23

/-- Beyond twice the lock limits (Table 6.4). -/
def State.lockBroken (s : State) (d : Nat) (e fe : Int) : Bool :=
  decide (2 * (s.rd (dpllReg d 0x2C)).toNat * 1000 < e.natAbs) || decide (2 * (s.rd (dpllReg d 0x30)).toNat * 1000 < fe.natAbs)

/-- The first time-set of R157 on an entry to ACQUIRING that no selection caused. -/
def State.timeSet (s : State) (d : Fin 16) : State :=
  match s.loopTb d, s.selected d with
  | some n, some k =>
    match s.phaseVs k n with
    | some p =>
      if s.bit (dpllReg d 0) 7 && s.untraceable n && (s.rd (dpllReg d 0x38)).toNat * 2 ^ 56 < p.natAbs
          && s.bearsSeconds k && s.tbs[n].step.isNone then
        (s.modTb n fun t => { t with step := some ⟨p.natAbs, decide (p < 0), stepInstant s.tb0⟩ }).modDpll d fun q => { q with stepping := true }
      else s
    | none => s
  | _, _ => s

/-- The lock logic after an update (R155, R158). -/
def State.lockStep (s : State) (d : Fin 16) (e fe : Int) : State :=
  if s.dpllState d = 3 && s.lockBroken d e fe then ((s.dpllEnter d 2).dpllEvent d 2).timeSet d
  else s.modDpll d fun q =>
    { q with lockSince := if s.lockMet d e fe then (if q.lockSince.isSome then q.lockSince else some s.tick) else none }

/-- How far a pull can have come since `remain` held: the limit of R142, or DPLLd_PULL while the time base is untraceable (R157), in 2⁻⁵⁶ ns. -/
def State.pullReach (s : State) (d : Fin 16) : Nat :=
  let dt := s.tick - s.sels[d].pullAt
  if s.slopeApplies d then s.fld (selReg d 8) 0 10 * dt * 8 * 2 ^ 56 / 10 ^ 10
  else (s.rd (dpllReg d 0x24)).toNat * dt * 8 * 2 ^ 56 / 10 ^ 13

/-- The remaining distance of a pull after an update: some part of what the limit allows is made (R142). -/
def State.pullOn (s : State) (d : Fin 16) : State :=
  if !s.switching d then s
  else
    let a := s.fresh 64
    let r := s.sels[d].remain
    let made := a.1.toNat % (min (s.pullReach d) r.natAbs + 1)
    a.2.setRemain d (if r < 0 then r + made else r - made)

/-- The interval of R190 begins, or a sample's |phase error| enters its peak or breaks it. -/
def State.firstSample (s : State) (n : Fin 64) (ps : Nat) : State :=
  if !s.untraceable n then s
  else if (s.rd (bndReg n 0x4C)).toNat * 1000 < ps then s.modBnd n fun l => { l with firstSince := none, firstPeak := 0 }
  else s.modBnd n fun l =>
    { l with firstSince := if l.firstSince.isSome then l.firstSince else some s.tick, firstPeak := max l.firstPeak ps }

/-- A verified sample of slot `k` with residual `res` and remaining distance in ps reaches the ledger (R159, R172, R175, Table 5.7, Table 7.1). -/
def State.verifiedSample (s : State) (d : Fin 16) (n : Fin 64) (k : Fin 24) (res rem : Nat) : State :=
  let q := s.dplls[d]
  let peaks := (q.peaks.filter (fun (p : Nat × Nat) => s.tick < p.1 + ticksPerS)) ++ [(s.tick, res)]
  let servo := peaks.foldl (fun a (p : Nat × Nat) => max a p.2) 0
  let s0 := if s.bnd[n].inherited then (s.ledgerToSlot d n k (some 0)).modBnd n fun l => { l with inherited := false } else s
  let s1 := s0.modDpll d fun q => { q with peaks := peaks, verified := true, exitVerified := true, lastVer := s.tick }
  let offer : Falls :=
    { meas := some (s.measOf k), servo := some servo, path := some (s.pathOf k), quant := some (s.quantOf k),
      switch := some rem, hold := some 0, extra := s.bnd[n].extraWait }
  let s2 := s1.ledgerOffer n offer
  let s3 := if isGnss (s.plt.plot.refSource k) then s2.ledgerRise n { ref := some (s.refOf d k) } else s2
  s3.modBnd n fun l =>
    { l with tv := s.refs[k].phaseTick, tvTime := s.tbs[n].value - (s.tick - s.refs[k].phaseTick) * s.tbEffInc n, stale := false, floorEnds := true, extraWait := none, tb0Tv := s.bnd[0].ps s.tick,
             tb0Track := s.bnd[0].ps s.tick }

/-- One update of a loop that tracks a slot, with the frequency error `fe` in 10⁻¹⁵ (R150 to R160). -/
def State.track (s : State) (d : Fin 16) (k : Fin 24) (fe : Int) : State :=
  match s.loopTb d with
  | none =>
    match s.refs[k].phase with
    | none => s
    | some p =>
      let e := divAway ((p - s.dplls[d].zero) * 1000) (2 ^ 56)
      (((s.wr (dpllReg d 0x20) (sat32 (-e))).bwShow d k).control d).lockStep d e fe
  | some n =>
    match s.phaseVs k n with
    | none => s
    | some p =>
      let s0 := s.pullOn d
      let rem := s0.sels[d].remain
      let e := divAway (p * 1000) (2 ^ 56)
      let res := phasePs (if s0.switching d then p - rem else p)
      let s1 := (s0.wr (dpllReg d 0x20) (sat32 (-e))).bwShow d k
      let s2 := if s.refs[k].touched || !s.refs[k].cont then s1 else s1.verifiedSample d n k res (phasePs (if s0.switching d then rem else 0))
      let s3 := s2.firstSample n (phasePs p)
      let s4 := if s.tbs[n].step.isSome then s3.modDpll d fun q => { q with lastUpd := s.tick } else s3.control d
      s4.lockStep d e fe

/-- DPLL_UPDATE: a loop in ACQUIRING or LOCKED takes the latest sample of its slot; in FLYWHEEL it follows the model prediction (R151, R164); no update while the loop's control core is down (R407). -/
def State.dpllUpdate (s : State) (d : Fin 16) (fe : Int) : State :=
  if s.flt.coresDown.contains (Config.dpllCore d).val then s
  else match s.dpllState d, s.selected d with
  | 2, some k => s.track d k fe
  | 3, some k => s.track d k fe
  | 4, _ => if s.onFlywheel d then s.control d else s
  | _, _ => s

/-- DPLL_LOCK_ACHIEVED: the criteria have held for DPLLd_LOCK_TIME (R158). -/
def State.lockAchieved (s : State) (d : Fin 16) : State :=
  match s.dplls[d].lockSince with
  | none => s
  | some t =>
    if s.dpllState d = 2 && decide (t + (s.rd (dpllReg d 0x34)).toNat * ticksPerS ≤ s.tick) then (s.dpllEnter d 3).dpllEvent d 1
    else s

/-! ### The flywheel -/

/-- The slot mapped to ATOM. -/
def State.atomSlot (s : State) : Option (Fin 24) := (List.finRange 24).find? (fun k => isAtom (s.plt.plot.refSource k))

/-- The atomic flywheel is usable by the loop (R163). -/
def State.fwUsable (s : State) (d : Nat) : Bool :=
  (match s.atomSlot with | some k => s.refState k = 2 || s.refState k = 3 | none => false) &&
  s.bit (dpllReg d 0x5C) 0 && s.fld 0x051000 0 2 ≠ 3

/-- FLYWHEEL_ENGAGE: at the first ATOM sample after the freeze, while it is usable (R163). -/
def State.fwEngage (s : State) (d : Fin 16) : State :=
  if s.dpllState d = 4 && s.fld (dpllReg d 8) 26 2 = 1 && s.fwUsable d then (s.setFld (dpllReg d 8) 26 2 2).dpllEvent d 0x10 else s

/-- FLYWHEEL_LOST: back to FROZEN at the current control value (R163). -/
def State.fwLost (s : State) (d : Fin 16) : State :=
  if s.onFlywheel d && !s.fwUsable d then (s.setFld (dpllReg d 8) 26 2 1).dpllEvent d 0x20 else s

/-- MODEL_FIT: the once-a-second fit of a LOCKED loop, and of TB0's loop on an understudy (R370), reports x0, y0, D, σ_y, σ_D, rms residual and span (R169). -/
def State.modelFit (s : State) (d : Fin 16) (x y dd : Int) (uy ud res span : Nat) : State :=
  if s.dpllState d ≠ 3 && !((s.role = 1 || s.role = 2) && s.tbLoop 0 = some d) then s
  else
    let valid := decide ((s.rd (dpllReg d 0x54)).toNat ≤ span) && decide (res ≤ (s.rd (dpllReg d 0x58)).toNat)
    let s1 := s.wrAll (dpllReg d 0x60) [sat32 x, sat32 y, sat32 dd, sat32 uy, sat32 ud, BitVec.ofNat 32 (min res 0xFFFFFFFF), BitVec.ofNat 32 (min span 0xFFFFFFFF)]
    let s2 := (s1.setBit (dpllReg d 0x5C) 0 valid).setBit (dpllReg d 0x5C) 1 true
    let s3 := s2.modDpll d fun q => { q with fitTick := s.tick }
    if valid then s3.setBit (dpllReg d 0x5C) 2 false else s3

/-- ATOM_PPS_CHECK: the unwrapped phase disagrees with the PPS stamp by `ps`; half a cycle or more is a slip (R170). -/
def State.ppsCheck (s : State) (ps : Nat) : State :=
  if ps < 50000 then s
  else (List.finRange 16).foldl (fun s (d : Fin 16) =>
    if (s.loopTb d).isNone then s
    else ((s.setFld (dpllReg d 0x5C) 0 3 4).wr (dpllReg d 0x78) 0).fwLost d) s

/-- The UART of the atomic module sends a byte each ten bit times (Table 6.15); called on each tick. -/
def State.uartTick (s : State) : State :=
  let baud := s.fld 0x051020 0 20
  let per := divUp (10 * ticksPerS) (max 1 baud)
  match s.uart.tx, s.uart.txDue with
  | [], _ => s
  | _ :: _, none => { s with uart := { s.uart with txDue := some (s.tick + per) } }
  | _ :: t, some e =>
    if e ≤ s.tick then
      let s1 : State := { s with uart := { s.uart with tx := t, txDue := if t = [] then none else some (s.tick + per) } }
      s1.setFld 0x05102C 0 7 (64 - t.length)
    else s

end Sys2Proof.Machine
end

