-- ==== Sys2Proof/Machine/BndOps.lean ====
section
/-! DEFINITION. Sys2Proof/Machine/BndOps.lean: the 1 ms refresh of the ledgers and the first finite bound (spec/07_error_bound.md, R178 to R194). -/
namespace Sys2Proof.Machine

/-- A component after a fall that the refresh permits. -/
def down (cur : Nat) : Option Nat → Nat
  | none => cur
  | some v => cap48 v

/-- The components after the falls that wait (R181). -/
def Comps.fallen (c : Comps) (f : Falls) : Comps :=
  { ref := down c.ref f.ref, meas := down c.meas f.meas, servo := down c.servo f.servo, path := down c.path f.path,
    quant := down c.quant f.quant, switch := down c.switch f.switch, extra := down c.extra f.extra }

/-- The loop of a same-rate time base flies frozen (R183). -/
def State.sameRateFrozen (s : State) (n : Fin 64) : Bool :=
  s.plt.plot.tbSameRate n && (match s.tbLoop n with
    | some d => s.dpllState d = 4 && s.fld (dpllReg d 8) 26 2 = 1
    | none => false)

/-- TB0's SWITCH component while TB0's DPLL is in a switch (R183). -/
def State.tb0SwitchNow (s : State) (n : Fin 64) : Nat :=
  if s.plt.plot.tbSameRate n then
    match s.tbLoop 0 with
    | some d => if s.switching d then s.bnd[0].comps.switch else 0
    | none => 0
  else 0

/-- The ledger after growth, falls and the terms of R183; `tb0` is TB0's largest bound at this tick in ps. -/
def State.refreshed (s : State) (n : Fin 64) (tb0 : Nat) : Ledger :=
  let l := s.bnd[n]
  let hold := match s.growth n with
    | some c => l.hold + growMs c l.tv s.tick
    | none => l.hold
  let track := max l.tb0Track tb0
  let frozen := s.sameRateFrozen n
  { l with
    comps := l.comps.fallen l.falls
    hold := (match l.falls.hold with | some v => v | none => hold)
    falls := {}
    floor := if l.floorEnds then 0 else l.floor
    floorEnds := false
    tb0Track := track
    tb0Max := if frozen then track else 0
    tb0AtTv := if frozen then l.tb0Tv else 0
    tb0Switch := s.tb0SwitchNow n }

/-- The slope of R178 and the slope announced for the refresh after (R185). -/
def State.slopesNow (s : State) (n : Fin 64) : Nat × Nat :=
  match s.growth n with
  | some c => (slopeOf c s.bnd[n].tv s.tick 1, slopeOf c s.bnd[n].tv s.tick 2)
  | none => (0, 0)

/-- The conditions of R190. -/
def State.firstOk (s : State) (n : Fin 64) : Bool :=
  !s.tbHost n && !s.tbFenced n && s.tbs[n].step.isNone && !s.bnd[n].stale &&
  (!s.plt.plot.tbSameRate n || !s.untraceable 0) &&
  (match s.tbLoop n with
   | none => false
   | some d =>
     (s.dpllState d = 2 || s.dpllState d = 3) && s.dplls[d].verified &&
     (match s.selected d with
      | some k => isGnss (s.plt.plot.refSource k) || (accLimit (s.effQ d k % 256)).isSome
      | none => false))

/-- The first finite bound: SERVO the peak over the interval, HOLD 0, SWITCH the remaining distance, the others current (R190). -/
def State.firstBound (s : State) (n : Fin 64) (d : Fin 16) (k : Fin 24) : State :=
  let l := s.bnd[n]
  let c : Comps :=
    { ref := cap48 (s.refOf d k), meas := cap48 (s.measOf k), servo := cap48 l.firstPeak, path := cap48 (s.pathOf k),
      quant := cap48 (s.quantOf k), switch := cap48 (phasePs s.sels[d].remain), extra := l.comps.extra }
  let l1 : Ledger :=
    { l with comps := c, hold := 0, falls := {}, why := 0, slope := 0, announced := 0, floor := 0, floorEnds := false,
             epoch := l.epoch + 1, slot := some k.val, firstSince := none, firstPeak := 0, inherited := false }
  ((s.modBnd n fun _ => l1).rebase n).raise (bndReg n 8) 2

/-- The interval of R190 at a refresh: a break restarts it, its full length gives the first finite bound. -/
def State.firstStep (s : State) (n : Fin 64) : State :=
  if !s.untraceable n then s
  else if !s.firstOk n then s.modBnd n fun l => { l with firstSince := none, firstPeak := 0 }
  else match s.bnd[n].firstSince with
    | none => s.modBnd n fun l => { l with firstSince := some s.tick, firstPeak := 0 }
    | some t =>
      if t + (s.rd (bndReg n 0x48)).toNat * ticksPerS ≤ s.tick then
        match s.tbLoop n with
        | none => s
        | some d => match s.selected d with
          | none => s
          | some k => s.firstBound n d k
      else s

/-- DPLLd_STAT.HO_IN_SPEC follows G; OUT_OF_SPEC on the way out (R166). -/
def State.specStep (s : State) (n : Fin 64) : State :=
  match s.tbLoop n with
  | none => s
  | some d =>
    let g := if s.dpllState d = 4 then s.bnd[n].hold else 0
    let ok := decide (g ≤ (s.rd (dpllReg d 0x44)).toNat * 1000 * psU)
    let s1 := s.setBit (dpllReg d 8) 25 ok
    if s.bit (dpllReg d 8) 25 && !ok then s1.dpllEvent d 0x100 else s1

/-- BNDn_STAT.SATURATED: the published bound is held at 0xFFFF_FFFE (R176). -/
def State.saturation (s : State) (n : Fin 64) : State :=
  let l := s.bnd[n]
  let sat := l.why = 0 && decide (0xFFFFFFFE < divUp (l.atTick s.tick) (250 * psU * 10 ^ 7))
  let s1 := s.modBnd n fun l => { l with saturated := sat }
  if sat && !l.saturated then s1.raise (bndReg n 8) 0x10 else s1

/-- One ledger's refresh (R178 to R185). -/
def State.refreshOne (s : State) (n : Fin 64) (tb0 : Nat) : State :=
  if !s.plt.plot.tbPresent n then s
  else
    let l := s.bnd[n]
    let r := s.refreshed n tb0
    let s1 := s.modBnd n fun _ => r
    let sl := s1.slopesNow n
    let up := l.why = 0 && (decide (l.atTick s.tick < max r.sum r.floor * 10 ^ 7) || decide (l.announced < sl.1))
    let s2 := s1.modBnd n fun l =>
      { l with slope := sl.1, announced := sl.2, base := max l.sum l.floor * 10 ^ 7, baseTick := s.tick }
    let s3 := if up then s2.markRaise n else s2
    ((s3.saturation n).firstStep n).specStep n

/-- Every ledger refreshes, TB0 first; selectors whose time base changed between finite and untraceable evaluate (R178, R139). -/
def State.refreshAll (s : State) : State :=
  let old := s.bnd[0].ps s.tick
  let s0 := s.refreshOne 0 old
  let tb0 := max old (s0.bnd[0].ps s.tick)
  let s1 := (List.finRange 64).foldl (fun s (n : Fin 64) => if n.val = 0 then s else s.refreshOne n tb0) s0
  ({ s1 with refreshAt := s.tick } : State).selFollow s

/-- The refresh of a tick that is a multiple of 1,250,000, once (R178). -/
def State.refreshTick (s : State) : State :=
  if s.tick % ticksPerMs = 0 && s.refreshAt ≠ s.tick then s.refreshAll else s

/-- The adders disagree: untraceable for reason 6, CHECK_FAIL (R177). -/
def State.checkFail (s : State) (n : Fin 64) : State :=
  ((s.raise (bndReg n 8) 0x20).untrace n 6).selFollow s

/-- The ticks of a sample interval of a slot (R182); `sol` is the solution interval of its GNSS chain. -/
def State.sampleTicks (s : State) (k : Fin 24) (sol : Nat) : Nat :=
  let src := s.plt.plot.refSource k
  if isGnss src then sol
  else if isPtp src || s.oneHz k then ticksPerS else ticksPerMs

end Sys2Proof.Machine
end

