-- ==== Sys2Proof/Machine/TbTick.lean ====
section
/-! DEFINITION. Sys2Proof/Machine/TbTick.lean: how the time bases move at a tick: commits and owner changes, increment writes, steps, slews, the addition, leaps and the wrap (R21, R59 to R84), and the checks of a commit (R28, R88, R462). -/
namespace Sys2Proof.Machine

/-! ### The scheduled commit -/

/-- A staging register of a backplane bus. -/
def btbReg (b o : Nat) : Nat := 0x0C0000 + 0x200 * b + o

/-- The owner after a commit: the staged one where it is valid (R88). -/
def State.ownerAfter (s : State) (n : Nat) : Bool :=
  if s.bit (tbReg n 0xCC) 1 then s.bit (tbReg n 0xC8) 0 else s.tbHost n

/-- The staged increment of a time base. -/
def State.stagedInc (s : State) (n : Nat) : Nat := (s.rd (tbReg n 0xC4)).toNat * 2 ^ 32 + (s.rd (tbReg n 0xC0)).toNat

/-- What is wrong with the staged increment of time base `n` (R28, R88). -/
def State.stgIncErr (s : State) (n : Nat) : Option Err :=
  if !s.bit (tbReg n 0xCC) 0 then none
  else if !s.plt.plot.tbPresent n || s.plt.plot.tbSameRate n || !incInWindow (s.stagedInc n) || !s.incLimits n 0x20 (s.stagedInc n)
      || !s.incLimits n 0xC0 (s.stagedInc n) then some .plot
  else if s.tbFenced n || !s.ownerAfter n then some .state
  else none

/-- What is wrong with the staged owner of time base `n`. -/
def State.stgCtlErr (s : State) (n : Nat) : Option Err :=
  if !s.bit (tbReg n 0xCC) 1 then none
  else if !s.plt.plot.tbPresent n || (!s.bit (tbReg n 0xC8) 0 && s.plt.plot.tbDpll n = none)
      || !s.plt.plot.inLimits (tbReg n 0x18) (fset (s.rd (tbReg n 0x18)) 0 1 (b2n (s.bit (tbReg n 0xC8) 0))).toNat then some .plot
  else if s.tbFenced n then some .state
  else none

/-- What is wrong with staged rate limits (R290): `i` 0 is NTP, 1 PTP. -/
def State.stgRlErr (s : State) (i : Nat) : Option Err :=
  if s.bit 0x090020 i && !s.plt.plot.inLimits (0x090010 + 4 * i) (s.rd (0x090018 + 4 * i)).toNat then some .plot else none

/-- What is wrong with the staged mask of bus `b` (R361). -/
def State.stgMaskErr (s : State) (b : Nat) : Option Err :=
  if !s.bit (btbReg b 0x18) 0 then none
  else if !s.plt.plot.btbOn b || !s.plt.plot.inLimits (btbReg b 0x10) (s.rd (btbReg b 0x14)).toNat then some .plot
  else if s.bit 0x0E0028 (7 + b) then some .state
  else none

/-- The first staged value, in the order of Table 17.6, that keeps a commit from being applied: its staging register and the code (R28, R463). -/
def State.commitErr (s : State) : Option (Nat × Err) :=
  (List.range 64).findSome? (fun n => (s.stgIncErr n).map fun e => (tbReg n 0xC0, e))
  |>.or ((List.range 64).findSome? (fun n => (s.stgCtlErr n).map fun e => (tbReg n 0xC8, e)))
  |>.or ((List.range 2).findSome? (fun i => (s.stgRlErr i).map fun e => (0x090018 + 4 * i, e)))
  |>.or ((List.range 4).findSome? (fun b => (s.stgMaskErr b).map fun e => (btbReg b 0x14, e)))

/-! ### Ownership -/

/-- The owner of a time base changes at this tick (R68, R69); the DPLL and the bound follow (Table 3.2, Table 6.4). -/
def State.setOwner (s : State) (n : Fin 64) (host : Bool) : State :=
  if s.tbHost n = host then s
  else
    let t := s.tbs[n]
    let s1 := (s.setBit (tbReg n 0x18) 0 host).modTb n fun t => { t with step := none, slew := none }
    let s2 := s1.tbEvent n (0x10 + (if t.step.isSome || t.slew.isSome then 8 else 0))
    let s3 := match s2.tbLoop n with
      | none => s2
      | some d => if host then s2.dpllRelease d else if s2.tbFenced n || s2.roleReleased then s2 else s2.dpllFree d (incOffset (s2.tbInc n))
    if host then s3.untrace n 2 else s3

/-- A committed increment and owner of time base `n` (R88): increments and owners are applied, and their valid bits clear. -/
def State.commitTb (s : State) (n : Fin 64) : State :=
  let s1 := if s.bit (tbReg n 0xCC) 0 then s.modTb n fun t => { t with inc := s.stagedInc n } else s
  let s2 := if s.bit (tbReg n 0xCC) 1 then s1.setOwner n (s.bit (tbReg n 0xC8) 0) else s1
  s2.setFld (tbReg n 0xCC) 0 2 0

/-- The OWNER write decoded since the previous tick takes effect (R68). -/
def State.ownTb (s : State) (n : Fin 64) : State :=
  match s.tbs[n].ownWrite with
  | none => s
  | some h => (s.setOwner n h).modTb n fun t => { t with ownWrite := none }

/-- The last increment write decoded since the previous tick takes effect if the owner in force made it, and is rejected otherwise (R68, R70). -/
def State.incTb (s : State) (n : Fin 64) : State :=
  match s.tbs[n].incWrite with
  | none => s
  | some (v, byHost) =>
    if byHost = s.tbHost n && !s.tbFenced n then s.modTb n fun t => { t with inc := v, incWrite := none }
    else (s.modTb n fun t => { t with incWrite := none }).tbEvent n 0x80

/-! ### Steps, slews and the addition -/

/-- A slew at a tick on which `v` is the value it is judged against: its offset on this tick, what is left of it, and the flags it sets (R76). -/
def slewOn (w : Option SlewArm) (v : Nat) : Int × Option SlewArm × Nat :=
  match w with
  | none => (0, none, 0)
  | some w =>
    if w.cancel then (0, none, 8)
    else if w.running || decide (w.inst ≤ v) then
      if w.left ≤ 1 then (w.off, none, 4) else (w.off, some { w with left := w.left - 1, running := true }, 0)
    else (0, some w, 0)

/-- The signed amount of an armed step. -/
def StepArm.amount (a : StepArm) : Int := if a.back then -(a.mag : Int) else a.mag

/-- A step judged on TB0's value `v` for a time base that would have the value `plain` (R72, R73): the value after it, what is left of it, and the flags it sets. -/
def stepOn (a : Option StepArm) (v : Nat) (plain : Int) : Int × Option StepArm × Nat :=
  match a with
  | none => (plain, none, 0)
  | some a =>
    if v < a.inst then (plain, some a, 0)
    else if plain + a.amount < 0 || (timeMod : Int) ≤ plain + a.amount then (plain, none, 2)
    else (plain + a.amount, none, 1)

/-- A leap at a tick on which the time base would have the value `v` (R82, R83): the value after it and the changed LEAP_CTL, LEAP_ACTIVE and flags. -/
def leapOn (ctl : Word) (active : Bool) (l v : Nat) : Nat × Word × Bool × Nat :=
  let tai := signed 16 (fget ctl 16 16)
  match fget ctl 0 2 with
  | 1 =>
    if l * secU ≤ v then
      if active then (v, fset ctl 0 2 0, false, 0)
      else (v - secU, fset ctl 16 16 (unsigned 16 (tai + 1)), true, 0x40)
    else (v, ctl, active, 0)
  | 2 =>
    if l * secU ≤ v + secU then (v + secU, fset (fset ctl 16 16 (unsigned 16 (tai - 1))) 0 2 0, active, 0x40)
    else (v, ctl, active, 0)
  | _ => (v, ctl, active, 0)

/-- A time base takes its value for this tick: `sum` is its value with increment and slew, `stp` the outcome of its step, `sl` of its slew; then the leap and the wrap (Table 1.5, order 3 and 4). -/
def State.formTb (s : State) (n : Fin 64) (sum : Int) (stp : Int × Option StepArm × Nat) (sl : Int × Option SlewArm × Nat) : State :=
  let t := s.tbs[n]
  let utc := s.plt.plot.tbScale n = 1
  let lp := if utc then leapOn (s.rd (tbReg n 0x78)) (s.bit (tbReg n 0x1C) 7) t.leapAt stp.1.toNat
    else (stp.1.toNat, s.rd (tbReg n 0x78), false, 0)
  let wraps := decide (timeMod ≤ lp.1)
  let ev := stp.2.2 + sl.2.2 + lp.2.2.2 + (if wraps then 0x20 else 0)
  let s1 := s.modTb n fun t =>
    { t with value := lp.1 % timeMod, prev := t.value, plain := sum.toNat, stepped := stp.2.2 = 1, step := stp.2.1, slew := sl.2.1 }
  let s2 := if utc then (s1.wr (tbReg n 0x78) lp.2.1).setBit (tbReg n 0x1C) 7 lp.2.2.1 else s1
  let s3 := if stp.2.2 = 2 then s2.setFld (tbReg n 0x1C) 24 8 Err.range.code else s2
  s3.tbEvent n ev

/-- TB0 advances (R60, R61, R72): its step is judged on the value without the step, its slew on the value with the step (R26). -/
def State.advance0 (s : State) : State :=
  let t := s.tbs[0]
  let run := tbSlewOff t
  let run := if (t.slew.map (·.cancel)).getD false then 0 else run
  let base : Int := t.value + t.inc
  let early := match t.slew with
    | some w => if !w.running && !w.cancel && decide ((w.inst : Int) ≤ base) then w.off else 0
    | none => 0
  let stp := stepOn t.step (base + run + early).toNat 0
  let amt := stp.1
  let sl := slewOn t.slew (base + amt).toNat
  let sum := base + sl.1
  s.formTb 0 sum (stepOn t.step (base + run + early).toNat sum) sl

/-- TB0's effective increment on this tick, as a same-rate time base copies it: what TB0 added beside its step (R64). -/
def State.eff0 (before after : State) : Nat := after.tbs[0].plain - before.tbs[0].value

/-- A time base other than TB0 advances, with TB0 at this tick's value and `eff` TB0's effective increment. -/
def State.advance (s : State) (n : Fin 64) (eff : Nat) : State :=
  let t := s.tbs[n]
  let v0 := s.tb0
  let sl := slewOn t.slew v0
  let inc := if s.plt.plot.tbSameRate n then eff else t.inc
  let sum : Int := (t.value : Int) + inc + sl.1
  s.formTb n sum (stepOn t.step v0 sum) sl

/-- The value TB0 will have at the next tick, as commits and re-plots are judged on it: with the owner writes, increments, steps and slews that apply there (R26). -/
def State.tb0Next (s : State) : Nat := (((s.ownTb 0).incTb 0).advance0).tb0

/-- A commit is due at the next tick (R26). -/
def State.commitDue (s : State) : Bool := match s.glb.commitAt with
  | some t => decide (t ≤ s.tb0Next)
  | none => false

/-- The part of a tick that decides the values of TB0 and of time base `n`: the commit, the owner writes, increments and additions. -/
def State.pairTick (s : State) (n : Fin 64) : State :=
  let s := if s.commitDue then
      (if s.commitErr.isNone then if n.val = 0 then s.commitTb 0 else (s.commitTb 0).commitTb n else s) |> fun s =>
        { s with glb := { s.glb with commitAt := none } }
    else s
  let s1 := (s.ownTb 0).incTb 0
  if n.val = 0 then s1.advance0
  else
    let s2 := (s1.ownTb n).incTb n
    let s3 := s2.advance0
    s3.advance n (State.eff0 s2 s3)

/-- The state `k` ticks on, as far as the values of TB0 and of time base `n` go (R246): everything armed takes part. -/
def State.foresee (s : State) (n : Fin 64) : Nat → State
  | 0 => s
  | k + 1 => (s.pairTick n).foresee n k

/-- The projected value of time base `n` at tick `c` and tap `p`: the value at the tick plus p ÷ 512 of the effective increment (R246). -/
def State.projectAt (s : State) (n : Fin 64) (c p : Nat) : Nat :=
  let f := s.foresee n (c - s.tick)
  f.tbs[n].value + p * f.tbEffInc n / 512

end Sys2Proof.Machine
end

