-- ==== Sys2Proof/Machine/Btb.lean ====
section
/-! DEFINITION. Sys2Proof/Machine/Btb.lean: the backplane time buses: states, frame edges, slot words, curtain, pause, mask and common start (spec/13_backplane_time_bus.md). -/
namespace Sys2Proof.Machine

def State.modBtb (s : State) (b : Fin 4) (f : Btb → Btb) : State :=
  { s with btb := { s.btb with bus := s.btb.bus.set b (f s.btb.bus[b]) } }

/-- STATE of BTBb_STAT: 0 OFF, 1 WAIT_START, 2 SYNC, 3 RUN, 4 MUTED. -/
def State.btbState (s : State) (b : Nat) : Nat := s.fld (btbReg b 8) 29 3
def State.btbEnter (s : State) (b st : Nat) : State := s.setFld (btbReg b 8) 29 3 st
/-- Role: clock slave. -/
def State.btbSlave (s : State) (b : Nat) : Bool := s.bit (btbReg b 8) 28
/-- The bus's time base. -/
def State.btbTb (s : State) (b : Nat) : Fin 64 := ⟨s.fld (btbReg b 8) 20 6, Nat.mod_lt _ (by decide)⟩
/-- The bus is fenced: DATA is held at 0 (Table 15.3). -/
def State.btbFenced (s : State) (b : Nat) : Bool := s.bit 0x0E0028 (7 + b)
/-- The bus is paused. -/
def State.btbPaused (s : State) (b : Nat) : Bool := s.bit (btbReg b 8) 27

/-- 125 µs and 2 ms in units of 2⁻⁵⁶ ns. -/
def frameU : Nat := 125000 * 2 ^ 56
def multiU : Nat := 2000000 * 2 ^ 56

/-- The slots of a mask in rising order. -/
def slotsOf (m : Word) : List Nat := (List.range 32).filter (fun s => fget m s 1 = 1)

/-- A mask takes effect: ACTIVE and MASK_APPLIED (R361). -/
def State.btbMaskOn (s : State) (b : Fin 4) (m : Word) : State :=
  ((s.modBtb b fun x => { x with mask := m, maskNext := none }).setFld (btbReg b 8) 0 6 (slotsOf m).length).raise (btbReg b 0xC) 4

/-- The plot enables or disables a bus at a full apply (Table 13.4): a master waits for its automatic start, a slave goes to SYNC. -/
def State.btbApply (s : State) (b : Fin 4) : State :=
  let p := s.plt.plot
  if !p.btbOn b then (s.wr (btbReg b 8) 0).modBtb b fun _ => {}
  else
    let m := BitVec.ofNat 32 (p.btbMask b)
    let w := fset (fset (fset (fset 0 29 3 (if p.btbSlave b then 2 else 1)) 28 1 (b2n (p.btbSlave b))) 20 6 (p.btbTb b)) 0 6 (slotsOf m).length
    ((s.wr (btbReg b 8) w).wr (btbReg b 0x10) m).modBtb b fun _ => { mask := m, startFrom := if p.btbSlave b then none else some s.tick }

/-! ### Words -/

/-- The bytes of a number, most significant first. -/
def wordBytes (k v : Nat) : List Byte := (List.range k).map (fun i => BitVec.ofNat 8 (v / 2 ^ (8 * (k - 1 - i))))

/-- A slot word with the CHK of its upper 56 bits (Table 13.2). -/
def withChk (upper : Nat) : BitVec 64 := BitVec.ofNat 64 (upper * 256 + crc8 (wordBytes 7 upper))

/-- The upper 56 bits of a slot word: VALID, MFI, flags, BOUND, AUX. -/
def upperOf (valid : Bool) (mfi flags bound aux : Nat) : Nat :=
  b2n valid * 2 ^ 55 + mfi * 2 ^ 51 + flags * 2 ^ 47 + bound * 2 ^ 15 + aux

/-- UNTRACEABLE, HOLDOVER, OUT_OF_SPEC and INHERITED as bits 3 to 0. -/
def State.btbFlags (s : State) (n : Fin 64) : Nat :=
  let m := s.provMode n
  let spec := match s.tbLoop n with | some d => s.bit (dpllReg d 8) 25 | none => true
  8 * b2n (s.untraceable n) + 4 * b2n (m = 3 || m = 4) + 2 * b2n (!spec) + b2n (m = 6)

/-- AUX words 1 to 14 for an edge at time `t` (Table 13.3). -/
def State.btbAux (s : State) (n : Fin 64) (t : Nat) : List Nat :=
  let sec := secOf t
  let ns := nsOf t
  let fr := t % 2 ^ 56 / 2 ^ 24
  let leap := if s.bit (tbReg n 0x1C) 7 then 3 else s.fld (tbReg n 0x78) 0 2
  let utc := s.plt.plot.tbScale n = 1
  let pr := (s.prov n).toNat
  let sl := min (divUp s.bnd[n].slope (10 ^ 16)) 0xFFFFFFFF
  [sec / 2 ^ 33 % 2 ^ 15, sec / 2 ^ 18 % 2 ^ 15, sec / 2 ^ 3 % 2 ^ 15, sec % 8 * 2 ^ 12 + ns / 2 ^ 18, ns / 8 % 2 ^ 15,
   ns % 8 * 2 ^ 12 + fr / 2 ^ 20, fr / 2 ^ 8 % 2 ^ 12 * 8, (if utc then leap else 0) * 2 ^ 13, (if utc then s.fld (tbReg n 0x78) 16 15 else 0),
   pr / 2 ^ 17, pr / 4 % 2 ^ 15, pr % 4 * 2 ^ 13, sl / 2 ^ 17, sl / 4 % 2 ^ 15]

/-- AUX word `mfi` of a slot: word 0 names role, bus, time base and slot, word 15 is the CRC-16 of the others. -/
def auxWord (slave : Bool) (b n slot : Nat) (aux : List Nat) (mfi : Nat) : Nat :=
  let a0 := b2n slave * 2 ^ 14 + b * 2 ^ 12 + n * 2 ^ 6 + slot
  if mfi = 0 then a0
  else if mfi = 15 then crc16 ((a0 :: aux).flatMap (fun a => wordBytes 2 a)) / 2
  else aux.getD (mfi - 1) 0

/-! ### Frame edges -/

/-- A pause that waits, or the count in force, at a frame edge (R360): PAUSED, LEFT, and PAUSE_END at the edge that ends one. -/
def State.btbPauseEdge (s : State) (b : Fin 4) : State :=
  let was := s.btbPaused b
  let left := s.fld (btbReg b 0x1C) 16 16
  let next := s.btb.bus[b].pauseNext
  let due := match next with | some p => decide (p.2 ≤ s.tick) | none => false
  let left' := if due then (match next with | some p => p.1 | none => 0) else left - 1
  let s1 := if due then s.modBtb b fun x => { x with pauseNext := none } else s
  let s2 := (s1.setFld (btbReg b 0x1C) 16 16 left').setBit (btbReg b 8) 27 (left' ≠ 0)
  if was && left' = 0 then s2.raise (btbReg b 0xC) 2 else s2

/-- A mask that waits takes effect at an edge (R361). -/
def State.btbMaskEdge (s : State) (b : Fin 4) : State :=
  match s.btb.bus[b].maskNext with
  | none => s
  | some p => if p.2 ≤ s.tick then s.btbMaskOn b p.1 else s

/-- The words that a frame starts with: none while paused, fenced or idled (R350, R353, R359). -/
def State.btbWords (s : State) (b : Fin 4) (mfi : Nat) (idle : Bool) (aux : List Nat) : List (Nat × BitVec 64) :=
  let n := s.btbTb b
  let valid := !s.muted && !s.plt.applying
  let bound := if s.muted then 0xFFFFFFFF else s.bound n
  (slotsOf s.btb.bus[b].mask).map fun k =>
    (k, if s.btbPaused b || idle || s.btbFenced b then 0#64
        else withChk (upperOf valid mfi (s.btbFlags n) bound (auxWord (s.btbSlave b) b n k aux mfi)))

/-- A frame edge at time `t` of the bus's time base with index `mfi`; `idle` while the bus resynchronises (R351 to R354, R360, R361). -/
def State.btbEdge (s : State) (b : Fin 4) (t mfi : Nat) (idle : Bool) : State :=
  let done := s.btb.bus[b].frame.map (·.2)
  let s1 := ((s.btbMaskEdge b).btbPauseEdge b).setFld (btbReg b 8) 16 4 mfi
  let n := s1.btbTb b
  let aux := if mfi = 0 then s1.btbAux n t else s1.btb.bus[b].aux
  let s2 := s1.modBtb b fun x => { x with edgeTick := s1.tick, image := done, aux := aux, frame := s1.btbWords b mfi idle aux }
  (((s2.setBit (btbReg b 8) 26 s2.muted).bump (btbReg b 0x28) 1).wrAll (btbReg b 0x40) (timeWords t)).wr (btbReg b 0x50)
    (BitVec.ofNat 32 (s2.bound n))

/-- The bus enters RUN with MFI 0 (Table 13.4). -/
def State.btbRun (s : State) (b : Fin 4) (t : Nat) : State :=
  (((s.btbEnter b 3).modBtb b fun x => { x with startFrom := none, resync := none }).btbEdge b t 0 false).raise (btbReg b 0xC) 1

/-- A frame edge of the grid falls in the tick just formed: the time base passed a multiple of 125 µs by its own advance (R351, R357). -/
def State.btbEdgeDue (s : State) (b : Fin 4) : Bool :=
  let t := s.tbs[s.btbTb b]
  decide (t.prev / frameU < t.plain / frameU)

/-- The bus's time base stepped on this tick, itself or, on a same-rate time base, TB0 (R357). -/
def State.btbStepped (s : State) (b : Fin 4) : Bool :=
  s.tbs[s.btbTb b].stepped || (s.plt.plot.tbSameRate (s.btbTb b) && s.tbs[0].stepped)

/-- The instant of the latest frame edge on the grid. -/
def State.btbGrid (s : State) (b : Fin 4) : Nat := s.tbs[s.btbTb b].value / frameU * frameU

/-- 10 µs have passed since a tick (Table 13.4, R357). -/
def State.after10us (s : State) (t : Nat) : Bool := decide (t + 10 * ticksPerUs ≤ s.tick)

/-- A step idles a running master bus (R357). -/
def State.btbStep (s : State) (b : Fin 4) : State :=
  if s.btbState b = 3 && !s.btbSlave b && s.btbStepped b then
    ((s.modBtb b fun x => { x with resync := some s.tick }).bump (btbReg b 0x2C) 1).raise (btbReg b 0xC) 0x20
  else s

/-- The common start's instant has come: every listed bus still in WAIT_START begins RUN on this edge (R362). -/
def State.btbCommon (s : State) : State :=
  match s.btb.common with
  | none => s
  | some c =>
    let n := s.btbTb ((List.finRange 4).find? (fun (b : Fin 4) => c.buses.testBit b.val) |>.getD 0)
    if s.tbs[n].value < c.inst then s
    else
      let s1 : State := { s with btb := { s.btb with common := none } }
      (List.finRange 4).foldl (fun s (b : Fin 4) =>
        if c.buses.testBit b && s.btbState b = 1 then s.btbRun b c.inst else s) (s1.setBit 0x0C1000 31 false)

/-- What the tick just formed does to a master bus: an automatic start, a START, a resumption, or the next frame of the grid. Once per tick. -/
def State.btbMaster (s : State) (b : Fin 4) : State :=
  let t := s.btbGrid b
  let mfi := nsOf t / 125000 % 16
  let x := s.btb.bus[b]
  if s.btbSlave b || !s.btbEdgeDue b || x.edgeTick = s.tick || s.btbStepped b then s
  else match s.btbState b with
    | 1 => (match x.startFrom with
      | some f => if mfi = 0 && s.after10us f then s.btbRun b t else s
      | none => s)
    | 3 => (match x.resync with
      | some f => if mfi = 0 && s.after10us f then (s.modBtb b fun x => { x with resync := none }).btbEdge b t 0 false else s.btbEdge b t mfi true
      | none => s.btbEdge b t mfi false)
    | _ => s

/-- The tick's part of every bus. -/
def State.btbTick (s : State) : State :=
  let s1 := (List.finRange 4).foldl (fun s (b : Fin 4) => s.btbStep b) s
  (List.finRange 4).foldl (fun s (b : Fin 4) => s.btbMaster b) s1.btbCommon

/-! ### Slave role -/

/-- The time of a stamp `ps` after the tick just formed, at 100 ps resolution and less BTBb_IN_DLY (R352). -/
def State.btbStamp (s : State) (b : Fin 4) (ps : Nat) : Nat :=
  let n := s.btbTb b
  let d : Int := ((ps / 100 * 100 : Nat) : Int) - s.fld (btbReg b 0x20) 0 16
  ((s.tbs[n].value : Int) + d * s.tbEffInc n / 800).toNat

/-- BTB_FS_EDGE: an FS edge `periods` CLK periods after the previous one, stamped `ps` after the tick (R352, Table 13.4). -/
def State.btbFs (s : State) (b : Fin 4) (periods ps : Nat) : State :=
  if !s.btbSlave b then s
  else match s.btbState b with
    | 2 =>
      (match s.btb.bus[b].good with
       | none => s.modBtb b fun x => { x with good := some 0 }
       | some g =>
         if periods ≠ 2048 then s.modBtb b fun x => { x with good := some 0 }
         else if g + 1 < 8 then s.modBtb b fun x => { x with good := some (g + 1) }
         else (s.modBtb b fun x => { x with good := none }).btbRun b (s.btbStamp b ps))
    | 3 =>
      if periods = 2048 then s.btbEdge b (s.btbStamp b ps) ((s.fld (btbReg b 8) 16 4 + 1) % 16) false
      else (((s.btbEnter b 4).modBtb b fun x => { x with frame := [], good := none }).bumpSat (btbReg b 0x34) 1).raise (btbReg b 0xC) 0x10
    | _ => s

/-- BTB_CLK_LOSS: the CLK deadline passes (R358); in SYNC it only breaks the run of FS edges. -/
def State.btbClkLoss (s : State) (b : Fin 4) : State :=
  if !s.btbSlave b then s
  else match s.btbState b with
    | 3 => (((s.btbEnter b 4).modBtb b fun x => { x with frame := [], good := none }).bumpSat (btbReg b 0x30) 1).raise (btbReg b 0xC) 8
    | 2 => s.modBtb b fun x => { x with good := none }
    | _ => s

/-- BTB_CLK_RETURN: a CLK edge on a muted bus (Table 13.4). -/
def State.btbClkReturn (s : State) (b : Fin 4) : State :=
  if s.btbSlave b && s.btbState b = 4 then (s.btbEnter b 2).modBtb b fun x => { x with good := none } else s

/-! ### The curtain -/

/-- A word of which the first `k` bits had been launched when the curtain came (R359). -/
def cutWord (w : BitVec 64) (k : Nat) : BitVec 64 :=
  let upper := w.toNat / 256
  if k < 56 then
    let sent := upper / 2 ^ (56 - k) * 2 ^ (56 - k)
    BitVec.ofNat 64 (sent * 256 + (255 - crc8 (wordBytes 7 sent)))
  else w ^^^ BitVec.ofNat 64 (2 ^ (64 - k) - 1)

/-- A word that begins under the curtain: VALID 0 and an untraceable bound. -/
def curtainWord (w : BitVec 64) : BitVec 64 :=
  let upper := w.toNat / 256
  withChk (upperOf false (upper / 2 ^ 51 % 16) (upper / 2 ^ 47 % 16) 0xFFFFFFFF (upper % 2 ^ 15))

/-- Bits of the frame launched within 100 ns of the curtain tick. -/
def State.btbSent (s : State) (b : Fin 4) : Nat :=
  divUp (((s.tick - s.btb.bus[b].edgeTick) * 800 + 100000) * 2048) 125000000

/-- A curtain falls: the frame in progress is cut (R359). -/
def State.btbCut (s : State) (b : Fin 4) : State :=
  let n := s.btbSent b
  let s1 := s.modBtb b fun x => { x with frame := x.frame.map fun (p : Nat × BitVec 64) =>
    (p.1, if p.2 = 0 || 64 * p.1 + 64 ≤ n then p.2 else if n ≤ 64 * p.1 then curtainWord p.2 else cutWord p.2 (n - 64 * p.1)) }
  if s.btbState b = 0 then s else s1.setBit (btbReg b 8) 26 true

/-- Every bus takes the curtain. -/
def State.btbCurtain (s : State) : State := (List.finRange 4).foldl (fun s (b : Fin 4) => s.btbCut b) s

/-! ### Commands -/

/-- What keeps a command from being accepted (R360, R362, Table 13.4, Table 13.8). -/
def State.btbCmdErr (s : State) (b : Fin 4) (cmd : Nat) : Option Err :=
  let st := s.btbState b
  let listed := match s.btb.common with | some c => c.buses.testBit b | none => false
  match cmd with
  | 0 => some .range
  | 1 => if st = 3 then none else some .state
  | 2 => if st = 2 || st = 3 || st = 4 || (st = 1 && !s.btbSlave b) then none else some .state
  | _ => if listed then some .busy else if st = 1 then none else some .state

/-- An accepted command. -/
def State.btbDo (s : State) (b : Fin 4) (cmd : Nat) : State :=
  match cmd with
  | 1 => s.modBtb b fun x => { x with pauseNext := some (s.fld (btbReg b 0x1C) 0 16, s.tick + 1) }
  | 2 => (((s.btbEnter b 1).setBit (btbReg b 8) 27 false).setFld (btbReg b 0x1C) 16 16 0).modBtb b fun x =>
      { x with startFrom := none, resync := none, pauseNext := none, frame := [], good := none }
  | _ => if s.btbSlave b then (s.btbEnter b 2).modBtb b fun x => { x with good := none }
         else s.modBtb b fun x => { x with startFrom := some s.tick }

/-- A write of BTBb_CMD. -/
def State.btbCmd (s : State) (m : Master) (b : Fin 4) (v : Word) : State :=
  s.guardW m (btbReg b 4) v fun s =>
    match s.btbCmdErr b (fget v 0 2) with
    | some e => s.reject m (btbReg b 4) e
    | none => s.btbDo b (fget v 0 2)

/-- BTBb_MASK: from the first frame edge on a later tick (R361). -/
def State.btbMask (s : State) (m : Master) (b : Fin 4) (v : Word) : State :=
  s.guardW m (btbReg b 0x10) v fun s =>
    (s.wr (btbReg b 0x10) v).modBtb b fun x => { x with maskNext := some (v, s.tick + 1) }

/-- BTBb_STG_MASK: stages a mask and sets its valid bit (R361). -/
def State.btbStgMask (s : State) (m : Master) (b : Fin 4) (v : Word) : State :=
  s.guardW m (btbReg b 0x14) v fun s => (s.wr (btbReg b 0x14) v).setBit (btbReg b 0x18) 0 true

/-- A staged mask is applied by a commit: from the first frame edge at or after the commit tick (R361, Table 13.5). -/
def State.btbCommit (s : State) (b : Fin 4) : State :=
  if s.bit (btbReg b 0x18) 0 then
    let v := s.rd (btbReg b 0x14)
    ((s.wr (btbReg b 0x10) v).setBit (btbReg b 0x18) 0 false).modBtb b fun x => { x with maskNext := some (v, s.tick) }
  else s

/-- What keeps the common start from being armed (R362). -/
def State.commonErr (s : State) (buses inst : Nat) : Option Err :=
  let l := (List.finRange 4).filter (fun (b : Fin 4) => buses.testBit b.val)
  let n := s.btbTb (l.headD 0)
  if l.any (fun b => !s.plt.plot.btbOn b || s.btbSlave b || s.btbTb b ≠ n) then some .plot
  else if l.any (fun b => s.btbState b ≠ 1) then some .state
  else if inst % multiU ≠ 0 then some .range
  else if badInstant s.tbs[n].value inst then some .time
  else if s.btb.common.isSome then some .busy
  else none

/-- BTB_START_CTL: ARM, CANCEL and BUSES (R362). -/
def State.btbStartCtl (s : State) (m : Master) (v : Word) : State :=
  s.guardW m 0x0C1000 v fun s =>
    if fget v 5 1 = 1 then
      if s.btb.common.isNone then s.reject m 0x0C1000 .state
      else ({ s with btb := { s.btb with common := none } } : State).setBit 0x0C1000 31 false
    else if fget v 4 1 = 1 then
      let inst := s.timeAt 0x0C1010
      match s.commonErr (fget v 0 4) inst with
      | some e => s.reject m 0x0C1000 e
      | none => ({ (s.plainWrite m 0x0C1000 v) with btb := { s.btb with common := some ⟨fget v 0 4, inst⟩ } } : State).setBit 0x0C1000 31 true
    else s.plainWrite m 0x0C1000 v

/-! ### Read-out -/

/-- The words of the image registers: HI and LO of each entry, 0 past the last (R365). -/
def State.imgWords (s : State) (b : Fin 4) : List Word :=
  (List.range 32).flatMap fun k =>
    let w := (s.btb.bus[b].image.getD k 0).toNat
    [BitVec.ofNat 32 (w / 2 ^ 32), BitVec.ofNat 32 w]

/-- BTBb_EDGE_W0 read: latches W1 to W3 and EDGE_BOUND (R365). -/
def State.btbEdgeRead (s : State) (m : Master) (b : Fin 4) : State :=
  match s.checkRead m (btbReg b 0x40) with
  | some e => s.rejectRead m (btbReg b 0x40) e
  | none =>
    (s.hsetAll m.idx (btbReg b 0x44) ((List.range 4).map fun i => s.rd (btbReg b (0x44 + 4 * i)))).answer m.idx (s.rd (btbReg b 0x40))

/-- BTBb_IMG0_HI read: latches the whole image (R365). -/
def State.btbImgRead (s : State) (m : Master) (b : Fin 4) : State :=
  match s.checkRead m (btbReg b 0x100) with
  | some e => s.rejectRead m (btbReg b 0x100) e
  | none => (s.hsetAll m.idx (btbReg b 0x100) (s.imgWords b)).answer m.idx ((s.imgWords b).headD 0)

/-- BTB_FRAME_EDGE (R353): a master bus's edge in the present tick, once. -/
def execBtbFrameEdge (b : Fin 4) (s : State) : Out1 := .next (s.btbMaster b)
/-- BTB_FS_EDGE (R352). -/
def execBtbFsEdge (b : Fin 4) (periods ps : Nat) (s : State) : Out1 := .next (s.btbFs b periods ps)
/-- BTB_CLK_LOSS (R358). -/
def execBtbClkLoss (b : Fin 4) (s : State) : Out1 := .next (s.btbClkLoss b)
/-- BTB_CLK_RETURN (R356). -/
def execBtbClkReturn (b : Fin 4) (s : State) : Out1 := .next (s.btbClkReturn b)
/-- BTB_PAUSE (R360): CMD = 1. -/
def execBtbPause (m : Master) (b : Fin 4) (s : State) : Out1 := .next (s.btbCmd m b 1)
/-- BTB_STOP (R356): CMD = 2. -/
def execBtbStop (m : Master) (b : Fin 4) (s : State) : Out1 := .next (s.btbCmd m b 2)
/-- BTB_START (R356): CMD = 3. -/
def execBtbStart (m : Master) (b : Fin 4) (s : State) : Out1 := .next (s.btbCmd m b 3)
/-- BTB_AUTO_START (R356): the first multiframe instant, if it falls in the present tick. -/
def execBtbAutoStart (b : Fin 4) (s : State) : Out1 := .next (s.btbMaster b)
/-- BTB_RESYNC_RESUME (R357). -/
def execBtbResyncResume (b : Fin 4) (s : State) : Out1 := .next (s.btbMaster b)
/-- BTB_MASK_WRITE (R361). -/
def execBtbMaskWrite (m : Master) (b : Fin 4) (v : Word) (s : State) : Out1 := .next (s.btbMask m b v)
/-- BTB_STG_MASK_WRITE (R361). -/
def execBtbStgMaskWrite (m : Master) (b : Fin 4) (v : Word) (s : State) : Out1 := .next (s.btbStgMask m b v)
/-- BTB_COMMON_START_ARM (R362): BTB_START_CTL with ARM = 1. -/
def execBtbCommonStartArm (m : Master) (buses : Fin 16) (s : State) : Out1 := .next (s.btbStartCtl m (BitVec.ofNat 32 (16 + buses.val)))
/-- BTB_COMMON_START_CANCEL (R362): BTB_START_CTL with CANCEL = 1. -/
def execBtbCommonStartCancel (m : Master) (s : State) : Out1 := .next (s.btbStartCtl m 32)
/-- BTB_COMMON_START (R362). -/
def execBtbCommonStart (s : State) : Out1 := .next s.btbCommon
/-- BTB_EDGE_W0_READ (R365). -/
def execBtbEdgeW0Read (m : Master) (b : Fin 4) (s : State) : Out1 := .next (s.btbEdgeRead m b)
/-- BTB_IMG0_HI_READ (R365). -/
def execBtbImg0HiRead (m : Master) (b : Fin 4) (s : State) : Out1 := .next (s.btbImgRead m b)

end Sys2Proof.Machine
end

