-- ==== Sys2Proof/Machine/Dpll.lean ====
section
/-! DEFINITION. Sys2Proof/Machine/Dpll.lean: the meanings of the commands and events of the servo loops and of the atomic flywheel (spec/06_servo_holdover.md). -/
namespace Sys2Proof.Machine

/-- Another DPLL than `d` steers APLL number `a` (R149). -/
def State.steeredByOther (s : State) (d a : Nat) : Bool :=
  (List.range 16).any (fun e => e ≠ d && s.fld (dpllReg e 0) 9 3 = a)

/-- The checks of DPLLd_CTL (R149, R151, R154). -/
def State.dpllCtlErr (s : State) (m : Master) (d : Fin 16) (v : Word) : Option Err :=
  let a := fget v 9 3
  let time := (s.loopTb d).isSome
  if fget v 0 1 ≠ s.fld (dpllReg d 0) 0 1 && !m.host then some .perm
  else if time && fget v 8 1 = 1 then some .plot
  else if a ≠ 0 && (time || s.plt.plot.apllFreq a = 0) then some .plot
  else if a ≠ 0 && a ≠ s.fld (dpllReg d 0) 9 3 && s.steeredByOther d a then some .state
  else none

/-- A DPLL releases its APLL: it moves to the rate of its time base (R324). -/
def State.apllFree (s : State) (k : Fin 4) : State :=
  ((s.setBit (apllReg k 4) 30 false).setBit (apllReg k 4) 25 true).outsSettle

/-- A DPLL takes an APLL, whose output frequency does not jump (R324). -/
def State.apllTake (s : State) (d : Fin 16) (k : Fin 4) : State :=
  (((s.setBit (apllReg k 4) 30 true).setFld (apllReg k 4) 26 4 d).setBit (apllReg k 4) 25 true).outsSettle

/-- DPLLd_CTL with the APLL field: a FREQ loop is released with APLL 0 and enters FREE with its integrator at 0 when it takes one (Table 6.4). -/
def State.dpllCtl (s : State) (m : Master) (d : Fin 16) (v : Word) : State :=
  s.guardW m (dpllReg d 0) v fun s =>
    match s.dpllCtlErr m d v with
    | some e => s.reject m (dpllReg d 0) e
    | none =>
      let old := s.loopApll d
      let s1 := s.plainWrite m (dpllReg d 0) v
      let new := s1.loopApll d
      if old = new then s1
      else
        let s2 := match old with | some k => s1.apllFree k | none => s1
        let s3 := match new with | some k => s2.apllTake d k | none => s2
        match old, new with
        | none, some _ => s3.dpllFree d 0
        | some _, none => s3.dpllRelease d
        | _, _ => s3

/-- DPLLd_BW (R152 to R154): by the owner that PARAM_OWNER names; it takes effect at the loop's next update. -/
def State.dpllBw (s : State) (m : Master) (d : Fin 16) (v : Word) : State :=
  s.guardW m (dpllReg d 4) v fun s =>
    let vendor := s.bit (dpllReg d 0) 0
    if (vendor && !m.isCore) || (!vendor && !m.host) then s.reject m (dpllReg d 4) .owner
    else if fget v 8 5 < fget v 0 5 then s.reject m (dpllReg d 4) .range
    else s.plainWrite m (dpllReg d 4) v

/-- DPLL_FW_CLASS: not while any DPLL is in HOLDOVER (Table 6.6, R173). -/
def State.fwClassW (s : State) (m : Master) (v : Word) : State :=
  s.guardW m 0x051000 v fun s =>
    if (List.range 16).any (fun d => s.dpllState d = 4) then s.reject m 0x051000 .busy else s.plainWrite m 0x051000 v

/-- DPLL_FW_FLOOR_*: not below the floor of the class in force (Table 6.15, R173). -/
def State.fwFloorW (s : State) (m : Master) (i : Fin 4) (v : Word) : State :=
  let off := 0x051004 + 4 * i.val
  s.guardW m off v fun s =>
    let c := s.fwClass (decide (2 ≤ i.val))
    if v.toNat < (if i.val % 2 = 0 then classFloorY c else classFloorD c) then s.reject m off .range else s.plainWrite m off v

/-- DPLL_ATOM_UART_TX: a byte to the module (Table 6.15). -/
def State.uartTx (s : State) (m : Master) (v : Word) : State :=
  s.guardW m 0x051024 v fun s =>
    let n := s.uart.tx.length
    if 64 ≤ n then s.reject m 0x051024 .busy
    else ({ s with uart := { s.uart with tx := s.uart.tx ++ [BitVec.ofNat 8 v.toNat] } } : State).setFld 0x05102C 0 7 (63 - n)

/-- DPLL_ATOM_UART_RX: the read pops the oldest byte (Table 6.15). -/
def State.uartRead (s : State) (m : Master) : State :=
  match s.checkRead m 0x051028 with
  | some e => s.rejectRead m 0x051028 e
  | none =>
    match s.uart.rx with
    | [] => s.answer m.idx 0
    | b :: t => ({ s with uart := { s.uart with rx := t } } : State).answer m.idx (BitVec.ofNat 32 (256 + b.toNat))

/-- A byte from the module: lost and counted where the receive FIFO holds 64 (Table 6.15). -/
def State.uartByte (s : State) (b : Byte) : State :=
  if 64 ≤ s.uart.rx.length then s.setFld 0x05102C 16 16 (min (s.fld 0x05102C 16 16 + 1) 0xFFFF)
  else { s with uart := { s.uart with rx := s.uart.rx ++ [b] } }

/-- DPLL_UPDATE (R151): the frequency error of the loop in 10⁻¹⁵. -/
def execDpllUpdate (d : Fin 16) (fe : Int) (s : State) : Out1 := .next (s.dpllUpdate d fe)
/-- DPLL_LOCK_ACHIEVED (R158). -/
def execDpllLockAchieved (d : Fin 16) (s : State) : Out1 := .next (s.lockAchieved d)
/-- FLYWHEEL_ENGAGE (R163). -/
def execFlywheelEngage (d : Fin 16) (s : State) : Out1 := .next (s.fwEngage d)
/-- FLYWHEEL_LOST (R163). -/
def execFlywheelLost (d : Fin 16) (s : State) : Out1 := .next (s.fwLost d)
/-- DPLL_APLL_WRITE (R149): a write of DPLLd_CTL. -/
def execDpllApllWrite (m : Master) (d : Fin 16) (v : Word) (s : State) : Out1 := .next (s.dpllCtl m d v)
/-- DPLL_BW_WRITE (R154). -/
def execDpllBwWrite (m : Master) (d : Fin 16) (v : Word) (s : State) : Out1 := .next (s.dpllBw m d v)
/-- DPLL_FW_CLASS_WRITE (R173). -/
def execDpllFwClassWrite (m : Master) (v : Word) (s : State) : Out1 := .next (s.fwClassW m v)
/-- DPLL_FW_FLOOR_WRITE (R173). -/
def execDpllFwFloorWrite (m : Master) (i : Fin 4) (v : Word) (s : State) : Out1 := .next (s.fwFloorW m i v)
/-- MODEL_FIT (R169): x0 in ps, y0 in 10⁻¹⁵, D in 10⁻²¹ /s, their uncertainties, the residual in ps and the span in s. -/
def execModelFit (d : Fin 16) (x y dd : Int) (uy ud res span : Nat) (s : State) : Out1 := .next (s.modelFit d x y dd uy ud res span)
/-- ATOM_PPS_CHECK (R170): the disagreement in ps. -/
def execAtomPpsCheck (ps : Nat) (s : State) : Out1 := .next (s.ppsCheck ps)
/-- ATOM_UART_TX_WRITE (Table 6.15, R173). -/
def execAtomUartTxWrite (m : Master) (v : Word) (s : State) : Out1 := .next (s.uartTx m v)
/-- ATOM_UART_RX_READ (Table 6.15, R173). -/
def execAtomUartRxRead (m : Master) (s : State) : Out1 := .next (s.uartRead m)
/-- ATOM_UART_RX_BYTE (Table 6.15, R173). -/
def execAtomUartRxByte (b : Byte) (s : State) : Out1 := .next (s.uartByte b)

end Sys2Proof.Machine
end

