-- ==== Sys2Proof/Machine/Gnss.lean ====
section
/-! DEFINITION. Sys2Proof/Machine/Gnss.lean: the GNSS baseband: enables, solutions, uncertainty, integrity, position modes, jamming, leap announcements, the front-end SPI (spec/08_gnss.md). -/
namespace Sys2Proof.Machine

/-- A register of chain `x`. -/
def gnssReg (x o : Nat) : Nat := 0x070100 + 0x100 * x + o

def State.modChain (s : State) (x : Fin 2) (f : Chain → Chain) : State :=
  { s with gnss := { s.gnss with chains := s.gnss.chains.set x (f s.gnss.chains[x]) } }

/-- GNSS_CTL.EN_A or EN_B. -/
def State.chainOn (s : State) (x : Nat) : Bool := s.bit 0x070000 x

/-- The block is fenced (Table 15.3). -/
def State.gnssFenced (s : State) : Bool := s.bit 0x0E0028 6

/-- The slot mapped to chain `x`. -/
def State.gnssSlot (s : State) (x : Nat) : Option (Fin 24) :=
  (List.finRange 24).find? (fun k => s.plt.plot.refSource k = 0x20 + x)

/-- MODE_NOW of Table 8.5: 0 NAV, 1 SURVEY, 2 HOLD. -/
def State.gnssMode (s : State) (x : Nat) : Nat := s.fld (gnssReg x 4) 16 2

/-- Ticks between solution epochs (R209). -/
def State.solTicks (s : State) : Nat := match s.fld 0x070000 2 2 with
  | 0 => ticksPerS
  | 1 => ticksPerS / 2
  | 2 => ticksPerS / 5
  | _ => ticksPerS / 10

/-! ### Enables -/

/-- Start kind of Table 8.3 at an enable: 1 HOT, 2 WARM, 3 COLD (R206). -/
def State.startKind (s : State) (x : Nat) : Nat :=
  let h := 3600 * ticksPerS
  let recent := fun (age : Nat) => (s.gnss.db.filter (fun (p : Nat × Nat × Int) => decide ((s.tick : Int) ≤ p.2.2 + age))).length
  let fixed := match s.gnss.fixAt with | some t => decide ((s.tick : Int) ≤ t + 2 * h) | none => false
  if 4 ≤ recent (2 * h) && decide (s.bound 0 ≤ 4000000) && (s.gnssMode x = 2 || fixed) then 1
  else if 1 ≤ recent (168 * h) && decide (s.bound 0 ≤ 0xFFFFFFFE) then 2 else 3

/-- A chain starts (R202, R206): its history, its baselines and its verdict begin anew. -/
def State.chainStart (s : State) (x : Fin 2) : State :=
  s.modChain x fun c => { enabledAt := s.tick, startKind := s.startKind x, surveyFrom := s.tick, fespi := c.fespi }

/-- A chain stops (R202): it gives no solution, its registers show none. -/
def State.chainStop (s : State) (x : Fin 2) : State :=
  let s1 := s.modChain x fun c => { enabledAt := c.enabledAt, startKind := 0, fespi := c.fespi }
  let mode := s.fld (gnssReg x 4) 16 2
  let clk := s.fld (gnssReg x 4) 24 1
  ((s1.wr (gnssReg x 4) (fset (fset 0 16 2 mode) 24 1 clk)).wr (gnssReg x 0x1C) 0xFFFFFFFF).wr (gnssReg x 0x2C) 0

/-- The sample clock starts at the first tick that is a multiple of 3,125 after the enable and stops on the tick after the disable (R202). -/
def State.gnssClocks (s : State) : State :=
  (List.finRange 2).foldl (fun s (x : Fin 2) =>
    if s.chainOn x then
      (if s.tick % 3125 = 0 && s.gnss.chains[x].enabledAt < s.tick then s.setBit (gnssReg x 4) 24 true else s)
    else s.setBit (gnssReg x 4) 24 false) s

/-- The checks of a GNSS_CTL write (R207, R228, R229). -/
def State.gnssCtlErr (s : State) (v : Word) : Option Err :=
  let w := s.rd 0x070000
  let on := s.chainOn 0 || s.chainOn 1
  if (List.range 2).any (fun x => fget v x 1 = 1 && !s.plt.plot.chain x) then some .plot
  else if on && (fget v 24 2 ≠ fget w 24 2 || fget v 8 9 ≠ fget w 8 9 || fget v 2 2 ≠ fget w 2 2) then some .state
  else if on && fget v 4 1 = 1 then some .state
  else none

/-- A write of GNSS_CTL (Table 8.9). -/
def State.gnssCtl (s : State) (m : Master) (v : Word) : State :=
  s.guardW m 0x070000 v fun s =>
    match s.gnssCtlErr v with
    | some e => s.reject m 0x070000 e
    | none =>
      let s1 := s.plainWrite m 0x070000 v
      let s2 : State := if fget v 4 1 = 1 then { s1 with gnss := { s1.gnss with db := [], fixAt := none } } else s1
      (List.finRange 2).foldl (fun t (x : Fin 2) =>
        if fget v x 1 = 1 && !s.chainOn x then t.chainStart x
        else if fget v x 1 = 0 && s.chainOn x then t.chainStop x else t) s2

/-- The checks of a GNSSx_CFG write (Table 8.5, Table 8.10). -/
def State.gnssCfgErr (s : State) (x : Nat) (v : Word) : Option Err :=
  let w := s.rd (gnssReg x 0)
  if s.chainOn x && (fget v 24 3 ≠ fget w 24 3 || fget v 22 2 ≠ fget w 22 2) then some .state
  else if fget v 30 2 = 2 && s.gnssMode x ≠ 2 && s.rd (gnssReg x 0x4C) = 0 then some .state
  else none

/-- Enters a position mode (Table 8.5). -/
def State.gnssEnter (s : State) (x : Fin 2) (mode : Nat) : State :=
  let s1 := s.setFld (gnssReg x 4) 16 2 mode
  if mode = 1 then (s1.wr (gnssReg x 0x58) (s.rd (gnssReg x 0x50))).modChain x fun c => { c with surveyFrom := s.tick }
  else s1.wr (gnssReg x 0x58) 0

/-- A write of GNSSx_CFG: MODE acts by Table 8.5; SURVEY while surveying changes nothing. -/
def State.gnssCfg (s : State) (m : Master) (x : Fin 2) (v : Word) : State :=
  s.guardW m (gnssReg x 0) v fun s =>
    match s.gnssCfgErr x v with
    | some e => s.reject m (gnssReg x 0) e
    | none =>
      let s1 := s.plainWrite m (gnssReg x 0) v
      if fget v 30 2 = s.gnssMode x then s1 else s1.gnssEnter x (fget v 30 2)

/-- A write of another register of chain `x` (R216, R227, R228, Table 8.14). -/
def State.gnssOther (s : State) (m : Master) (x o : Nat) (v : Word) : State :=
  s.guardW m (gnssReg x o) v fun s =>
    if 0x40 ≤ o && o ≤ 0x4C && s.gnssMode x ≠ 0 then s.reject m (gnssReg x o) .state
    else if 0x5C ≤ o && o ≤ 0x64 && s.chainOn x then s.reject m (gnssReg x o) .state
    else if 0x5C ≤ o && o ≤ 0x64 && 1000000 < (signed 32 v.toNat).natAbs then s.reject m (gnssReg x o) .range
    else if o = 0x80 && (s.plt.plot.dpllTb (fget v 0 4)).isNone then s.reject m (gnssReg x o) .plot
    else s.plainWrite m (gnssReg x o) v

/-! ### The satellites of a solution -/

/-- A band takes part in a solution of an epoch: enabled and not excluded as jammed before it (R201, R220). -/
def State.bandIn (s : State) (x : Fin 2) (epoch k : Nat) : Bool :=
  s.bit (gnssReg x 0) (24 + k) && (match s.gnss.chains[x].bands[k % 3]'(Nat.mod_lt _ (by decide)) with
    | { jamFrom := some t, .. } => decide (epoch ≤ t)
    | _ => true)

/-- The bands of a satellite that take part. -/
def State.satBands (s : State) (x : Fin 2) (epoch : Nat) (a : Sat) : Nat :=
  (List.range 3).foldl (fun b k => if a.bands.testBit k && s.bandIn x epoch k then b + 2 ^ k else b) 0

/-- Dual-frequency by R212. -/
def dualBands (sys b : Nat) : Bool := b.testBit 2 && (b.testBit 0 || (sys = 2 && b.testBit 1))

/-- OSNMA verifies: on, and TB0's bound finite (its range ends below 15 s) (R221). -/
def State.osnmaOn (s : State) : Bool := s.fld 0x070004 0 2 ≠ 0 && !s.untraceable 0

/-- A satellite may be used: not excluded, its system on, above the mask, on a band that takes part, and for Galileo under REQ 2 authenticated (R201, R205, R221). -/
def State.satOk (s : State) (x : Fin 2) (epoch : Nat) (a : Sat) : Bool :=
  a.used && !a.excluded && s.bit 0x070000 (20 + a.sys) && decide (s.fld (gnssReg x 0) 8 8 ≤ a.elev) && s.satBands x epoch a ≠ 0 &&
  !(a.sys = 1 && s.fld 0x070004 0 2 = 2 && !(a.osnma = 2 && s.osnmaOn))

/-- Members of a system; GPS and QZSS share their time (Table 8.4). -/
def sameTime (a b : Nat) : Bool := a % 3 = b % 3

/-- The satellites used: of a system other than REF_SYS only from two on (R211). -/
def State.usedSats (s : State) (x : Fin 2) (f : Fix) : List Sat :=
  let l := f.sats.filter (fun a => s.satOk x f.epoch a)
  l.filter (fun a => sameTime a.sys (s.fld 0x070000 24 2) || 2 ≤ (l.filter (fun b => sameTime b.sys a.sys)).length)

/-- Ten times e_i in ps (R214). -/
def State.satTerm (s : State) (x : Fin 2) (epoch : Nat) (a : Sat) : Nat :=
  (s.rd (gnssReg x 0x70)).toNat * a.ura + (if dualBands a.sys (s.satBands x epoch a) then 0 else max 50000 (5 * a.iono))
  + a.tropo + 3000 + 10 * (s.rd (gnssReg x 0x6C)).toNat + 10000

/-- The speed of light in m/s. -/
def lightSpeed : Nat := 299792458

/-- U of R214 in ps without WARN_MARGIN, rounded up: the sum is formed in units of 2⁻³⁰/10 ps, and over c for the position term. -/
def State.uncOf (s : State) (x : Fin 2) (f : Fix) (dev : Option Int) : Nat :=
  let l := s.usedSats x f
  let sats := l.foldl (fun u a => u + a.weight.natAbs * s.satTerm x f.epoch a) 0
  let pos := if s.gnssMode x = 2 then (s.rd (gnssReg x 0x4C)).toNat * 10 ^ 10 * 2 ^ 30 else 0
  let clk := match dev with | some d => d.natAbs | none => 0
  divUp (((s.rd (gnssReg x 0x68)).toNat * f.sigma * 2 ^ 30 + sats + clk * 10 * 2 ^ 30) * lightSpeed + pos) (10 * 2 ^ 30 * lightSpeed)

/-! ### Integrity -/

/-- τ of GNSSx_CLK_CFG.TAU in s. -/
def State.clkTau (s : State) (x : Nat) : Nat := match s.fld (gnssReg x 0x80) 4 2 with | 0 => 100 | 1 => 1000 | _ => 10000

/-- The clock check is active (R219). -/
def State.clkActive (s : State) (x : Nat) : Bool := s.bit (dpllReg (s.fld (gnssReg x 0x80) 0 4) 0x5C) 0

/-- The phase of ATOM against TB0. -/
def State.atomPhase (s : State) : Option Int := match s.atomSlot with
  | some k => s.refs[k].phase
  | none => none

/-- CLK_DEV in ps at an epoch, where the check is active and the history reaches back over τ (R219): the phase's change less y0 × τ + D × τ × t_mid. -/
def State.clkDev (s : State) (x : Fin 2) (f : Fix) : Option Int :=
  let d : Fin 16 := ⟨s.fld (gnssReg x 0x80) 0 4, Nat.mod_lt _ (by decide)⟩
  let τ := s.clkTau x
  if !s.clkActive x then none
  else match s.atomPhase, s.gnss.chains[x].hist.find? (fun (p : Nat × Int) => decide (p.1 + τ * ticksPerS ≤ f.epoch)) with
    | some a, some p =>
      let y := signed 32 (s.rd (dpllReg d 0x64)).toNat
      let dd := signed 32 (s.rd (dpllReg d 0x68)).toNat
      let mid2 : Int := 2 * (f.epoch : Int) - τ * ticksPerS - 2 * s.dplls[d].fitTick
      let moved := (f.offset - a - p.2) * 1000
      let model := y * τ * 1000000 * (2 * ticksPerS : Nat) + dd * τ * mid2
      some (divAway (moved * (1000000000 * 2 * ticksPerS : Nat) - model * (2 ^ 56 : Nat)) (2 ^ 56 * (1000000000 * 2 * ticksPerS)))
    | _, _ => none

/-- A standard deviation of the band-0 C/N0 below 1.0 dB-Hz over at least six used satellites (Table 8.6): of n values x in 0.1 dB-Hz, n Σx² − (Σx)² < 100 n². -/
def cn0Flat (l : List Sat) : Bool :=
  let n : Int := l.length
  let sx := l.foldl (fun (a : Int) b => a + b.cn0) 0
  let sq := l.foldl (fun (a : Int) b => a + (b.cn0 * b.cn0 : Nat)) 0
  6 ≤ l.length && decide (n * sq - sx * sx < 100 * n * n)

/-- A Galileo satellite failed authentication within the last 300 s (Table 8.6). -/
def State.osnmaFailed (s : State) (x : Fin 2) : Bool := match s.gnss.chains[x].osnmaFail with
  | some t => decide (s.tick ≤ t + 300 * ticksPerS)
  | none => false

/-- The indicators of Table 8.6 at a solution with uncertainty `u` and clock deviation `dev`. -/
def State.indicators (s : State) (x : Fin 2) (f : Fix) (u : Nat) (dev : Option Int) (ab : Bool) : Nat :=
  let l := s.usedSats x f
  let clk := match dev with | some d => decide ((s.rd (gnssReg x 0x84)).toNat * s.clkTau x < d.natAbs) | none => false
  let pos := s.gnssMode x = 2 && 5 ≤ l.length && decide ((s.rd (gnssReg x 0x98)).toNat < f.posDev)
  let jump := match s.gnss.chains[x].valid with
    | some v => decide ((v.2.1 + u) * 2 ^ 56 < (f.offset - v.1 + f.steer).natAbs * 1000)
    | none => false
  b2n ab + 2 * b2n clk + 4 * b2n pos + 8 * b2n jump + 16 * b2n f.raim
  + 32 * b2n (s.osnmaFailed x && s.fld 0x070004 0 2 ≠ 0) + 64 * b2n (f.sats.any (·.dup)) + 128 * b2n (cn0Flat l)
  + 256 * b2n (3 ≤ (l.filter (·.asym)).length) + 512 * b2n (f.sats.any (·.excluded))

/-- The points of the indicators, saturating (R217). -/
def scoreOf (ind : Nat) : Nat :=
  let pts := [64, 64, 64, 64, 64, 32, 32, 24, 16, 8]
  min 255 ((List.range 10).foldl (fun a i => if ind.testBit i then a + pts.getD i 0 else a) 0)

/-- Verdict of a score: 0 PASS, 1 WARN, 2 FAIL; a chain in FAIL stays there (R217, R222). -/
def State.verdict (s : State) (x : Fin 2) (score : Nat) : Nat :=
  let thr := (s.rd (gnssReg x 0x78)).toNat
  if thr ≤ score || s.gnss.chains[x].fail then 2 else if thr / 2 ≤ score then 1 else 0

/-- All of R213 but U and the verdict. -/
def State.fixSound (s : State) (x : Fin 2) (f : Fix) : Bool :=
  let need := if s.gnssMode x = 2 then 2 else 5
  decide (max (s.fld (gnssReg x 0) 16 6) need ≤ (s.usedSats x f).length) && !f.raim && f.weeks.all (fun w => w = f.weeks.getD 0 0)

/-- STAT of a solution (Table 8.11). -/
def State.gnssStat (s : State) (x : Fin 2) (f : Fix) (valid : Bool) (verdict : Nat) : Word :=
  let l := s.usedSats x f
  let old := s.rd (gnssReg x 4)
  let osnma := if s.fld 0x070004 0 2 = 0 then 0 else if s.osnmaFailed x then 3
    else if s.osnmaOn && l.any (fun a => a.sys = 1 && a.osnma = 2) then 1 else 2
  let w := fset old 30 2 (if valid then (if s.gnssMode x = 2 then 2 else 1) else 0)
  let w := fset w 28 2 verdict
  let w := fset w 27 1 (b2n (l ≠ [] && l.all (fun a => dualBands a.sys (s.satBands x f.epoch a))))
  let w := fset w 26 1 (b2n (decide (f.offset < 0)))
  let w := fset w 25 1 (b2n f.capt)
  let w := fset w 20 1 (b2n (s.clkActive x))
  let w := fset w 18 2 osnma
  let w := fset w 8 8 l.length
  fset w 0 8 f.sats.length

/-- FAIL and its clearing follow the score (R222). -/
def State.trackFail (s : State) (x : Fin 2) (score : Nat) : State :=
  let thr := (s.rd (gnssReg x 0x78)).toNat
  s.modChain x fun c =>
    { c with fail := c.fail || decide (thr ≤ score), lowFrom := if score < thr / 2 then (if c.lowFrom.isSome then c.lowFrom else some s.tick) else none }

/-- Publishes the verdict of the chain's latest solution: registers, events, the slot's quality and phase sample (R213, R217, R222 to R224). `again` where only the mismatch has changed since its first publication. -/
def State.gnssJudge (s : State) (x : Fin 2) (f : Fix) (dev : Option Int) (again : Bool) : State :=
  let c := s.gnss.chains[x]
  let ind := s.indicators x f c.plainU dev c.ab
  let score := scoreOf ind
  let v := s.verdict x score
  let u := c.plainU + (if v = 1 then (s.rd (gnssReg x 0x74)).toNat else 0)
  let valid := c.sound && decide (u < 1000000000) && v ≠ 2
  let was := s.fld (gnssReg x 4) 30 2 ≠ 0
  let before := s.fld (gnssReg x 4) 28 2
  let ev := (if valid && !was then 1 else 0) + (if !valid && was then 2 else 0) + (if v = 1 && before ≠ 1 then 4 else 0)
    + (if v = 2 && before ≠ 2 then 8 else 0) + (if ind.testBit 1 && !(s.rd (gnssReg x 0x2C)).toNat.testBit 1 then 0x80 else 0)
    + (if ind.testBit 2 && !(s.rd (gnssReg x 0x2C)).toNat.testBit 2 then 0x200 else 0)
  let s1 := ((s.wr (gnssReg x 4) (s.gnssStat x f valid v)).wr (gnssReg x 0x2C) (BitVec.ofNat 32 (score * 65536 + ind))).wr (gnssReg x 0x1C)
    (if valid then BitVec.ofNat 32 (min (divUp u 250) 0xFFFFFFFE) else 0xFFFFFFFF)
  let s2 := (s1.trackFail x score).raise (gnssReg x 8) ev
  let s3 := s2.modChain x fun c => { c with valid := if valid then some (f.offset, u, f.epoch) else c.valid }
  let s4 : State := if valid then
      { s3 with gnss := { s3.gnss with fixAt := some (s.tick : Int), db := (s.usedSats x f).foldl (fun l a => (a.sys, a.prn, (s.tick : Int)) :: l.filter (fun (p : Nat × Nat × Int) => (p.1, p.2.1) ≠ (a.sys, a.prn))) s3.gnss.db } }
    else s3
  match s4.gnssSlot x with
  | none => s4
  | some k =>
    if v = 2 then s4.advertise k (qualityOf (.gnss true u)).1 0
    else if !valid then s4
    else
      let s5 := (s4.modRef k fun r => { r with unc := u }).advertise k (qualityOf (.gnss false u)).1 0
      if again then s5 else s5.refSample k f.offset f.epoch false

/-- The A/B mismatch of two solutions of one epoch (R218): D from chain `x`'s side, and the chains it is assigned to. -/
def State.abCheck (s : State) (x y : Fin 2) (f g : Fix) (dx dy : Option Int) : State :=
  let d := f.offset - g.offset
  let ps := divAway (d * 1000) (2 ^ 56)
  let lim := s.gnss.chains[x].plainU + s.gnss.chains[y].plainU + (s.rd (gnssReg x 0x88)).toNat * 1000
  let s1 := (s.wr (gnssReg x 0x38) (sat32 ps)).wr (gnssReg y 0x38) (sat32 (-ps))
  let off := d.natAbs * 1000 ≤ lim * 2 ^ 56
  let who : Bool × Bool := if off then (false, false) else match dx, dy with
    | some a, some b => if b.natAbs < a.natAbs then (true, false) else if a.natAbs < b.natAbs then (false, true) else (true, true)
    | _, _ => (true, true)
  let s2 := (s1.modChain x fun c => { c with ab := who.1 }).modChain y fun c => { c with ab := who.2 }
  if off then s2 else (s2.raise (gnssReg x 8) 0x100).raise (gnssReg y 8) 0x100

/-- The other chain. -/
def otherChain (x : Fin 2) : Fin 2 := if x = 0 then 1 else 0

/-- The published CLK_DEV, for a chain whose clock check is active. -/
def State.shownDev (s : State) (x : Fin 2) : Option Int :=
  if s.clkActive x && s.bit (gnssReg x 4) 20 then some (signed 32 (s.rd (gnssReg x 0x34)).toNat) else none

/-- GNSS_SOLUTION: a chain forms and publishes the solution of an epoch (R209 to R225). -/
def State.gnssSolve (s : State) (x : Fin 2) (f : Fix) : State :=
  if !s.chainOn x || s.gnssFenced then s
  else
    let fails := f.sats.any (fun a => a.sys = 1 && a.osnma = 3)
    let s0 := if fails && s.fld 0x070004 0 2 ≠ 0 then (s.modChain x fun c => { c with osnmaFail := some s.tick }).raise 0x070008 0x10 else s
    let s1 := if f.weeks.all (fun w => w = f.weeks.getD 0 0) then s0 else s0.raise 0x070008 8
    let dev := s1.clkDev x f
    let u := s1.uncOf x f dev
    let e := (s1.tb0 : Int) - s1.tbInc 0 * ((s1.tick : Int) - f.epoch)
    let s2 := (s1.wrAll (gnssReg x 0xC) (timeWords f.offset.natAbs)).wrAll (gnssReg x 0x20)
      [BitVec.ofNat 32 (min f.sigma 0xFFFFFFFF), BitVec.ofNat 32 (secOf e.toNat), BitVec.ofNat 32 (nsOf e.toNat)]
    let s3 := s2.wr (gnssReg x 0x34) (sat32 (dev.getD 0))
    let hist := match s1.atomPhase with
      | some a => ((f.epoch, f.offset - a) :: s1.gnss.chains[x].hist).filter (fun (p : Nat × Int) => decide (f.epoch ≤ p.1 + 10001 * ticksPerS))
      | none => []
    let s4 := s3.modChain x fun c => { c with last := some f, sound := s1.fixSound x f, plainU := u, ab := false, hist := hist }
    let y := otherChain x
    match s4.gnss.chains[y].last with
    | none => s4.gnssJudge x f dev false
    | some g =>
      if s4.chainOn y && g.epoch = f.epoch && s4.gnss.chains[x].sound && s4.gnss.chains[y].sound then
        let dy := s4.shownDev y
        let s5 := s4.abCheck x y f g dev dy
        let s6 := if s5.gnss.chains[y].ab then s5.gnssJudge y g dy true else s5
        s6.gnssJudge x f dev false
      else s4.gnssJudge x f dev false

/-- INTEG_FAIL_CLEAR: the score has stayed below half the threshold for GNSSx_FAIL_CLEAR (R222). -/
def State.integClear (s : State) (x : Fin 2) : State :=
  match s.gnss.chains[x].lowFrom with
  | none => s
  | some t =>
    if s.gnss.chains[x].fail && decide (t + (s.rd (gnssReg x 0x8C)).toNat * ticksPerS ≤ s.tick) then
      (s.modChain x fun c => { c with fail := false }).setFld (gnssReg x 4) 28 2 0
    else s

/-! ### Jamming -/

def State.modBand (s : State) (x : Fin 2) (k : Fin 3) (f : Band → Band) : State :=
  s.modChain x fun c => { c with bands := c.bands.set k (f c.bands[k]) }

/-- The sum of a list. -/
def sumInt (l : List Int) : Int := l.foldl (· + ·) 0

/-- GNSS_JAM_MEASURE: the noise floor of a band over 1 s in 0.25 dB and the occupancy of its magnitude bit in per mille (R220). -/
def State.jamMeasure (s : State) (x : Fin 2) (k : Fin 3) (noise : Int) (occ : Nat) : State :=
  if !s.chainOn x || !s.bit (gnssReg x 0) (24 + k) then s
  else
    let b := s.gnss.chains[x].bands[k]
    let l := (noise :: b.noise).take 10
    let base := if l.length = 10 then some (match b.base with | some v => min v (sumInt l) | none => sumInt l) else b.base
    let rise10 := match base with | some v => 10 * noise - v | none => 0
    let jam := decide ((10 * (s.rd (gnssReg x 0x7C)).toNat : Int) < rise10) || decide (occ < 200) || decide (500 < occ)
    let s1 := s.setFld (gnssReg x 0x30) (8 * k) 8 (min 255 (rise10 / 10).toNat)
    let s2 := s1.modBand x k fun b =>
      { b with noise := l, base := base, lastJam := if jam then s.tick else b.lastJam, jamFrom := if jam && b.jamFrom.isNone then some s.tick else b.jamFrom }
    if jam && b.jamFrom.isNone then (s2.setBit (gnssReg x 4) (21 + k) true).raise (gnssReg x 8) 0x40 else s2

/-- GNSS_JAM_READMIT: 10 s without the condition (R220). -/
def State.jamReadmit (s : State) (x : Fin 2) (k : Fin 3) : State :=
  let b := s.gnss.chains[x].bands[k]
  if b.jamFrom.isSome && decide (b.lastJam + 10 * ticksPerS ≤ s.tick) then
    (s.modBand x k fun b => { b with jamFrom := none }).setBit (gnssReg x 4) (21 + k) false
  else s

/-! ### Surveys -/

/-- SURVEY_LEFT in s, rounded up. -/
def State.surveyLeft (s : State) (x : Fin 2) : Nat :=
  if s.gnssMode x = 1 then divUp (s.gnss.chains[x].surveyFrom + (s.rd (gnssReg x 0x50)).toNat * ticksPerS - s.tick) ticksPerS else 0

/-- SURVEY_DONE: SURVEY_TIME has elapsed with an averaged position in cm and 3σ in mm within SURVEY_SIGMA (Table 8.5). -/
def State.surveyDone (s : State) (x : Fin 2) (px py pz : Int) (sig3 : Nat) : State :=
  if s.gnssMode x = 1 && s.surveyLeft x = 0 && decide (sig3 ≤ (s.rd (gnssReg x 0x54)).toNat) then
    ((s.wrAll (gnssReg x 0x40) [BitVec.ofInt 32 px, BitVec.ofInt 32 py, BitVec.ofInt 32 pz, BitVec.ofNat 32 (max sig3 5)]).gnssEnter x 2).raise (gnssReg x 8) 0x10
  else s

/-- SURVEY_FAIL: twice SURVEY_TIME without meeting SURVEY_SIGMA (Table 8.5). -/
def State.surveyFail (s : State) (x : Fin 2) : State :=
  if s.gnssMode x = 1 && decide (s.gnss.chains[x].surveyFrom + 2 * (s.rd (gnssReg x 0x50)).toNat * ticksPerS ≤ s.tick) then
    (s.gnssEnter x 0).raise (gnssReg x 8) 0x20
  else s

/-! ### OSNMA root, leap announcements -/

/-- A word of the Merkle root, by a DNG write (R221). -/
def State.rootWrite (s : State) (m : Master) (i : Fin 8) (v : Word) : State :=
  let off := 0x070010 + 4 * i.val
  if i.val ≠ 0 && i.val ≠ s.gnss.rootNext then s.reject m off .seq
  else
    let s1 : State := { s with gnss := { s.gnss with rootNext := if i.val = 7 then 0 else i.val + 1 } }
    let s2 := s1.wr off v
    if i.val = 0 then s2.setBit 0x070004 2 false else if i.val = 7 then s2.setBit 0x070004 2 true else s2

/-- The UTC time bases with SRC = 0 whose DPLL has selected a GNSS slot (R226). -/
def State.leapTargets (s : State) : List (Fin 64) :=
  (List.finRange 64).filter (fun n => s.plt.plot.tbPresent n && s.plt.plot.tbScale n = 1 && !s.bit (tbReg n 0x78) 4 &&
    (match s.tbLoop n with
     | some d => (match s.selected d with | some k => isGnss (s.plt.plot.refSource k) | none => false)
     | none => false))

/-- The control cores write an announcement: L in LEAP_AT and PEND in LEAP_CTL, under R80 and R81; nothing where L lies more than 366 days ahead. -/
def State.leapPut (s : State) (n : Fin 64) (typ l : Nat) : State :=
  if s.tbs[n].value + 366 * 86400 * secU < l * secU then s
  else
    let s1 := (s.leapAtW (.core 0) n false (BitVec.ofNat 32 l)).leapAtW (.core 0) n true (BitVec.ofNat 32 (l / 2 ^ 32))
    s1.leapCtl (.core 0) n (fset (s.rd (tbReg n 0x78)) 0 2 typ)

/-- The accepted L. -/
def State.leapSec (s : State) : Nat := s.fld 0x07003C 0 16 * 2 ^ 32 + (s.rd 0x070038).toNat

/-- The accepted announcement goes to every target it has not reached yet (R226). -/
def State.leapSpread (s : State) : State :=
  let typ := s.fld 0x070034 16 2
  if typ = 0 then s
  else s.leapTargets.foldl (fun s (n : Fin 64) =>
    if s.fld (tbReg n 0x78) 0 2 = 0 && decide (s.tbs[n].value + secU < s.leapSec * secU) then s.leapPut n typ s.leapSec else s) s

/-- GNSS_LEAP_ACCEPT: an announcement of type 1 or 2 for the UTC second `l`, decoded from `votes` systems or authenticated by OSNMA, with the decoded TAI − UTC (R226). -/
def State.leapAccept (s : State) (typ l votes : Nat) (auth : Bool) (taiUtc : Nat) : State :=
  let s0 := if s.leapTargets.any (fun n => s.taiUtc n ≠ taiUtc) then s.raise 0x070008 4 else s
  if (votes < 2 && !auth) || typ = 0 || 2 < typ then s0
  else
    let s1 := ((s0.wr 0x070034 (fset (fset (fset 0 16 2 typ) 8 8 votes) 0 8 taiUtc)).wr 0x070038 (BitVec.ofNat 32 l)).wr 0x07003C
      (BitVec.ofNat 32 (l / 2 ^ 32 % 2 ^ 16))
    (s1.raise 0x070008 1).leapSpread

/-- GNSS_LEAP_WITHDRAWN: PEND = 0 is written where L − 1 s has not come (R226). -/
def State.leapWithdraw (s : State) : State :=
  if s.fld 0x070034 16 2 = 0 then s
  else
    let s1 := s.leapTargets.foldl (fun s (n : Fin 64) =>
      if decide (s.tbs[n].value + secU < s.leapSec * secU) then s.leapCtl (.core 0) n (fset (s.rd (tbReg n 0x78)) 0 2 0) else s) s
    (s1.setFld 0x070034 16 2 0).raise 0x070008 2

/-! ### Front-end SPI and read-out -/

/-- GNSSx_FESPI_DATA: a write sends BITS bits (R204, Table 8.14); a bit takes 2 × (DIV + 1) cycles of 250 MHz, 10 × (DIV + 1) ticks. -/
def State.fespiWrite (s : State) (m : Master) (x : Fin 2) (v : Word) : State :=
  s.guardW m (gnssReg x 0x94) v fun s =>
    if s.bit (gnssReg x 0x90) 31 then s.reject m (gnssReg x 0x94) .busy
    else
      let w := s.rd (gnssReg x 0x90)
      (s.setBit (gnssReg x 0x90) 31 true).modChain x fun c => { c with fespi := some (s.tick + fget w 0 6 * 10 * (fget w 8 8 + 1), v) }

/-- FESPI_TRANSFER_DONE: the bits received from the front end. -/
def State.fespiDone (s : State) (x : Fin 2) (v : Word) : State :=
  match s.gnss.chains[x].fespi with
  | none => s
  | some p =>
    if p.1 ≤ s.tick then
      ((s.modChain x fun c => { c with fespi := none }).setBit (gnssReg x 0x90) 31 false).wr (gnssReg x 0x94)
        (BitVec.ofNat 32 (v.toNat % 2 ^ s.fld (gnssReg x 0x90) 0 6))
    else s

/-- GNSSx_OFF_W0 read: latches +0x04 to +0x38 for the reading master (R228). -/
def State.offRead (s : State) (m : Master) (x : Fin 2) : State :=
  match s.checkRead m (gnssReg x 0xC) with
  | some e => s.rejectRead m (gnssReg x 0xC) e
  | none =>
    (s.hsetAll m.idx (gnssReg x 4) ((List.range 14).map fun i => s.rd (gnssReg x (4 + 4 * i)))).answer m.idx (s.rd (gnssReg x 0xC))

/-- The satellite that GNSS_SV_SEL names for a master, in the chain's latest solution. -/
def State.svOf (s : State) (m : Master) : Option (Fin 2 × Fix × Sat) :=
  let w := s.hget m.idx 0x070040
  let x : Fin 2 := ⟨fget w 12 1, Nat.mod_lt _ (by decide)⟩
  match s.gnss.chains[x].last with
  | none => none
  | some f => (f.sats.find? (fun a => a.sys = fget w 8 2 && a.prn = fget w 0 8)).map fun a => (x, f, a)

/-- GNSS_SV_STAT and GNSS_SV_INFO of a satellite (Table 8.13). -/
def State.svWords (s : State) (m : Master) : Word × Word :=
  match s.svOf m with
  | none => (0, 0)
  | some (x, f, a) =>
    let used := (s.usedSats x f).contains a
    let w := fset 0 31 1 1
    let w := fset w 30 1 (b2n used)
    let w := fset w 28 2 a.osnma
    let w := fset w 25 3 a.bands
    let w := fset w 24 1 (b2n a.excluded)
    let w := fset w 16 8 a.elev
    let w := fset w 8 8 (a.cn0 / 10)
    let info := if used then fset (fset 0 16 16 (unsigned 16 (a.weight / ((2 ^ 15 : Nat) : Int)))) 0 16
      (min (divUp (s.satTerm x f.epoch a) 100) 0xFFFF) else 0
    (w, info)

/-- GNSS_SV_STAT read (R228). -/
def State.svRead (s : State) (m : Master) : State :=
  match s.checkRead m 0x070044 with
  | some e => s.rejectRead m 0x070044 e
  | none => (s.hset m.idx 0x070048 (s.svWords m).2).answer m.idx (s.svWords m).1

/-- What a tick does to the GNSS block: sample clocks, jam readmission, FAIL clearing, survey failure, waiting announcements. -/
def State.gnssTick (s : State) : State :=
  let s1 := (List.finRange 2).foldl (fun s (x : Fin 2) =>
    ((List.finRange 3).foldl (fun s (k : Fin 3) => s.jamReadmit x k) (s.integClear x)).surveyFail x) s.gnssClocks
  if s.tick % ticksPerS = 0 then s1.leapSpread else s1

/-- GNSS_CHAIN_ENABLE (R206): a write of GNSS_CTL. -/
def execGnssChainEnable (m : Master) (v : Word) (s : State) : Out1 := .next (s.gnssCtl m v)
/-- GNSS_CHAIN_DISABLE (R202): a write of GNSS_CTL. -/
def execGnssChainDisable (m : Master) (v : Word) (s : State) : Out1 := .next (s.gnssCtl m v)
/-- GNSS_CLEAR_DB (R207): a write of GNSS_CTL. -/
def execGnssClearDb (m : Master) (v : Word) (s : State) : Out1 := .next (s.gnssCtl m v)
/-- GNSS_SOLUTION (R213). -/
def execGnssSolution (x : Fin 2) (f : Fix) (s : State) : Out1 := .next (s.gnssSolve x f)
/-- GNSS_JAM_MEASURE (R220). -/
def execGnssJamMeasure (x : Fin 2) (k : Fin 3) (noise : Int) (occ : Nat) (s : State) : Out1 := .next (s.jamMeasure x k noise occ)
/-- GNSS_JAM_READMIT (R220). -/
def execGnssJamReadmit (x : Fin 2) (k : Fin 3) (s : State) : Out1 := .next (s.jamReadmit x k)
/-- INTEG_FAIL_CLEAR (R222). -/
def execIntegFailClear (x : Fin 2) (s : State) : Out1 := .next (s.integClear x)
/-- GNSS_MODE_WRITE (R215): a write of GNSSx_CFG. -/
def execGnssModeWrite (m : Master) (x : Fin 2) (v : Word) (s : State) : Out1 := .next (s.gnssCfg m x v)
/-- SURVEY_DONE (R215). -/
def execSurveyDone (x : Fin 2) (px py pz : Int) (sig3 : Nat) (s : State) : Out1 := .next (s.surveyDone x px py pz sig3)
/-- SURVEY_FAIL (R215). -/
def execSurveyFail (x : Fin 2) (s : State) : Out1 := .next (s.surveyFail x)
/-- OSNMA_ROOT_WRITE (R221): the completed DNG write. -/
def execOsnmaRootWrite (m : Master) (i : Fin 8) (v : Word) (s : State) : Out1 :=
  .next (s.guardW m (0x070010 + 4 * i.val) v fun s => s.rootWrite m i v)
/-- GNSS_LEAP_ACCEPT (R226). -/
def execGnssLeapAccept (typ l votes : Nat) (auth : Bool) (taiUtc : Nat) (s : State) : Out1 := .next (s.leapAccept typ l votes auth taiUtc)
/-- GNSS_LEAP_WITHDRAWN (R226). -/
def execGnssLeapWithdrawn (s : State) : Out1 := .next s.leapWithdraw
/-- FESPI_DATA_WRITE (R204). -/
def execFespiDataWrite (m : Master) (x : Fin 2) (v : Word) (s : State) : Out1 := .next (s.fespiWrite m x v)
/-- FESPI_TRANSFER_DONE (R204). -/
def execFespiTransferDone (x : Fin 2) (v : Word) (s : State) : Out1 := .next (s.fespiDone x v)
/-- GNSS_OFF_W0_READ (R228). -/
def execGnssOffW0Read (m : Master) (x : Fin 2) (s : State) : Out1 := .next (s.offRead m x)
/-- GNSS_SV_STAT_READ (R228). -/
def execGnssSvStatRead (m : Master) (s : State) : Out1 := .next (s.svRead m)

end Sys2Proof.Machine
end

