-- ==== Sys2Proof/Machine/PwrOps.lean ====
section
/-! DEFINITION. Sys2Proof/Machine/PwrOps.lean: the power states of the domains (spec/18_power_reset_startup.md, R472, R473). -/
namespace Sys2Proof.Machine

def State.modPwr (s : State) (f : Pwr → Pwr) : State := { s with pwr := f s.pwr }

/-- The plot gives an engine of cluster `c` a class. -/
def Plot.clusterUsed (p : Plot) (c : Nat) : Bool := (List.range 16).any (fun e => p.engine (16 * c + e) ≠ 0)

/-- The plot wants domain `d` ON: it codes it 1 or 2 and uses a unit of it (R38, R473); the capture inputs always use PD11 (R500). -/
def Plot.wantsDomain (p : Plot) (d : Nat) : Bool :=
  d = 0 || d = 1 || (p.pdMode d ≠ 0 && (match d with
    | 2 => p.chain 0 || p.chain 1
    | 3 | 4 | 5 | 6 => p.cluster (d - 3) && p.clusterUsed (d - 3)
    | 7 | 8 => p.complex (d - 7)
    | _ => true))

/-- The switch of domain `d` is closed. -/
def State.powered (s : State) (d : Nat) : Bool := s.pwr.powered.contains d

/-- Every port of complex `x` is dormant, and its domain may sleep (Table 1.4, R473). -/
def State.complexAsleep (s : State) (x : Nat) : Bool :=
  let ports := (List.range 8).map (· + 8 * x) |>.filter s.plt.plot.portPresent
  s.plt.plot.pdMode (7 + x) = 2 && !ports.isEmpty && ports.all (fun p => s.fld (0x080008 + 0x1000 * p) 29 3 = 1)

/-- PWR_DOM_STAT of domain `d`: 0 OFF, 1 ON, 2 SLEEP, 3 RETENTION (Table 18.2). -/
def State.domStat (s : State) (d : Nat) : Nat :=
  if !s.powered d then 0
  else if 3 ≤ d && d ≤ 6 then (if s.fld (0x090100 + 0x100 * (d - 3)) 30 2 = 0 && s.plt.plot.pdMode d = 2 then 2 else 1)
  else if (d = 7 || d = 8) && s.complexAsleep (d - 7) then 0
  else if d = 9 && s.bit 0x0F0004 31 then 3
  else 1

/-- PWR_DOM_STAT. -/
def State.domWord (s : State) : Word := (List.range 12).foldl (fun w d => fset w (2 * d) 2 (s.domStat d)) 0

/-- PWR_EVT.DOM_CHG where a domain has changed state since `before`. -/
def State.domFollow (s before : State) : State := if s.domWord = before.domWord then s else s.raise 0x100008 4

/-- Domain `d` is ON: its ramp has ended (R472). -/
def State.domainOn (s : State) (d : Nat) : State :=
  s.modPwr fun p =>
    { p with powered := if p.powered.contains d then p.powered else p.powered ++ [d], wanted := p.wanted.filter (· ≠ d) }

/-- The first domain that waits for power is switched on; the next one follows after it (R472). -/
def State.powerNext (s : State) : State :=
  match s.pwr.wanted with
  | d :: _ => (s.domainOn d).domFollow s
  | [] => s

/-- Every domain that waits is on. -/
def State.powerAll (s : State) : State := (s.pwr.wanted.foldl (fun (s : State) d => s.domainOn d) s).domFollow s

/-- The domains follow a plot: those it does not want are switched off, those it wants and that are off wait for their turn, in domain order (R472, R473). -/
def State.powerPlan (s : State) : State :=
  let p := s.plt.plot
  (s.modPwr fun q =>
    { q with powered := q.powered.filter p.wantsDomain, wanted := (List.range 12).filter (fun d => p.wantsDomain d && !q.powered.contains d) }).domFollow s

end Sys2Proof.Machine
end

