-- ==== Sys2Proof/Machine/PortOps.lean ====
section
/-! DEFINITION. Sys2Proof/Machine/PortOps.lean: port states, gate lists, reservations, release checks, aborts and unreserved transmission (spec/09_ports_timestamping.md). -/
namespace Sys2Proof.Machine

/-- A register of port `p`'s page (Table 9.15). -/
def portReg (p o : Nat) : Nat := 0x080000 + 0x1000 * p + o
def State.modPort (s : State) (p : Fin 16) (f : Port → Port) : State := { s with ports := s.ports.set p (f s.ports[p]) }

/-- STATE of PORTn_STAT: 0 DISABLED, 1 DORMANT, 2 DOWN, 3 START, 4 SERVICE, 5 TEST, 6 RECOVERY. -/
def State.portState (s : State) (p : Nat) : Nat := s.fld (portReg p 8) 29 3
def State.portLink (s : State) (p : Nat) : Bool := s.bit (portReg p 8) 28
/-- START, SERVICE, TEST or RECOVERY: the port carries frames (R239, R261). -/
def State.portCarries (s : State) (p : Nat) : Bool := decide (3 ≤ s.portState p)
def State.portEvent (s : State) (p mask : Nat) : State := s.raise (portReg p 0xC) mask
/-- The complex of a lane: 0 for lanes 0 to 7, 1 for 8 to 15. -/
def complexOf (lane : Nat) : Nat := lane / 8
/-- A port complex, a service cluster is fenced (Table 15.3). -/
def State.complexFenced (s : State) (x : Nat) : Bool := s.bit 0x0E0028 (4 + x)
def State.clusterFenced (s : State) (c : Nat) : Bool := s.bit 0x0E0028 c
/-- The other port of a path pair. -/
def State.portPartner (s : State) (p : Nat) : Option (Fin 16) :=
  if h : s.plt.plot.portPair p < 16 then some ⟨s.plt.plot.portPair p, h⟩ else none
/-- The lower lane of a pair, where its table and counter stand. -/
def State.pairHome (s : State) (p : Fin 16) : Fin 16 :=
  match s.portPartner p with
  | some q => if q.val < p.val then q else p
  | none => p
/-- The time base of PORTS.STAMP_TB. -/
def State.stampTb (s : State) (p : Nat) : Fin 64 := ⟨s.plt.plot.stampTb p % 64, Nat.mod_lt _ (by decide)⟩

/-- Picoseconds of Table 9.2 for a mode: TXLAT_NOM, RXLAT_NOM, TX_COMMIT. -/
def portLat (mode : Nat) : Nat × Nat × Nat :=
  match mode with
  | 1 => (172800, 180000, 240000)
  | 2 => (118400, 96000, 160000)
  | 3 => (89600, 72000, 128000)
  | 4 | 5 => (76800, 51200, 112000)
  | 6 | 7 => (64000, 38400, 96000)
  | _ => (0, 0, 0)

/-- Quanta per PCS block (Table 9.1), and per byte on the wire. -/
def blockQuanta (mode : Nat) : Nat := match mode with | 1 => 20480 | 2 => 8192 | 3 => 4096 | 4 | 5 => 2048 | _ => 512
def byteQuanta (mode : Nat) : Nat := match mode with | 1 => 2560 | 2 => 1024 | 3 => 512 | 4 | 5 => 256 | _ => 64
/-- A picosecond is 3.2 quanta; a nanosecond 3,200. -/
def nsQuanta (ns : Nat) : Nat := 3200 * ns
/-- This tick in quanta. -/
def State.nowQ (s : State) : Nat := 2560 * s.tick

/-- The lane's stamps are refined (R236). -/
def State.portRefined (s : State) (p : Nat) : Bool := s.portLink p && s.laneRefined p

/-! ### Gate lists -/

/-- The spans of a cycle of `cyc` units as (start, end, mask): the last entry extends to the cycle's end, a longer list is cut (R256). A unit is a fifth of 2⁻⁵⁶ ns, in which 6.4 ns is whole. -/
def gateSpans (cyc : Nat) : Nat → List Word → List (Nat × Nat × Nat)
  | _, [] => []
  | pos, [g] => if pos < cyc then [(pos, cyc, fget g 24 8)] else []
  | pos, g :: t =>
    if cyc ≤ pos then []
    else (pos, min (pos + fget g 0 24 * 32 * 2 ^ 56) cyc, fget g 24 8) :: gateSpans cyc (pos + fget g 0 24 * 32 * 2 ^ 56) t

/-- Queue `q` is open from the value `a` for `len` units of 2⁻⁵⁶ ns under a list of `cycle` ns based at `base` (R256). -/
def gateOpen (gates : List Word) (cycle base q a len : Nat) : Bool :=
  let cyc : Nat := 5 * cycle * 2 ^ 56
  let pos : Nat := ((5 * ((a : Int) - base)) % (cyc : Int)).toNat
  let fin : Nat := pos + 5 * len
  let sp := gateSpans cyc 0 gates
  (List.range (fin / cyc + 1)).all (fun k => sp.all (fun e =>
    e.2.2.testBit q || decide (fin ≤ e.1 + k * cyc) || decide (e.2.1 + k * cyc ≤ pos)))

/-- The operative list of a port. -/
def State.operList (s : State) (p : Nat) : List Word :=
  (List.range (s.fld (portReg p 0x40) 16 9)).map (fun k => s.rd (portReg p (0x800 + 4 * k)))

/-- The first cycle start `base + k × cycle` at or after the value `v`. -/
def nextCycle (cycle base v : Nat) : Nat :=
  let c : Int := ((cycle * 2 ^ 56 : Nat) : Int)
  ((base : Int) + (-(((base : Int) - v) / c)) * c).toNat

/-- The value of STAMP_TB at which SERVICE will begin, where a timer or a TEST_EXIT runs (R258): the first operative cycle start at or after the expiry. -/
def State.serviceFrom (s : State) (p : Fin 16) : Option Nat :=
  let q := s.ports[p]
  let t := s.stampTb p
  let at' := fun (tick : Nat) =>
    nextCycle (s.rd (portReg p 0x4C)).toNat q.operBase (s.tbs[t].value + (tick - s.tick) * s.tbEffInc t)
  match q.serviceAt, q.timer, q.testExit with
  | some v, _, _ => some v
  | none, some d, _ => some (at' d)
  | none, none, some d => some (at' (d + ticksPerMs))
  | none, none, none => none

/-- Queue `q` of port `p` is open for `len` units from the STAMP_TB value `a`, under the list that is in force at the value `d` (R243, R255, R257). -/
def State.gateOk (s : State) (p : Fin 16) (q a len d : Nat) : Bool :=
  let serves := s.portState p = 4 || (match s.serviceFrom p with | some v => decide (v ≤ d) | none => false)
  if !serves || !s.bit (portReg p 0x40) 31 then true
  else
    match s.ports[p].gcl with
    | some g =>
      if g.swapAt ≤ d then gateOpen g.gates g.cycle g.base q a len
      else gateOpen (s.operList p) (s.rd (portReg p 0x4C)).toNat s.ports[p].operBase q a len
    | none => gateOpen (s.operList p) (s.rd (portReg p 0x4C)).toNat s.ports[p].operBase q a len

/-! ### Reservations -/

/-- Queue of a traffic class: nibbles of PORTn_QMAP from PTP event, PTP general, NTP, lease, ESMC, other. -/
def State.queueOf (s : State) (p cls : Nat) : Nat := s.fld (portReg p 0x34) (4 * cls) 3

/-- The end of the pause of a queue (R232). -/
def Port.pausedTo (p : Port) (q : Nat) : Nat := max p.pauseEnd (Sparse.get (fun _ => 0) p.pfcEnd q)

/-- Bytes on the wire before the timestamp point (preamble and start-of-frame delimiter) and after the frame (inter-frame gap), as in IEEE 802.3. -/
def preBytes : Nat := 8
def gapBytes : Nat := 12

/-- A departure instant meets R243 for a frame of `len` bytes. -/
def State.slotOk (s : State) (p : Fin 16) (queue len : Nat) (pcs : Pcs) (v0 c0 inc : Nat) (d : Nat) : Bool :=
  let bq := byteQuanta (s.plt.plot.portMode p)
  let a := d - preBytes * bq
  let b := d + len * bq
  let val := fun (q : Nat) => (v0 + (q - c0) * inc / 2560 : Nat)
  !pcs.markers.contains d &&
  s.gateOk p queue (val a) ((b - a) * inc / 2560) (val d) &&
  s.ports[p].held.all (fun h => decide (b + gapBytes * bq ≤ h.start) || decide (h.gap ≤ a)) &&
  decide (s.ports[p].pausedTo queue ≤ a)

/-- The first of `n` block boundaries from `d` that meets R243. -/
def State.findSlot (s : State) (p : Fin 16) (queue len : Nat) (pcs : Pcs) (v0 c0 inc gran : Nat) : Nat → Nat → Option Nat
  | 0, _ => none
  | n + 1, d => if s.slotOk p queue len pcs v0 c0 inc d then some d else s.findSlot p queue len pcs v0 c0 inc gran n (d + gran)

/-- The earliest departure for a frame of `len` bytes on `queue` at or after `from`: on a block boundary, at least DEP_LEAD and at most 1 ms after the request (R243); none where there is no instant, or the table holds 192. -/
def State.reserve (s : State) (p : Fin 16) (queue len : Nat) (pcs : Pcs) (from' : Nat) : Option Nat :=
  if 192 ≤ s.ports[p].held.length then none
  else
    let gran := blockQuanta (s.plt.plot.portMode p)
    let lo := max (s.nowQ + nsQuanta (s.rd (portReg p 0x24)).toNat) from'
    let hi := s.nowQ + nsQuanta 1000000
    let ph := pcs.phase % gran
    let d := ph + divUp (lo - ph) gran * gran
    let t := s.stampTb p
    if hi < d then none
    else s.findSlot p queue len pcs s.tbs[t].value s.nowQ (s.tbEffInc t) gran ((hi - d) / gran + 1) d

/-- No slot: the request fails and is counted (R243). -/
def State.noSlot (s : State) (p : Nat) : State := s.bumpSat (portReg p 0x12C) 1

/-! ### Release checks -/

/-- TX_COMMIT of a port in quanta. -/
def State.txCommit (s : State) (p : Nat) : Nat := (portLat (s.plt.plot.portMode p)).2.2 * 16 / 5

/-- Tick and tap of an instant in quanta. -/
def qTick (d : Nat) : Nat := d / 2560
def qTap (d : Nat) : Nat := d % 2560 / 5

/-- A time base index. -/
def tbIx (n : Nat) : Fin 64 := ⟨n % 64, Nat.mod_lt _ (by decide)⟩

/-- The frame bound projected to a departure tick: the ledger's projection plus the port term (R185, R186). -/
def State.projectBound (s : State) (n : Fin 64) (lane : Nat) (t : Nat) : Nat :=
  if s.untraceable n then 0xFFFFFFFF
  else min (divUp (s.bnd[n].project t + s.portTerm lane (s.portRefined lane) * psU * 10 ^ 7) (250 * psU * 10 ^ 7)) 0xFFFFFFFE

/-- The actions armed for a time base at or before TB0 reaches what it will at tick `c`: kind and instant (R248). TB0's own actions count for every same-rate time base. -/
def State.armedBy (s : State) (n : Fin 64) (c : Nat) : List (Nat × Nat) :=
  let end0 := s.tb0 + (c - s.tick) * s.tbEffInc 0
  let end1 := s.tbs[n].value + (c - s.tick) * s.tbEffInc n
  let own := fun (k : Fin 64) (b : Nat) =>
    let t := s.tbs[k]
    (match t.step with | some a => if a.inst ≤ end0 then [(b, a.inst)] else [] | none => []) ++
    (match t.slew with
      | some w => (if !w.running && decide (w.inst ≤ end0) then [(b + 1, w.inst)] else []) ++ (if w.cancel then [(b + 2, w.inst)] else [])
      | none => []) ++
    (match t.ownWrite with | some h => if h ≠ s.tbHost k then [(b + 3, 0)] else [] | none => [])
  own n 0 ++ (if s.plt.plot.tbSameRate n then own 0 8 else []) ++
  (if s.fld (tbReg n 0x78) 0 2 ≠ 0 && decide (s.tbs[n].leapAt * secU ≤ end1 + secU) then [(4, s.tbs[n].leapAt)] else [])

/-- The increment that R248 watches: the time base's, or TB0's when it is same-rate. -/
def State.watchInc (s : State) (n : Fin 64) : Nat := if s.plt.plot.tbSameRate n then s.tbs[0].inc else s.tbs[n].inc

/-- The release checks of Table 9.6 on a held frame, in order: which fails, counted from 0 (MISS_LATE to MISS_PHASE). -/
def State.releaseErr (s : State) (p : Fin 16) (h : Held) : Option Nat :=
  let n := tbIx h.tb
  let v := s.projectAt n (qTick h.depart) (qTap h.depart)
  let t := s.stampTb p
  let val := fun (q : Nat) => (s.tbs[t].value + (q - s.nowQ) * s.tbEffInc t / 2560 : Nat)
  if s.tick < h.ready then some 0
  else if s.complexFenced (complexOf p) || s.clusterFenced h.cluster || s.tbFenced h.tb || !s.sysLocked then some 1
  else if !s.portLink p || s.portState p ≤ 2 then some 2
  else if !s.gateOk p h.queue (val h.start) ((h.depart - h.start + (h.stop - h.depart)) * s.tbEffInc t / 2560) (val h.depart) then some 3
  else if s.nowQ < s.ports[p].pausedTo h.queue then some 4
  else if s.bnd[n].raiseSeq ≠ h.seq then some 5
  else if 2 ^ 56 < 2000 * ((v : Int) - h.value).natAbs then some 6
  else none

/-- A committed frame must be aborted at this tick (R248). -/
def State.mustAbort (s : State) (p : Fin 16) (h : Held) (c : Committed) : Bool :=
  let n := tbIx h.tb
  s.bnd[n].raiseSeq ≠ h.seq ||
  (s.armedBy n (qTick h.depart)).any (fun a => !c.armed.contains a) ||
  decide (2 * nominalInc < 1000000 * ((s.watchInc n : Int) - c.inc).natAbs) ||
  !s.portLink p || s.complexFenced (complexOf p) || s.clusterFenced h.cluster || s.tbFenced h.tb

/-- RES_USED follows the reservation table. -/
def State.setHeld (s : State) (p : Fin 16) (f : List Held) : State :=
  (s.modPort p fun q => { q with held := f }).setFld (portReg p 8) 8 8 f.length

/-! ### Unreserved departure -/

/-- A frame joins the frames that wait to leave without a reservation. -/
def State.enqueue (s : State) (p : Fin 16) (w : Wait) : State := s.modPort p fun q => { q with waiting := q.waiting ++ [w] }

/-- A waiting frame may start now: its queue is open and not paused, the wire is free, and it ends with its gap before the next preamble and before its gate closes (R251). -/
def State.mayStart (s : State) (p : Fin 16) (w : Wait) : Bool :=
  let bq := byteQuanta (s.plt.plot.portMode p)
  let a := s.nowQ
  let stop := a + (preBytes + w.length) * bq
  let gap := stop + gapBytes * bq
  let q := s.ports[p]
  let t := s.stampTb p
  decide (w.ready ≤ s.tick) && decide (q.wireEnd ≤ a) && decide (q.pausedTo w.queue ≤ a) &&
  q.held.all (fun h => decide (gap ≤ h.start) || decide (h.gap ≤ a)) &&
  s.gateOk p w.queue s.tbs[t].value ((stop - a) * s.tbEffInc t / 2560) s.tbs[t].value

/-- The waiting frame that goes next: the highest queue that may start, the oldest of it (R255). -/
def State.nextWait (s : State) (p : Fin 16) : Option Wait :=
  (s.ports[p].waiting.filter (fun w => s.mayStart p w)).foldl (fun (b : Option Wait) w => match b with
    | none => some w
    | some x => if x.queue < w.queue then some w else some x) none

/-! ### States -/

/-- Enters a port state; STATE_CHG is raised (Table 9.10). -/
def State.portEnter (s : State) (p : Fin 16) (st : Nat) : State :=
  if s.portState p = st then s
  else
    let s1 := ((s.setFld (portReg p 8) 29 3 st).portEvent p 8).modPort p fun q =>
      { q with timer := none, testExit := none, serviceAt := none, lastService := s.tick, served := q.served || decide (st = 4) }
    s1.domFollow s

/-- The other path of the port is in START, SERVICE, TEST or RECOVERY. -/
def State.partnerUp (s : State) (p : Nat) : Bool := match s.portPartner p with
  | some q => s.portCarries q
  | none => false

/-- The link of a port falls (Table 9.10): DOWN; the frames it holds are judged or aborted by the checks of R247 and R248. -/
def State.linkFall (s : State) (p : Fin 16) : State :=
  if !s.portLink p then s
  else
    let s1 := (s.setBit (portReg p 8) 28 false).portEvent p 2
    if s1.portState p = 0 || s1.portState p = 1 then s1 else s1.portEnter p 2

/-- Link up (Table 9.10): START or RECOVERY with its timer; a pending record of the lane takes effect (R188). -/
def State.linkRise (s : State) (p : Fin 16) : State :=
  if s.portState p ≠ 2 || s.portLink p || s.complexFenced (complexOf p) || s.plt.plot.portMode p = 0 then s
  else
    let first := !s.ports[p].served
    let s1 := (s.setBit (portReg p 8) 28 true).portEvent p 1
    let s2 := s1.portEnter p (if first then 3 else 6)
    let due := s.tick + (if first then (s.rd (portReg p 0x28)).toNat else (s.rd (portReg p 0x2C)).toNat) * ticksPerMs
    (s2.modPort p fun q => { q with timer := some due, retrain := false }).calSettle 0 p

/-- The port goes dormant: the plot declares it so (Table 9.10). -/
def State.portSleep (s : State) (p : Fin 16) : State :=
  let s1 := if s.portLink p then (s.setBit (portReg p 8) 28 false).portEvent p 2 else s
  (s1.portEnter p 1).modPort p fun q => { q with served := false }

/-- A dormant port wakes: training begins (Table 9.10). -/
def State.portWake (s : State) (p : Fin 16) : State :=
  if s.portState p = 1 then s.portEnter p 2 else s

/-- START, RECOVERY and TEST end at the first cycle start at or after the expiry, or 1 ms after TEST_EXIT (Table 9.10). -/
def State.portTimer (s : State) (p : Fin 16) : State :=
  let q := s.ports[p]
  let t := s.stampTb p
  let st := s.portState p
  let due := if st = 5 then q.testExit.map (· + ticksPerMs) else if st = 3 || st = 6 then q.timer else none
  match due with
  | none => s
  | some d =>
    if s.tick < d then s
    else
      let v := q.serviceAt.getD (nextCycle (s.rd (portReg p 0x4C)).toNat q.operBase s.tbs[t].value)
      if v ≤ s.tbs[t].value then s.portEnter p 4 else s.modPort p fun q => { q with serviceAt := some v }

/-- The armed gate list becomes operative at its swap instant (R257). -/
def State.gclSwap (s : State) (p : Fin 16) : State :=
  match s.ports[p].gcl with
  | none => s
  | some g =>
    if g.swapAt ≤ s.tbs[s.stampTb p].value then
      let s1 := (s.wrAll (portReg p 0x800) g.gates).wr (portReg p 0x4C) (BitVec.ofNat 32 g.cycle)
      let s2 := (s1.setFld (portReg p 0x40) 16 9 g.gates.length).setBit (portReg p 8) 26 false
      (s2.modPort p fun q => { q with gcl := none, operBase := g.base }).portEvent p 0x20
    else s

/-- No service frame for DORM_IDLE in SERVICE: a port declared dormant sleeps; 0 is never (Table 9.10). -/
def State.dormIdle (s : State) (p : Fin 16) : State :=
  let n := (s.rd (portReg p 0x30)).toNat
  if s.portState p = 4 && n ≠ 0 && s.plt.plot.portDormant p && decide (s.ports[p].lastService + n * ticksPerS ≤ s.tick)
      && s.ports[p].held.isEmpty then s.portSleep p
  else s

/-! ### Pairs -/

/-- Entries of the pair that have outlived PAIR_WIN count a loss on the other port where one copy came (R262). -/
def State.pairExpire (s : State) (p : Fin 16) : State :=
  let home := s.pairHome p
  let win := fun (e : PairEntry) => (s.rd (portReg e.lane 0x38)).toNat * ticksPerMs
  let old := s.ports[home].pairs.filter (fun e => decide (e.tick + win e ≤ s.tick))
  let s1 := s.modPort home fun q => { q with pairs := q.pairs.filter (fun e => decide (s.tick < e.tick + win e)) }
  old.foldl (fun (s : State) (e : PairEntry) =>
    if e.both then s
    else match s.portPartner e.lane with
      | some o => (s.bumpSat (portReg o 0x13C) 1).portEvent o 0x40
      | none => s) s1

/-- A frame of a first-copy class arrives on a lane of a pair: whether it is a duplicate, and the table after it (R262). -/
def State.pairSee (s : State) (p : Fin 16) (f : Frame) : Bool × State :=
  match s.portPartner p, f.trailer with
  | some _, some q =>
    let home := s.pairHome p
    let l := s.ports[home].pairs
    match l.find? (fun e => e.mac = f.srcMac && e.seq = q && decide (s.tick < e.tick + (s.rd (portReg e.lane 0x38)).toNat * ticksPerMs)) with
    | some e =>
      (true, (s.modPort home fun o =>
        { o with pairs := o.pairs.map (fun x => if x = e then { x with both := true } else x) }).bumpSat (portReg p 0x138) 1)
    | none =>
      let e : PairEntry := ⟨f.srcMac, q, p.val, s.tick, false⟩
      (false, s.modPort home fun o => { o with pairs := (if 4096 ≤ o.pairs.length then o.pairs.drop 1 else o.pairs) ++ [e] })
  | _, _ => (false, s)

/-! ### Refinement and the ledger -/

/-- A port stamps for a time base: STAMP_TB, or a service on it (R184). -/
def State.stampsFor (s : State) (p n : Nat) : Bool :=
  (s.plt.plot.portPresent p && s.plt.plot.stampTb p = n) ||
  (List.range s.plt.plot.svcCount).any (fun i => (s.plt.plot.svcPorts i).testBit p && s.plt.plot.svcTb i = n)

/-- The port term of a lane rises: RAISE_SEQ of every time base it stamps for advances (R184). -/
def State.portTermRise (s : State) (p : Nat) : State :=
  (List.finRange 64).foldl (fun s (n : Fin 64) => if s.plt.plot.tbPresent n && s.stampsFor p n then s.markRaise n else s) s

/-- The lanes of which refinement was lost between two states raise REFINE_LOST and their port terms (R236, R263). -/
def State.refineFollow (s before : State) : State :=
  (List.finRange 16).foldl (fun s (p : Fin 16) =>
    if s.plt.plot.portPresent p && before.portRefined p && !s.portRefined p && s.portLink p then
      (s.portEvent p 0x100).portTermRise p else s) s

/-! ### The calibration log -/

/-- A stamp enters the log, or is lost (R242). -/
def State.calLogPush (s : State) (p : Fin 16) (e : CalEntry) : State :=
  let l := s.ports[p].calLog
  if 64 ≤ l.length then s.setBit (portReg p 0x80) 7 true
  else (s.modPort p fun q => { q with calLog := l ++ [e] }).setFld (portReg p 0x80) 0 7 (l.length + 1)

/-- PORTn_CAL_TAG: pops the oldest entry and latches its stamp (R242). -/
def State.calTagRead (s : State) (m : Master) (p : Fin 16) : State :=
  match s.checkRead m (portReg p 0x84) with
  | some e => s.rejectRead m (portReg p 0x84) e
  | none =>
    if !s.plt.plot.portPresent p then s.answer m.idx 0
    else match s.ports[p].calLog with
      | [] => s.answer m.idx 0
      | e :: t =>
        let s1 := ((s.modPort p fun q => { q with calLog := t }).setFld (portReg p 0x80) 0 7 t.length).setBit (portReg p 0x80) 7 false
        (s1.hsetAll m.idx (portReg p 0x88) (timeWords e.stamp)).answer m.idx
          (BitVec.ofNat 32 (0x80000000 + (if e.rx then 0x40000000 else 0) + e.seq % 65536))

end Sys2Proof.Machine
end

