-- ==== Sys2Proof/Machine/KeyOps.lean ====
section
/-! DEFINITION. Sys2Proof/Machine/KeyOps.lean: the key store: use checks, derivation, cache, generations, staging, blobs and fuses (spec/11_keys.md). -/
namespace Sys2Proof.Machine

def State.modKey (s : State) (f : Key → Key) : State := { s with key := f s.key }
def State.keyEvent (s : State) (mask : Nat) : State := s.raise 0x0A0008 mask

/-- A slot index. -/
def slotIx (n : Nat) : Fin 256 := ⟨n % 256, Nat.mod_lt _ (by decide)⟩
def State.modSlot (s : State) (n : Nat) (f : KeySlot → KeySlot) : State :=
  s.modKey fun k => { k with slots := k.slots.set (slotIx n) (f k.slots[slotIx n]) }
def State.slotOf (s : State) (n : Nat) : KeySlot := s.key.slots[slotIx n]

/-- Fields of an attribute word (Table 11.1). -/
def attrWorld (a : Word) : Nat := fget a 22 2
def attrPurpose (a : Word) : Nat := fget a 16 3
def attrVf (a : Word) : Nat := fget a 24 5

/-- WORLD and MASTERS let a master command a slot with these attributes (R301). -/
def attrLets (m : Master) (a : Word) : Bool :=
  if attrWorld a = 0 then m.isCore
  else if attrWorld a = 3 then false
  else match m with
    | .pf => fget a 0 1 = 1
    | .mspi => fget a 1 1 = 1
    | _ => false

/-- The fields and combinations of Table 11.1. -/
def attrOk (a : Word) : Bool :=
  attrWorld a ≠ 3 && decide (attrPurpose a ≤ 4) &&
  (if attrWorld a = 2 then decide (attrVf a ≤ 15) else attrVf a = 0) &&
  (fget a 14 1 = 0 || attrPurpose a = 2) &&
  (if attrWorld a = 0 then fget a 0 2 = 0 else fget a 0 2 ≠ 0)

/-- The bit of a life-cycle state in LC. -/
def State.lcLets (s : State) (a : Word) : Bool :=
  match s.otp.lifecycle with
  | .manufacture => fget a 19 1 = 1
  | .provisioned => fget a 20 1 = 1
  | .deployed => fget a 21 1 = 1
  | _ => false

/-- A stored key in the clear (R306). -/
def KeySlot.key (k : KeySlot) : BitVec 256 := k.stored ^^^ k.mask
def CacheLine.key (k : CacheLine) : BitVec 256 := k.stored ^^^ k.mask

/-! ### Names, generations, lineage -/

/-- KEY_SVCr_CFG.ROOT, KEEP, and the current epoch E of service `r`. -/
def State.svcRoot (s : State) (r : Nat) : Nat := s.fld (0x0A0050 + 8 * r) 0 8
def State.svcKeep (s : State) (r : Nat) : Nat := s.fld (0x0A0050 + 8 * r) 28 4
def State.svcEpoch (s : State) (r : Nat) : Nat := s.fld (0x0A0054 + 8 * r) 0 24

/-- An epoch is live (R309). -/
def State.epochLive (s : State) (r e : Nat) : Bool := decide (s.svcEpoch r ≤ e + s.svcKeep r) && decide (e ≤ s.svcEpoch r)

/-- The live PTP epoch whose low byte is the top byte of a keyID (Table 11.4). -/
def State.sessionEpoch (s : State) (k : Nat) : Option Nat :=
  ((List.range 16).map (fun i => s.svcEpoch 1 - i)).find? (fun e => s.epochLive 1 e && e % 256 = k / 2 ^ 24 % 256)

/-- The root slot of a key. -/
def State.rootOf (s : State) : KeyName → Nat
  | .slot n => n % 256
  | .epoch r _ => s.svcRoot r
  | .cookie _ => s.svcRoot 0
  | .session _ => s.svcRoot 1

/-- The generation of a derived key that has been derived at least once, or the 1 it will start at (R316). -/
def State.dgen (s : State) (n : KeyName) : Nat := max 1 (Sparse.get (fun _ => 0) s.key.gens n.code)

/-- The live lineage of a key. -/
def State.lineage (s : State) (n : KeyName) : Lineage :=
  let root := s.rootOf n
  let g := (s.slotOf root).gen
  match n with
  | .slot _ => ⟨root, g, 0, g⟩
  | .epoch _ _ => ⟨root, g, g, s.dgen n⟩
  | .cookie e => ⟨root, g, s.dgen (.epoch 0 e), s.dgen n⟩
  | .session k => ⟨root, g, s.dgen (.epoch 1 ((s.sessionEpoch k).getD 0)), s.dgen n⟩

/-- The children of a key that have been derived (Table 11.4). -/
def State.children (s : State) (n : KeyName) : List KeyName :=
  let all := s.key.gens.map (fun p => keyNamed (p.1 / 2 ^ 32) (p.1 % 2 ^ 32))
  match n with
  | .slot k => all.filter (fun x => match x with | .epoch r _ => s.svcRoot r = k % 256 | _ => false)
  | .epoch 0 e => all.filter (fun x => decide (x = .cookie (e % 2 ^ 24)))
  | .epoch _ e => all.filter (fun x => match x with | .session k => k / 2 ^ 24 % 256 = e % 256 | _ => false)
  | _ => []

/-- The generation of one key rises by 1, once a tick (R316); an exhausted GMAC key is usable again (R311). -/
def State.riseOne (s : State) (n : KeyName) : State :=
  if s.key.rose.contains n then s
  else
    let s1 := match n with
      | .slot k => s.modSlot k fun q => { q with gen := (q.gen + 1) % 65536 }
      | _ => s.modKey fun k => { k with gens := Sparse.set (fun _ => 0) k.gens n.code ((Sparse.get (fun _ => 0) k.gens n.code + 1) % 65536) }
    s1.modKey fun k =>
      { k with rose := n :: k.rose, roseAt := Sparse.set (fun _ => 0) k.roseAt n.code s.tick, spent := k.spent.filter (fun x => !decide (x = n)), gmac := Sparse.set (fun _ => 0) k.gmac n.code 0 }

/-- The generations of a key's descendants rise; two levels below a slot, one below an epoch key. -/
def State.riseBelow (s : State) (n : KeyName) : State :=
  (s.children n).foldl (fun s c => (s.children c).foldl (fun s d => s.riseOne d) (s.riseOne c)) s

/-- Cached descendants are due to be purged by T + 4 µs (R317). -/
def State.purgeDue (s : State) : State :=
  s.modKey fun k => { k with purgeBy := some (match k.purgeBy with | some t => t | none => s.tick + 4 * ticksPerUs) }

/-- A cached line's lineage is the live one (R312). -/
def State.lineLive (s : State) (l : CacheLine) : Bool := l.lineage = s.lineage l.name

/-- The purge: lines whose lineage is not live leave the cache (R317). -/
def State.purge (s : State) : State :=
  let n := (s.key.cache.filter (fun l => !s.lineLive l)).length
  ((s.modKey fun k => { k with cache := k.cache.filter (fun l => s.lineLive l), purgeBy := none }).bump 0x0A00E4 n).keyEvent 4

/-! ### Use -/

/-- The checks of a use against its root slot (R300): user bit, purpose, tenancy of the time base `tb` that the service entry drives, life cycle. -/
def State.useErr (s : State) (root user purpose : Nat) (tb : Option Nat) (direct : Bool) : Option Err :=
  let a := (s.slotOf root).attr
  if fget a (8 + user) 1 ≠ 1 then some .perm
  else if direct && attrPurpose a ≠ purpose then some .perm
  else if attrWorld a = 2 && (match tb with | some n => !(s.plt.plot.tbTenants n).testBit (attrVf a) | none => false) then some .perm
  else if !s.lcLets a then some .lifecycle
  else if (s.slotOf root).gen < (s.slotOf root).need then some .keygen
  else none

/-- The salt of R308. -/
def kdfSalt : List Byte := [0x59, 0x69, 0x6C, 0x74, 0x69, 0x73, 0x2D, 0x4B, 0x44, 0x46]
/-- Labels of Table 11.4 in ASCII. -/
def lblEpoch : List Byte := [0x45, 0x50, 0x4F, 0x43, 0x48]
def lblCookie : List Byte := [0x43, 0x4F, 0x4F, 0x4B, 0x49, 0x45]
def lblSess : List Byte := [0x50, 0x54, 0x50, 0x53, 0x45, 0x53, 0x53]
def lblClient : List Byte := [0x50, 0x54, 0x50, 0x43, 0x4C, 0x4E, 0x54]

/-- A derived key from its parent key (R308, Table 11.4). -/
def kdf (parent : BitVec 256) (info : List Byte) : BitVec 256 := Config.hkdf kdfSalt parent info

/-- The info string of a derived key with the generation of its parent. -/
def infoOf (n : KeyName) (g : Nat) : List Byte :=
  match n with
  | .epoch r e => lblEpoch ++ [BitVec.ofNat 8 r] ++ beBytes 3 e ++ beBytes 2 g
  | .cookie e => lblCookie ++ beBytes 3 e ++ beBytes 2 g
  | .session k => lblSess ++ beBytes 4 k ++ beBytes 2 g
  | .slot _ => []

/-- The per-client key of a clientPortIdentity under a session key (R310). -/
def clientKey (session : BitVec 256) (pid : BitVec 80) (g : Nat) : BitVec 256 :=
  kdf session (lblClient ++ beBytes 10 pid.toNat ++ beBytes 2 g)

/-- A usable cached key. -/
def State.cached (s : State) (n : KeyName) : Option (BitVec 256) :=
  (s.key.cache.find? (fun l => decide (l.name = n) && s.lineLive l)).map CacheLine.key

/-- Keys that the cache never evicts (R312). -/
def State.pinned (s : State) (n : KeyName) : Bool :=
  decide (n = .epoch 0 (s.svcEpoch 0)) || decide (n = .cookie (s.svcEpoch 0)) || decide (n = .epoch 1 (s.svcEpoch 1))

/-- The least recently used line that may be evicted. -/
def State.victim (s : State) : Option CacheLine :=
  (s.key.cache.filter (fun l => !s.pinned l.name)).foldl (fun (b : Option CacheLine) l => match b with
    | none => some l
    | some x => if l.used < x.used then some l else some x) none

/-- A key is entered into the cache under a fresh mask (R306, R312). -/
def State.cacheIn (s : State) (n : KeyName) (key : BitVec 256) : State :=
  let r := s.fresh 256
  let l : CacheLine := ⟨n, s.lineage n, key ^^^ r.1, r.1, s.tick⟩
  let rest := r.2.key.cache.filter (fun x => !decide (x.name = n))
  let rest := if 4096 ≤ rest.length then (match r.2.victim with | some v => rest.filter (fun x => !decide (x = v)) | none => rest) else rest
  r.2.modKey fun k => { k with cache := rest ++ [l] }

/-- A use marks the line as recently used. -/
def State.cacheTouch (s : State) (n : KeyName) : State :=
  s.modKey fun k => { k with cache := k.cache.map (fun l => if l.name = n then { l with used := s.tick } else l) }

/-- First derivation gives generation 1 (R316). -/
def State.born (s : State) (n : KeyName) : State :=
  s.modKey fun k => { k with gens := Sparse.set (fun _ => 0) k.gens n.code (max 1 (Sparse.get (fun _ => 0) k.gens n.code)) }

/-- One level of derivation: from the cached parent or from the root slot. -/
def State.deriveEpoch (s : State) (r e : Nat) : Option (BitVec 256 × State) :=
  match s.cached (.epoch r e) with
  | some k => some (k, s.cacheTouch (.epoch r e))
  | none =>
    let root := s.slotOf (s.svcRoot r)
    if root.occupied && attrPurpose root.attr = 1 then
      let k := kdf root.key (infoOf (.epoch r e) root.gen)
      some (k, (s.born (.epoch r e)).cacheIn (.epoch r e) k)
    else none

/-- A key from the cache, or by derivation from its nearest ancestor (R312, levels 1 and 2). -/
def State.derive (s : State) (n : KeyName) : Option (BitVec 256 × State) :=
  match s.cached n with
  | some k => some (k, s.cacheTouch n)
  | none =>
    match n with
    | .slot i => if (s.slotOf i).occupied then some ((s.slotOf i).key, s) else none
    | .epoch r e => s.deriveEpoch r e
    | .cookie e => (s.deriveEpoch 0 e).map fun p =>
        let k := kdf p.1 (infoOf n (s.dgen (.epoch 0 e)))
        (k, (p.2.born n).cacheIn n k)
    | .session k => match s.sessionEpoch k with
      | none => none
      | some e => (s.deriveEpoch 1 e).map fun p =>
        let q := kdf p.1 (infoOf n (s.dgen (.epoch 1 e)))
        (q, (p.2.born n).cacheIn n q)

/-- How the search for a key ends (R312). -/
inductive Found where
  | key (k : BitVec 256)
  | fail (e : Err)
  | fetch (record : Nat)
deriving DecidableEq, Repr

/-- The directory entry of a key whose recorded lineage is live. -/
def State.dirOf (s : State) (n : KeyName) : Option DirEntry :=
  s.key.dir.find? (fun d => decide (d.name = n) && decide (d.lineage = s.lineage n))

/-- A service resolves a key: the use check of the root, then R312 in its order. -/
def State.resolve (s : State) (n : KeyName) (user purpose : Nat) (tb : Option Nat) : Found × State :=
  let root := s.rootOf n
  let direct := match n with | .slot _ => true | _ => false
  if (s.slotOf root).occupied then
    match s.useErr root user purpose tb direct with
    | some e => (.fail e, s.bumpSat 0x0A00D8 1)
    | none => match s.derive n with
      | some p => (.key p.1, p.2)
      | none => (.fail .nokey, s)
  else match s.dirOf n with
    | some d => (.fetch d.record, s.bump 0x0A00DC 1)
    | none => (.fail .nokey, s)

/-- The key that serves as cookie key of epoch `e`: a COOKIE root is used directly. -/
def State.cookieName (s : State) (e : Nat) : KeyName :=
  if attrPurpose (s.slotOf (s.svcRoot 0)).attr = 3 then .slot (s.svcRoot 0) else .cookie e

/-- The key of a keyID: a MAC root is used directly; a keyID of no live epoch has none (R309). -/
def State.sessionName (s : State) (k : Nat) : Option KeyName :=
  if attrPurpose (s.slotOf (s.svcRoot 1)).attr = 2 then some (.slot (s.svcRoot 1))
  else (s.sessionEpoch k).map fun _ => .session k

/-- The generation of a key as cookies and messages carry it. -/
def State.genOf (s : State) : KeyName → Nat
  | .slot n => (s.slotOf n).gen
  | n => s.dgen n

/-- The root of the PTP keys has PER_CLIENT set (R310). -/
def State.perClient (s : State) : Bool := fget (s.slotOf (s.svcRoot 1)).attr 14 1 = 1

/-- A GMAC key becomes unusable, and GMAC_EXHAUST is raised (R311). -/
def State.gmacSpend (s : State) (n : KeyName) : State :=
  if s.key.spent.contains n then s else (s.modKey fun k => { k with spent := n :: k.spent }).keyEvent 0x200

/-- The next GMAC sequence number of a key, or nothing where the counter is used up; the send with which the counter reaches 0xFFFF_FFFF is the last (R311). -/
def State.gmacNext (s : State) (n : KeyName) : Option (Nat × State) :=
  let c := Sparse.get (fun _ => 0) s.key.gmac n.code
  if s.key.spent.contains n || 0xFFFFFFFF ≤ c then none
  else
    let s1 := s.modKey fun k => { k with gmac := Sparse.set (fun _ => 0) k.gmac n.code (c + 1) }
    some (c, if c + 1 = 0xFFFFFFFF then s1.gmacSpend n else s1)

/-! ### The staging buffer -/

/-- A write to the key block passes the common checks and R301. -/
def State.keyGuard (s : State) (m : Master) (o : Nat) (v : Word) (k : State → State) : State := s.guardW m (0x0A0000 + o) v k

/-- The buffer is zeroed and idle. -/
def State.stgIdle (s : State) : State := s.modKey fun k => { k with stg := {} }

/-- KEY_STG_ATTR (`i` = 0), KEY_STG_GEN (1), KEY_STG_VAL0 to 7 (2 to 9) (R302). -/
def State.keyStage (s : State) (m : Master) (i : Fin 10) (v : Word) : State :=
  let o := match i.val with | 0 => 0x14 | 1 => 0x18 | j => 0x20 + 4 * (j - 2)
  s.keyGuard m o v fun s =>
    let g := s.key.stg
    if g.owner.isSome && g.owner ≠ some m.idx then s.reject m (0x0A0000 + o) .busy
    else if i.val = 1 && fget v 0 16 = 0 then s.reject m (0x0A0000 + o) .range
    else s.modKey fun k =>
      let g := { g with owner := some m.idx, last := s.tick }
      { k with stg := match i.val with
          | 0 => { g with attr := some v }
          | 1 => { g with gen := some (fget v 0 16) }
          | j => { g with vals := g.vals.set (j - 2) (some v) } }

/-- 100 ms without a staging write by the owner (R302). -/
def State.stgTimeout (s : State) : State :=
  if s.key.stg.owner.isSome && decide (s.key.stg.last + 100 * ticksPerMs ≤ s.tick) then s.stgIdle.keyEvent 0x80 else s

/-- The owner's path is lost (R302). -/
def State.stgLost (s : State) (m : Nat) : State :=
  if s.key.stg.owner = some m then s.stgIdle.keyEvent 0x80 else s

/-- The 256-bit key of the eight VAL words. -/
def stgKey (l : List (Option Word)) : BitVec 256 :=
  BitVec.ofNat 256 (l.foldl (fun n w => n * 2 ^ 32 + ((w.map BitVec.toNat).getD 0)) 0)

/-- The selected slot. -/
def State.keySel (s : State) : Nat := s.fld 0x0A0010 0 8

/-- Checks 3 to 5 of R304 for a slot that is to take `attr` and `gen`. -/
def State.fillErr (s : State) (m : Master) (n : Nat) (attr : Word) (gen : Nat) : Option Err :=
  let q := s.slotOf n
  if !attrOk attr || gen = 0 then some .range
  else if !attrLets m attr || (q.occupied && attrWorld q.attr ≠ attrWorld attr) then some .perm
  else if gen ≤ q.gen then some .keygen
  else none

/-- The checks of COMMIT (R304). -/
def State.keyCommitErr (s : State) (m : Master) : Option Err :=
  let g := s.key.stg
  if s.otp.lifecycle = .blank || s.otp.lifecycle = .retired then some .lifecycle
  else match g.attr, g.gen with
    | some a, some n => if g.vals.all Option.isSome then s.fillErr m s.keySel a n else some .seq
    | _, _ => some .seq

/-- A slot takes a key on this tick (R304): one mask, the attributes, the generation; descendants of an old key are invalidated. -/
def State.fillSlot (s : State) (n : Nat) (attr : Word) (gen : Nat) (key : BitVec 256) : State :=
  let was := (s.slotOf n).occupied
  let s1 := if was then (s.riseBelow (.slot n)).purgeDue else s
  let r := s1.fresh 256
  ((r.2.modSlot n fun x => ⟨true, attr, gen, x.need, key ^^^ r.1, r.1⟩).modKey fun k =>
    { k with rose := .slot n :: k.rose, spent := k.spent.filter (fun x => !decide (x = .slot n)), gmac := Sparse.set (fun _ => 0) k.gmac (KeyName.slot n).code 0 }).keyEvent 1

/-- CMD = COMMIT (R302 to R304). -/
def State.keyCommit (s : State) (m : Master) : State :=
  s.keyGuard m 0xC 1 fun s =>
    let g := s.key.stg
    if g.owner.isSome && g.owner ≠ some m.idx then s.reject m 0x0A000C .busy
    else match s.keyCommitErr m with
      | some e => (s.stgIdle).reject m 0x0A000C e
      | none => (s.fillSlot s.keySel (g.attr.getD 0) (g.gen.getD 0) (stgKey g.vals)).stgIdle

/-- CMD = ABORT (R302). -/
def State.keyAbort (s : State) (m : Master) : State :=
  s.keyGuard m 0xC 2 fun s =>
    if s.key.stg.owner.isSome && s.key.stg.owner ≠ some m.idx then s.reject m 0x0A000C .busy else s.stgIdle

/-- A master may command the slot: its attributes let it, or it is empty (R301). -/
def State.mayCommand (s : State) (m : Master) (n : Nat) : Bool := !(s.slotOf n).occupied || attrLets m (s.slotOf n).attr

/-- CMD = INVALIDATE (R316). -/
def State.keyInvalidate (s : State) (m : Master) : State :=
  s.keyGuard m 0xC 3 fun s =>
    let n := s.keySel
    if !s.mayCommand m n then s.reject m 0x0A000C .perm
    else if (s.slotOf n).gen = 0xFFFF then s.reject m 0x0A000C .keygen
    else (((s.riseOne (.slot n)).riseBelow (.slot n)).purgeDue).keyEvent 2

/-- The derived key that KEY_DER_SEL and KEY_DER_ID name. -/
def State.derName (s : State) : KeyName :=
  match s.fld 0x0A0060 30 2 with
  | 1 => .epoch (s.fld 0x0A0060 29 1) ((s.rd 0x0A0064).toNat % 2 ^ 24)
  | k => keyNamed k (s.rd 0x0A0064).toNat

/-- CMD = INVALIDATE_DER (R316); a KIND of 0 names no derived key. -/
def State.keyInvalidateDer (s : State) (m : Master) : State :=
  s.keyGuard m 0xC 4 fun s =>
    let n := s.derName
    if n.kind = 0 then s.reject m 0x0A000C .range
    else if !s.mayCommand m (s.rootOf n) then s.reject m 0x0A000C .perm
    else if Sparse.get (fun _ => 0) s.key.gens n.code = 0xFFFF then s.reject m 0x0A000C .keygen
    else (((s.riseOne n).riseBelow n).purgeDue).keyEvent 2

/-- CMD = ERASE: the slot is zero and empty on the tick after the decode (R305). -/
def State.keyErase (s : State) (m : Master) : State :=
  s.keyGuard m 0xC 5 fun s =>
    if !s.mayCommand m s.keySel then s.reject m 0x0A000C .perm
    else s.modKey fun k => { k with erase := k.erase ++ [s.keySel] }

/-- What the key block does on a tick: erasures, epochs and the end of a purge (R305, R309, R317). -/
def State.keyTick (s : State) : State :=
  let s0 := s.modKey fun k => { k with rose := [] }
  let s1 := s0.key.erase.foldl (fun (s : State) n =>
    ((s.modSlot n fun q => { q with occupied := false, attr := 0, stored := 0, mask := 0 }).riseBelow (.slot n)).purgeDue) s0
  let s2 := s1.key.epochNext.foldl (fun (s : State) p => s.wr (0x0A0054 + 8 * p.1) (BitVec.ofNat 32 p.2)) s1
  let s3 := s2.modKey fun k => { k with erase := [], epochNext := [] }
  match s3.key.purgeBy with
  | some t => if t ≤ s3.tick then s3.purge else s3
  | none => s3

/-- KEY_SVCr_EPOCH: greater than E, from the tick after the decode (R309). -/
def State.keyEpoch (s : State) (m : Master) (r : Fin 2) (v : Word) : State :=
  s.keyGuard m (0x54 + 8 * r.val) v fun s =>
    if fget v 0 24 ≤ s.svcEpoch r then s.reject m (0x0A0054 + 8 * r.val) .seq
    else s.modKey fun k => { k with epochNext := k.epochNext ++ [(r.val, fget v 0 24)] }

/-- KEY_SVCr_CFG (Table 11.11). -/
def State.keySvcCfg (s : State) (m : Master) (r : Fin 2) (v : Word) : State :=
  s.keyGuard m (0x50 + 8 * r.val) v fun s =>
    let q := s.slotOf (fget v 0 8)
    let p := attrPurpose q.attr
    if !q.occupied || !(p = 1 || (r.val = 0 && p = 3) || (r.val = 1 && p = 2)) then s.reject m (0x0A0050 + 8 * r.val) .state
    else s.plainWrite m (0x0A0050 + 8 * r.val) v

/-- Every stored key is rewritten under a fresh mask, once MASK_MS has passed and while the DRBG is well (R306, R307). -/
def State.remask (s : State) : State :=
  if s.bit 0x0A0004 23 && decide (s.key.maskAt + s.fld 0x0A0000 0 7 * ticksPerMs ≤ s.tick) then
    let s1 := (List.finRange 256).foldl (fun (s : State) (i : Fin 256) =>
      let q := s.key.slots[i]
      if q.occupied then
        let r := s.fresh 256
        r.2.modSlot i.val fun q => { q with stored := q.stored ^^^ q.mask ^^^ r.1, mask := r.1 }
      else s) s
    let step := fun (p : State × List CacheLine) (l : CacheLine) =>
      let r := p.1.fresh 256
      (r.2, p.2 ++ [{ l with stored := l.stored ^^^ l.mask ^^^ r.1, mask := r.1 }])
    let c := s1.key.cache.foldl step (s1, [])
    c.1.modKey fun k => { k with cache := c.2, maskAt := s.tick }
  else s

/-! ### Blobs -/

/-- The blob of a key: header, wrapped key and hash, CRC (Table 11.5). -/
def blobBytes (n : KeyName) (attr : Word) (wrap wrapGen : Nat) (l : Lineage) (blobGen gmac : Nat) (wrapKey key : BitVec 256) : List Byte :=
  let head := leBytes 4 0x4C424B59 ++ [1, BitVec.ofNat 8 n.kind] ++ leBytes 2 0x70 ++ leBytes 4 n.id ++ leBytes 4 attr.toNat ++
    [BitVec.ofNat 8 wrap, 0] ++ leBytes 2 wrapGen ++ [BitVec.ofNat 8 l.root, 0] ++ leBytes 2 l.rootGen ++ leBytes 2 l.parentGen ++
    leBytes 2 l.ownGen ++ leBytes 4 blobGen ++ leBytes 4 gmac ++ List.replicate 12 0
  let body := head ++ Config.kwpWrap wrapKey (beBytes 32 key.toNat ++ (Config.sha256 head).take 16) ++ List.replicate 4 0
  body ++ leBytes 4 (crc32c body)

/-- A slot that may wrap (R313, R314): occupied, WRAP, usable in this life-cycle state. -/
def State.wrapOk (s : State) (n : Nat) : Bool :=
  (s.slotOf n).occupied && attrPurpose (s.slotOf n).attr = 0 && s.lcLets (s.slotOf n).attr

/-- What an import of one copy gives: how many checks it passed, the code of the first that failed, and what it holds. -/
structure CopyResult where
  passed : Nat
  code : Option Err
  name : KeyName
  attr : Word
  lineage : Lineage
  blobGen : Nat
  gmac : Nat
  key : BitVec 256
deriving DecidableEq, Repr

/-- The live lineage that a blob must have; a slot key brings its own generation (R314, R315). -/
def State.blobLineage (s : State) (n : KeyName) (l : Lineage) : Bool :=
  match n with
  | .slot k => l.root = k && l.rootGen = l.ownGen && l.parentGen = 0
  | _ => l = s.lineage n

/-- The checks of R314 on one copy; `want` is the requested KIND and KEY_ID, none for a scan. -/
def State.checkCopy (s : State) (b : List Byte) (want : Option KeyName) : CopyResult :=
  let n := keyNamed (leAt b 5 1) (leAt b 8 4)
  let wrap := leAt b 0x10 1
  let l : Lineage := ⟨leAt b 0x14 1, leAt b 0x16 2, leAt b 0x18 2, leAt b 0x1A 2⟩
  let mk := fun (p : Nat) (c : Option Err) (k : BitVec 256) =>
    (⟨p, c, n, BitVec.ofNat 32 (leAt b 0xC 4), l, leAt b 0x1C 4, leAt b 0x20 4, k⟩ : CopyResult)
  if b.length ≠ 0x70 || leAt b 0 4 ≠ 0x4C424B59 || leAt b 4 1 ≠ 1 || leAt b 6 2 ≠ 0x70 then mk 0 (some .decode) 0
  else if crc32c (b.take 0x6C) ≠ leAt b 0x6C 4 then mk 1 (some .crc) 0
  else if (match want with | some w => decide (w ≠ n) | none => false) then mk 2 (some .decode) 0
  else if !s.wrapOk wrap || (s.slotOf wrap).gen ≠ leAt b 0x12 2 then mk 3 (some .keygen) 0
  else match Config.kwpUnwrap (s.slotOf wrap).key (slice b 0x30 56) with
    | none => mk 4 (some .perm) 0
    | some pt =>
      if pt.length ≠ 48 || pt.drop 32 ≠ (Config.sha256 (b.take 0x30)).take 16 then mk 4 (some .perm) 0
      else if !s.blobLineage n l then mk 5 (some .keygen) 0
      else mk 6 none (BitVec.ofNat 256 (beNat (pt.take 32)))

/-- The copy an import uses, and whether it is copy B; or the code it fails with (R314). -/
def bestCopy (a b : CopyResult) : Option (CopyResult × Bool) × Err :=
  let code := if a.passed < b.passed then b.code.getD .decode else a.code.getD .decode
  match a.code, b.code with
  | none, none => (some (if a.blobGen < b.blobGen then (b, true) else (a, false)), code)
  | none, some _ => (some (a, false), code)
  | some _, none => (some (b, true), code)
  | _, _ => (none, code)

/-- An import fails: IMPORT_FAIL and KEY_FETCH_FAIL (R314). -/
def State.importFail (s : State) (e : Err) : State := ((s.setFld 0x0A0004 8 8 e.code).bumpSat 0x0A00E0 1).keyEvent 0x20

/-- KEY_BLOB_BASE is aligned. -/
def State.blobAligned (s : State) : Bool := s.fld 0x0A0070 0 8 = 0

/-- The directory without a key, with an entry added. -/
def State.dirPut (s : State) (d : DirEntry) : State :=
  s.modKey fun k => { k with dir := k.dir.filter (fun x => !decide (x.name = d.name) && x.record ≠ d.record) ++ [d] }

/-- CMD = EXPORT (R313): the blob is wrapped and the DMA stream begins. -/
def State.keyExport (s : State) (m : Master) : State :=
  s.keyGuard m 0xC 6 fun s =>
    let n := s.derName
    let root := s.rootOf n
    let rec' := (s.rd 0x0A007C).toNat
    let wrap := s.fld 0x0A0080 0 8
    if !s.mayCommand m root then s.reject m 0x0A000C .perm
    else if !s.blobAligned then s.reject m 0x0A000C .align
    else if (s.rd 0x0A0078).toNat ≤ rec' then s.reject m 0x0A000C .range
    else if fget (s.slotOf root).attr 15 1 = 0 || !s.wrapOk wrap then s.reject m 0x0A000C .perm
    else match s.derive n with
      | none => s.reject m 0x0A000C .nokey
      | some p =>
        let old := p.2.key.dir.find? (fun d => d.record = rec')
        let g := (match old with | some d => d.blobGen | none => 0) + 1
        let inB := match old with | some d => !d.inB | none => false
        let l := p.2.lineage n
        let gm := Sparse.get (fun _ => 0) p.2.key.gmac n.code
        let b := blobBytes n (p.2.slotOf root).attr wrap (p.2.slotOf wrap).gen l g gm (p.2.slotOf wrap).key p.1
        p.2.modKey fun k => { k with ops := k.ops ++ [.exporting ⟨n, rec', l, g, inB⟩ b] }

/-- The first export in progress ends (R313). -/
def State.exportEnd (s : State) (ok : Bool) : State :=
  match s.key.ops.find? (fun o => match o with | .exporting _ _ => true | _ => false) with
  | some (.exporting d b) =>
    let s1 := s.modKey fun k => { k with ops := k.ops.filter (fun o => !decide (o = .exporting d b)) }
    if ok then (s1.dirPut d).keyEvent 8 else s1.keyEvent 0x10
  | _ => s

/-- CMD = IMPORT_SLOT (R315). -/
def State.keyImport (s : State) (m : Master) : State :=
  s.keyGuard m 0xC 7 fun s =>
    let rec' := (s.rd 0x0A007C).toNat
    if !s.mayCommand m s.keySel then s.reject m 0x0A000C .perm
    else if !s.blobAligned then s.reject m 0x0A000C .align
    else if (s.rd 0x0A0078).toNat ≤ rec' then s.reject m 0x0A000C .range
    else s.modKey fun k => { k with ops := k.ops ++ [.importing s.keySel rec' m.idx] }

/-- The master of an index that may command the key block. -/
def masterAt (i : Nat) : Master :=
  if i = 23 then .mspi else if 17 ≤ i then .core ⟨(i - 17) % 4, Nat.mod_lt _ (by decide)⟩ else .pf

/-- Both copies of the record have been read (R314, R315): the best one is committed on this tick. -/
def State.importEnd (s : State) (a b : List Byte) : State :=
  match s.key.ops.find? (fun o => match o with | .importing _ _ _ => true | _ => false) with
  | some (.importing n r m) =>
    let s1 := s.modKey fun k => { k with ops := k.ops.filter (fun o => !decide (o = .importing n r m)) }
    let best := bestCopy (s1.checkCopy a (some (.slot n))) (s1.checkCopy b (some (.slot n)))
    match best.1 with
    | none => s1.importFail best.2
    | some (c, inB) =>
      if s1.otp.lifecycle = .blank || s1.otp.lifecycle = .retired then s1.importFail .lifecycle
      else match s1.fillErr (masterAt m) n c.attr c.lineage.ownGen with
        | some e => s1.importFail e
        | none => (s1.fillSlot n c.attr c.lineage.ownGen c.key).dirPut ⟨.slot n, r, c.lineage, c.blobGen, inB⟩
  | _ => s

/-- CMD = SCAN: only while the staging buffer is idle (R315). -/
def State.keyScan (s : State) (m : Master) : State :=
  s.keyGuard m 0xC 8 fun s =>
    if s.key.stg.owner.isSome then s.reject m 0x0A000C .busy
    else if !s.blobAligned then s.reject m 0x0A000C .align
    else s.modKey fun k => { k with ops := k.ops ++ [.scanning] }

/-- The scan ends: the directory holds the passing copies of the records read (R315). -/
def State.scanEnd (s : State) (records : List (List Byte × List Byte)) : State :=
  if s.key.ops.contains .scanning then
    let s1 := s.modKey fun k => { k with ops := k.ops.filter (fun o => !decide (o = .scanning)), dir := [] }
    let put := fun (p : State × Nat) (r : List Byte × List Byte) =>
      match (bestCopy (p.1.checkCopy r.1 none) (p.1.checkCopy r.2 none)).1 with
      | some (c, inB) => ((p.1.dirPut ⟨c.name, p.2, c.lineage, c.blobGen, inB⟩).modKey (fun k =>
          { k with gmac := Sparse.set (fun _ => 0) k.gmac c.name.code c.gmac }), p.2 + 1)
      | none => (p.1, p.2 + 1)
    ((records.take (s1.rd 0x0A0078).toNat).foldl put (s1, 0)).1
  else s

/-- A fetched blob is unwrapped into the cache (R312, R314); a copy of another name or lineage fails. -/
def State.fetchIn (s : State) (n : KeyName) (a b : List Byte) : Bool × State :=
  let best := bestCopy (s.checkCopy a (some n)) (s.checkCopy b (some n))
  match best.1 with
  | some (c, _) => (true, s.cacheIn n c.key)
  | none => (false, s.importFail best.2)

/-! ### Fuses -/

/-- OTP hash bytes: byte 0 in [31:24] of DATA0. -/
def State.otpHash (s : State) : List Byte := s.key.otpData.foldl (fun l w => l ++ beBytes 4 w.toNat) []

/-- What a life-cycle state accepts (Table 11.7, R318): `revoke` and `fuse` by key number. -/
def State.fuseErr (s : State) (slot1 : Bool) : Option Err :=
  match s.otp.lifecycle with
  | .manufacture => if (if slot1 then s.otp.opk1 else s.otp.opk0).isEmpty then none else some .state
  | .provisioned => if slot1 then (if s.otp.opk1.isEmpty then none else some .lifecycle) else some .lifecycle
  | _ => some .lifecycle

/-- KEY_SLOT of an image's key block, and its TEST flag (Table 2.1, Table 2.5). -/
def imageKey (l : List Byte) : Nat := leAt l (leAt l 0x20 4) 1
def imageTest (l : List Byte) : Bool := (leAt l 0x11 1).testBit 0

/-- The operator key that signed the active plot: none, OPK0 or OPK1 (R318). -/
def State.plotSigner (s : State) : Option Bool :=
  if s.plt.active.isEmpty then none
  else match imageKey s.plt.active with
    | 0 => some false
    | 1 => some true
    | _ => none

/-- The checks of a revocation (R318). -/
def State.revokeErr (s : State) (slot1 : Bool) : Option Err :=
  if s.otp.lifecycle ≠ .provisioned && s.otp.lifecycle ≠ .deployed then some .lifecycle
  else
    let other := if slot1 then !s.otp.opk0.isEmpty && !s.otp.revoked0 else !s.otp.opk1.isEmpty && !s.otp.revoked1
    if s.plotSigner = some slot1 || !other then some .state else none

/-- An OTP command: busy while another burns, its own checks, then the burn begins (R318). -/
def State.otpStart (s : State) (m : Master) (o : Nat) (v : Word) (e : Option Err) (op : OtpOp) : State :=
  s.guardD m (0x0A0000 + o) v fun s =>
    if s.key.otpOp.isSome then s.reject m (0x0A0000 + o) .busy
    else match e with
      | some e => s.reject m (0x0A0000 + o) e
      | none => s.modKey fun k => { k with otpOp := some op }

/-- The checks of a life-cycle advance to `target` (R319): the plot must be a signed, non-TEST one to leave MANUFACTURE. -/
def State.lcErr (s : State) (target : Nat) : Option Err :=
  if s.otp.lifecycle = .blank || s.otp.lifecycle = .retired then some .lifecycle
  else if target ≠ s.otp.lifecycle.code + 1 then some .seq
  else if s.otp.lifecycle = .manufacture && (s.otp.opk0.isEmpty || s.plotSigner.isNone || imageTest s.plt.active) then some .state
  else none

/-- RETIRED: every slot is zeroed, the cache and the directory are purged (R319). -/
def State.keyWipe (s : State) : State :=
  s.modKey fun k => { k with slots := k.slots.map (fun q => { q with occupied := false, attr := 0, stored := 0, mask := 0 }), cache := [], dir := [], stg := {}, ops := [] }

end Sys2Proof.Machine
end

