-- ==== Sys2Proof/Machine/Msg.lean ====
section
/-! DEFINITION. Sys2Proof/Machine/Msg.lean: SERVICES entries, what a service announces, and the bytes of the messages it sends (spec/10_time_service.md, spec/09_ports_timestamping.md, Table 9.7). -/
namespace Sys2Proof.Machine

def State.modSvc (s : State) (f : Svc → Svc) : State := { s with svc := f s.svc }
def State.svcEvent (s : State) (mask : Nat) : State := s.raise 0x090008 mask

/-! ### SERVICES entries -/

/-- The reset settings of entry `i` by its profile (Table 10.7, Table 10.18). -/
def Plot.entReset (p : Plot) (i : Nat) : Ent :=
  let rate := fun (a y d : Int) => fset (fset (fset 0 24 8 (unsigned 8 a)) 16 8 (unsigned 8 y)) 8 8 (unsigned 8 d)
  match p.svcKind i with
  | 1 | 5 => { rate := rate 1 0 0 }
  | 2 => { rate := rate (-3) (-4) (-4) }
  | 3 => { cfg := 0x99B07F00, rate := rate (-3) (-4) (-4) }
  | 4 => { cfg := 0x95B07F00, rate := rate 0 (-3) 0 }
  | _ => {}

/-- The registers of entry `i`. -/
def State.ent (s : State) (i : Nat) : Ent := Sparse.get s.plt.plot.entReset s.svc.ents i
def State.modEnt (s : State) (i : Nat) (f : Ent → Ent) : State :=
  s.modSvc fun v => { v with ents := Sparse.set s.plt.plot.entReset v.ents i (f (s.ent i)) }

/-- The class of engines that a SERVICE code takes (R265). -/
def classOf (kind : Nat) : Nat := if kind = 0 then 1 else if kind ≤ 5 then 2 else 3
/-- A PTP profile. -/
def ptpKind (kind : Nat) : Bool := decide (1 ≤ kind) && decide (kind ≤ 5)
def Ent.auth (e : Ent) : Nat := fget e.cfg 30 2
def Ent.gmac (e : Ent) : Bool := fget e.cfg 29 1 = 1
def Ent.boundTlv (e : Ent) : Bool := fget e.cfg 28 1 = 1
def Ent.unicast (e : Ent) : Bool := fget e.cfg 27 1 = 1
def Ent.p2p (e : Ent) : Bool := fget e.cfg 26 1 = 1
def Ent.cfZero (e : Ent) : Bool := fget e.cfg 24 1 = 1
def Ent.logAnn (e : Ent) : Int := signed 8 (fget e.rate 24 8)
def Ent.logSync (e : Ent) : Int := signed 8 (fget e.rate 16 8)
def Ent.logDelay (e : Ent) : Int := signed 8 (fget e.rate 8 8)
/-- OPTIONS bit 0: two-step. -/
def Plot.twoStep (p : Plot) (i : Nat) : Bool := (p.svcOptions i).testBit 0
def transportBit : Transport → Nat
  | .l2 => 1
  | .ip4 => 2
  | .ip6 => 3

/-- The time base of entry `i`. -/
def State.entTb (s : State) (i : Nat) : Fin 64 := tbIx (s.plt.plot.svcTb i)

/-! ### Time as the services write it -/

/-- A value of time base `n` in the PTP timescale of its entry (R281). -/
def State.ptpTime (s : State) (n : Fin 64) (v : Nat) : Nat := (((v : Int) + s.taiUtc n * secU) % timeMod).toNat

/-- A value as entry `i` writes it: PTP entries use the PTP timescale. -/
def State.entTime (s : State) (i : Nat) (v : Nat) : Nat :=
  if ptpKind (s.plt.plot.svcKind i) then s.ptpTime (s.entTb i) v else v

/-- The projected value of entry `i` at an instant in quanta, on the tick's own leap state (R246, R281). -/
def State.entAt (s : State) (i d : Nat) : Nat :=
  let n := s.entTb i
  let f := s.foresee n (qTick d - s.tick)
  f.entTime i (f.tbs[n].value + qTap d * f.tbEffInc n / 512)

/-- Seconds and nanoseconds of a PTP timestamp, and its fraction in 2⁻¹⁶ ns (R252). -/
def ptpStamp (v : Nat) : List Byte := beBytes 6 (secOf v % 2 ^ 48) ++ beBytes 4 (nsOf v)
def subNs (v : Nat) : Int := (v % 2 ^ 56 / 2 ^ 40 : Nat)

/-- An NTP timestamp: UTC seconds plus 2,208,988,800, the fraction rounded to the nearest 2⁻³² s (R253, R270). -/
def ntpStamp (v : Nat) : List Byte :=
  beBytes 8 (((v * 2 ^ 33 + secU) / (2 * secU) + 2208988800 * 2 ^ 32) % 2 ^ 64)

/-! ### What is announced -/

/-- DPLLd_STAT.HO_IN_SPEC of the loop of a time base. -/
def State.inSpec (s : State) (n : Fin 64) : Bool := match s.tbLoop n with
  | none => true
  | some d => s.bit (dpllReg d 8) 25

/-- The row of Table 10.11: 0 locked, 1 holdover in specification, 2 out of it, 3 untraceable. -/
def State.announceRow (s : State) (n : Fin 64) : Nat :=
  if s.disowned then 3
  else match s.provMode n with
  | 0 => 3
  | 1 | 2 | 5 => 0
  | 6 => if (match s.tbLoop n with | some d => s.dpllState d = 4 | none => false) && !s.inSpec n then 2 else 1
  | _ => if s.inSpec n then 1 else 2

/-- The time base's loop is on the atomic flywheel. -/
def State.atomFly (s : State) (n : Fin 64) : Bool := match s.tbLoop n with
  | some d => s.onFlywheel d
  | none => false

/-- clockClass of Table 10.11. -/
def State.clockClass (s : State) (i : Nat) : Nat :=
  let n := s.entTb i
  let k := s.plt.plot.svcKind i
  let tel := k = 2 || k = 3
  let arb := s.plt.plot.tbScale n = 2
  match s.announceRow n with
  | 0 => if arb && !tel then 13 else 6
  | 1 => if arb && !tel then 14 else 7
  | 2 =>
    if tel then (if s.atomFly n then (match s.fwClass false with | 0 => 140 | 1 => 150 | _ => 160) else 160)
    else if arb then 58 else 52
  | _ => 248

/-- SOURCE of the slot behind a time base. -/
def State.slotSource (s : State) (n : Fin 64) : Nat := match s.bnd[n].slot with
  | some k => s.plt.plot.refSource k
  | none => 0

/-- timeSource of Table 10.11. -/
def State.timeSource (s : State) (n : Fin 64) : Nat :=
  match s.announceRow n with
  | 0 => if isGnss (s.slotSource n) then 0x20 else if isPtp (s.slotSource n) then 0x40 else 0x90
  | 3 => 0xA0
  | _ => if s.atomFly n then 0x10 else 0xA0

/-- NTP stratum of Table 10.11. -/
def State.stratum (s : State) (n : Fin 64) : Nat :=
  match s.announceRow n with
  | 2 => s.fld 0x09000C 20 4
  | 3 => 16
  | _ => 1

/-- NTP reference identifier of Table 10.11. -/
def State.refId (s : State) (n : Fin 64) : List Byte :=
  match s.announceRow n with
  | 0 =>
    if isGnss (s.slotSource n) then [0x47, 0x4E, 0x53, 0x53]
    else if isPtp (s.slotSource n) then [0x50, 0x54, 0x50, 0]
    else if isWings (s.slotSource n) then [0x57, 0x4E, 0x47, 0x53]
    else [0x50, 0x50, 0x53, 0]
  | 3 => [0x49, 0x4E, 0x49, 0x54]
  | _ => [0x48, 0x4F, 0x4C, 0x44]

/-- NTP leap indicator (Table 10.4). -/
def State.ntpLi (s : State) (n : Fin 64) : Nat :=
  if s.untraceable n || s.disowned then 3
  else
    let pend := s.fld (tbReg n 0x78) 0 2
    if pend ≠ 0 && decide (s.tbs[n].leapAt * secU ≤ s.tbs[n].value + 86400 * secU) then pend else 0

/-- clockAccuracy of R197 for a frame bound; G.8275 profiles fix it by clockClass (assumption 23). -/
def State.clockAcc (s : State) (i bound : Nat) : Nat :=
  let k := s.plt.plot.svcKind i
  if k = 2 || k = 3 then (if s.clockClass i = 6 then 0x21 else 0xFE)
  else if bound = 0xFFFFFFFF then 0xFE else accCode (bound * 250)

/-- ceil(256 × log₂ b²) for a bound of `b` × 0.25 ns, `b` > 0: the least exponent of two not below (b ÷ 4 × 10⁹)⁵¹². -/
def logVar (b : Nat) : Int :=
  let x := b ^ 512
  let y := (4 * 10 ^ 9) ^ 512
  if x ≤ y then -(Nat.log2 (y / x) : Int) else (Nat.log2 (divUp x y - 1) + 1 : Nat)

/-- offsetScaledLogVariance of R197; G.8275 profiles fix it by clockClass (assumption 23). -/
def State.variance (s : State) (i bound : Nat) : Nat :=
  let k := s.plt.plot.svcKind i
  if k = 2 || k = 3 then (if s.clockClass i = 6 then 0x4E5D else 0xFFFF)
  else if bound = 0xFFFFFFFF then 0xFFFF
  else if bound = 0 then 0 else (max 0 (min 0xFFFE (0x8000 + logVar bound))).toNat

/-- The UTC time base behind an entry (R281). -/
def State.utcTb (s : State) (i : Nat) : Option (Fin 64) :=
  let n := s.entTb i
  let u := fget (s.ent i).cfg 8 7
  if s.plt.plot.tbScale n = 1 then some n
  else if s.plt.plot.tbScale n = 0 && u < 64 && s.plt.plot.tbPresent u && s.plt.plot.tbScale u = 1 then some (tbIx u) else none

/-- flagField of an Announce (R281, R282, Table 10.11). -/
def State.announceFlags (s : State) (i : Nat) : Nat :=
  let n := s.entTb i
  let row := s.announceRow n
  let trace := (if row = 0 || row = 1 then 0x10 else 0) + (if row = 0 || row = 1 || (row = 2 && s.atomFly n) then 0x20 else 0)
  let scale := if s.plt.plot.tbScale n = 2 then 0 else 8
  match s.utcTb i with
  | none => trace + scale
  | some u =>
    let pend := s.fld (tbReg u 0x78) 0 2
    let near := decide (s.tbs[u].leapAt * secU ≤ s.tbs[u].value + 43200 * secU) && !s.bit (tbReg u 0x1C) 7
    trace + scale + 4 + (if near && pend = 1 then 1 else 0) + (if near && pend = 2 then 2 else 0)

/-- currentUtcOffset. -/
def State.utcOffset (s : State) (i : Nat) : Int := match s.utcTb i with
  | none => 0
  | some u => s.taiUtc u

/-! ### Bound TLV and PTP messages -/

/-- The Bound TLV of Table 7.7. -/
def State.boundTlv (s : State) (n : Fin 64) (bound : Nat) (refined : Bool) : List Byte :=
  let m := s.provMode n
  let flags := b2n (bound = 0xFFFFFFFF) + (if m = 3 || m = 4 then 2 else 0) + (if s.inSpec n then 0 else 4) +
    (if m = 6 then 8 else 0) + (if refined then 16 else 0)
  beBytes 2 0x8000 ++ beBytes 2 22 ++ beBytes 3 s.plt.plot.orgId ++ [0, 0, 1, 1, BitVec.ofNat 8 flags, BitVec.ofNat 8 n.val, 0] ++
    beBytes 4 bound ++ beBytes 4 (min (divUp s.bnd[n].slope (10 ^ 16)) 0xFFFFFFFF) ++ beBytes 4 (s.prov n).toNat

/-- The Bound TLV of an entry's message, where the entry sends it (R198). -/
def State.entTlv (s : State) (i bound : Nat) (refined : Bool) : List Byte :=
  if (s.ent i).boundTlv then s.boundTlv (s.entTb i) bound refined else []

/-- sourcePortIdentity of a port: portNumber is the lane plus 1 (assumption 21). -/
def portPid (p : Nat) : List Byte := beBytes 8 Config.clockIdentity.toNat ++ beBytes 2 (p + 1)

/-- The header fields that differ between messages. -/
structure Hdr where
  type : Nat
  sdo : Nat
  domain : Nat
  flags : Nat
  corr : Int
  port : Nat
  seq : Nat
  log : Int
deriving DecidableEq, Repr

/-- controlField by messageType, as IEEE 1588 fixes it. -/
def controlOf (t : Nat) : Nat := match t with | 0 => 0 | 1 => 1 | 8 => 2 | 9 => 3 | 13 => 4 | _ => 5

/-- A PTP message of which `extra` bytes follow later; the header is that of IEEE 1588-2019 with minorVersionPTP 1 (R278). -/
def ptpMsg (h : Hdr) (body : List Byte) (extra : Nat) : List Byte :=
  [BitVec.ofNat 8 (h.sdo * 16 + h.type), 0x12] ++ beBytes 2 (34 + body.length + extra) ++ [BitVec.ofNat 8 h.domain, 0] ++
    beBytes 2 h.flags ++ beBytes 8 (unsigned 64 h.corr) ++ [0, 0, 0, 0] ++ portPid h.port ++ beBytes 2 h.seq ++
    [BitVec.ofNat 8 (controlOf h.type), BitVec.ofNat 8 (unsigned 8 h.log)] ++ body

/-- Fields of a received PTP message. -/
def ptpType (m : List Byte) : Nat := beNat (slice m 0 1) % 16
def ptpSdo (m : List Byte) : Nat := beNat (slice m 0 1) / 16
def ptpDomain (m : List Byte) : Nat := beNat (slice m 4 1)
def ptpFlags (m : List Byte) : Nat := beNat (slice m 6 2)
def ptpCorr (m : List Byte) : Int := signed 64 (beNat (slice m 8 8))
def ptpSeq (m : List Byte) : Nat := beNat (slice m 30 2)
def ptpLog (m : List Byte) : Int := signed 8 (beNat (slice m 33 1))
/-- sourcePortIdentity. -/
def ptpPid (m : List Byte) : BitVec 80 := BitVec.ofNat 80 (beNat (slice m 20 10))
/-- The time in the ten bytes at offset 34, in 2⁻⁵⁶ ns. -/
def ptpBody (m : List Byte) : Int := ((beNat (slice m 34 6) * secU + beNat (slice m 40 4) * 2 ^ 56 : Nat) : Int)
/-- A correction in 2⁻¹⁶ ns as 2⁻⁵⁶ ns. -/
def corrU (c : Int) : Int := c * (2 ^ 40 : Nat)

/-- The TLVs behind a message's fixed part: type and body (IEEE 1588-2019, clause 14). -/
def tlvs : Nat → List Byte → List (Nat × List Byte)
  | 0, _ => []
  | f + 1, l => if l.length < 4 then [] else
      let n := beNat (slice l 2 2)
      (beNat (slice l 0 2), slice l 4 n) :: tlvs f (l.drop (4 + n))

/-- Length of the fixed part by messageType. -/
def ptpFixed (t : Nat) : Nat := match t with | 0 | 1 | 8 => 44 | 11 => 64 | 12 => 44 | 13 => 48 | _ => 54

/-- The TLVs of a received message, in messageLength bytes. -/
def msgTlvs (m : List Byte) : List (Nat × List Byte) :=
  tlvs m.length ((m.take (beNat (slice m 2 2))).drop (ptpFixed (ptpType m)))

/-! ### Authentication -/

/-- Why a message is not sent or not answered (Table 10.2). -/
inductive Loss where
  /-- the request's authentication failed -/
  | auth
  /-- as before, and an NTSN answers it (R275) -/
  | nak
  | keymiss | nokey
  /-- the key's generation or GMAC counter does not let it be used -/
  | keygen
  | unsup
deriving DecidableEq, Repr

/-- The outcome of a search for a key: it is there, it is being fetched, or the frame is lost. -/
inductive Keyed where
  | key (k : BitVec 256)
  | wait (n : KeyName)
  | lost (l : Loss)
deriving DecidableEq, Repr

/-- An engine of cluster `c` resolves a key for entry `i` (R300, R312). -/
def State.keyFor (s : State) (c i : Nat) (n : KeyName) (purpose : Nat) : Keyed × State :=
  match s.resolve n c purpose (some (s.plt.plot.svcTb i)) with
  | (.key k, s1) => (.key k, s1)
  | (.fetch _, s1) => (.wait n, s1)
  | (.fail .nokey, s1) => (.lost .nokey, s1)
  | (.fail .keygen, s1) => (.lost .keygen, s1)
  | (.fail _, s1) => (.lost .keymiss, s1)

/-- A message with its correctionField taken as zero where CF_ZERO says so (R284). -/
def cfZeroed (z : Bool) (m : List Byte) : List Byte := if z then m.take 8 ++ List.replicate 8 0 ++ m.drop 16 else m

/-- Bytes of the AUTHENTICATION TLV. -/
def authLen (e : Ent) : Nat := if e.auth = 0 then 0 else if e.gmac then 30 else 26

/-- The key of a session under R310: per client for a unicast client of a root with PER_CLIENT. -/
def State.macKey (s : State) (n : KeyName) (k : BitVec 256) (client : Option (BitVec 80)) : BitVec 256 :=
  match client with
  | some pid => if s.perClient then clientKey k pid (s.genOf n) else k
  | none => k

/-- Step 6 of Table 9.5 for a PTP message of entry `i`: the AUTHENTICATION TLV over the final bytes (R283, R284, R310, R311); the key and the tick it was read at. -/
def State.sealPtp (s : State) (c i : Nat) (client : Option (BitVec 80)) (m : List Byte) : (Loss ⊕ (List Byte × Option (Nat × Nat))) × State :=
  let e := s.ent i
  if e.auth = 0 then (.inr (m, none), s)
  else match s.sessionName e.keyId.toNat with
    | none => (.inl .keygen, s)
    | some n =>
      match s.keyFor c i n 2 with
      | (.lost l, s1) => (.inl l, s1)
      | (.wait w, s1) => (.inl .keymiss, s1.modSvc fun v => { v with fetching := v.fetching ++ [w] })
      | (.key k, s1) =>
        let k := s1.macKey n k client
        let head := [0x80, 0x09] ++ beBytes 2 (if e.gmac then 26 else 22) ++ [BitVec.ofNat 8 (fget e.cfg 0 8)]
        if e.gmac then
          match s1.gmacNext n with
          | none => (.inl .keygen, s1)
          | some (q, s2) =>
            let body := m ++ head ++ [0x02] ++ beBytes 4 e.keyId.toNat ++ beBytes 4 q
            let icv := beBytes 16 (Config.gmac k (beBytes 8 Config.clockIdentity.toNat ++ beBytes 4 q) (cfZeroed e.cfZero body)).toNat
            (.inr (body ++ icv, some (n.code, s.tick)), s2)
        else
          let body := m ++ head ++ [0x00] ++ beBytes 4 e.keyId.toNat
          (.inr (body ++ beBytes 16 (Config.hmac128 k (cfZeroed e.cfZero body)).toNat, some (n.code, s.tick)), s1)

/-- The parts of an AUTHENTICATION TLV at the end of a message: SPP, indicator, keyID, sequenceNo, and where the ICV starts (Table 10.8). -/
structure AuthTlv where
  gmac : Bool
  spp : Nat
  ind : Nat
  keyId : Nat
  seq : Nat
deriving DecidableEq, Repr

def authTlvOf (m : List Byte) : Option AuthTlv :=
  let at' := fun (n : Nat) => slice m (m.length - n) n
  let h := at' 26
  let g := at' 30
  if 60 ≤ m.length && beNat (slice h 0 4) = 0x80090016 then some ⟨false, beNat (slice h 4 1), beNat (slice h 5 1), beNat (slice h 6 4), 0⟩
  else if 64 ≤ m.length && beNat (slice g 0 4) = 0x8009001A then
    some ⟨true, beNat (slice g 4 1), beNat (slice g 5 1), beNat (slice g 6 4), beNat (slice g 10 4)⟩
  else none

/-- The ICV of a received message verifies under a key (R283, R284). -/
def icvOk (a : AuthTlv) (cfZero : Bool) (k : BitVec 256) (m : List Byte) : Bool :=
  let body := cfZeroed cfZero (m.take (m.length - 16))
  let icv := m.drop (m.length - 16)
  if a.gmac then a.ind = 2 && icv = beBytes 16 (Config.gmac k (slice m 20 8 ++ beBytes 4 a.seq) body).toNat
  else a.ind = 0 && icv = beBytes 16 (Config.hmac128 k body).toNat

/-- How the check of a request's authentication ends: it may be used, it waits for a blob, or it is lost. -/
inductive Checked where
  | ok
  | wait (n : KeyName)
  | lost (l : Loss)
deriving DecidableEq, Repr

/-- Step 3 of Table 9.5 for a PTP message of entry `i`: with AUTH 2 every request needs a valid TLV (R283). -/
def State.checkPtp (s : State) (c i : Nat) (client : Option (BitVec 80)) (m : List Byte) : Checked × State :=
  let e := s.ent i
  if e.auth ≠ 2 then (.ok, s)
  else match authTlvOf m with
    | none => (.lost .auth, s)
    | some a =>
      if a.gmac ≠ e.gmac || a.spp ≠ fget e.cfg 0 8 then (.lost .auth, s)
      else match s.sessionName a.keyId with
        | none => (.lost .auth, s)
        | some n => match s.keyFor c i n 2 with
          | (.lost .keygen, s1) => (.lost .auth, s1)
          | (.lost l, s1) => (.lost l, s1)
          | (.wait w, s1) => (.wait w, s1)
          | (.key k, s1) => if icvOk a e.cfZero (s1.macKey n k client) m then (.ok, s1) else (.lost .auth, s1)

/-! ### Frames -/

/-- Bytes of headers in front of a message, and the FCS: Ethernet with one tag where `vlan` is not 0, and IP and UDP without options (R254, Table 9.9). -/
def wrapLen (t : Transport) (tagged : Bool) : Nat :=
  (match t with | .l2 => 14 | .ip4 => 42 | .ip6 => 62) + (if tagged then 4 else 0) + 4

/-- Length of a frame from the first byte after the preamble through the FCS. -/
def frameLen (t : Transport) (tagged : Bool) (trailer : Bool) (msg : Nat) : Nat :=
  max 64 (wrapLen t tagged + msg + (if trailer then 6 else 0))

/-- The ones'-complement sum of 16-bit words. -/
def onesSum : List Byte → Nat
  | [] => 0
  | [a] => a.toNat * 256
  | a :: b :: t => a.toNat * 256 + b.toNat + onesSum t

/-- The UDP checksum over pseudo-header and final payload; 0 is sent as 0xFFFF (R254). -/
def udpSum (port : Nat) (t : Transport) (dst : BitVec 128) (m : List Byte) : Nat :=
  match t with
  | .l2 => 0
  | _ =>
    let x := onesSum (Config.pseudoHeader port dst (m.length + 8)) + onesSum m
    let x := x % 65536 + x / 65536
    let x := x % 65536 + x / 65536
    if 65535 - x = 0 then 0xFFFF else 65535 - x

end Sys2Proof.Machine
end

