-- ==== Sys2Proof/Machine/Ntp.lean ====
section
/-! DEFINITION. Sys2Proof/Machine/Ntp.lean: NTPv4 and NTS requests and responses (R269 to R276, Table 10.4 to Table 10.6). -/
namespace Sys2Proof.Machine

/-- The extension fields behind an NTP header, as RFC 7822 delimits them: type and body; none where the rest is a MAC or malformed. -/
def ntpFields : Nat → List Byte → Option (List (Nat × List Byte))
  | 0, l => if l.isEmpty then some [] else none
  | f + 1, l =>
    if l.isEmpty then some []
    else
      let n := beNat (slice l 2 2)
      if l.length < 28 || n < 16 || n % 4 ≠ 0 || l.length < n then none
      else (ntpFields f (l.drop n)).map fun r => (beNat (slice l 0 2), slice l 4 (n - 4)) :: r

/-- The bytes of an extension field. -/
def efBytes (t : Nat) (body : List Byte) : List Byte := beBytes 2 t ++ beBytes 2 (4 + body.length) ++ body

/-- What an NTS request asks: its Unique Identifier, the cookie, how many cookies it asks for, and its authenticator's body. -/
structure NtsAsk where
  uid : List Byte
  cookie : List Byte
  asked : Nat
  auth : List Byte
deriving DecidableEq, Repr

/-- The fields of Table 10.5 in a request. -/
def ntsAsk (efs : List (Nat × List Byte)) : Option NtsAsk :=
  match efs.getLast? with
  | none => none
  | some (t, auth) =>
    let l := efs.dropLast
    let uids := l.filter (fun e => e.1 = 0x0104)
    let cks := l.filter (fun e => e.1 = 0x0204)
    let phs := l.filter (fun e => e.1 = 0x0304)
    match uids, cks with
    | [u], [c] =>
      if t = 0x0404 && l.length = 2 + phs.length && phs.length ≤ 7 && phs.all (fun e => e.2.length = 104) &&
          decide (32 ≤ u.2.length) && u.2.length ≤ 64 && c.2.length = 104 && beNat (slice auth 0 2) = 16 then
        some ⟨u.2, c.2, 1 + phs.length, auth⟩
      else none
    | _, _ => none

/-- The two keys of a cookie. -/
structure NtsKeys where
  c2s : BitVec 256
  s2c : BitVec 256
  name : KeyName
deriving DecidableEq, Repr

/-- What an NTP request turns out to be. -/
inductive NtpReq where
  | plain
  | nts (a : NtsAsk) (k : NtsKeys)
  | wait (n : KeyName)
  | lost (l : Loss)
deriving DecidableEq, Repr

/-- A 256-bit number of 32 bytes. -/
def key256 (l : List Byte) : BitVec 256 := BitVec.ofNat 256 (beNat l)

/-- Steps 2 to 4 of R273 with the cookie key at hand. -/
def ntsOpen (a : NtsAsk) (name : KeyName) (k : BitVec 256) (m : List Byte) : NtpReq :=
  match Config.sivOpen k (slice a.cookie 0 4) (slice a.cookie 4 16) (slice a.cookie 20 84) with
  | none => .lost .nak
  | some p =>
    if p.length ≠ 68 || beNat (slice p 0 2) ≠ 15 then .lost .nak
    else
      let q : NtsKeys := ⟨key256 (slice p 4 32), key256 (slice p 36 32), name⟩
      let n := beNat (slice a.auth 2 2)
      match Config.sivOpen q.c2s (m.take (m.length - 4 - a.auth.length)) (slice a.auth 4 16) (slice a.auth 20 n) with
      | some _ => .nts a q
      | none => .lost .auth

/-- A request as R269, R272 and R273 judge it. -/
def State.ntpVerify (s : State) (c i : Nat) (f : Frame) : NtpReq × State :=
  let m := f.msg
  let b0 := beNat (slice m 0 1)
  let ver := b0 / 8 % 8
  let auth := (s.ent i).auth
  if m.length < 48 || b0 % 8 ≠ 3 || (ver ≠ 3 && ver ≠ 4) || f.interleaved then (.lost .unsup, s)
  else match ntpFields m.length (m.drop 48) with
    | none => (.lost .unsup, s)
    | some [] => (if auth = 2 then .lost .auth else .plain, s)
    | some efs =>
      match ntsAsk efs with
      | none => (.lost .unsup, s)
      | some a =>
        if auth = 0 || ver ≠ 4 then (.lost .unsup, s)
        else if !s.bit 0x0A0004 23 then (.lost .keymiss, s)
        else
          let id := beNat (slice a.cookie 0 4)
          let e := id / 256
          let name := s.cookieName e
          if !s.epochLive 0 e || s.genOf name % 256 ≠ id % 256 then (.lost .nak, s)
          else match s.keyFor c i name 3 with
            | (.lost .keygen, s1) => (.lost .nak, s1)
            | (.lost l, s1) => (.lost l, s1)
            | (.wait w, s1) => (.wait w, s1)
            | (.key k, s1) => (ntsOpen a name k m, s1)

/-- How many cookies a response carries (R274). -/
def State.ntsCookies (s : State) (a : NtsAsk) (reqLen : Nat) : Nat :=
  let most := min a.asked (s.fld 0x09000C 16 3 + 1)
  let fit := (reqLen - (92 + a.uid.length)) / 108
  max 1 (min most fit)

/-- Length of the response to a request, as its fields ask for it. -/
def State.ntpLen (s : State) (m : List Byte) : Nat :=
  match (ntpFields m.length (m.drop 48)).bind ntsAsk with
  | some a => 92 + a.uid.length + 108 * s.ntsCookies a m.length
  | none => 48

/-- The header of a response (Table 9.7, Table 10.4). -/
def State.ntpHeader (s : State) (i : Nat) (m : List Byte) (disp : Nat) (rxT refT tx : List Byte) (stratum : Nat) (id : List Byte) : List Byte :=
  let n := s.entTb i
  let poll := max (signed 8 (beNat (slice m 2 1))) (s.fld 0x09000C 8 8)
  [BitVec.ofNat 8 (s.ntpLi n * 64 + beNat (slice m 0 1) / 8 % 8 * 8 + 4), BitVec.ofNat 8 stratum, BitVec.ofNat 8 (unsigned 8 poll), 0xE0,
   0, 0, 0, 0] ++ beBytes 4 disp ++ id ++ refT ++ slice m 40 8 ++ rxT ++ tx

/-- Root dispersion of R196 with the addition of R253. -/
def rootDisp (bound : Nat) : Nat := if bound = 0xFFFFFFFF then 0xFFFFFFFF else divUp ((bound * 250 + 117) * 65536) (10 ^ 12)

/-- New cookies under the current cookie key with fresh nonces (Table 10.6). -/
def State.newCookies (s : State) (q : NtsKeys) (id : Nat) (k : BitVec 256) : Nat → List Byte × State
  | 0 => ([], s)
  | n + 1 =>
    let r := s.fresh 128
    let nonce := beBytes 16 r.1.toNat
    let idb := beBytes 4 id
    let plain := beBytes 4 0x000F0000 ++ beBytes 32 q.c2s.toNat ++ beBytes 32 q.s2c.toNat
    let ck := efBytes 0x0204 (idb ++ nonce ++ Config.sivSeal k idb nonce plain)
    let rest := r.2.newCookies q id k n
    (ck ++ rest.1, rest.2)

/-- Steps 5 and 6 for a response of entry `i` whose transmit value is `tx`, with the bound of its departure (R252, R253, R271 to R274). -/
def State.ntpBuild (s : State) (c i : Nat) (rx : Rx) (req : NtpReq) (tx bound : Nat) : (Loss ⊕ (List Byte × Option (Nat × Nat))) × State :=
  let n := s.entTb i
  let refT := if s.untraceable n then List.replicate 8 0 else ntpStamp s.bnd[n].tvTime
  let head := s.ntpHeader i rx.frame.msg (rootDisp bound) (ntpStamp rx.time) refT (ntpStamp tx) (s.stratum n) (s.refId n)
  match req with
  | .nts a q =>
    let e := s.svcEpoch 0
    let name := s.cookieName e
    match s.keyFor c i name 3 with
    | (.key k, s1) =>
      let id := e * 256 + s1.genOf name % 256
      let cks := s1.newCookies q id k (s1.ntsCookies a rx.frame.msg.length)
      let r := cks.2.fresh 128
      let nonce := beBytes 16 r.1.toNat
      let ad := head ++ efBytes 0x0104 a.uid
      let sealed := Config.sivSeal q.s2c ad nonce cks.1
      (.inr (ad ++ efBytes 0x0404 (beBytes 2 16 ++ beBytes 2 sealed.length ++ nonce ++ sealed), some (q.name.code, s.tick)), r.2)
    | (.wait w, s1) => (.inl .keymiss, s1.modSvc fun v => { v with fetching := v.fetching ++ [w] })
    | (.lost l, s1) => (.inl l, s1)
  | _ => (.inr (head, none), s)

/-- An NTSN response: kiss code, origin and identifier, no time (R275). -/
def State.ntpNak (s : State) (i : Nat) (m : List Byte) : List Byte :=
  let z := List.replicate 8 (0 : Byte)
  let uid := match ntpFields m.length (m.drop 48) with
    | some efs => ((efs.filter (fun e => e.1 = 0x0104)).head?.map (fun e => efBytes 0x0104 e.2)).getD []
    | none => []
  s.ntpHeader i m 0 z z z 0 [0x4E, 0x54, 0x53, 0x4E] ++ uid

end Sys2Proof.Machine
end

