-- ==== Sys2Proof/Machine/SvcRx.lean ====
section
/-! DEFINITION. Sys2Proof/Machine/SvcRx.lean: clusters, rate limits, receive stamping, classification and dispatch (R239, R242, R259, R262, R265, R278, R280, R289, R440). -/
namespace Sys2Proof.Machine

/-! ### Clusters -/

def clusReg (c o : Nat) : Nat := 0x090100 + 0x100 * c + o
/-- SVCc_STAT.STATE: 0 ASLEEP, 1 WAKING, 2 AWAKE, 3 FENCED. -/
def State.clusState (s : State) (c : Nat) : Nat := s.fld (clusReg c 0) 30 2
def State.modClus (s : State) (c : Nat) (f : Cluster → Cluster) : State :=
  s.modSvc fun v => { v with clus := v.clus.set (c % 4) (f (v.clus[c % 4]'(Nat.mod_lt _ (by decide)))) (Nat.mod_lt _ (by decide)) }
/-- Engines of cluster `c` that the plot gives a class (R265); engines of an absent cluster have none. -/
def State.enginesOf (s : State) (c cls : Nat) : Nat :=
  ((List.range 16).filter (fun e => s.plt.plot.cluster c && s.plt.plot.engine (16 * c + e) = cls)).length
/-- Engines of a cluster with a class that is not idle. -/
def State.assigned (s : State) (c : Nat) : Nat := s.enginesOf c 1 + s.enginesOf c 2 + s.enginesOf c 3
def State.jobsOf (s : State) (c : Nat) : Nat := (s.svc.jobs.filter (fun j => j.rx.cluster = c)).length

/-- The cluster of least load among those in a state with engines of a class. -/
def State.leastLoaded (s : State) (cls st : Nat) : Option Nat :=
  ((List.range 4).filter (fun c => s.clusState c = st && s.enginesOf c cls ≠ 0)).foldl (fun (b : Option Nat) c => match b with
    | none => some c
    | some x => if s.jobsOf c < s.jobsOf x then some c else some x) none

/-- Where a request of a class is dispatched: the awake cluster with the fewest requests, else a waking one (R265, R295). -/
def State.dispatchTo (s : State) (cls : Nat) : Option Nat := (s.leastLoaded cls 2).or (s.leastLoaded cls 1)

/-- Cells that a frame takes (R440). -/
def cells (len : Nat) : Nat := divUp len 128

/-- Cells of a complex: its share of the packet banks (R440). -/
def State.cellsOf (s : State) (x : Nat) : Nat :=
  let banks := ((List.range 24).filter (fun b => s.plt.plot.bankUse b = 1)).length
  let n := ((List.range 2).filter (fun x => s.plt.plot.complex x)).length
  if s.plt.plot.complex x then banks * 32768 / max 1 n else 0

/-- The request behind a scheduled response, until it is committed. -/
def Held.request (h : Held) : Option Rx :=
  if h.committed.isSome then none
  else match h.work with
    | .ntp rx => some rx
    | .pdelay rx => some rx
    | _ => none

/-- Cells in use in a complex. -/
def State.cellsUsed (s : State) (x : Nat) : Nat :=
  let of' := fun (rx : Rx) => if complexOf rx.port = x then cells rx.frame.length else 0
  (s.svc.jobs.map (fun j => of' j.rx)).sum + (s.svc.refRx.map of').sum +
  ((List.finRange 16).map (fun p => ((s.ports[p].held.filterMap Held.request).map of').sum)).sum

/-! ### Rate limits -/

/-- SVC_RL_NTP (class 1) and SVC_RL_PTP (class 2). -/
def State.rlRate (s : State) (cls : Nat) : Nat := s.fld (0x09000C + 4 * cls) 16 16
def State.rlBurst (s : State) (cls : Nat) : Nat := s.fld (0x09000C + 4 * cls) 8 8
/-- One token in the unit of a bucket: a refill adds RATE units a tick. -/
def tokenU : Nat := 1250000000

/-- Tokens of a bucket that held `b.1` at tick `b.2`, at tick `t`: at most BURST tokens by refill, more only if it held more (R289, R290). -/
def refill (b : Nat × Nat) (rate burst t : Nat) : Nat × Nat :=
  (if burst * tokenU ≤ b.1 then b.1 else min (b.1 + rate * (t - b.2)) (burst * tokenU), t)

def State.bucket (s : State) (cls key : Nat) : Nat × Nat :=
  let b := (Sparse.get (fun _ => none) s.svc.buckets key).getD (s.svc.base.getD cls (0, 0))
  refill b (s.rlRate cls) (s.rlBurst cls) s.tick

/-- Every bucket of a class takes its refill up to this tick. -/
def State.refillAll (s : State) (cls : Nat) : State :=
  let r := fun (b : Nat × Nat) => refill b (s.rlRate cls) (s.rlBurst cls) s.tick
  s.modSvc fun v =>
    { v with
      buckets := v.buckets.map (fun e => if e.1 / 2 ^ 18 % 4 = cls then (e.1, e.2.map r) else e)
      base := v.base.set cls (r (v.base.getD cls (0, 0))) }

/-- The client key of R289. -/
def State.clientKeyOf (s : State) (cls : Nat) (f : Frame) : List Byte :=
  let a := beBytes 16 f.addr.toNat
  if cls = 2 then slice f.msg 20 10 ++ a
  else if f.transport = .ip6 && s.bit 0x090010 0 then a.take 8 else a

/-- A request is admitted if either of its two buckets holds a whole token; one is taken from the fuller (R289). -/
def State.admits (s : State) (port cls : Nat) (f : Frame) : Bool × State :=
  let k := s.clientKeyOf cls f
  let at' := fun i => complexOf port * 2 ^ 20 + cls * 2 ^ 18 + (Config.bucketHash cls k i).toNat
  let a := s.bucket cls (at' 0)
  let b := s.bucket cls (at' 1)
  let put := fun (key : Nat) (x : Nat × Nat) => s.modSvc fun v => { v with buckets := Sparse.set (fun _ => none) v.buckets key (some (x.1 - tokenU, x.2)) }
  if a.1 < tokenU && b.1 < tokenU then (false, s)
  else if b.1 ≤ a.1 then (true, put (at' 0) a) else (true, put (at' 1) b)

/-! ### Classification -/

/-- The SERVICES entry that a frame matches on a port (R265, R278). -/
def State.matchEntry (s : State) (p : Nat) (f : Frame) : Option Nat :=
  let pl := s.plt.plot
  (List.range pl.svcCount).find? (fun i =>
    let k := pl.svcKind i
    (pl.svcPorts i).testBit p &&
    match f.carried with
    | .ntp => k = 0 && (pl.svcOptions i).testBit (transportBit f.transport)
    | .ptp => ptpKind k && (pl.svcOptions i).testBit (transportBit f.transport) && ptpDomain f.msg = pl.svcDomain i &&
        beNat (slice f.msg 1 1) % 16 = 2 && beNat (slice f.msg 1 1) / 16 ≤ 1 && (decide (ptpSdo f.msg = 1) == decide (k = 4))
    | .esmc => k = 6
    | .lease => k = 7 && (pl.svcOptions i).testBit (transportBit f.transport)
    | .other => false)

/-- The PTP reference slots on a port. -/
def State.ptpSlots (s : State) (p : Nat) : List (Fin 24) :=
  (List.finRange 24).filter (fun k => isPtp (s.plt.plot.refSource k) && s.plt.plot.refPort k = p)

/-- The SyncE reference slots on a port. -/
def State.synceSlots (s : State) (p : Nat) : List (Fin 24) :=
  (List.finRange 24).filter (fun k => isSyncE (s.plt.plot.refSource k) && s.plt.plot.refPort k = p)

/-- Messages that only a reference slot uses: Sync, Follow_Up, Delay_Resp, Announce, and the grants of an upstream master (R280). -/
def forSlot (m : List Byte) : Bool :=
  [0, 8, 9, 11].contains (ptpType m) || (ptpType m = 12 && (msgTlvs m).any (fun t => t.1 = 0x0005))

/-- A Signaling message that negotiates (R287). -/
def negotiates (m : List Byte) : Bool := ptpType m = 12 && (msgTlvs m).any (fun t => t.1 = 0x0004 || t.1 = 0x0006)

/-- The quality of an ESMC PDU under option 1 or 2 and its enhanced TLV (Table 5.5; codes of ITU-T G.781, assumption 24). -/
def esmcQl (opt2 : Bool) (m : List Byte) : SyncQl × Byte :=
  let q := beNat (slice m 13 1) % 16
  let enh := (tlvs m.length (m.drop 10)).length ≥ 1 && beNat (slice m 14 1) = 2
  let e := if enh then beNat (slice m 17 1) else 0xFF
  let ql : SyncQl :=
    if e = 0x20 then .prtc else if e = 0x21 then .ePrtc else if e = 0x23 then .ePrc
    else if opt2 then (if q = 1 then .prs else if q = 15 then .dus else .other)
    else (if q = 2 then .prc else if q = 15 then .dnu else .other)
  (ql, BitVec.ofNat 8 q)

/-- An ESMC PDU reaches the SyncE slots of its port. -/
def State.esmcIn (s : State) (p : Nat) (opt2 : Bool) (m : List Byte) : State :=
  let q := esmcQl opt2 m
  (s.synceSlots p).foldl (fun s (k : Fin 24) =>
    if s.refState k = 0 then s
    else
      let a := qualityOf (.sync q.1 q.2)
      (s.modRef k fun r => { r with lastEsmc := s.tick }).advertise k a.1 a.2) s

/-! ### Receive -/

/-- The value of a time base at a tap of this tick (R239). -/
def State.stampIn (s : State) (n : Fin 64) (tap : Nat) : Nat := s.tbs[n].value + tap * s.tbEffInc n / 512

/-- A stamped frame for entry `i` and an engine of cluster `c`. -/
def State.mkRx (s : State) (p : Fin 16) (i c tap : Nat) (n : Fin 64) (time : Nat) (f : Frame) : Rx :=
  { port := p.val, entry := i, cluster := c, tick := s.tick, tap := tap, time := time, bound := s.frameBound n p (s.portRefined p), sec0 := secOf (s.stampIn 0 tap), refined := s.portRefined p, last := s.tick + (f.length * byteQuanta (s.plt.plot.portMode p)) / 2560, frame := f }

/-- A frame dropped at ingress (R34). -/
def State.dropIn (s : State) (p : Nat) : State := s.bumpSat (portReg p 0x130) 1

/-- Cost of a request in tenths of a transaction equivalent, as the governor measures arrivals (Table 10.10). -/
def State.costOf (s : State) (i : Nat) (f : Frame) : Nat :=
  match f.carried with
  | .ntp => if f.msg.length ≤ 48 then 4 else 10
  | .ptp => if negotiates f.msg then 20 else if (s.ent i).auth = 0 then 4 else 10
  | _ => 4

/-- An arrival counts toward the load of its class (R294). -/
def State.loadAdd (s : State) (cls n : Nat) : State :=
  s.modSvc fun v => { v with load := v.load.set (cls - 1) (v.load.getD (cls - 1) 0 + n) }

/-- A request of entry `i` is admitted to an engine or dropped (R265, R289, R440, Table 10.1). -/
def State.request (s : State) (p : Fin 16) (i tap : Nat) (f : Frame) : State :=
  let cls := classOf (s.plt.plot.svcKind i)
  let s1 := s.loadAdd cls (s.costOf i f)
  match s1.dispatchTo cls with
  | none => s1.dropIn p
  | some c =>
    let queued := (s1.svc.jobs.filter (fun j => j.rx.cluster = c && classOf (s1.plt.plot.svcKind j.rx.entry) = cls)).length
    if 512 ≤ queued || s1.cellsOf (complexOf p) < s1.cellsUsed (complexOf p) + cells f.length then s1.dropIn p
    else
      let adm := if negotiates f.msg && f.carried = .ptp then (true, s1) else s1.admits p cls f
      if !adm.1 then adm.2.modEnt i fun e => { e with rlDrop := BitVec.ofNat 32 (min (e.rlDrop.toNat + 1) 0xFFFFFFFF) }
      else
        let s2 := adm.2.modEnt i fun e => { e with rx := e.rx + 1 }
        let n := s2.entTb i
        let rx := s2.mkRx p i c tap n (s2.entTime i (s2.stampIn n tap)) f
        s2.modSvc fun v => { v with jobs := v.jobs ++ [⟨rx, none, false, 0, s2.clusState c = 1⟩] }

/-- A message for a PTP reference slot of the port, stamped in TB0. -/
def State.slotMessage (s : State) (p : Fin 16) (tap : Nat) (f : Frame) : State :=
  match s.dispatchTo 2 with
  | none => s.dropIn p
  | some c =>
    if s.cellsOf (complexOf p) < s.cellsUsed (complexOf p) + cells f.length then s.dropIn p
    else s.modSvc fun v => { v with refRx := v.refRx ++ [s.mkRx p 0 c tap 0 (s.ptpTime 0 (s.stampIn 0 tap)) f] }

/-- A frame with a good FCS on its way to an engine (R265, R278, R280). -/
def State.classify (s : State) (p : Fin 16) (tap : Nat) (f : Frame) : State :=
  if !s.serving && f.carried ≠ .lease then s.dropIn p
  else if f.carried = .ptp && forSlot f.msg && !(s.ptpSlots p).isEmpty then s.slotMessage p tap f
  else match s.matchEntry p f with
    | none => s.dropIn p
    | some i =>
      let s1 := s.modPort p fun q => { q with lastService := s.tick }
      match f.carried with
      | .ntp => s1.request p i tap f
      | .ptp =>
        match ptpType f.msg with
        | 1 | 2 => s1.request p i tap f
        | 3 | 10 => if s1.ports[p].pdelaySeq = some (ptpSeq f.msg) then s1.modPort p fun q => { q with asCapable := true, pdelaySeq := none } else s1
        | 12 => if negotiates f.msg && (s1.ent i).unicast then s1.request p i tap f else s1
        | 13 => s1.modEnt i fun e => { e with rx := e.rx + 1, unsup := e.unsup + 1 }
        | _ => s1
      | .esmc => if (s1.dispatchTo 3).isNone then s1.dropIn p else (s1.modEnt i fun e => { e with rx := e.rx + 1 }).esmcIn p (fget (s1.ent i).cfg 19 1 = 1) f.msg
      | _ => if (s1.dispatchTo 3).isNone then s1.dropIn p else s1.modEnt i fun e => { e with rx := e.rx + 1 }

/-- FRAME_RECEIVE: a frame whose timestamp point crosses the MDI plane at a tap of this tick (R231, R234 to R239, R242, R254, R262). -/
def State.frameIn (s : State) (p : Fin 16) (tap : Fin 512) (f : Frame) : State :=
  if !s.portCarries p || s.complexFenced (complexOf p) then s
  else if !f.fcsOk || 2048 < f.length || 64 < f.options then s.bumpSat (portReg p 0x134) 1
  else
    let tap := if s.portRefined p then tap.val else 0
    let s1 := s.bump (portReg p 0x104) 1
    let s2 := if s.portState p = 5 && f.carried = .ptp && ptpType f.msg ≤ 3 then
        s1.calLogPush p ⟨true, ptpSeq f.msg, s1.stampIn (s1.stampTb p) tap⟩ else s1
    if f.carried = .ntp || f.carried = .lease then
      let r := s2.pairSee p f
      if r.1 then r.2 else r.2.classify p tap f
    else s2.classify p tap f

/-- PAUSE and PFC (R232): queue `none` is every queue; `quanta` of 512 bit times, 64 bytes on the wire. -/
def State.pauseIn (s : State) (p : Fin 16) (queue : Option (Fin 8)) (quanta : Nat) : State :=
  if !s.portCarries p || !s.bit (portReg p 0) 11 then s
  else
    let e := s.nowQ + quanta * 64 * byteQuanta (s.plt.plot.portMode p)
    s.modPort p fun q => match queue with
      | none => { q with pauseEnd := e }
      | some k => { q with pfcEnd := Sparse.set (fun _ => 0) q.pfcEnd k.val e }

/-- The frame matches the wake pattern of a dormant port (Table 9.11). -/
def State.wakes (s : State) (p : Fin 16) (f : Frame) : Bool :=
  f.fcsOk &&
  match s.plt.plot.wakePattern p with
  | 0 =>
    let bytes := fun (o : Nat) => (List.range 16).foldl (fun l k => l ++ beBytes 4 (s.rd (portReg p (o + 4 * k))).toNat) ([] : List Byte)
    f.head.length = 64 && ((List.zip f.head (List.zip (bytes 0x200) (bytes 0x240))).all (fun x => x.1 &&& x.2.2 = x.2.1 &&& x.2.2))
  | 1 => f.toPort
  | 2 => f.carried = .ptp && f.toPort
  | 3 => f.carried = .ntp && f.toPort && beNat (slice f.msg 0 1) % 8 = 3
  | _ => false

end Sys2Proof.Machine
end

