-- ==== Sys2Proof/Machine/SvcTx.lean ====
section
/-! DEFINITION. Sys2Proof/Machine/SvcTx.lean: scheduled frames from reservation to departure, rebuilds, frames without a reservation, and the sessions behind unicast messages (R243 to R254, R261, R267, R281 to R288, Table 9.5 to Table 9.7). -/
namespace Sys2Proof.Machine

/-! ### Accounting -/

/-- Executed cycles of a transaction that has ended are SERVED or DISCARDED (R297). -/
def State.cyc (s : State) (c : Nat) (served : Bool) (n : Nat) : State :=
  s.modClus c fun k => if served then { k with srv := k.srv + n } else { k with dsc := k.dsc + n }

/-- The counter of a loss (Table 10.2, R276). -/
def State.lose (s : State) (i : Nat) (l : Loss) : State :=
  match l with
  | .auth | .nak => s.modEnt i fun e => { e with authFail := e.authFail + 1 }
  | .keymiss | .keygen => s.modEnt i fun e => { e with keymiss := e.keymiss + 1 }
  | .nokey => (s.modEnt i fun e => { e with keymiss := e.keymiss + 1 }).svcEvent 4
  | .unsup => s.modEnt i fun e => { e with unsup := e.unsup + 1 }

/-! ### Sessions -/

def State.session (s : State) (j : Nat) : Option Session := Sparse.get (fun _ => none) s.svc.sess j
def State.setSession (s : State) (j : Nat) (x : Option Session) : State :=
  let s1 := s.modSvc fun v => { v with sess := Sparse.set (fun _ => none) v.sess j x }
  s1.wr 0x090024 (BitVec.ofNat 32 s1.svc.sess.length)

/-- The bucket of a client (R285). -/
def bucketOf (rx : Rx) : Nat := 4 * (Config.sessionHash rx.port (ptpPid rx.frame.msg) rx.frame.addr).toNat
/-- A session is that of the sender of a message. -/
def Session.isOf (x : Session) (rx : Rx) : Bool := x.port = rx.port && x.pid = ptpPid rx.frame.msg && x.addr = rx.frame.addr
/-- The slot of a client's session. -/
def State.sessionOf (s : State) (rx : Rx) : Option (Nat × Session) :=
  (List.range 4).findSome? (fun k => match s.session (bucketOf rx + k) with
    | some x => if x.isOf rx then some (bucketOf rx + k, x) else none
    | none => none)
/-- The first free slot of a client's bucket. -/
def State.freeSlot (s : State) (rx : Rx) : Option Nat :=
  ((List.range 4).map (fun k => bucketOf rx + k)).find? (fun j => (s.session j).isNone)

/-- LAST_RX follows the latest message of the client. -/
def State.sessionSeen (s : State) (rx : Rx) : State := match s.sessionOf rx with
  | some (j, x) => s.setSession j (some { x with lastRx := rx.sec0 })
  | none => s

/-- 2^L seconds. -/
def periodOf (l : Int) : Nat := if l < 0 then secU / 2 ^ l.natAbs else secU * 2 ^ l.natAbs
/-- The nominal instant with index `k` of slot `j` at interval `l` (R288). -/
def nominalOf (l : Int) (j k : Nat) : Nat := k * periodOf l + j * periodOf l / 2 ^ 20
/-- The index of the last nominal instant at or before a value. -/
def nominalIndex (l : Int) (j v : Nat) : Nat := (v - j * periodOf l / 2 ^ 20) / periodOf l

/-! ### Building -/

/-- The request's unicast flag: per-client keys apply, and a session may stand behind it. -/
def rxUnicast (m : List Byte) : Bool := (ptpFlags m).testBit 10
def rxClient (m : List Byte) : Option (BitVec 80) := if rxUnicast m then some (ptpPid m) else none
def uniFlag (b : Bool) : Nat := if b then 0x400 else 0
/-- The fraction as the port carries it in correctionField (R252). -/
def State.frac (s : State) (p v : Nat) : Int := if s.bit (portReg p 0) 12 then subNs v else 0
/-- The transport of multicast messages: the first that OPTIONS lists (assumption 25). -/
def Plot.mcast (p : Plot) (i : Nat) : Transport := if (p.svcOptions i).testBit 1 then .l2 else if (p.svcOptions i).testBit 2 then .ip4 else .ip6
def Plot.sdo (p : Plot) (i : Nat) : Nat := if p.svcKind i = 4 then 1 else 0
/-- The header of a message of entry `i` on port `p`. -/
def State.hdr (s : State) (i p type flags : Nat) (corr : Int) (seq : Nat) (log : Int) : Hdr :=
  ⟨type, s.plt.plot.sdo i, s.plt.plot.svcDomain i, flags, corr, p, seq, log⟩

/-- Destination, transport and tag of a work. -/
structure Dest where
  transport : Transport
  tagged : Bool
  addr : BitVec 128
  client : Option (BitVec 80)
deriving DecidableEq, Repr

def rxDest (rx : Rx) : Dest := ⟨rx.frame.transport, rx.frame.vlan ≠ 0, rx.frame.addr, rxClient rx.frame.msg⟩
def Session.dest (x : Session) : Dest := ⟨if x.l2 then .l2 else if x.ip6 then .ip6 else .ip4, x.vlan ≠ 0, x.addr, some x.pid⟩
def State.slotDest (s : State) (i : Nat) (slot : Option Nat) : Dest :=
  match slot.bind s.session with
  | some x => x.dest
  | none => ⟨s.plt.plot.mcast i, false, 0, none⟩

/-- The entry and the destination of a work. -/
def Work.entry : Work → Nat
  | .ntp rx => rx.entry
  | .pdelay rx => rx.entry
  | .sync e _ _ _ _ => e
  | .announce e _ _ _ _ => e
def State.workDest (s : State) : Work → Dest
  | .ntp rx => rxDest rx
  | .pdelay rx => rxDest rx
  | .sync e _ j _ _ => s.slotDest e j
  | .announce e _ j _ _ => s.slotDest e j
/-- The traffic class of a work, for the queue map (Table 9.20). -/
def Work.cls : Work → Nat
  | .ntp _ => 2
  | .announce _ _ _ _ _ => 1
  | _ => 0
/-- Length of the message of a work. -/
def State.workLen (s : State) (w : Work) : Nat :=
  let e := s.ent w.entry
  let tail := (if e.boundTlv then 26 else 0) + authLen e
  match w with
  | .ntp rx => s.ntpLen rx.frame.msg
  | .pdelay _ => 54 + tail
  | .sync _ _ _ _ _ => 44 + tail
  | .announce _ _ _ _ _ => 64 + tail

/-- The interval that an unsolicited message announces: the entry's, or for a session Sync the unicast code 0x7F. -/
def annLogOf (s : State) (i : Nat) (slot : Option Nat) : Int := match slot.bind s.session with
  | some x => x.annLog
  | none => (s.ent i).logAnn

/-- Bytes of an Announce (Table 9.7, Table 10.11, R197, R281, R282). -/
def State.announceMsg (s : State) (i p : Nat) (slot : Option Nat) (seq v bound : Nat) (refined : Bool) : List Byte :=
  let e := s.ent i
  let n := s.entTb i
  let tlv := s.entTlv i bound refined
  let prio := Config.priorities.toNat
  let body := ptpStamp v ++ beBytes 2 (unsigned 16 (s.utcOffset i)) ++ [0, BitVec.ofNat 8 (prio / 256), BitVec.ofNat 8 (s.clockClass i), BitVec.ofNat 8 (s.clockAcc i bound)] ++
    beBytes 2 (s.variance i bound) ++ [BitVec.ofNat 8 prio] ++ beBytes 8 Config.clockIdentity.toNat ++ [0, 0, BitVec.ofNat 8 (s.timeSource n)]
  ptpMsg (s.hdr i p 11 (s.announceFlags i + uniFlag slot.isSome) 0 seq (annLogOf s i slot)) (body ++ tlv) (authLen e)

/-- Bytes of a Sync, Follow_Up or the like: a time at offset 34 and a correction. -/
def State.timeMsg (s : State) (i p type flags seq : Nat) (corr log : Int) (time rest : List Byte) (bound : Nat) (refined : Bool) : List Byte :=
  ptpMsg (s.hdr i p type flags corr seq log) (time ++ rest ++ s.entTlv i bound refined) (authLen (s.ent i))

/-- What steps 3 to 8 of Table 9.5 give. -/
structure Done where
  msg : List Byte
  key : Option (Nat × Nat)
  value : Nat
  bound : Nat
deriving DecidableEq, Repr

/-- Steps 3 to 7 of Table 9.5 for a departure at `d` quanta by an engine of cluster `c`. -/
def State.buildWork (s : State) (p : Fin 16) (c d : Nat) (w : Work) : (Loss ⊕ Done) × State :=
  let i := w.entry
  let n := s.entTb i
  let v := s.entAt i d
  let raw := s.projectAt n (qTick d) (qTap d)
  let b := s.projectBound n p (qTick d)
  let done := fun (r : (Loss ⊕ (List Byte × Option (Nat × Nat))) × State) => match r.1 with
    | .inl l => ((.inl l, r.2) : (Loss ⊕ Done) × State)
    | .inr (m, k) => (.inr ⟨m, k, raw, b⟩, r.2)
  match w with
  | .ntp rx =>
    match s.ntpVerify c i rx.frame with
    | (.lost l, s1) => (.inl l, s1)
    | (.wait _, s1) => (.inl .keymiss, s1)
    | (req, s1) => done (s1.ntpBuild c i rx req v b)
  | .pdelay rx =>
    match s.checkPtp c i (rxClient rx.frame.msg) rx.frame.msg with
    | (.lost l, s1) => (.inl l, s1)
    | (.wait _, s1) => (.inl .keymiss, s1)
    | (.ok, s1) =>
      let m := rx.frame.msg
      let turn : Int := if s.bit (portReg p 0) 12 then ((v : Int) - rx.time) / 2 ^ 40 else ((v / 2 ^ 56 : Nat) - (rx.time / 2 ^ 56 : Nat) : Int) * 65536
      done (s1.sealPtp c i (rxClient m) (s1.timeMsg i p 3 (uniFlag (rxUnicast m)) (ptpSeq m) (ptpCorr m + turn) 0x7F (List.replicate 10 0) (slice m 20 10) rx.bound rx.refined))
  | .sync _ _ slot _ seq =>
    let log := if slot.isSome then 0x7F else (s.ent i).logSync
    done (s.sealPtp c i (s.workDest w).client (s.timeMsg i p 0 (uniFlag slot.isSome) seq (s.frac p v) log (ptpStamp v) [] b (s.portRefined p)))
  | .announce _ _ slot _ seq =>
    done (s.sealPtp c i (s.workDest w).client (s.announceMsg i p slot seq v b (s.portRefined p)))

/-! ### Frames without a reservation -/

/-- A message joins the frames that wait to leave without a reservation, `ready` ticks from now. -/
def State.sendPlain (s : State) (p : Fin 16) (cls c i : Nat) (dst : Dest) (msg : List Byte) (ready cycles : Nat) (served : Bool) (after : After) : State :=
  s.enqueue p ⟨s.queueOf p cls, s.tick + ready, frameLen dst.transport dst.tagged (s.portPartner p).isSome msg.length, i, c, msg, after, cycles, served⟩

/-- The other port of a pair that can send beside `p`, and `p` itself (R261, Table 9.12). -/
def State.paths (s : State) (p : Fin 16) : List (Fin 16) :=
  (match s.portPartner p with | some q => [p, q] | none => [p]).filter (fun q => s.portCarries q)

/-- The next SequenceNr of a pair. -/
def State.nextTrailer (s : State) (p : Fin 16) : Option (BitVec 16) × State :=
  match s.portPartner p with
  | none => (none, s)
  | some _ => (some s.ports[s.pairHome p].pairSeq, s.modPort (s.pairHome p) fun q => { q with pairSeq := q.pairSeq + 1 })

/-- An NTSN answers a request whose cookie failed, where it is enabled and the client's bucket admits it (R275). -/
def State.nakSend (s : State) (p : Fin 16) (c cycles build : Nat) (rx : Rx) : State :=
  if !s.bit 0x09000C 19 then s.cyc c false cycles
  else
    let a := s.admits p 1 rx.frame
    if !a.1 then a.2.cyc c false cycles
    else
      let s1 := a.2.modEnt rx.entry fun e => { e with nak := e.nak + 1 }
      s1.sendPlain p 2 c rx.entry (rxDest rx) (s1.ntpNak rx.entry rx.frame.msg) build cycles false .nothing

/-! ### Reservation, hold buffer and rebuilds -/

/-- Steps 2 to 8 of Table 9.5: the frame is in the hold buffer, or why it is not. -/
def State.place (s : State) (p : Fin 16) (w : Work) (c rebuilds : Nat) (trailer : Option (BitVec 16)) (build cycles from' : Nat) (limit : Option Nat) : Bool × State :=
  let i := w.entry
  let dst := s.workDest w
  let len := frameLen dst.transport dst.tagged trailer.isSome (s.workLen w)
  let q := s.queueOf p w.cls
  let bq := byteQuanta (s.plt.plot.portMode p)
  match s.reserve p q len s.ports[p].pcs from' with
  | none => (false, (s.noSlot p).cyc c false cycles)
  | some d =>
    if (limit.map (fun l => decide (l < d))).getD false then (false, (if rebuilds = 0 then s.noSlot p else s).cyc c false cycles)
    else match s.buildWork p c d w with
      | (.inl l, s1) =>
        let s2 := s1.lose i l
        match w, l with
        | .ntp rx, .nak => (false, s2.nakSend p c cycles build rx)
        | _, _ => (false, s2.cyc c false cycles)
      | (.inr x, s1) =>
        let n := s1.entTb i
        let h : Held :=
          { work := w, rebuilds := rebuilds, depart := d, start := d - preBytes * bq, stop := d + len * bq, gap := d + (len + gapBytes) * bq, queue := q, tb := n.val, cluster := c, entry := i, value := x.value, seq := s1.bnd[n].raiseSeq, bound := x.bound, ready := s1.tick + build, build := build, committed := none, msg := x.msg, udp := udpSum p dst.transport dst.addr x.msg, trailer := trailer, key := x.key, cycles := cycles }
        (true, s1.setHeld p (s1.ports[p].held ++ [h]))

/-- The instant in quanta at which time base `n` has a value, as it runs now. -/
def State.quantaOf (s : State) (n : Fin 64) (v : Nat) : Nat :=
  let now := s.tbs[n].value
  let inc := max 1 (s.tbEffInc n)
  if now ≤ v then s.nowQ + divUp ((v - now) * 2560) inc else s.nowQ - (now - v) * 2560 / inc

/-- The latest departure that R250 allows a work: 4 µs after the last bit of the request, 50 µs after the nominal instant. -/
def State.lastDepart (s : State) : Work → Nat
  | .ntp rx => rx.last * 2560 + nsQuanta 4000
  | .pdelay rx => rx.last * 2560 + nsQuanta 4000
  | .sync e _ _ v _ => s.quantaOf (s.entTb e) v + nsQuanta 50000
  | .announce e _ _ v _ => s.quantaOf (s.entTb e) v + nsQuanta 50000

/-- Where the departure of a work may begin: at its nominal instant, at once for a response. -/
def State.firstDepart (s : State) : Work → Nat
  | .sync e _ _ v _ => s.quantaOf (s.entTb e) v
  | .announce e _ _ v _ => s.quantaOf (s.entTb e) v
  | _ => 0

/-- A discarded or aborted frame is built again from step 2, or dropped (R250). -/
def State.regenerate (s : State) (p : Fin 16) (h : Held) : State :=
  let s1 := s.cyc h.cluster false h.cycles
  if s1.fld (portReg p 0) 13 3 ≤ h.rebuilds then s1.bumpSat (portReg p 0x128) 1
  else
    let r := s1.place p h.work h.cluster (h.rebuilds + 1) h.trailer h.build 0 (s1.firstDepart h.work) (some (s1.lastDepart h.work))
    if r.1 then r.2 else r.2.bumpSat (portReg p 0x128) 1

/-- The table of a port without one frame. -/
def State.dropHeld (s : State) (p : Fin 16) (h : Held) : State := s.setHeld p (s.ports[p].held.filter (fun x => !decide (x = h)))

/-- The commit point of a held frame (R247, R250). -/
def State.commitPoint (s : State) (p : Fin 16) (h : Held) : State :=
  match s.releaseErr p h with
  | none =>
    let n := tbIx h.tb
    let k : Committed := ⟨s.watchInc n, s.armedBy n (qTick h.depart)⟩
    s.setHeld p (s.ports[p].held.map (fun x => if x = h then { x with committed := some k } else x))
  | some e => (((s.dropHeld p h).bumpSat (portReg p (0x108 + 4 * e)) 1).portEvent p 0x10).regenerate p h

/-- A committed frame is aborted (R248). -/
def State.abortHeld (s : State) (p : Fin 16) (h : Held) : State :=
  (((s.dropHeld p h).bumpSat (portReg p 0x124) 1).portEvent p 0x10).regenerate p h

/-- SVC_ENT_STAT follows what was sent (Table 10.19). -/
def sentStat (w : Word) (kind : Nat) (m : List Byte) : Word :=
  if kind = 0 then fset (fset w 8 8 (beNat (slice m 1 1))) 6 2 (beNat (slice m 0 1) / 64)
  else if ptpType m = 11 then fset (fset w 24 8 (beNat (slice m 48 1))) 16 8 (beNat (slice m 49 1))
  else w

/-- Entry `i` has sent a message. -/
def State.entSent (s : State) (i : Nat) (m : List Byte) : State :=
  s.modEnt i fun e => { e with tx := e.tx + 1, stat := sentStat e.stat (s.plt.plot.svcKind i) m }

/-- The timestamp point of a committed frame crosses the MDI (R245, R297). -/
def State.departHeld (s : State) (p : Fin 16) (h : Held) : State :=
  let s1 := (s.dropHeld p h).bump (portReg p 0x100) 1
  let s2 := s1.modPort p fun q => { q with sent := some ⟨h.depart, h.msg, h.udp, true, h.trailer⟩ }
  (s2.entSent h.entry h.msg).cyc h.cluster true h.cycles

/-- An uncommitted frame has come to its commit point; a committed one to its departure. -/
def State.atCommit (s : State) (p : Fin 16) (h : Held) : Bool := h.committed.isNone && decide (h.depart - s.txCommit p ≤ s.nowQ)
def State.atDepart (s : State) (h : Held) : Bool := h.committed.isSome && decide (h.depart ≤ s.nowQ)

/-- The commit points that have come on a port. -/
def State.commitAll (s : State) (p : Fin 16) : State :=
  (s.ports[p].held.filter (fun h => s.atCommit p h)).foldl (fun (s : State) h => s.commitPoint p h) s

/-- The frames of a port that must be aborted at this tick. -/
def State.abortAll (s : State) (p : Fin 16) : State :=
  (s.ports[p].held.filter (fun h => !s.atDepart h && (h.committed.map (fun k => s.mustAbort p h k)).getD false)).foldl
    (fun (s : State) h => s.abortHeld p h) s

/-- The departures that have come on a port. -/
def State.departAll (s : State) (p : Fin 16) : State :=
  (s.ports[p].held.filter (fun h => s.atDepart h)).foldl (fun (s : State) h => s.departHeld p h) s

/-- An operation that read a key before a generation rose, and that still runs 2 µs later, is aborted (R317). -/
def State.keyAborted (s : State) (k : Option (Nat × Nat)) (ready : Nat) : Bool := match k with
  | none => false
  | some (code, t) =>
    let rose := Sparse.get (fun _ => 0) s.key.roseAt code
    decide (t < rose) && decide (rose + 2 * ticksPerUs ≤ s.tick) && decide (s.tick < ready)

/-- KEYGEN_OPERATION_ABORT on a port's frames that are still being built: nothing is sent (R317). -/
def State.keyAborts (s : State) (p : Fin 16) : State :=
  (s.ports[p].held.filter (fun h => s.keyAborted h.key h.ready)).foldl
    (fun (s : State) h => (s.dropHeld p h).cyc h.cluster false h.cycles) s

/-! ### What follows a departure -/

/-- A two-step Sync has left: its Follow_Up takes the stamp (R252). -/
def State.followUp (s : State) (p : Fin 16) (c i : Nat) (slot : Option Nat) (seq d : Nat) : State :=
  let v := s.entAt i d
  let b := s.projectBound (s.entTb i) p (qTick d)
  let log := if slot.isSome then 0x7F else (s.ent i).logSync
  let m := s.timeMsg i p 8 (uniFlag slot.isSome) seq (s.frac p v) log (ptpStamp v) [] b (s.portRefined p)
  match s.sealPtp c i (s.slotDest i slot).client m with
  | (.inl l, s1) => s1.lose i l
  | (.inr (m, _), s1) => s1.sendPlain p 1 c i (s.slotDest i slot) m 0 0 true .nothing

/-- A Pdelay_Resp has left: its follow-up takes the stamp (R252). -/
def State.pdelayFollowUp (s : State) (p : Fin 16) (rx : Rx) (d : Nat) : State :=
  let i := rx.entry
  let m := rx.frame.msg
  let v := s.entAt i d
  let b := s.projectBound (s.entTb i) p (qTick d)
  let f := s.timeMsg i p 10 (uniFlag (rxUnicast m)) (ptpSeq m) (ptpCorr m + s.frac p v) 0x7F (ptpStamp v) (slice m 20 10) b (s.portRefined p)
  match s.sealPtp rx.cluster i (rxClient m) f with
  | (.inl l, s1) => s1.lose i l
  | (.inr (f, _), s1) => s1.sendPlain p 1 rx.cluster i (rxDest rx) f 0 0 true .nothing

/-- The next waiting frame of a port starts at this tick (R251); what its transmit stamp is for. -/
def State.startPlain (s : State) (p : Fin 16) : State :=
  match s.nextWait p with
  | none => s
  | some w =>
    let bq := byteQuanta (s.plt.plot.portMode p)
    let d := s.nowQ + preBytes * bq
    let s1 := s.modPort p fun q =>
      { q with waiting := q.waiting.erase w, wireEnd := d + (w.length + gapBytes) * bq, sent := some ⟨d, w.msg, 0, false, none⟩ }
    let s2 := match w.after with
      | .calLog _ => s1
      | _ => (s1.entSent w.entry w.msg).cyc w.cluster w.served w.cycles
    match w.after with
    | .nothing => s2
    | .followUp i slot seq => s2.followUp p w.cluster i slot seq d
    | .pdelayFollowUp rx => s2.pdelayFollowUp p rx d
    | .calLog seq => s2.calLogPush p ⟨false, seq, s2.projectAt (s2.stampTb p) (qTick d) (qTap d)⟩
    | .leaseReq n =>
      let left := fun (r : LeaseReq) => if r.nonce = n && r.tick.isNone then { r with tick := some (qTick d) } else r
      { s2 with wng := { s2.wng with reqs := s2.wng.reqs.map left } }
    | .delayReq k seq =>
      s2.modSvc fun v => { v with prefs := v.prefs.set (k % 24) { (v.prefs[k % 24]'(Nat.mod_lt _ (by decide))) with reqSeq := seq, t3 := some (s2.ptpTime 0 (s2.projectAt 0 (qTick d) (qTap d)) : Int), reqAt := s2.tick } (Nat.mod_lt _ (by decide)) }

end Sys2Proof.Machine
end

