-- ==== Sys2Proof/Machine/SvcOps.lean ====
section
/-! DEFINITION. Sys2Proof/Machine/SvcOps.lean: what the engines do with a dispatched message or at a message's interval: NTP and PTP responses, negotiation, unsolicited messages, ESMC and PTP reference slots (R199, R266 to R293). -/
namespace Sys2Proof.Machine

/-! ### Taking a request -/

/-- Two messages of one PTP session (R266). -/
def sameSession (a b : Job) : Bool :=
  a.rx.frame.carried = .ptp && b.rx.frame.carried = .ptp && a.rx.port = b.rx.port && ptpPid a.rx.frame.msg = ptpPid b.rx.frame.msg &&
    a.rx.frame.addr = b.rx.frame.addr

/-- The oldest request of a kind that has no earlier one of its session before it (R266). -/
def pickJob (ok : Job → Bool) : List Job → List Job → Option Job
  | _, [] => none
  | seen, j :: t => if ok j && !seen.any (fun i => sameSession i j) then some j else pickJob ok (j :: seen) t

/-- An awake engine takes the oldest request of a kind. -/
def State.takeJob (s : State) (f : Rx → Bool) : Option (Job × State) :=
  (pickJob (fun j => j.fetch.isNone && s.clusState j.rx.cluster = 2 && f j.rx) [] s.svc.jobs).map fun j =>
    (j, s.modSvc fun v => { v with jobs := v.jobs.erase j })

/-- A request goes back to wait for a blob (R277, R312). -/
def State.waitBlob (s : State) (j : Job) (n : KeyName) : State :=
  s.modSvc fun v =>
    { v with jobs := { j with fetch := some n } :: v.jobs, fetching := if v.fetching.contains n then v.fetching else v.fetching ++ [n] }

/-- The lane of a request. -/
def laneIx (n : Nat) : Fin 16 := ⟨n % 16, Nat.mod_lt _ (by decide)⟩
/-- Messages of a request's class and type. -/
def isPtpType (t : Nat) (rx : Rx) : Bool := rx.frame.carried = .ptp && ptpType rx.frame.msg = t

/-- Where the transmit PCS of a port and of its partner stand. -/
def State.setPcs (s : State) (p : Fin 16) (c : Pcs) : State :=
  let s1 := s.modPort p fun q => { q with pcs := c }
  match s.portPartner p with
  | some q => s1.modPort q fun x => { x with pcs := c }
  | none => s1

/-- A request is lost before it has a response: its counter, and its cycles as DISCARDED. -/
def State.drop (s : State) (j : Job) (l : Loss) : State := (s.lose j.rx.entry l).cyc j.rx.cluster false j.cycles

/-- The latest departure for a first build: 4 µs after the last bit, unless a wake has delayed the request (R34, R295). -/
def firstLimit (j : Job) : Option Nat := if j.woke then none else some (j.rx.last * 2560 + nsQuanta 4000)

/-- A departure can be reserved for a response in time (R243, R277). -/
def State.canReserve (s : State) (j : Job) (w : Work) : Bool :=
  let p := laneIx j.rx.port
  let dst := s.workDest w
  match s.reserve p (s.queueOf p w.cls) (frameLen dst.transport dst.tagged (s.portPartner p).isSome (s.workLen w)) s.ports[p].pcs 0 with
  | none => false
  | some d => (firstLimit j).all (fun l => decide (d ≤ l))

/-- The response to a request is scheduled on each of its paths; one whose wake came late raises WAKE_LATE (R261, R295). -/
def State.respond (s : State) (j : Job) (w : Work) (paths : List (Fin 16)) (build : Nat) : State :=
  let t := s.nextTrailer (laneIx j.rx.port)
  let s1 := paths.foldl (fun (s : State) (p : Fin 16) => (s.place p w j.rx.cluster 0 t.1 build (if p = laneIx j.rx.port then j.cycles else 0) 0 (firstLimit j)).2) t.2
  if j.woke && paths.any (fun p => s1.ports[p].held.any (fun h => decide (h.work = w) && decide (j.rx.last * 2560 + nsQuanta 4000 < h.depart)))
  then s1.svcEvent 2 else s1

/-! ### NTP -/

/-- NTP_REQUEST: the oldest NTP request is verified and its response scheduled (R269 to R277). -/
def State.ntpRequest (s : State) (pcs : Pcs) (build : Nat) : State :=
  match s.takeJob (fun rx => rx.frame.carried = .ntp) with
  | none => s
  | some (j, s1) =>
    let p := laneIx j.rx.port
    let w := Work.ntp j.rx
    let s2 := s1.setPcs p pcs
    if !s2.canReserve j w && j.fetched then s2.drop j .keymiss
    else if !s2.canReserve j w then (s2.noSlot p).cyc j.rx.cluster false j.cycles
    else match s2.ntpVerify j.rx.cluster j.rx.entry j.rx.frame with
      | (.wait n, s3) => s3.waitBlob j n
      | (.lost .nak, s3) => (s3.lose j.rx.entry .nak).nakSend p j.rx.cluster j.cycles build j.rx
      | (.lost l, s3) => s3.drop j l
      | (_, s3) => s3.respond j w (if (s3.paths p).isEmpty then [p] else s3.paths p) build

/-! ### PTP responses -/

/-- A unicast Delay_Req is answered only under a grant where the entry negotiates (R286, R287). -/
def State.delayGranted (s : State) (rx : Rx) : Bool :=
  !(s.ent rx.entry).unicast || !rxUnicast rx.frame.msg || (match s.sessionOf rx with | some (_, x) => x.drespExp ≠ 0 | none => false)

/-- DELAY_REQ_RECEIVE: the oldest Delay_Req is answered with a Delay_Resp (R280, Table 9.7). -/
def State.delayReq (s : State) (build : Nat) : State :=
  match s.takeJob (isPtpType 1) with
  | none => s
  | some (j, s0) =>
    let rx := j.rx
    let p := laneIx rx.port
    let i := rx.entry
    let c := rx.cluster
    let m := rx.frame.msg
    let s1 := s0.sessionSeen rx
    if (s1.ent i).p2p then s1.drop j .unsup
    else if !s1.delayGranted rx then s1.cyc c false j.cycles
    else match s1.checkPtp c i (rxClient m) m with
      | (.wait n, s2) => s2.waitBlob j n
      | (.lost l, s2) => s2.drop j l
      | (.ok, s2) =>
        let log := if rxUnicast m then 0x7F else (s2.ent i).logDelay
        let r := s2.timeMsg i p 9 (uniFlag (rxUnicast m)) (ptpSeq m) (ptpCorr m - s2.frac p rx.time) log (ptpStamp rx.time) (slice m 20 10) rx.bound rx.refined
        match s2.sealPtp c i (rxClient m) r with
        | (.inl l, s3) => s3.drop j l
        | (.inr (r, _), s3) => s3.sendPlain p 1 c i (rxDest rx) r build j.cycles true .nothing

/-- PDELAY_REQ_RECEIVE: the oldest Pdelay_Req is answered one-step or two-step (R280, Table 9.7). -/
def State.pdelayReq (s : State) (pcs : Pcs) (build : Nat) : State :=
  match s.takeJob (isPtpType 2) with
  | none => s
  | some (j, s0) =>
    let rx := j.rx
    let p := laneIx rx.port
    let i := rx.entry
    let c := rx.cluster
    let m := rx.frame.msg
    let s1 := (s0.sessionSeen rx).setPcs p pcs
    if !(s1.ent i).p2p then s1.drop j .unsup
    else match s1.checkPtp c i (rxClient m) m with
      | (.wait n, s2) => s2.waitBlob j n
      | (.lost l, s2) => s2.drop j l
      | (.ok, s2) =>
        if s2.plt.plot.twoStep i then
          let r := s2.timeMsg i p 3 (0x200 + uniFlag (rxUnicast m)) (ptpSeq m) (-(s2.frac p rx.time)) 0x7F (ptpStamp rx.time) (slice m 20 10) rx.bound rx.refined
          match s2.sealPtp c i (rxClient m) r with
          | (.inl l, s3) => s3.drop j l
          | (.inr (r, _), s3) => s3.sendPlain p 0 c i (rxDest rx) r build j.cycles true (.pdelayFollowUp rx)
        else s2.respond j (.pdelay rx) [p] build

/-! ### Negotiation -/

/-- The three kinds of grant by the messageType in a TLV: 0 Announce, 1 Sync, 2 Delay_Resp. -/
def grantKind (t : Nat) : Option (Fin 3) := match t with | 11 => some 0 | 0 => some 1 | 9 => some 2 | _ => none
def Session.exp (x : Session) : Fin 3 → Nat
  | 0 => x.annExp
  | 1 => x.syncExp
  | 2 => x.drespExp
/-- A grant of a kind with its end (0: none) and interval; the series of a new one begins after the present value `v`. -/
def Session.grant (x : Session) (k : Fin 3) (e : Nat) (l : Int) (j v : Nat) : Session :=
  match k with
  | 0 => { x with annExp := e, annLog := l, annIdx := if x.annExp = 0 || x.annLog ≠ l then nominalIndex l j v else x.annIdx }
  | 1 => { x with syncExp := e, syncLog := l, syncIdx := if x.syncExp = 0 || x.syncLog ≠ l then nominalIndex l j v else x.syncIdx }
  | 2 => { x with drespExp := e, drespLog := l }
/-- The shortest interval an entry grants. -/
def Ent.minLog (e : Ent) : Fin 3 → Int
  | 0 => e.logAnn
  | 1 => e.logSync
  | 2 => e.logDelay

/-- A slot without a grant is free (R286). -/
def State.putSession (s : State) (j : Nat) (x : Session) : State :=
  s.setSession j (if x.annExp = 0 && x.syncExp = 0 && x.drespExp = 0 then none else some x)

/-- An empty session for a client. -/
def State.newSession (s : State) (rx : Rx) : Session :=
  let f := rx.frame
  { entry := rx.entry, port := rx.port, ip6 := f.transport = .ip6, l2 := f.transport = .l2, auth := (s.ent rx.entry).auth ≠ 0, pid := ptpPid f.msg, vlan := f.vlan, addr := f.addr, lastRx := rx.sec0, keyId := (s.ent rx.entry).keyId, keyGen := match s.sessionName (s.ent rx.entry).keyId.toNat with | some n => s.genOf n | none => 0 }

/-- One REQUEST_UNICAST_TRANSMISSION TLV: the duration granted, 0 where it is denied (R285, R287). -/
def State.grantOne (s : State) (rx : Rx) (ok : Bool) (t : Nat) (l : Int) (dur : Nat) : Nat × State :=
  let deny := fun (s : State) => ((0 : Nat), s.modEnt rx.entry fun e => { e with grantDeny := e.grantDeny + 1 })
  match grantKind t with
  | none => deny s
  | some k =>
    let old := s.sessionOf rx
    let announced := match old with | some (_, x) => x.annExp ≠ 0 | none => false
    if !ok || decide (l < (s.ent rx.entry).minLog k) || (k ≠ 0 && !announced) then deny s
    else
      let d := min (max dur 10) 1000
      let v := s.tbs[s.entTb rx.entry].value
      match old with
      | some (j, x) => (d, s.putSession j (x.grant k (rx.sec0 + d + 1) l j v))
      | none => match s.freeSlot rx with
        | none => deny ((s.bumpSat 0x090028 1).svcEvent 8)
        | some j => (d, s.putSession j ((s.newSession rx).grant k (rx.sec0 + d + 1) l j v))

/-- The bytes of a TLV. -/
def tlvBytes (t : Nat) (body : List Byte) : List Byte := beBytes 2 t ++ beBytes 2 body.length ++ body

/-- What one TLV of a negotiation does, and the TLV that answers it. -/
def State.negotiateOne (s : State) (rx : Rx) (ok : Bool) (t : Nat × List Byte) : List Byte × State :=
  let mt := beNat (slice t.2 0 1) / 16
  if t.1 = 0x0004 then
    let l := signed 8 (beNat (slice t.2 1 1))
    let r := s.grantOne rx ok mt l (beNat (slice t.2 2 4))
    (tlvBytes 0x0005 (slice t.2 0 2 ++ beBytes 4 r.1 ++ [0, if r.1 = 0 then 0 else 1]), r.2)
  else if t.1 = 0x0006 then
    let s1 := match grantKind mt, s.sessionOf rx with
      | some k, some (j, x) => s.putSession j (x.grant k 0 0 j 0)
      | _, _ => s
    (tlvBytes 0x0007 (slice t.2 0 2), s1)
  else ([], s)

/-- The oldest negotiation that holds a TLV of type `t` is answered, TLV by TLV (R287). -/
def State.negotiate (s : State) (t build : Nat) : State :=
  match s.takeJob (fun rx => isPtpType 12 rx && (msgTlvs rx.frame.msg).any (fun x => x.1 = t)) with
  | none => s
  | some (j, s0) =>
    let rx := j.rx
    let p := laneIx rx.port
    let i := rx.entry
    let c := rx.cluster
    let m := rx.frame.msg
    match s0.checkPtp c i (rxClient m) m with
    | (.wait n, s1) => s1.waitBlob j n
    | (.lost l, s1) => s1.drop j l
    | (.ok, s1) =>
      let a := if (msgTlvs m).any (fun x => x.1 = 0x0004) then s1.admits p 2 rx.frame else (true, s1)
      let r := (msgTlvs m).foldl (fun (b : List Byte × State) x => let o := b.2.negotiateOne rx a.1 x; (b.1 ++ o.1, o.2)) ([], a.2)
      let s2 := r.2.sessionSeen rx
      let seq := Sparse.get (fun _ => 0) s2.ports[p].seqIds (4 * i + 3)
      let s3 := s2.modPort p fun q => { q with seqIds := Sparse.set (fun _ => 0) q.seqIds (4 * i + 3) ((seq + 1) % 65536) }
      let b := ptpMsg (s3.hdr i p 12 0x400 0 seq 0x7F) (slice m 20 10 ++ r.1) (authLen (s3.ent i))
      match s3.sealPtp c i (some (ptpPid m)) b with
      | (.inl l, s4) => s4.drop j l
      | (.inr (b, _), s4) => s4.sendPlain p 1 c i (rxDest rx) b build j.cycles true .nothing

/-- A grant of slot `j` has lapsed at this tick: TB0 has come to its end, and no renewal stamped before then waits (R12, R287). -/
def State.lapsed (s : State) (x : Session) (k : Fin 3) : Bool :=
  x.exp k ≠ 0 && decide (x.exp k * secU ≤ s.tb0) &&
  !s.svc.jobs.any (fun j => negotiates j.rx.frame.msg && x.isOf j.rx && decide (j.rx.sec0 < x.exp k))

/-- GRANT_LAPSE on a slot (R286, R287). -/
def State.grantLapse (s : State) (j : Nat) : State :=
  match s.session j with
  | none => s
  | some x =>
    let cut := fun (k : Fin 3) (x : Session) => if s.lapsed x k then x.grant k 0 0 j 0 else x
    let y := cut 2 (cut 1 (cut 0 x))
    if y = x then s else s.putSession j y

/-! ### Unsolicited messages -/

/-- The nominal instant that a series serves next at the value `v`, and whether one of it has been missed (R250, R288). -/
def dueIndex (l : Int) (j v last : Nat) : Nat × Bool :=
  let cur := nominalIndex l j v
  if cur ≤ last then (last + 1, false)
  else if v ≤ nominalOf l j cur + 50000 * 2 ^ 56 then (cur, false) else (cur + 1, last + 1 = cur)

/-- A nominal instant can be reserved for now: it lies at most 1 ms ahead. -/
def nearEnough (v nominal : Nat) : Bool := decide (nominal ≤ v + 1000000 * 2 ^ 56)

/-- A Sync or an Announce of entry `i` to a session slot or multicast, for its nominal instant (R245, R252, R288). -/
def State.sendSeries (s : State) (p : Fin 16) (i : Nat) (slot : Option Nat) (ann : Bool) (nominal seq build : Nat) : State :=
  match s.dispatchTo 2 with
  | none => s
  | some c =>
    if !ann && s.plt.plot.twoStep i then
      let wait := divUp (s.quantaOf (s.entTb i) nominal - s.nowQ) 2560
      let log := if slot.isSome then 0x7F else (s.ent i).logSync
      let m := s.timeMsg i p 0 (0x200 + uniFlag slot.isSome) seq 0 log (List.replicate 10 0) [] (s.frameBound (s.entTb i) p (s.portRefined p)) (s.portRefined p)
      match s.sealPtp c i (s.slotDest i slot).client m with
      | (.inl l, s1) => s1.lose i l
      | (.inr (m, _), s1) => s1.sendPlain p 0 c i (s.slotDest i slot) m (max wait build) 0 true (.followUp i slot seq)
    else
      let w := if ann then Work.announce i p slot nominal seq else Work.sync i p slot nominal seq
      let t := s.nextTrailer p
      (t.2.place p w c 0 t.1 build 0 (t.2.firstDepart w) (some (t.2.lastDepart w))).2

/-- UNICAST_MESSAGE_SEND: the next Sync or Announce of a session slot (R288). -/
def State.unicastSend (s : State) (j : Nat) (ann : Bool) (pcs : Pcs) (build : Nat) : State :=
  match s.session j with
  | none => s
  | some x =>
    let e := if ann then x.annExp else x.syncExp
    let l := if ann then x.annLog else x.syncLog
    let v := s.tbs[s.entTb x.entry].value
    let k := dueIndex l j v (if ann then x.annIdx else x.syncIdx)
    let p := laneIx x.port
    let seq := if ann then x.annSeq else x.syncSeq
    if e = 0 || !s.portCarries p then s
    else
      let s1 := if k.2 then s.noSlot p else s
      let keep := fun (n : Nat) (q : Nat) => if ann then { x with annIdx := n, annSeq := q } else { x with syncIdx := n, syncSeq := q }
      if !nearEnough v (nominalOf l j k.1) then s1.setSession j (some (keep (k.1 - 1) seq))
      else
        let s2 := (s1.setSession j (some (keep k.1 ((seq + 1) % 65536)))).setPcs p pcs
        s2.sendSeries p x.entry (some j) ann (nominalOf l j k.1) seq build

/-- The port and the entry may send unsolicited messages: a PTP entry of the port that is not unicast only (Table 10.3). -/
def State.mcastOk (s : State) (i : Nat) (p : Fin 16) : Bool :=
  let k := s.plt.plot.svcKind i
  s.serving && decide (i < s.plt.plot.svcCount) && ptpKind k && k ≠ 3 && (s.plt.plot.svcPorts i).testBit p && s.portCarries p

/-- MULTICAST_MESSAGE_SEND: the next multicast Sync or Announce of an entry on a port (R250, R279). -/
def State.multicastSend (s : State) (i : Nat) (p : Fin 16) (ann : Bool) (pcs : Pcs) (build : Nat) : State :=
  if !s.mcastOk i p then s
  else
    let key := 4 * i + b2n ann
    let l := if ann then (s.ent i).logAnn else (s.ent i).logSync
    let v := s.tbs[s.entTb i].value
    let k := dueIndex l 0 v (Sparse.get (fun _ => 0) s.ports[p].lastIndex key)
    let seq := Sparse.get (fun _ => 0) s.ports[p].seqIds key
    let s1 := if k.2 then s.noSlot p else s
    let keep := fun (n q : Nat) (s : State) => s.modPort p fun x =>
      { x with lastIndex := Sparse.set (fun _ => 0) x.lastIndex key n, seqIds := Sparse.set (fun _ => 0) x.seqIds key q }
    if !nearEnough v (nominalOf l 0 k.1) then keep (k.1 - 1) seq s1
    else ((keep k.1 ((seq + 1) % 65536) s1).setPcs p pcs).sendSeries p i none ann (nominalOf l 0 k.1) seq build

/-- PDELAY_REQ_SEND: a Pdelay_Req of a P2P entry (R280). -/
def State.pdelaySend (s : State) (i : Nat) (p : Fin 16) (build : Nat) : State :=
  if !s.mcastOk i p || !(s.ent i).p2p then s
  else match s.dispatchTo 2 with
    | none => s
    | some c =>
      let key := 4 * i + 2
      let seq := Sparse.get (fun _ => 0) s.ports[p].seqIds key
      let s1 := s.modPort p fun x =>
        { x with asCapable := x.asCapable && x.pdelaySeq.isNone, pdelaySeq := some seq, seqIds := Sparse.set (fun _ => 0) x.seqIds key ((seq + 1) % 65536) }
      let m := ptpMsg (s1.hdr i p 2 0 0 seq (s1.ent i).logDelay) (List.replicate 20 0) (authLen (s1.ent i))
      match s1.sealPtp c i none m with
      | (.inl l, s2) => s2.lose i l
      | (.inr (m, _), s2) => s2.sendPlain p 0 c i (s2.slotDest i none) m build 0 true .nothing

/-- The bytes of an ESMC PDU from its subtype on (ITU-T G.8264; assumption 24): the declared QL, or DNU behind a fenced complex or in a role that does not serve (R293, R369). -/
def State.esmcPdu (s : State) (i : Nat) (p : Fin 16) (event : Bool) : List Byte :=
  let e := s.ent i
  let ql := if s.complexFenced (complexOf p) || !s.serving then 0xF else fget e.cfg 20 4
  let tlv : List Byte := [0x01, 0x00, 0x04, BitVec.ofNat 8 ql]
  let enh := if fget e.cfg 18 1 = 1 then [0x02, 0x00, 0x14, 0xFF] ++ beBytes 8 Config.clockIdentity.toNat ++ [0, 0, 1, 0, 0, 0, 0, 0] else []
  [0x0A, 0x00, 0x19, 0xA7, 0x00, 0x01, (if event then 0x18 else 0x10), 0, 0, 0] ++ tlv ++ enh

/-- ESMC_PDU_SEND: an event PDU that is owed, or the information PDU of the second (R293). -/
def State.esmcSend (s : State) (i : Nat) (p : Fin 16) (build : Nat) : State :=
  if !(decide (i < s.plt.plot.svcCount) && s.plt.plot.svcKind i = 6 && (s.plt.plot.svcPorts i).testBit p && s.portCarries p) then s
  else match s.dispatchTo 3 with
    | none => s
    | some c =>
      let e := s.ent i
      let event := e.esmcDue.contains p.val
      let last := Sparse.get (fun _ => 0) e.esmcAt p.val
      if !event && last ≠ 0 && decide (s.tick < last + ticksPerS) then s
      else
        let m := s.esmcPdu i p event
        let s1 := s.modEnt i fun e => { e with esmcDue := e.esmcDue.filter (fun q => q ≠ p.val), esmcAt := if event then e.esmcAt else Sparse.set (fun _ => 0) e.esmcAt p.val s.tick }
        s1.enqueue p ⟨s1.queueOf p 4, s1.tick + build, frameLen .l2 false false m.length, i, c, m, .nothing, 0, true⟩

/-! ### PTP reference slots -/

/-- The least integer whose square is at least `n`, by trial of its bits. -/
def sqrtUp (n : Nat) : Nat := (List.range 96).foldr (fun b r => if (r + 2 ^ b - 1) * (r + 2 ^ b - 1) < n then r + 2 ^ b else r) 0

/-- Message checks of a reference slot: transport, domain, version, and a valid AUTHENTICATION TLV where AUTH_REQ asks for one (Table 10.20). -/
def State.prefOk (s : State) (k : Fin 24) (rx : Rx) : Bool × State :=
  let cfg := s.svc.prefs[k].cfg
  let m := rx.frame.msg
  if s.refState k = 0 || fget cfg 26 2 ≠ transportBit rx.frame.transport || fget cfg 16 8 ≠ ptpDomain m || ptpSdo m ≠ 0 || beNat (slice m 1 1) % 16 ≠ 2 then
    (false, s)
  else if fget cfg 24 1 = 0 then (true, s)
  else match authTlvOf m with
    | none => (false, s)
    | some a => match s.sessionName a.keyId with
      | none => (false, s)
      | some n => match s.resolve n rx.cluster 2 none with
        | (.key q, s1) => (icvOk a true q m, s1)
        | (_, s1) => (false, s1)

def State.modPref (s : State) (k : Fin 24) (f : Pref → Pref) : State := s.modSvc fun v => { v with prefs := v.prefs.set k (f v.prefs[k]) }

/-- The phase sample of the last second: the mean offset of the Sync messages within REFn_PKT_CLUSTER of the window's floor (R127, R151, Table 7.2). -/
def State.prefSample (s : State) (k : Fin 24) : State :=
  let q := s.svc.prefs[k]
  let r := s.refs[k]
  let floor : Int := (r.syncs.map (fun x => x.2.2)).foldl min ((q.offs.map (·.1)).headD 0)
  let near := (q.offs.filter (fun o => decide (o.1 ≤ floor + (s.rd (refReg k 0x50)).toNat * 1000))).map (·.2)
  if near.isEmpty then s
  else
    let n : Int := near.length
    let mean := near.foldl (· + ·) 0 / n
    let sq := (near.map (fun x => phasePs (x - mean) ^ 2)).sum
    let s1 := s.modRef k fun r =>
      { r with measPs := 3 * sqrtUp (divUp sq near.length), pathPs := phasePs (q.path.getD 0), path := s.plt.plot.refPort k }
    s1.refSample k mean q.syncTick false

/-- A complete Sync: `t1` the origin with corrections, `t2` the receive stamp (R127, R240). -/
def State.prefSync (s : State) (k : Fin 24) (rx : Rx) (t1 t2 : Int) (missing : Nat) : State :=
  let fwd := (t2 - t1) * 1000 / (2 ^ 56 : Nat)
  let s1 := s.modRef k fun r => { r with syncs := (rx.tick, missing, fwd) :: r.syncs, refined := rx.refined }
  let s2 := if s1.svc.prefs[k].second ≠ rx.sec0 then (s1.prefSample k).modPref k fun q => { q with second := rx.sec0, offs := [] } else s1
  let asym := psPhase (signed 32 (s2.rd (portReg rx.port 0x20)).toNat)
  s2.modPref k fun q =>
    { q with t1 := t1, t2 := t2, syncTick := rx.tick, offs := match q.path with | some d => q.offs ++ [(fwd, t1 + d + asym - t2)] | none => q.offs }

/-- Sequence numbers missing before an accepted Sync (R127). -/
def seqGap (last : Option Nat) (seq : Nat) : Nat := match last with
  | none => 0
  | some q => let g := (seq + 65536 - q) % 65536; if g = 0 || 32768 ≤ g then 0 else g - 1

/-- Ticks of a message interval. -/
def ivTicks (l : Int) : Nat := if l < 0 then ticksPerS / 2 ^ l.natAbs else ticksPerS * 2 ^ l.natAbs

/-- The upstream bound of a Bound TLV, its slope, or that a Bound TLV is not to be used (R199). -/
def State.boundTlvIn (s : State) (m : List Byte) : Option (Nat × Nat) × Bool :=
  let own := fun (o : Nat) => o = s.plt.plot.orgId || o = s.fld 0x063004 0 24
  let l := (msgTlvs m).filter (fun t => t.1 = 0x8000 && beNat (slice t.2 3 3) = 1)
  match l.find? (fun t => own (beNat (slice t.2 0 3)) && t.2.length = 22 && beNat (slice t.2 6 1) = 1) with
  | some t => (some (beNat (slice t.2 10 4), beNat (slice t.2 14 4)), false)
  | none => (none, !l.isEmpty)

/-- An accepted message of a slot by its type (R121, R134, R199, R280). -/
def State.prefMessage (s : State) (k : Fin 24) (rx : Rx) : State :=
  let m := rx.frame.msg
  let q := s.svc.prefs[k]
  let seq := ptpSeq m
  match ptpType m with
  | 0 =>
    let gap := seqGap s.refs[k].seqId seq
    let s1 := s.modRef k fun r => { r with seqId := some seq, syncIv := if ptpLog m = 0x7F then r.syncIv else ivTicks (ptpLog m) }
    let s2 := s1.refArrive k
    if (ptpFlags m).testBit 9 then s2.modPref k fun q => { q with sync := some (seq, (rx.time : Int), corrU (ptpCorr m), gap) }
    else s2.prefSync k rx (ptpBody m + corrU (ptpCorr m)) rx.time gap
  | 8 => match q.sync with
    | some (n, t2, c, gap) =>
      if n = seq then (s.prefSync k rx (ptpBody m + c + corrU (ptpCorr m)) t2 gap).modPref k fun q => { q with sync := none } else s
    | none => s
  | 9 => match q.t3 with
    | some t3 =>
      if seq = q.reqSeq && slice m 44 10 = portPid rx.port then
        let back := ptpBody m - corrU (ptpCorr m) - t3
        let path := (q.t2 - q.t1 + back) / 2
        (s.modRef k fun r => { r with resps := (rx.tick, back * 1000 / (2 ^ 56 : Nat)) :: r.resps }).modPref k fun q => { q with path := some path, t3 := none }
      else s
    | none => s
  | 11 =>
    let b := s.boundTlvIn m
    let s1 := if b.2 then s.bumpSat 0x063018 1 else s
    let s2 := s1.modRef k fun r => { r with lastAnn := rx.tick, annIv := if ptpLog m = 0x7F then r.annIv else ivTicks (ptpLog m), tlv := b.1.map (fun x => (x.1, x.2, rx.tick)) }
    let s3 := s2.modPref k fun q => { q with master := ptpPid m }
    let up := b.1.map (fun x => if x.1 = 0xFFFFFFFF then (0xFFFFFFFF : Word) else BitVec.ofNat 32 (min (x.1 + divUp (x.2 * (s.tick - rx.tick) * 8) (25 * 10 ^ 14)) 0xFFFFFFFE))
    let a := qualityOf (.ptp (BitVec.ofNat 8 (beNat (slice m 48 1))) (BitVec.ofNat 8 (beNat (slice m 49 1))) up)
    let s4 := if (s3.actDeadline k).any (fun d => decide (s3.tick < d)) then s3.refClear k 1 else s3
    s4.advertise k a.1 a.2
  | _ =>
    let g := (msgTlvs m).find? (fun t => t.1 = 0x0005 && beNat (slice t.2 2 4) ≠ 0)
    match g with
    | some t => s.modPref k fun q => { q with grantEnd := rx.sec0 + beNat (slice t.2 2 4) }
    | none => s

/-- PTP_REFERENCE_MESSAGE: the oldest stamped message for a slot is used (R280). -/
def State.refMessage (s : State) : State :=
  match s.svc.refRx with
  | [] => s
  | rx :: t =>
    let s1 := s.modSvc fun v => { v with refRx := t }
    (s1.ptpSlots rx.port).foldl (fun (s : State) (k : Fin 24) => let r := s.prefOk k rx; if r.1 then r.2.prefMessage k rx else r.2) s1

/-- The header of a message that a reference slot sends, in the profile and domain of its settings. -/
def State.prefHdr (s : State) (k : Fin 24) (type flags seq : Nat) (log : Int) : Hdr :=
  ⟨type, 0, fget s.svc.prefs[k].cfg 16 8, flags, 0, s.plt.plot.refPort k, seq, log⟩

/-- Transport of a slot's settings. -/
def prefTransport (cfg : Word) : Transport := match fget cfg 26 2 with | 2 => .ip4 | 3 => .ip6 | _ => .l2

/-- A message of a reference slot leaves its port without a reservation. -/
def State.prefSend (s : State) (k : Fin 24) (cls : Nat) (m : List Byte) (build : Nat) (after : After) : State :=
  match s.dispatchTo 2 with
  | none => s
  | some c =>
    let p := laneIx (s.plt.plot.refPort k)
    let t := prefTransport s.svc.prefs[k].cfg
    s.enqueue p ⟨s.queueOf p cls, s.tick + build, frameLen t false (s.portPartner p).isSome m.length, 0, c, m, after, 0, true⟩

/-- The slot may send: it is a PTP slot in use on a port that carries frames. -/
def State.prefLive (s : State) (k : Fin 24) : Bool :=
  isPtp (s.plt.plot.refSource k) && s.refState k ≠ 0 && s.portCarries (s.plt.plot.refPort k)

/-- REFERENCE_DELAY_REQ_SEND (R127, R280). -/
def State.refDelayReq (s : State) (k : Fin 24) (build : Nat) : State :=
  if !s.prefLive k then s
  else
    let p := laneIx (s.plt.plot.refPort k)
    let key := 2000 + k.val
    let seq := Sparse.get (fun _ => 0) s.ports[p].seqIds key
    let s1 := s.modPort p fun x => { x with seqIds := Sparse.set (fun _ => 0) x.seqIds key ((seq + 1) % 65536) }
    let uni := fget s.svc.prefs[k].cfg 25 1 = 1
    s1.prefSend k 0 (ptpMsg (s1.prefHdr k 1 (uniFlag uni) seq 0x7F) (List.replicate 10 0) 0) build (.delayReq k seq)

/-- UPSTREAM_UNICAST_REQUEST: grants of Announce, Sync and Delay_Resp are asked of the upstream master; the intervals and the duration that no rule states are free values (R280, Table 10.20). -/
def State.upstreamRequest (s : State) (k : Fin 24) (build : Nat) : State :=
  if !s.prefLive k || fget s.svc.prefs[k].cfg 25 1 = 0 then s
  else
    let p := laneIx (s.plt.plot.refPort k)
    let key := 2100 + k.val
    let seq := Sparse.get (fun _ => 0) s.ports[p].seqIds key
    let s1 := s.modPort p fun x => { x with seqIds := Sparse.set (fun _ => 0) x.seqIds key ((seq + 1) % 65536) }
    let a := s1.fresh 8
    let d := a.2.fresh 8
    let n := d.2.fresh 32
    let ask := fun (t : Byte) (l : Byte) => tlvBytes 0x0004 ([t * 16, l] ++ beBytes 4 n.1.toNat)
    let body := beBytes 10 s.svc.prefs[k].master.toNat ++ ask 11 a.1 ++ ask 0 (BitVec.ofNat 8 (fget s.svc.prefs[k].cfg 8 8)) ++ ask 9 d.1
    n.2.prefSend k 1 (ptpMsg (n.2.prefHdr k 12 0x400 seq 0x7F) body 0) build .nothing

end Sys2Proof.Machine
end

