-- ==== Sys2Proof/Machine/SvcGov.lean ====
section
/-! DEFINITION. Sys2Proof/Machine/SvcGov.lean: the load governor, cycle accounting, blob fetches of the engines, and the registers of the service block (R277, R290, R293 to R298). -/
namespace Sys2Proof.Machine

/-! ### The governor -/

/-- CORE_CLK in MHz. -/
def State.sysMhz (s : State) : Nat := s.fld 0x0B0064 0 16

/-- The clusters that are present and powered, in one of the states of `l`. -/
def State.clustersIn (s : State) (l : List Nat) : List Nat := (List.range 4).filter (fun c => s.plt.plot.cluster c && s.powered (3 + c) && l.contains (s.clusState c))

/-- Engines of a class in a list of clusters. -/
def State.enginesIn (s : State) (l : List Nat) (cls : Nat) : Nat := (l.map (fun c => s.enginesOf c cls)).sum

/-- A load in tenths of a TE per µs exceeds `pct` per cent of `e` engines at `mhz` (R291: an engine gives 0.5 TE/µs at 1,500 MHz). -/
def exceeds (load pct e mhz : Nat) : Bool := decide (pct * 5 * e * mhz < load * 100 * 1500)

/-- Unicast departures due within `us` µs, in tenths of a TE (R288, R294). -/
def State.unicastDue (s : State) (us : Nat) : Nat :=
  let due := fun (e : Nat) (l : Int) (j v last : Nat) =>
    if e ≠ 0 && nominalOf l j (dueIndex l j v last).1 ≤ v + us * 1000 * 2 ^ 56 then 5 else 0
  (s.svc.sess.map (fun (x : Nat × Option Session) => match x.2 with
    | some y =>
      let v := s.tbs[s.entTb y.entry].value
      due y.annExp y.annLog x.1 v y.annIdx + due y.syncExp y.syncLog x.1 v y.syncIdx
    | none => 0)).sum

/-- The largest rise between consecutive microseconds of the last eight (Table 10.12, assumption 26). -/
def trendOf : List Nat → Nat
  | a :: b :: t => max (a - b) (trendOf (b :: t))
  | _ => 0

/-- The forecast load of class 1 to 3 at now + LEAD, in tenths of a TE per µs (R294). -/
def State.forecast (s : State) (cls : Nat) : Nat :=
  let l := (s.svc.past.map (fun x => x.getD (cls - 1) 0)).take 9
  let lead := s.fld 0x090000 8 8
  l.headD 0 + lead * trendOf l + (if cls = 2 then s.unicastDue lead / max 1 lead else 0)

/-- A cluster begins to wake (R294, R295); PD9 is in retention only while none is awake (R428). -/
def State.clusWake (s : State) (c : Nat) : State :=
  ((((s.setFld (clusReg c 0) 30 2 1).setBit 0x0F0004 31 false).bump (clusReg c 0x30) 1).modClus c fun k => { k with wakeBy := some (s.tick + 2 * ticksPerUs), lowFrom := none }).domFollow s

/-- CLUSTER_WAKE_DONE: a waking cluster is awake (R295). -/
def State.clusAwake (s : State) (c : Nat) : State :=
  if s.clusState c = 1 then ((s.setFld (clusReg c 0) 30 2 2).modClus c fun k => { k with wakeBy := none }).svcEvent 1 else s

/-- The wake that must have completed by this tick. -/
def State.clusWakeDue (s : State) (c : Nat) : State :=
  match (s.svc.clus[c % 4]'(Nat.mod_lt _ (by decide))).wakeBy with
  | some t => if t ≤ s.tick then s.clusAwake c else s
  | none => s

/-- A cluster with nothing in flight: no request, no reservation, no frame in a hold buffer (R295). -/
def State.clusIdle (s : State) (c : Nat) : Bool :=
  s.jobsOf c = 0 && !s.svc.refRx.any (fun r => r.cluster = c) &&
  (List.finRange 16).all (fun p => !s.ports[p].held.any (fun h => h.cluster = c) && !s.ports[p].waiting.any (fun w => w.cluster = c))

/-- The load of every class of a cluster is below LO % of the capacity without it (R294). -/
def State.clusLow (s : State) (c : Nat) : Bool :=
  let rest := (s.clustersIn [2]).filter (fun x => x ≠ c)
  let now := fun cls => (s.svc.past.map (fun x => x.getD (cls - 1) 0)).headD 0
  [1, 2, 3].all (fun cls => s.enginesOf c cls = 0 ||
    decide (now cls * 100 * 1500 < s.fld 0x090000 16 8 * 5 * s.enginesIn rest cls * s.sysMhz))

/-- CLUSTER_SLEEP: an awake cluster whose load has stayed low for HOLD ms, with nothing in flight, sleeps; MIN_AWAKE stay awake (R294, R295). -/
def State.clusSleep (s : State) (c : Nat) : State :=
  match (s.svc.clus[c % 4]'(Nat.mod_lt _ (by decide))).lowFrom with
  | some t =>
    if s.clusState c = 2 && decide (t + s.fld 0x090000 0 8 * ticksPerMs ≤ s.tick) && s.clusIdle c && decide (s.plt.plot.minAwake < (s.clustersIn [2]).length)
        && s.sysMhz = s.plt.plot.sysMin && s.plt.plot.pdMode (3 + c) = 2 then
      (((s.setFld (clusReg c 0) 30 2 0).modClus c fun k => { k with lowFrom := none }).svcEvent 1).domFollow s
    else s
  | none => s

/-- The classes whose forecast exceeds HI % of the awake and waking engines at a frequency. -/
def State.overHi (s : State) (mhz : Nat) : List Nat :=
  [1, 2, 3].filter (fun cls => exceeds (s.forecast cls) (s.fld 0x090000 24 8) (s.enginesIn (s.clustersIn [1, 2]) cls) mhz)

/-- The sleeping clusters that the governor wakes whatever the load: those that may not sleep, and as many as MIN_AWAKE lacks (R294, Table 2.4). -/
def State.keptAwake (s : State) : List Nat :=
  let asleep := (s.clustersIn [0]).filter (fun c => s.plt.plot.pdMode (3 + c) ≠ 2)
  let rest := (s.clustersIn [0]).filter (fun c => s.plt.plot.pdMode (3 + c) = 2)
  asleep ++ rest.take (s.plt.plot.minAwake - ((s.clustersIn [1, 2]).length + asleep.length))

/-- GOVERNOR_EVAL: the load of the last µs is taken, clusters are woken, CORE_CLK moves, low clusters are timed (R294, R335). -/
def State.govern (s : State) : State :=
  let s1 := s.modSvc fun v => { v with past := (v.load :: v.past).take 9, load := [0, 0, 0], govAt := some s.tick }
  let hot := s1.overHi s1.sysMhz
  let wakeFor := fun (cls : Nat) => (s1.clustersIn [0]).find? (fun c => s1.enginesOf c cls ≠ 0)
  let wakes := (hot.filterMap wakeFor).eraseDups
  let s2 := (wakes ++ s1.keptAwake).eraseDups.foldl (fun (s : State) c => s.clusWake c) s1
  let short := hot.any (fun cls => (wakeFor cls).isNone && s1.enginesIn (s1.clustersIn [1, 2]) cls ≠ 0)
  let mhz := s2.sysMhz
  let lower := max s2.plt.plot.sysMin (mhz - 25)
  let s3 := if !s2.sysLocked then s2
    else if mhz < s2.plt.plot.sysMin then s2.setFld 0x0B0064 0 16 (min s2.plt.plot.sysMin (mhz + 25))
    else if s2.plt.plot.sysMax < mhz then s2.setFld 0x0B0064 0 16 (max s2.plt.plot.sysMax (mhz - 25))
    else if short then s2.setFld 0x0B0064 0 16 (max mhz (min s2.plt.plot.sysMax (mhz + 25)))
    else if decide (lower < mhz) && (s2.overHi lower).isEmpty then s2.setFld 0x0B0064 0 16 lower else s2
  let s4 := (s3.clustersIn [2]).foldl (fun (s : State) c =>
    s.modClus c fun k => { k with lowFrom := if s.clusLow c then some (k.lowFrom.getD s.tick) else none }) s3
  (List.range 4).foldl (fun (s : State) c => s.clusSleep c) s4

/-- A microsecond has passed since the governor's last evaluation. -/
def State.governDue (s : State) : Bool := match s.svc.govAt with
  | some t => decide (t + ticksPerUs ≤ s.tick)
  | none => true
def State.governTick (s : State) : State := if s.governDue then s.govern else s

/-! ### Cycle accounting -/

/-- The cycles of this tick in every awake cluster: requests at an engine are held against them, requests that wait for a blob stall, the rest idles (R297). -/
def State.cycTick (s : State) : State :=
  let mhz := s.sysMhz
  let s1 := (s.clustersIn [2]).foldl (fun (s : State) c =>
    let eng := s.assigned c
    let build := ((List.finRange 16).map (fun p => (s.ports[p].held.filter (fun h => h.cluster = c && decide (s.tick < h.ready))).length +
      (s.ports[p].waiting.filter (fun w => w.cluster = c && decide (s.tick < w.ready))).length)).sum
    let stall := min (eng - build) (s.svc.jobs.filter (fun j => j.rx.cluster = c && j.fetch.isSome)).length
    let run := min (eng - build - stall) (s.svc.jobs.filter (fun j => j.rx.cluster = c && j.fetch.isNone)).length
    let mark := s.svc.jobs.foldl (fun (a : List Job × Nat) j =>
      if j.rx.cluster = c && j.fetch.isNone && a.2 ≠ 0 then (a.1 ++ [{ j with cycles := j.cycles + mhz }], a.2 - 1) else (a.1 ++ [j], a.2)) ([], run)
    (s.modSvc fun v => { v with jobs := mark.1 }).modClus c fun k => { k with stl := k.stl + stall * mhz, idl := k.idl + (eng - build - stall - run) * mhz }) s
  (List.finRange 16).foldl (fun s (p : Fin 16) =>
    if s.ports[p].held.isEmpty && s.ports[p].waiting.isEmpty then s
    else s.modPort p fun q =>
      { q with
        held := q.held.map (fun h => if s.tick < h.ready then { h with cycles := h.cycles + mhz } else h)
        waiting := q.waiting.map (fun w => if s.tick < w.ready then { w with cycles := w.cycles + mhz } else w) }) s1

/-- A 64-bit count of cycles. -/
def cycWords (n : Nat) : List Word := [BitVec.ofNat 32 (n / 1250), BitVec.ofNat 32 (n / 1250 / 2 ^ 32)]

/-- SVCc_CYC_SRV_LO: latches the other seven counters (R298). -/
def State.cycRead (s : State) (m : Master) (c : Fin 4) : State :=
  match s.checkRead m (clusReg c 0x10) with
  | some e => s.rejectRead m (clusReg c 0x10) e
  | none =>
    let k := s.svc.clus[c]
    let l := cycWords k.srv ++ cycWords k.dsc ++ cycWords k.idl ++ cycWords k.stl
    (s.hsetAll m.idx (clusReg c 0x10) l).answer m.idx (l.headD 0)

/-! ### Blob fetches -/

/-- The first fetch of an engine ends; requests that waited for it go on if a departure within R250 is still possible, and are lost otherwise (R277, R314). -/
def State.fetchEnd (s : State) (n : KeyName) (ok : Bool) : State :=
  let s1 := s.modSvc fun v => { v with fetching := v.fetching.erase n }
  let late := fun (j : Job) => (firstLimit j).any (fun l => decide (l < s.nowQ + nsQuanta (s.rd (portReg (j.rx.port % 16) 0x24)).toNat))
  let mine := s1.svc.jobs.filter (fun j => decide (j.fetch = some n))
  let s2 := s1.modSvc fun v => { v with jobs := v.jobs.filterMap (fun j => if j.fetch = some n then (if !ok || late j then none else some { j with fetch := none, fetched := true }) else some j) }
  (mine.filter (fun j => !ok || late j)).foldl (fun (s : State) j => s.drop j .keymiss) s2

/-- BLOB_FETCH_DONE: both copies of the record have arrived (R277, R312, R314). -/
def State.blobDone (s : State) (a b : List Byte) : State :=
  match s.svc.fetching with
  | [] => s
  | n :: _ => let r := s.fetchIn n a b; r.2.fetchEnd n r.1

/-! ### Registers -/

/-- The SERVICES entry, the reference slot and the session slot that a master has selected. -/
def State.entSel (s : State) (m : Nat) : Nat := fget (s.hget m 0x090080) 0 8
def State.prefSel (s : State) (m : Nat) : Fin 24 := Sys2Proof.Machine.slotOf (fget (s.hget m 0x0900C0) 0 5)
def State.sessSel (s : State) (m : Nat) : Nat := fget (s.hget m 0x09002C) 0 20

/-- What Table 10.3 forbids for the profile of an entry, and UTC_TB (Table 10.18). -/
def State.entCfgErr (s : State) (i : Nat) (v : Word) : Option Err :=
  let k := s.plt.plot.svcKind i
  let uni := fget v 27 1
  let mech := fget v 26 1
  let u := fget v 8 7
  if (k = 3 && uni = 0) || ((k = 2 || k = 4) && uni = 1) then some .plot
  else if ((k = 2 || k = 3) && mech = 1) || (k = 4 && mech = 0) then some .plot
  else if u ≠ 0x7F && !(u < 64 && s.plt.plot.tbPresent u && s.plt.plot.tbScale u = 1) then some .plot
  else none

/-- SVC_ENT_CFG of the selected entry (R298, Table 10.18); a change of ESMC_QL owes an event PDU on every port of the entry (R293). -/
def State.entCfgWrite (s : State) (m : Master) (v : Word) : State :=
  s.guardW m 0x090084 v fun s =>
    let i := s.entSel m.idx
    match s.entCfgErr i v with
    | some e => s.reject m 0x090084 e
    | none =>
      let ports := (List.range 16).filter (fun p => (s.plt.plot.svcPorts i).testBit p)
      s.modEnt i fun e =>
        { e with cfg := v, esmcDue := if s.plt.plot.svcKind i = 6 && fget e.cfg 20 4 ≠ fget v 20 4 then ports else e.esmcDue }

/-- The ranges of Table 10.7. -/
def rateOk (kind : Nat) (a y d : Int) : Bool :=
  let within := fun (x lo hi : Int) => decide (lo ≤ x) && decide (x ≤ hi)
  match kind with
  | 1 | 5 => within a 0 4 && within y (-7) 1 && within d (-7) 5
  | 2 => within a (-3) (-3) && within y (-4) (-4) && within d (-4) (-4)
  | 3 => within a (-3) 0 && within y (-7) 0 && within d (-7) 0
  | 4 => within a 0 3 && within y (-5) 0 && within d 0 3
  | _ => true

/-- SVC_ENT_RATE of the selected entry (R279, R298). -/
def State.entRateWrite (s : State) (m : Master) (v : Word) : State :=
  s.guardW m 0x090088 v fun s =>
    let i := s.entSel m.idx
    if rateOk (s.plt.plot.svcKind i) (signed 8 (fget v 24 8)) (signed 8 (fget v 16 8)) (signed 8 (fget v 8 8)) then s.modEnt i fun e => { e with rate := v }
    else s.reject m 0x090088 .range

/-- SVC_ENT_KEYID of the selected entry. -/
def State.entKeyWrite (s : State) (m : Master) (v : Word) : State :=
  s.guardW m 0x09008C v fun s => s.modEnt (s.entSel m.idx) fun e => { e with keyId := v }

/-- SVC_ENT_SEL: an entry at or above COUNT fails with ERR_PLOT. -/
def State.entSelWrite (s : State) (m : Master) (v : Word) : State :=
  s.guardW m 0x090080 v fun s =>
    if s.plt.plot.svcCount ≤ fget v 0 8 then s.reject m 0x090080 .plot else s.plainWrite m 0x090080 v

/-- domainNumber range of a profile (Table 10.3). -/
def domainOk (kind d : Nat) : Bool :=
  match kind with
  | 2 => decide (24 ≤ d) && decide (d ≤ 43)
  | 3 => decide (44 ≤ d) && decide (d ≤ 63)
  | _ => decide (d ≤ 127)

/-- SVC_PREF_CFG of the selected reference slot (Table 10.20). -/
def State.prefCfgWrite (s : State) (m : Master) (v : Word) : State :=
  s.guardW m 0x0900C4 v fun s =>
    let k := s.prefSel m.idx
    let prof := fget v 28 4
    if !([1, 2, 3, 5].contains prof) || !domainOk prof (fget v 16 8) then s.reject m 0x0900C4 .range
    else if !isPtp (s.plt.plot.refSource k) then s.reject m 0x0900C4 .plot
    else if s.bit (refReg k 0) 31 then s.reject m 0x0900C4 .state
    else s.modPref k fun q => { q with cfg := v }

/-- SVC_RL_NTP (`i` = 0) and SVC_RL_PTP: a live write takes effect on the next tick, after a commit of that tick (R290). -/
def State.rlWrite (s : State) (m : Master) (i : Fin 2) (v : Word) : State :=
  s.guardW m (0x090010 + 4 * i) v fun s => s.modSvc fun x => { x with rlNext := x.rlNext ++ [(i.val, v)] }

/-- The limits of a class become `v`; its buckets take their refill by the old ones first (R290). -/
def State.rlSet (s : State) (i : Nat) (v : Word) : State := (s.refillAll (i + 1)).wr (0x090010 + 4 * i) v

/-- Live rate-limit writes of the last tick take effect (R290). -/
def State.rlTick (s : State) : State :=
  (s.svc.rlNext.foldl (fun (s : State) (x : Nat × Word) => s.rlSet x.1 x.2) s).modSvc fun x => { x with rlNext := [] }

/-- SVC_STG_RL_NTP and SVC_STG_RL_PTP: the staged limits, and their bit in SVC_STG_VALID (R290). -/
def State.stgRlWrite (s : State) (m : Master) (i : Fin 2) (v : Word) : State :=
  s.guardW m (0x090018 + 4 * i) v fun s => (s.plainWrite m (0x090018 + 4 * i) v).setBit 0x090020 i true

/-- SVC_GOV_CTL: LO is at most HI − 10 (Table 10.14). -/
def State.govCtlWrite (s : State) (m : Master) (v : Word) : State :=
  s.guardW m 0x090000 v fun s =>
    if fget v 24 8 < fget v 16 8 + 10 then s.reject m 0x090000 .range else s.plainWrite m 0x090000 v

/-- The 64 bytes of a session slot (Table 10.9). -/
def sessionBytes : Option Session → List Byte
  | none => List.replicate 64 0
  | some x =>
    [BitVec.ofNat 8 (1 + 2 * b2n x.ip6 + 4 * b2n x.l2 + 8 * b2n x.auth), BitVec.ofNat 8 x.entry, BitVec.ofNat 8 x.port, 0] ++
      beBytes 10 x.pid.toNat ++ beBytes 2 x.vlan.toNat ++ beBytes 16 x.addr.toNat ++ beBytes 4 x.annExp ++ beBytes 4 x.syncExp ++ beBytes 4 x.drespExp ++
      [BitVec.ofNat 8 (unsigned 8 x.annLog), BitVec.ofNat 8 (unsigned 8 x.syncLog), BitVec.ofNat 8 (unsigned 8 x.drespLog), 0] ++
      beBytes 2 x.annSeq ++ beBytes 2 x.syncSeq ++ beBytes 4 x.lastRx ++ beBytes 4 x.keyId.toNat ++ beBytes 2 x.keyGen ++ [0, 0]

/-- Bytes as words, the first byte in [31:24]. -/
def beWords : Nat → List Byte → List Word
  | 0, _ => []
  | n + 1, l => BitVec.ofNat 32 (beNat (l.take 4)) :: beWords n (l.drop 4)

/-- SVC_SESS_D0: latches D1 to D15 from one read of the slot's line (R298). -/
def State.sessRead (s : State) (m : Master) : State :=
  match s.checkRead m 0x090040 with
  | some e => s.rejectRead m 0x090040 e
  | none =>
    let l := beWords 16 (sessionBytes (s.session (s.sessSel m.idx)))
    (s.hsetAll m.idx 0x090040 l).answer m.idx (l.headD 0)

/-- SVC_GOV_STAT (Table 10.15). -/
def State.govStat (s : State) : Word :=
  let mask := fun (st : Nat) => ((List.range 4).map (fun c => if s.clusState c = st then 2 ^ c else 0)).sum
  fset (fset (fset (BitVec.ofNat 32 s.sysMhz) 28 4 (mask 2)) 24 4 (mask 1)) 20 4 (mask 3)

/-- SVCc_STAT: the state and the engines with a class (Table 10.21). -/
def State.clusStat (s : State) (c : Nat) : Word :=
  fset (s.rd (clusReg c 0)) 0 16 ((List.range 16).foldl (fun w e => if s.plt.plot.engine (16 * c + e) ≠ 0 then w + 2 ^ e else w) 0)

/-- What a register of the selected entry, slot or session reads, where it is no plain register. -/
def State.svcView (s : State) (m off : Nat) : Option Word :=
  let e := s.ent (s.entSel m)
  match off with
  | 0x090004 => some s.govStat
  | 0x090084 => some e.cfg
  | 0x090088 => some e.rate
  | 0x09008C => some e.keyId
  | 0x090090 => some e.stat
  | 0x0900A0 => some e.rx
  | 0x0900A4 => some e.tx
  | 0x0900A8 => some e.authFail
  | 0x0900AC => some e.keymiss
  | 0x0900B0 => some e.nak
  | 0x0900B4 => some e.rlDrop
  | 0x0900B8 => some e.unsup
  | 0x0900BC => some e.grantDeny
  | 0x0900C4 => some s.svc.prefs[s.prefSel m].cfg
  | _ =>
    if 0x090040 ≤ off && off < 0x090080 then some (s.hget m off)
    else if 0x090100 ≤ off && off < 0x090500 && decide (0x10 ≤ off % 0x100) && decide (off % 0x100 < 0x30) then some (s.hget m off)
    else if 0x090100 ≤ off && off < 0x090500 && off % 0x100 = 0 then some (s.clusStat ((off - 0x090100) / 0x100))
    else none

end Sys2Proof.Machine
end

