-- ==== Sys2Proof/Machine/FltOps.lean ====
section
/-! DEFINITION. Sys2Proof/Machine/FltOps.lean: the fault sources and their defaults, the reaction table, live bits and the rings that records go to (spec/15_faults.md, Tables 15.1 to 15.3; R438). -/
namespace Sys2Proof.Machine

def State.modFlt (s : State) (f : Flt → Flt) : State := { s with flt := f s.flt }
def State.fltEvent (s : State) (mask : Nat) : State := s.raise 0x0E0010 mask

/-- Group and instance of a source. -/
def srcGroup (x : Nat) : Nat := x / 256
def srcInst (x : Nat) : Nat := x % 256

/-- The highest instance of each group of Table 15.1. -/
def groupHigh : List Nat := [1, 0, 1, 11, 23, 63, 63, 3, 1, 23, 23, 1, 0, 4, 3, 3, 1, 0, 3, 3]

/-- The source stands in Table 15.1. -/
def srcKnown (x : Nat) : Bool :=
  decide (srcGroup x ≤ 0x13) && decide (srcInst x ≤ groupHigh.getD (srcGroup x) 0) && (srcGroup x ≠ 0x0D || srcInst x ≠ 0)

/-- The class that Table 15.1 gives a source; a TDC line's own rule raises it (R94). -/
def defClass (x : Nat) : FClass :=
  let i := srcInst x
  match srcGroup x with
  | 0x00 | 0x01 => .fatal
  | 0x02 => if i = 0 then .corrected else .fatal
  | 0x03 => if i = 0 || i = 1 || i = 9 then .fatal else .uc
  | 0x04 | 0x09 => .corrected
  | 0x0B => if i = 0 then .fatal else .uc
  | _ => .uc

/-- The class of a number of Table 15.2 CLASS, from 1 up. -/
def fclassOf (n : Nat) : FClass := if n ≤ 1 then .corrected else if n = 2 then .uc else .fatal
def FClass.max (a b : FClass) : FClass := if a.code < b.code then b else a
def FClass.next : FClass → FClass
  | .corrected => .uc
  | _ => .fatal

/-- What a class UC event asks for (Tables 15.1 and 15.2): nothing beyond its record, a fence of its unit, a curtain, or a curtain with the unit isolated. -/
inductive Reaction where
  | log | fence | curtain | isolate
deriving DecidableEq, Repr

/-- The default reaction of a source under the plot's profile. -/
def defReaction (fenceProfile : Bool) (x : Nat) : Reaction :=
  let i := srcInst x
  match srcGroup x with
  | 0x03 => if 2 ≤ i && i ≤ 8 then .fence else if i = 11 then .curtain else .log
  | 0x05 | 0x11 | 0x13 => .fence
  | 0x0E | 0x0F | 0x10 => if fenceProfile then .fence else .isolate
  | _ => .log

/-- The packet banks, and the complex whose share of them holds a line: equal shares in the order of the banks (R440, R504). -/
def State.complexOfLine (s : State) (line : Nat) : Option Nat :=
  let banks := (List.range 24).filter (fun b => s.plt.plot.bankUse b = 1)
  let xs := (List.range 2).filter (fun x => s.plt.plot.complex x)
  match banks.idxOf? (line / 65536) with
  | none => none
  | some i => xs[(i * 65536 + line % 65536) * xs.length / (banks.length * 65536)]?

/-- The unit that a source's fence isolates and whose isolation masks it (Table 15.1, R504); codes of Table 15.3. -/
def State.wiredUnit (s : State) (x : Nat) (syn : Word) : Option Nat :=
  let i := srcInst x
  match srcGroup x with
  | 0x03 => if i = 2 then some 0x0400 else if 3 ≤ i && i ≤ 6 then some (0x0100 + (i - 3)) else if i = 7 || i = 8 then some (0x0200 + (i - 7)) else none
  | 0x04 => if i = 19 || i = 20 then some 0x0200 else if i = 21 || i = 22 then some 0x0201 else none
  | 0x05 | 0x06 => some (0x0300 + i)
  | 0x0A =>
    let m := fget syn 24 8
    if 26 ≤ m && m ≤ 29 then some (0x0100 + (m - 26))
    else if m = 30 then (s.complexOfLine (fget syn 0 24)).map (0x0200 + ·) else none
  | 0x0E | 0x0F => some (0x0100 + i)
  | 0x10 => some (0x0200 + i)
  | 0x11 => some 0x0400
  | 0x13 => some (0x0500 + i)
  | _ => none

/-- A unit code of Table 15.3. -/
def unitKnown (u : Nat) : Bool :=
  match u / 256 with
  | 1 => decide (u % 256 ≤ 3)
  | 2 => decide (u % 256 ≤ 1)
  | 3 => decide (u % 256 ≤ 63)
  | 4 => u % 256 = 0
  | 5 => decide (u % 256 ≤ 3)
  | _ => false

/-! ### The reaction table -/

/-- An entry of the reaction table (Table 15.2). -/
structure ReactEntry where
  cls : Nat
  action : Nat
  latch : Bool
  auto : Bool
  count : Nat
  win : Nat
deriving DecidableEq, Repr

/-- The first entry of the plot that covers a source (R403). -/
def Plot.reactFor (p : Plot) (x : Nat) : Option ReactEntry :=
  ((List.range p.reactCount).find? (fun i =>
    p.reactByte i 0 = srcGroup x && decide (p.reactByte i 1 ≤ srcInst x) && decide (srcInst x ≤ p.reactByte i 2))).map fun i =>
    ⟨p.reactByte i 3, p.reactByte i 4, (p.reactByte i 5).testBit 0, (p.reactByte i 5).testBit 1, p.reactByte i 6, p.reactByte i 7⟩

/-- The class of an event: the higher of its entry's and its own (Table 15.2). -/
def State.eventClass (s : State) (x : Nat) (own : FClass) : FClass :=
  match s.plt.plot.reactFor x with
  | some e => if e.cls = 0 then own else own.max (fclassOf e.cls)
  | none => own

/-- ESC_COUNT and ESC_WIN in ticks, where events of the source are counted; the CORE group has a vendor default (R404). -/
def State.escalation (s : State) (x : Nat) : Option (Nat × Nat) :=
  match s.plt.plot.reactFor x with
  | some e => if e.count = 0 then none else some (e.count, e.win * 100 * ticksPerMs)
  | none => if srcGroup x = 7 then some (2, 600 * 100 * ticksPerMs) else none

/-! ### Live bits -/

def flag (l : Sparse Bool) (x : Nat) : Bool := Sparse.get (fun _ => false) l x
def setFlag (l : Sparse Bool) (x : Nat) (b : Bool) : Sparse Bool := Sparse.set (fun _ => false) l x b

/-- The source's live bit. -/
def State.srcLive (s : State) (x : Nat) : Bool := flag s.flt.live x

/-- The unit of a source, by its last syndrome. -/
def State.srcUnit (s : State) (x : Nat) : Option Nat := s.wiredUnit x (Sparse.get (fun _ => 0) s.flt.syn x)

/-- The sources that are live. -/
def State.liveSources (s : State) : List Nat := (s.flt.live.filter (fun p => p.2)).map Prod.fst

/-- A source of class UC or FATAL is live (Table 14.10, FAULT). -/
def State.liveSevere (s : State) : Bool :=
  s.liveSources.any (fun x =>
    let own := if srcGroup x = 4 then FClass.uc else defClass x
    (s.eventClass x own).code ≠ 0)

/-- A live bit sets. -/
def State.liveOn (s : State) (e : FltEvent) (holds : Bool) : State :=
  s.modFlt fun f =>
    { f with live := setFlag f.live e.src true, broken := setFlag f.broken e.src e.broken, holds := setFlag f.holds e.src holds, syn := Sparse.set (fun _ => 0) f.syn e.src e.syn }

/-- A live bit drops; nothing else of the source's history does (R398, R418). -/
def State.liveOff (s : State) (x : Nat) : State :=
  if !s.srcLive x then s
  else s.modFlt fun f =>
    { f with live := setFlag f.live x false, broken := setFlag f.broken x false, holds := setFlag f.holds x false, clearedAt := Sparse.set (fun _ => 0) f.clearedAt x s.tick }

/-- The sources have been clear for RELEASE_MS without interruption (R410, R412). -/
def State.quietFor (s : State) (l : List Nat) : Bool :=
  l.all (fun x => !s.srcLive x && decide (Sparse.get (fun _ => 0) s.flt.clearedAt x + s.fld 0x0E0000 0 16 * ticksPerMs ≤ s.tick))

/-- Every source that has reported or is live. -/
def State.seenSources (s : State) : List Nat := (s.flt.live.map Prod.fst ++ s.flt.clearedAt.map Prod.fst).eraseDups

/-- The sources wired to a unit that have reported. -/
def State.unitSources (s : State) (u : Nat) : List Nat := s.seenSources.filter (fun x => s.srcUnit x = some u)

/-! ### Rings -/

/-- A register of ring `c` (2 to 4). -/
def ringReg (c o : Nat) : Nat := 0x0F0140 + 0x20 * (c - 2) + o
def ringIx (c : Nat) : Fin 3 := ⟨(c - 2) % 3, Nat.mod_lt _ (by decide)⟩
/-- EN of MEM_RINGc_CTL. -/
def State.ringOn (s : State) (c : Nat) : Bool := s.bit (ringReg c 0) 31
def State.modRing (s : State) (c : Nat) (f : Ring → Ring) : State :=
  { s with mem := { s.mem with rings := s.mem.rings.set (ringIx c) (f s.mem.rings[ringIx c]) } }
/-- An entry is ready to be written to an enabled ring (R438). -/
def State.ringPut (s : State) (c : Nat) (e : List Byte) : State :=
  if s.ringOn c then s.modRing c fun r => { r with ready := r.ready ++ [e] } else s

end Sys2Proof.Machine
end

