-- ==== Sys2Proof/Machine/WngOps.lean ====
section
/-! DEFINITION. Sys2Proof/Machine/WngOps.lean: the wings link and the roles of a paired unit: frames, exchanges, heartbeats, what a role stops and starts (spec/14_redundancy.md, R366 to R377). -/
namespace Sys2Proof.Machine

def pathReg (x o : Nat) : Nat := 0x0D0100 + 0x40 * x + o
def State.modWng (s : State) (f : Wng → Wng) : State := { s with wng := f s.wng }
def State.modPath (s : State) (x : Fin 2) (f : WPath → WPath) : State :=
  s.modWng fun w => { w with paths := w.paths.set x (f w.paths[x]) }
def State.wngEvent (s : State) (mask : Nat) : State := s.raise 0x0D000C mask

/-- Bits of WNG_CTL, WNG_STAT and the settings. -/
def State.paired (s : State) : Bool := s.bit 0x0D0000 0
def State.wngUnit (s : State) : Nat := s.fld 0x0D0000 1 1
def State.preferred (s : State) : Bool := s.bit 0x0D0000 2
def State.pairId (s : State) : Nat := s.fld 0x0D0020 0 16
def State.eligible (s : State) : Bool := s.bit 0x0D0008 23
def State.witnessBlind (s : State) : Bool := s.bit 0x0D0008 24
def State.leaseHeld (s : State) : Bool := s.bit 0x0D0008 25
def State.partnerRole (s : State) : Nat := s.fld 0x0D0008 26 3
def State.leaseMs (s : State) : Nat := (s.rd 0x0D0024).toNat
def State.renewMs (s : State) : Nat := (s.rd 0x0D0028).toNat
def State.guardMs (s : State) : Nat := (s.rd 0x0D002C).toNat

/-- PATH_A or PATH_B of WNG_STAT: 0 down, 1 main, 2 heartbeat-only. -/
def State.pathMode (s : State) (x : Nat) : Nat := s.fld 0x0D0008 (20 - 2 * x) 2

/-- The mode of a path as its lock and its fallback make it. -/
def State.pathShow (s : State) (x : Fin 2) : State :=
  let p := s.wng.paths[x]
  s.setFld 0x0D0008 (20 - 2 * x.val) 2 (if !p.locked then 0 else if p.hb then 2 else 1)

/-- The time bases that the plot has. -/
def State.presentTbs (s : State) : List (Fin 64) := (List.finRange 64).filter (fun n => s.plt.plot.tbPresent n)

/-- The wings slot. -/
def State.wingsSlot (s : State) : Option (Fin 24) := (List.finRange 24).find? (fun k => isWings (s.plt.plot.refSource k))

/-! ### Relations between time bases -/

/-- TBn's epoch offset: TBn − TB0 (R78). -/
def State.tbEpochOf (s : State) (n : Fin 64) : Int := (s.tbs[n].value : Int) - s.tb0

/-- TBn's rate ratio to TB0 less 1, in 2⁻⁶⁴, 0 for a same-rate time base (R78). -/
def State.tbRatioOf (s : State) (n : Fin 64) : Int :=
  if s.plt.plot.tbSameRate n then 0
  else (((s.tbInc n : Int) - s.tbInc 0) * (2 ^ 64 : Nat)).tdiv (s.tbInc 0)

/-! ### Roles -/

/-- Outputs, cues and buses follow a change of what mutes them since `before` (R339, R340, R369, R385). -/
def State.muteFollow (s before : State) : State :=
  if s.muted && !before.muted then (s.outsHoldOff (fun _ => true)).cuesCut.btbCurtain
  else if before.muted && !s.muted then s.outsRelease (fun _ => true)
  else s

/-- The unit enters a role; ROLE_CHG is raised (Table 14.16). -/
def State.setRole (s : State) (r : Nat) : State :=
  if s.role = r then s else ((s.setFld 0x0D0008 29 3 r).wngEvent 1).muteFollow s

/-- Services stop: requests, sessions and frames that no commit has passed go; the lease class goes on (Table 14.1). -/
def State.servicesStop (s : State) : State :=
  let s1 := s.svc.jobs.foldl (fun (s : State) j => s.cyc j.rx.cluster false j.cycles) s
  let s2 := (s1.modSvc fun v => { v with jobs := [], refRx := [], sess := [], fetching := [] }).wr 0x090024 0
  (List.finRange 16).foldl (fun (s : State) (p : Fin 16) => s.modPort p fun q =>
    { q with held := q.held.filter (fun h => h.committed.isSome), waiting := q.waiting.filter (fun w => decide (s.plt.plot.svcKind w.entry = 7)) }) s2

/-- Loops of time bases that the DPLL owns pass from RELEASED to FREE with the integrator found in the increment; FREQ loops with an APLL too (Table 6.4, R388). -/
def State.loopsFree (s : State) : State :=
  (List.finRange 16).foldl (fun (s : State) (d : Fin 16) =>
    if s.dpllState d ≠ 0 then s
    else match s.loopTb d with
      | some n => if s.plt.plot.tbPresent n && !s.tbHost n && !s.tbFenced n then s.dpllFree d (incOffset (s.tbInc n)) else s
      | none => if (s.loopApll d).isSome then s.dpllFree d 0 else s) s

/-- Every DPLL is RELEASED (R369). -/
def State.loopsRelease (s : State) : State :=
  (List.finRange 16).foldl (fun (s : State) (d : Fin 16) => if s.dpllState d = 0 then s else s.dpllRelease d) s

/-- Entry to UNDERSTUDY (R366, R368, R369). -/
def State.becomeUnderstudy (s : State) : State :=
  let s1 := ((s.servicesStop).setRole 1).loopsRelease
  let s2 := s1.presentTbs.foldl (fun (s : State) (n : Fin 64) => s.untrace n 11) s1
  let s3 := (s2.setBit 0x0D0008 25 false).modWng fun w =>
    { w with expiry := none, renewAt := none, takeAt := none, holdFrom := none, takeover := none, finalOut := none }
  s3.selFollow s

/-- Return to SOLO (Table 14.2): loops, services and outputs are normal again. -/
def State.becomeSolo (s : State) : State :=
  let s1 := ((s.setRole 0).modWng fun w => { paths := w.paths, image := w.image, chunks := w.chunks, fatal := w.fatal }).loopsFree
  let s2 := (s1.setFld 0x0D0008 22 7 0x70).setFld 0x0D0008 16 2 0
  let s3 := s2.presentTbs.foldl (fun (s : State) (n : Fin 64) => if s.tbHost n then s.untrace n 2 else s) s2
  s3.selEvalAll

/-! ### Frames of the link -/

/-- A time of Table 0.3 in 16 bytes, big-endian: seconds, nanoseconds, fraction. -/
def time16 (v : Nat) : List Byte := beBytes 8 (secOf v % 2 ^ 48) ++ beBytes 4 (nsOf v) ++ beBytes 4 (v % 2 ^ 56 / 2 ^ 24)
/-- The time in 16 bytes. -/
def timeIn (l : List Byte) : Nat := beNat (slice l 0 8) % 2 ^ 48 * secU + beNat (slice l 8 4) * 2 ^ 56 + beNat (slice l 12 4) * 2 ^ 24

/-- The header of a frame on path `x` (Table 14.3). -/
def State.wngHeader (s : State) (x : Fin 2) (type unit alive len : Nat) : List Byte :=
  [BitVec.ofNat 8 type, 1, BitVec.ofNat 8 (2 * unit + x.val), BitVec.ofNat 8 alive] ++ beBytes 2 len ++ beBytes 2 s.pairId

/-- A frame is sent on a path: ALIVE advances; a main-mode frame gets its check value (R372, R374). -/
def State.wngSend (s : State) (x : Fin 2) (type : Nat) (payload : List Byte) : State :=
  let alive := (s.wng.paths[x].aliveTx + 1) % 256
  let body := s.wngHeader x type s.wngUnit alive payload.length ++ payload
  let frame := if type = 3 then body else body ++ beBytes 4 (crc32c body)
  s.modPath x fun p => { p with aliveTx := alive, sent := frame }

/-- A received main-mode frame of a type and length: its payload, or the counter that takes it and whether it is discarded (R372, R374). -/
inductive Framing where
  | ok (payload : List Byte) (gap : Bool)
  | bad
  | stale
deriving DecidableEq, Repr

/-- The checks of a main-mode frame. -/
def State.framing (s : State) (x : Fin 2) (type len : Nat) (l : List Byte) : Framing :=
  let body := l.take (8 + len)
  let alive := beNat (slice l 3 1)
  if l.length ≠ 12 + len || beNat (slice l 0 1) ≠ type || beNat (slice l 1 1) ≠ 1 || beNat (slice l 4 2) ≠ len
      || beNat (l.drop (8 + len)) ≠ crc32c body || beNat (slice l 6 2) ≠ s.pairId
      || beNat (slice l 2 1) / 2 % 2 = s.wngUnit then .bad
  else match s.wng.paths[x].aliveRx with
    | none => .ok (body.drop 8) false
    | some a => if a = alive then .stale else .ok (body.drop 8) (decide (alive ≠ (a + 1) % 256))

/-- A frame passes its checks on a path that carries frames, or is discarded and counted. -/
def State.wngFrame (s : State) (x : Fin 2) (type len : Nat) (l : List Byte) (k : State → List Byte → State) : State :=
  if !s.paired || s.pathMode x ≠ 1 then s
  else match s.framing x type len l with
    | .bad => s.bumpSat (pathReg x 0xC) 1
    | .stale => s.bumpSat (pathReg x 0x10) 1
    | .ok p gap =>
      let s1 := (if gap then s.bumpSat (pathReg x 0x10) 1 else s).bump (pathReg x 0x18) 1
      k (s1.modPath x fun q => { q with aliveRx := some (beNat (slice l 3 1)) }) p

/-! ### TIME frames -/

/-- The records of all time bases at this tick (Table 14.4). -/
def State.timeRecords (s : State) : List Byte :=
  (List.finRange 64).foldl (fun l (n : Fin 64) =>
    l ++ (if s.plt.plot.tbPresent n then
      time16 (s.tbEpochOf n).natAbs ++ beBytes 8 (unsigned 64 (s.tbRatioOf n)) ++ beBytes 4 (s.bound n) ++ beBytes 4 (s.prov n).toNat
      else List.replicate 32 0)) ([] : List Byte)

/-- TB_MASK and NEG_MASK of the records. -/
def State.timeMasks (s : State) : List Byte :=
  beBytes 8 (s.presentTbs.foldl (fun (m : Nat) (n : Fin 64) => m + 2 ^ n.val) 0) ++
  beBytes 8 ((s.presentTbs.filter (fun n => decide (s.tbEpochOf n < 0))).foldl (fun (m : Nat) (n : Fin 64) => m + 2 ^ n.val) 0)

/-- The quality of TB0 that a unit announces over the link (R376). -/
def State.wingsQ (s : State) : Nat :=
  let spec := match s.tbLoop 0 with | some d => s.bit (dpllReg d 8) 25 | none => false
  let cls := if s.role ≠ 4 && s.role ≠ 5 then 7
    else match s.provMode 0 with
      | 0 => 6
      | 1 | 2 | 5 => 1
      | _ => if spec then 2 else 3
  cls * 256 + (if s.untraceable 0 then 0xFE else accCode (s.bound 0 * 250))

/-- The aligning unit is ready to take the lead back (R395). -/
def State.handbackReady (s : State) : Bool :=
  s.role = 2 && s.presentTbs.all (fun n => !s.untraceable n &&
    (match s.tbLoop n with | some d => s.tbHost n || s.dpllState d = 3 | none => true))

/-- FLAGS of a TIME frame. -/
def State.timeFlags (s : State) : Nat :=
  b2n s.leaseHeld + 2 * b2n s.witnessBlind + 4 * b2n s.eligible + 8 * b2n s.handbackReady + 16 * b2n s.preferred

/-- A TIME frame leaves on a main-mode path; the records of the next one are latched (R375). -/
def State.timeSend (s : State) (x : Fin 2) : State :=
  let p := s.wng.paths[x]
  let t := (p.tseq + 1) % 2 ^ 32
  let recs := if p.latched.length = 2064 then p.latched else List.replicate 2064 0
  let payload := [BitVec.ofNat 8 s.role, BitVec.ofNat 8 s.timeFlags] ++ beBytes 2 s.wingsQ ++ beBytes 4 (s.rd 0x0D0010).toNat ++
    beBytes 4 (s.rd 0x0D0050).toNat ++ beBytes 4 (s.rd 0x0D0068).toNat ++ beBytes 4 t ++ beBytes 4 p.rxTseq ++
    time16 p.txPrev ++ time16 p.rxStamp ++ recs.take 16 ++ List.replicate 8 0 ++ recs.drop 16
  (s.wngSend x 1 payload).modPath x fun q =>
    { q with tseq := t, txPrev := s.tb0, latched := s.timeMasks ++ s.timeRecords, departs := ((t, s.tb0) :: q.departs).take 16, sentAt := some s.tick }

/-- A millisecond tick on which a path has not sent yet (R375, R377). -/
def State.sendDue (s : State) (x : Fin 2) (mode : Nat) : Bool :=
  s.paired && s.pathMode x = mode && s.tick % ticksPerMs = 0 && s.wng.paths[x].sentAt ≠ some s.tick

/-- WINGS_TIME_SEND: a TIME frame on every main-mode path on its millisecond tick (R375). -/
def State.timeSendAll (s : State) : State :=
  (List.finRange 2).foldl (fun (s : State) (x : Fin 2) => if s.sendDue x 1 then s.timeSend x else s) s

/-- The payload of a TIME frame, read (Table 14.4). -/
def timeMsgIn (p : List Byte) : TimeMsg :=
  { role := beNat (slice p 0 1), flags := beNat (slice p 1 1), q := beNat (slice p 2 2), health := BitVec.ofNat 32 (beNat (slice p 4 4)),
    leaseNo := BitVec.ofNat 32 (beNat (slice p 8 4)), ckptAck := BitVec.ofNat 32 (beNat (slice p 12 4)), tseq := beNat (slice p 16 4),
    rxTseq := beNat (slice p 20 4), txPrev := timeIn (slice p 24 16), rxStamp := timeIn (slice p 40 16),
    tbMask := beNat (slice p 56 8), negMask := beNat (slice p 64 8),
    recs := (List.range 64).map (fun n =>
      let r := slice p (80 + 32 * n) 32
      ⟨timeIn r, signed 64 (beNat (slice r 16 8)), beNat (slice r 24 4), BitVec.ofNat 32 (beNat (slice r 28 4))⟩) }

/-- A count of 2⁻⁵⁶ ns in ps, truncated, as a saturating register shows it. -/
def psOf (v : Int) : Int := (v * 1000).tdiv ((2 ^ 56 : Nat) : Int)

/-- y_lo in 10⁻¹⁵ from the first and last pairs of own tick and partner's TB0 (R370). -/
def rateOf (l : List (Nat × Nat)) : Int :=
  match l.getLast?, l.head? with
  | some a, some b =>
    if a.1 ≤ b.1 then 0
    else
      let el : Int := ((a.1 - b.1) * 8 * 2 ^ 56 : Nat)
      ((((a.2 : Int) - b.2) * 10 - el) * (10 ^ 15 : Nat)).tdiv el
  | _, _ => 0

/-- The rate measurement of an understudy or an aligning unit takes a point (R370). -/
def State.rateStep (s : State) (tick partner : Nat) : State :=
  if s.role ≠ 1 && s.role ≠ 2 then s
  else
    let l := (s.wng.lo.filter (fun (p : Nat × Nat) => tick ≤ p.1 + 10 * ticksPerS)) ++ [(tick, partner)]
    (s.modWng fun w => { w with lo := l }).wr 0x0D007C (sat32 (rateOf l))

/-- The wings slot takes one phase sample a millisecond, from path A where it has completed an exchange in it (R376). -/
def State.wingsSample (s : State) (x : Fin 2) (d o : Int) : State :=
  match s.wingsSlot with
  | none => s
  | some k =>
    let aFresh := match s.wng.paths[(0 : Fin 2)].exchAt with | some t => decide (s.tick < t + ticksPerMs) | none => false
    if x = 1 && aFresh && s.pathMode 0 = 1 then s
    else
      let term := s.wingsTerm x
      (s.modRef k fun r => { r with path := x, refined := s.wingsRefined x, pathPs := term, measPs := (psOf d).natAbs }).refSample k o s.tick false

/-- The exchange of a TIME frame: path delay, partner's offset, sample and rate (R376). -/
def State.exchange (s : State) (x : Fin 2) (m : TimeMsg) : State :=
  let p := s.wng.paths[x]
  let prev := (m.tseq + 2 ^ 32 - 1) % 2 ^ 32
  match p.arrivals.find? (fun a => a.1 = prev), p.departs.find? (fun a => a.1 = m.rxTseq) with
  | some (_, t2, tick2), some (_, t3) =>
    let d12 : Int := (t2 : Int) - m.txPrev
    let d34 : Int := (m.rxStamp : Int) - t3
    let asym : Int := signed 32 (s.rd (pathReg x 0)).toNat * ((2 ^ 56 : Nat) : Int) / 1000
    let d := (d12 + d34).tdiv 2
    let o := (d34 - d12).tdiv 2 + asym
    let s1 := (s.modPath x fun q => { q with delay := d, exchAt := some s.tick }).wr (pathReg x 4) (sat32 (psOf d))
    ((s1.wr (pathReg x 8) (sat32 (psOf o))).rateStep tick2 ((t2 : Int) + o).toNat).wingsSample x d o
  | _, _ => s

/-! ### Heartbeats -/

/-- The 56 bytes that close a heartbeat payload (R377). -/
def hbFill : List Byte := (List.range 56).map (fun i => if i % 2 = 0 then 0xA5#8 else 0x5A#8)

/-- The payload of a heartbeat. -/
def hbPayload (count unit : Nat) : List Byte := beBytes 4 count ++ [BitVec.ofNat 8 unit, 0, 0, 0] ++ hbFill

/-- WINGS_HB_SEND: one heartbeat a millisecond on a path in heartbeat-only mode (R377). -/
def State.hbSendAll (s : State) : State :=
  (List.finRange 2).foldl (fun (s : State) (x : Fin 2) =>
    if s.sendDue x 2 then
      let n := (s.wng.paths[x].hbTx + 1) % 2 ^ 32
      (s.wngSend x 3 (hbPayload n s.wngUnit)).modPath x fun q => { q with hbTx := n, sentAt := some s.tick }
    else s) s

/-- The partner is heard on a path (R384). -/
def State.heard (s : State) : State := s.modWng fun w => { w with heardAt := some s.tick, lost := false }

/-- WINGS_HB_RECEIVE: every frame is compared bit for bit with the one expected; the first after the entry to the mode sets the count (R377). -/
def State.hbReceive (s : State) (x : Fin 2) (l : List Byte) : State :=
  if !s.paired || s.pathMode x ≠ 2 then s
  else
    let count := beNat (slice l 8 4)
    let alive := beNat (slice l 3 1)
    let want := fun (c a : Nat) => s.wngHeader x 3 (1 - s.wngUnit) a 64 ++ hbPayload c (1 - s.wngUnit)
    let e := s.wng.paths[x].hbNext.getD (count, alive)
    let s1 := s.modPath x fun q => { q with hbNext := some ((count + 1) % 2 ^ 32, (alive + 1) % 256) }
    if l = want e.1 e.2 then (s1.bump (pathReg x 0x18) 1).heard
    else (s1.bumpSat (pathReg x 0x14) 1).wngEvent 0x200

/-- A path enters heartbeat-only mode (R373, R377). -/
def State.hbEnter (s : State) (x : Fin 2) : State :=
  if s.wng.paths[x].hb then s else (s.modPath x fun q => { q with hb := true, hbNext := none }).pathShow x

/-- A path returns to main mode; the caller has judged its fault source (R377). -/
def State.hbExit (s : State) (x : Fin 2) : State := (s.modPath x fun q => { q with hb := false, hbNext := none, aliveRx := none }).pathShow x

/-- WINGS_PATH_UP: block lock has held for 1 ms (R371). -/
def State.pathUp (s : State) (x : Fin 2) : State := (s.modPath x fun q => { q with locked := true, aliveRx := none, hbNext := none }).pathShow x

/-- WINGS_PATH_DOWN (R371). -/
def State.pathDown (s : State) (x : Fin 2) : State :=
  if !s.wng.paths[x].locked then s
  else ((s.modPath x fun q => { q with locked := false, arrivals := [], departs := [], exchAt := none }).pathShow x).wngEvent 0x100

end Sys2Proof.Machine
end

