-- ==== Sys2Proof/Machine/WngCkpt.lean ====
section
/-! DEFINITION. Sys2Proof/Machine/WngCkpt.lean: checkpoints, health and lease messages of a paired unit (spec/14_redundancy.md, R378 to R387). -/
namespace Sys2Proof.Machine

/-! ### Checkpoint images -/

/-- What a checkpoint holds of one time base (Table 14.7, TIMEBASES). -/
def State.ckTb (s : State) (n : Fin 64) : CkTb :=
  ⟨s.plt.plot.tbPresent n, s.tbs[n].value, s.tbInc n, s.tbEpochOf n, s.tbRatioOf n, s.tbHost n, s.plt.plot.tbScale n,
   s.plt.plot.tbSameRate n, s.fld (tbReg n 0x78) 0 2, s.tbs[n].leapAt, s.bit (tbReg n 0x1C) 7, s.taiUtc n⟩

/-- One selector. -/
def State.ckSel (s : State) (d : Fin 16) : CkSel :=
  ⟨s.rd (selReg d 0), s.rd (selReg d 4), s.rd (selReg d 8), s.rd (selReg d 0xC), s.rd (selReg d 0x10), s.rd (selReg d 0x18)⟩

/-- The TB0 value of a tick that lies behind. -/
def State.tb0At (s : State) (t : Nat) : Nat := s.tb0 - (s.tick - t) * s.tbEffInc 0

/-- One loop. -/
def State.ckDpll (s : State) (d : Fin 16) : CkDpll :=
  ⟨s.dpllState d, s.fld (dpllReg d 8) 26 2, s.rd (dpllReg d 4), s.cv d,
   signed 64 ((s.rd (dpllReg d 0x1C)).toNat * 2 ^ 32 + (s.rd (dpllReg d 0x18)).toNat),
   s.tb0At (match s.loopTb d with | some n => s.bnd[n].tv | none => s.tick),
   (List.range 7).map (fun i => s.rd (dpllReg d (0x60 + 4 * i))), s.bit (dpllReg d 0x5C) 0⟩

/-- One ledger: its components in ps, rounded up, slope, provenance and cause. -/
def State.ckBnd (s : State) (n : Fin 64) : CkBnd :=
  let l := s.bnd[n]
  let c := l.comps
  ⟨[c.ref, c.meas, c.servo, divUp l.hold psU, c.path, c.quant, c.switch, c.extra], l.slope, s.prov n, l.why, s.tb0At l.tv⟩

/-- One slot. -/
def State.ckRef (s : State) (k : Fin 24) : CkRef :=
  let r := s.refs[k]
  ⟨s.refState k, s.bit (refReg k 4) 28, (match r.timer with | some t => t - s.tick | none => 0), s.live k, s.fld (refReg k 8) 0 12, s.refQ k,
   (r.ensFf, r.ensPh), r.secPh.take 1000⟩

/-- KEYS and DIRECTORY. -/
def State.ckKeys (s : State) : CkKeys :=
  ⟨(List.finRange 256).map (fun i => ((s.key.slots[i]).gen, (s.key.slots[i]).occupied)),
   (List.range 2).map (fun r => (s.svcEpoch r, s.svcKeep r)), s.key.gens, s.key.gmac⟩

/-- All sections at this tick (R378). -/
def State.ckImage (s : State) : CkptImage :=
  ⟨(List.finRange 64).map s.ckTb, (List.finRange 16).map s.ckSel, (List.finRange 16).map s.ckDpll, (List.finRange 64).map s.ckBnd,
   (List.finRange 24).map s.ckRef, s.ckKeys, s.key.dir⟩

/-- SECT_CRC of the TIMEBASES section in force. -/
def State.tbSectCrc (s : State) : Nat := crc32c s.plt.plot.timebases

/-- A list of exactly `n` bytes. -/
def fitBytes (n : Nat) (l : List Byte) : List Byte := l.take n ++ List.replicate (n - l.length) 0

/-- The image of a checkpoint (Table 14.6): header with IMAGE_CRC, then the sections. -/
def State.ckBytes (s : State) (seq : Nat) (final : Bool) : List Byte :=
  let dir := min s.key.dir.length 8192
  let len := 0x1DD00 + 16 * dir
  let head := leBytes 4 0x4B504359 ++ leBytes 2 1 ++ [BitVec.ofNat 8 (b2n final), BitVec.ofNat 8 s.wngUnit] ++ leBytes 4 seq ++ leBytes 4 len ++
    ((timeWords s.tb0).map (fun w => leBytes 4 w.toNat)).flatten ++ leBytes 8 s.tick ++ leBytes 4 (s.rd 0x000048).toNat ++
    leBytes 4 s.tbSectCrc ++ leBytes 4 dir ++ leBytes 4 (s.rd 0x0D0060).toNat ++ List.replicate 196 0
  let body := fitBytes (len - 256) (Config.ckptSections s.ckImage)
  head ++ leBytes 4 (crc32c (head ++ List.replicate 4 0 ++ body)) ++ body

/-- Fields of an image header. -/
def imgFinal (l : List Byte) : Bool := leAt l 6 1 % 2 = 1
def imgSeq (l : List Byte) : Nat := leAt l 8 4
def imgLen (l : List Byte) : Nat := leAt l 0xC 4
def imgTb0 (l : List Byte) : Nat :=
  timeOf (BitVec.ofNat 32 (leAt l 0x10 4)) (BitVec.ofNat 32 (leAt l 0x14 4)) (BitVec.ofNat 32 (leAt l 0x18 4)) (BitVec.ofNat 32 (leAt l 0x1C 4))
def imgTbCrc (l : List Byte) : Nat := leAt l 0x2C 4
def imgPeriod (l : List Byte) : Nat := leAt l 0x34 4
/-- IMAGE_CRC matches (Table 14.6). -/
def imgCrcOk (l : List Byte) : Bool :=
  decide (256 ≤ imgLen l) && decide (imgLen l ≤ l.length) &&
    leAt l 0xFC 4 = crc32c (l.take 0xFC ++ List.replicate 4 0 ++ (l.take (imgLen l)).drop 0x100)
/-- The sections of an image. -/
def imgSections (l : List Byte) : CkptImage := (Config.ckptParse ((l.take (imgLen l)).drop 0x100)).getD CkptImage.empty

/-! ### Sending checkpoints -/

/-- A lead (Table 14.1) with a partner that asks for the lead back marks its checkpoint FINAL (R395). -/
def State.finalDue (s : State) : Bool :=
  s.role = 4 && s.bit 0x0D0000 3 && (match s.wng.frame with | some (m, _) => m.flags.testBit 3 && m.flags.testBit 2 | none => false)

/-- TB0 has come to a multiple of WNG_CKPT_PERIOD on this tick (R378). -/
def State.ckptDue (s : State) : Bool :=
  let p := (s.rd 0x0D0060).toNat * 1000000 * 2 ^ 56
  s.leads && s.wng.ckAt ≠ some s.tick && decide (s.tbs[0].prev / p < s.tb0 / p)

/-- CHECKPOINT_TAKE: the image is latched, and its chunks leave on every path in main mode (R378, R379). -/
def State.ckptTake (s : State) : State :=
  if !s.ckptDue then s
  else
    let seq := ((s.rd 0x0D0064).toNat + 1) % 2 ^ 32
    let final := s.finalDue
    let img := s.ckBytes seq final
    let n := divUp img.length 1024
    let chunk := fun (i : Nat) => beBytes 4 seq ++ [BitVec.ofNat 8 (seq % 2), 0] ++ beBytes 2 i ++ beBytes 2 n ++ [0, 0] ++ fitBytes 1024 (slice img (1024 * i) 1024)
    let s1 := (s.wr 0x0D0064 (BitVec.ofNat 32 seq)).modWng fun w =>
      { w with image := img, chunks := [], ckAt := some s.tick, finalOut := if final then some (seq, s.tick) else none }
    let put := fun (s : State) (i : Nat) (x : Fin 2) =>
      if s.pathMode x = 1 then
        let s2 := s.wngSend x 2 (chunk i)
        s2.modWng fun w => { w with chunks := w.chunks ++ [s2.wng.paths[x].sent] }
      else s
    (List.range n).foldl (fun (s : State) i => put (put s i 0) i 1) s1

/-! ### Receiving checkpoints -/

def State.modCk (s : State) (i : Fin 2) (f : CkSlot → CkSlot) : State :=
  s.modWng fun w => { w with slots := w.slots.set i (f w.slots[i]) }

/-- SLOT_A and SLOT_B of WNG_STAT. -/
def State.slotsShow (s : State) : State :=
  (s.setBit 0x0D0008 17 s.wng.slots[(0 : Fin 2)].complete).setBit 0x0D0008 16 s.wng.slots[(1 : Fin 2)].complete

/-- Chunks in order, as one list of bytes. -/
def CkSlot.bytes (c : CkSlot) : List Byte := ((List.range c.count).map (fun i => Sparse.get (fun _ => []) c.chunks i)).flatten

/-- The complete slot with the highest sequence. -/
def State.bestSlot (s : State) : Option CkSlot :=
  let a := s.wng.slots[(0 : Fin 2)]
  let b := s.wng.slots[(1 : Fin 2)]
  if a.complete && (!b.complete || decide (b.seq.getD 0 ≤ a.seq.getD 0)) then some a
  else if b.complete then some b else none

/-- A chunk enters its slot (R380). -/
def State.ckChunk (s : State) (p : List Byte) : State :=
  let seq := beNat (slice p 0 4)
  let i : Fin 2 := ⟨seq % 2, Nat.mod_lt _ (by decide)⟩
  let k := beNat (slice p 6 2)
  let n := beNat (slice p 8 2)
  if (s.bestSlot.isSome && decide (seq < (s.rd 0x0D0068).toNat)) || n = 0 || 248 < n || n ≤ k then s
  else
    let s1 := if s.wng.slots[i].seq = some seq then s
      else (s.modCk i fun _ => { seq := some seq, count := n }).slotsShow
    if s1.wng.slots[i].complete || s1.wng.slots[i].chunks.any (fun (c : Nat × List Byte) => c.1 = k) then s1
    else
      let s2 := s1.modCk i fun c => { c with chunks := Sparse.set (fun _ => []) c.chunks k (slice p 12 1024) }
      let c := s2.wng.slots[i]
      if c.chunks.length = c.count && imgCrcOk c.bytes then
        let s3 := ((s2.modCk i fun c => { c with complete := true, image := c.bytes.take (imgLen c.bytes), doneAt := s.tick }).slotsShow).wr 0x0D0068 (BitVec.ofNat 32 seq)
        s3.wngEvent (0x40 + (if imgTbCrc c.bytes = s.tbSectCrc then 0 else 0x80))
      else s2

/-- CHECKPOINT_CHUNK_RECEIVE: a CKPT frame on a path (R380). -/
def State.ckptReceive (s : State) (x : Fin 2) (l : List Byte) : State := s.wngFrame x 2 1036 l fun s p => s.ckChunk p

/-! ### Lease messages -/

/-- Entries and ports of the lease service (Table 10.3, SERVICE 7). -/
def State.leaseEntry (s : State) : Option Nat := (List.range s.plt.plot.svcCount).find? (fun i => s.plt.plot.svcKind i = 7)
def State.leasePorts (s : State) : List (Fin 16) :=
  let own : List (Fin 16) := (List.finRange 16).filter (fun (p : Fin 16) => match s.leaseEntry with | some i => (s.plt.plot.svcPorts i).testBit p | none => false)
  ((own.map s.paths).flatten).eraseDups

/-- The lease key, where the wings agent may use it (R300, R381). -/
def State.leaseKey (s : State) : Option (BitVec 256) :=
  let n := s.fld 0x0D0030 0 8
  if (s.slotOf n).occupied && (s.useErr n 5 4 none true).isNone then some (s.slotOf n).key else none

/-- A lease message (Table 14.8). -/
def State.leaseBytes (s : State) (key : BitVec 256) (type kind nonce dur : Nat) : List Byte :=
  let body := beBytes 4 0x594C5331 ++ [1, BitVec.ofNat 8 type] ++ beBytes 2 s.pairId ++ [BitVec.ofNat 8 s.wngUnit, BitVec.ofNat 8 kind, 0, 0] ++
    beBytes 4 (s.rd 0x0D0050).toNat ++ beBytes 8 nonce ++ beBytes 4 dur ++ beBytes 4 0 ++ beBytes 4 (s.rd 0x0D0010).toNat ++ beBytes 4 0
  body ++ beBytes 32 (Config.hmac256 key body).toNat

/-- A lease message leaves on the ports of the lease entry, and on both paths of a pair (R381). -/
def State.leaseSend (s : State) (m : List Byte) (after : After) : State :=
  match s.leaseEntry, s.dispatchTo 3 with
  | some i, some c =>
    let addr := BitVec.ofNat 128 ((List.range 4).foldl (fun a k => a * 2 ^ 32 + (s.rd (0x0D0040 + 4 * k)).toNat) 0)
    let tr := if addr.toNat / 2 ^ 32 = 0xFFFF then Transport.ip4 else Transport.ip6
    (s.leasePorts.foldl (fun (s : State) (p : Fin 16) => s.sendPlain p 3 c i ⟨tr, false, addr, none⟩ m 0 0 true after) s).modWng fun w => { w with lease := m }
  | _, _ => s

/-- A REQUEST of a kind (R382, R384, R395): a fresh nonce, and the wait for its answer. -/
def State.leaseRequest (s : State) (kind : Nat) : State :=
  match s.leaseKey with
  | none => s
  | some key =>
    let r := s.fresh 64
    let n := r.1.toNat
    let s1 := r.2.modWng fun w => { w with reqs := (w.reqs.filter (fun q => match q.tick with | some t => decide (s.tick ≤ t + s.leaseMs * ticksPerMs) | none => true)) ++ [⟨n, kind, none⟩] }
    s1.leaseSend (s1.leaseBytes key 1 kind n s.leaseMs) (.leaseReq n)

/-- RELEASE, if the unit can send it (Table 14.2, R383). -/
def State.leaseRelease (s : State) : State :=
  match s.leaseKey with
  | none => s
  | some key =>
    let r := s.fresh 64
    let s1 := r.2.modWng fun w => { w with released := some r.1.toNat, acked := false }
    s1.leaseSend (s1.leaseBytes key 4 0 r.1.toNat 0) .nothing

/-- A lease message of a type is valid for this unit (R381); NONCE is judged beside it. -/
def State.leaseValid (s : State) (type : Nat) (l : List Byte) : Bool :=
  l.length = 72 && beNat (slice l 0 4) = 0x594C5331 && beNat (slice l 4 1) = 1 && beNat (slice l 5 1) = type && beNat (slice l 6 2) = s.pairId &&
  beNat (slice l 8 1) = s.wngUnit &&
  (match s.leaseKey with | some k => decide (l.drop 40 = beBytes 32 (Config.hmac256 k (l.take 40)).toNat) | none => false)

/-- The request that an answer answers: sent within the last WNG_LEASE_MS (R381). -/
def State.leaseAnswered (s : State) (l : List Byte) : Option LeaseReq :=
  s.wng.reqs.find? (fun q => decide (q.nonce = beNat (slice l 16 8)) &&
    (match q.tick with | some t => decide (s.tick ≤ t + s.leaseMs * ticksPerMs) | none => false))

/-- LEASE_RENEW_SEND: a lead sends RENEW every WNG_RENEW_MS (R382). -/
def State.renewStep (s : State) : State :=
  match s.wng.renewAt with
  | none => s
  | some t =>
    if s.leads && decide (t ≤ s.tick) then
      (s.leaseRequest 0).modWng fun w => { w with renewAt := some (s.tick + s.renewMs * ticksPerMs) }
    else s

/-- No TIME or HB frame of the partner for 3 ms (R384). -/
def State.silent (s : State) : Bool := match s.wng.heardAt with
  | some t => decide (t + 3 * ticksPerMs ≤ s.tick)
  | none => true

/-- PARTNER_LOST: the silence begins (R384). -/
def State.partnerStep (s : State) : State :=
  if s.paired && s.silent && s.wng.heardAt.isSome && !s.wng.lost then
    (((s.modWng fun w => { w with lost := true }).setFld 0x0D0008 26 3 7).setBit 0x0D0008 22 false).wngEvent 2
  else s

/-- WITNESS_BLIND: no valid GRANT or REFUSE for 2 × WNG_RENEW_MS (R384). -/
def State.blindStep (s : State) : State :=
  if s.paired && !s.witnessBlind && decide (s.wng.witAt + 2 * s.renewMs * ticksPerMs ≤ s.tick) then (s.setBit 0x0D0008 24 true).wngEvent 0x10
  else s

/-- The witness has answered (R384). -/
def State.witnessed (s : State) : State := (s.setBit 0x0D0008 24 false).modWng fun w => { w with witAt := s.tick }

/-- An understudy has grounds to take the lead (R384). -/
def State.takeGrounds (s : State) : Bool :=
  s.role = 1 && s.eligible &&
  (if s.wng.heardAt.isNone && !s.preferred then decide (s.wng.pairedAt + (s.leaseMs + s.guardMs) * ticksPerMs ≤ s.tick)
   else s.silent || (match s.wng.frame with | some (m, _) => !([4, 5, 3, 2].contains m.role) | none => false))

/-- The aligned unit holds a complete FINAL checkpoint and sees its partner in UNDERSTUDY (R395). -/
def State.handbackGrounds (s : State) : Bool :=
  s.role = 2 && (match s.bestSlot with | some c => imgFinal c.image | none => false) &&
  (match s.wng.frame with | some (m, _) => m.role = 1 | none => false)

/-- TAKE_REQUEST_SEND: the request goes out as soon as its grounds hold, then at each RETRY_MS or every WNG_RENEW_MS (R384, R395). -/
def State.takeStep (s : State) : State :=
  let kind := if s.takeGrounds then some 1 else if s.handbackGrounds then some 2 else none
  match kind with
  | none => if s.wng.takeAt.isSome then s.modWng fun w => { w with takeAt := none } else s
  | some k =>
    if (match s.wng.takeAt with | none => true | some t => decide (t ≤ s.tick)) then
      (s.leaseRequest k).modWng fun w => { w with takeAt := some (s.tick + s.renewMs * ticksPerMs) }
    else s

/-- LEASE_REFUSE_RECEIVE: a valid REFUSE says when to ask again (R384). -/
def State.leaseRefuse (s : State) (l : List Byte) : State :=
  if !s.paired || !s.leaseValid 3 l then s
  else match s.leaseAnswered l with
    | none => s
    | some q =>
      let s1 := s.witnessed
      if q.kind ≠ 0 && s.wng.takeAt.isSome then s1.modWng fun w => { w with takeAt := some (s.tick + beNat (slice l 28 4) * ticksPerMs) } else s1

/-- LEASE_RELEASE_ACK_RECEIVE (R383). -/
def State.leaseAck (s : State) (l : List Byte) : State :=
  if s.paired && s.leaseValid 5 l && s.wng.released = some (beNat (slice l 16 8)) then s.modWng fun w => { w with acked := true } else s

/-! ### The lead without a lease -/

/-- The extension condition (R385). -/
def State.blindOk (s : State) : Bool :=
  s.witnessBlind && (match s.wng.frameAt with | some t => decide (s.tick < t + 3 * ticksPerMs) | none => false) &&
  (match s.wng.frame with | some (m, _) => !m.flags.testBit 0 && m.flags.testBit 1 | none => false)

/-- LEASE_EXPIRE: past the expiry tick the lease is lost; the lead serves on blind or degraded, and blind only while it may (R382, R385). -/
def State.expireStep (s : State) : State :=
  let past := match s.wng.expiry with | some t => decide (t < s.tick) | none => false
  let s1 := if past then
      let s1 := (s.setBit 0x0D0008 25 false).modWng fun w => { w with expiry := none }
      if s.role = 4 then ((s1.blindStep).wngEvent 0x20).setRole (if s1.blindStep.blindOk then 5 else 6) else s1
    else s
  if s1.role = 5 && !s1.blindOk then s1.setRole 6 else s1

/-! ### Health -/

/-- WNG_HEALTH at this tick (Table 14.10). -/
def State.health (s : State) : Nat :=
  let tdc := (List.range 24).all (fun n => !s.tdcVendor n || s.tdcLocked n)
  let mem := match s.mem.lastPass with | some (t, bad) => !bad && decide (s.tick ≤ t + 20 * ticksPerS) | none => false
  let wings := (List.finRange 2).any (fun (x : Fin 2) => s.pathMode x = 1 && (match s.wng.paths[x].exchAt with | some t => decide (s.tick < t + 3 * ticksPerMs) | none => false))
  let ckpt := if s.leads then decide (s.rd 0x0D006C = s.rd 0x0D0064) || decide (s.rd 0x0D006C + 1 = s.rd 0x0D0064)
    else (List.finRange 2).any (fun (i : Fin 2) =>
      let c := s.wng.slots[i]
      c.complete && decide (s.tick ≤ c.doneAt + (2 * imgPeriod c.image + 20) * ticksPerMs))
  let plot := match s.bestSlot with | some c => decide (imgTbCrc c.image = s.tbSectCrc) | none => false
  let lo := decide ((signed 32 (s.rd 0x0D007C).toNat).natAbs ≤ (s.rd 0x0D0078).toNat * 1000)
  let atom := match s.tbLoop 0 with | some d => s.bit (dpllReg d 0x5C) 0 | none => false
  let ref := (List.finRange 24).any (fun (k : Fin 24) => s.bearsTime k && !isWings (s.plt.plot.refSource k) && (s.refState k = 2 || s.refState k = 3))
  let ports := (List.finRange 16).all (fun (p : Fin 16) => (match s.leaseEntry with | some i => !(s.plt.plot.svcPorts i).testBit p | none => true) || s.portLink p)
  b2n tdc + 2 * b2n (s.apll0Locked && s.sysLocked) + 4 * b2n (!s.liveSevere && !s.wng.fatal) + 8 * b2n mem +
  16 * b2n (s.bit 0x0A0004 23 && s.leaseKey.isSome) + 32 * b2n wings + 64 * b2n ckpt + 128 * b2n plot + 256 * b2n lo + 512 * b2n atom +
  1024 * b2n ref + 2048 * b2n ports

/-- The hold-off timer of the preferred understudy (R395). -/
def State.holdStep (s : State) : State :=
  s.modWng fun w =>
    { w with holdFrom := if s.role = 1 && s.preferred && s.eligible && s.partnerRole = 4 then some (w.holdFrom.getD s.tick) else none }

/-- HEALTH_EVAL: the health word, ELIGIBLE, and what follows from its loss (R387, R394, Table 14.2). -/
def State.healthStep (s : State) : State :=
  if !s.paired then s
  else
    let h := s.health
    let req := (s.rd 0x0D0018).toNat
    let ok := decide (h &&& req = req)
    let s1 := (s.wr 0x0D0010 (BitVec.ofNat 32 h)).setBit 0x0D0008 23 ok
    let s2 := if !ok && s1.role = 2 then s1.becomeUnderstudy
      else if !ok && s1.role = 3 then s1.leaseRelease.becomeUnderstudy else s1
    s2.holdStep

/-- HOLDOFF_EXPIRE: the preferred understudy begins to align (R395). -/
def State.holdoffStep (s : State) : State :=
  match s.wng.holdFrom with
  | none => s
  | some t =>
    if s.role = 1 && decide (t + (s.rd 0x0D0070).toNat * ticksPerS ≤ s.tick) then
      (((s.setRole 2).modWng fun w => { w with holdFrom := none }).selEvalAll).loopsFree
    else s

/-- HANDBACK_RELEASE: the FINAL checkpoint is acknowledged within 20 ms; the lead releases and steps down (R395). -/
def State.handbackStep (s : State) : State :=
  match s.wng.finalOut with
  | none => s
  | some (seq, t) =>
    if s.role = 4 && (s.rd 0x0D006C).toNat = seq && decide (s.tick ≤ t + 20 * ticksPerMs) then
      (s.leaseRelease.becomeUnderstudy).wngEvent 0x800
    else if t + 20 * ticksPerMs < s.tick then s.modWng fun w => { w with finalOut := none }
    else s

/-! ### What a TIME frame tells -/

/-- A lead that meets another lead (Table 14.2, R368). -/
def State.meetLead (s : State) (m : TimeMsg) : State :=
  let own := (s.rd 0x0D0050).toNat
  if !s.leads then s
  else if (m.role = 3 || m.role = 4) && decide (own < m.leaseNo.toNat) then (s.becomeUnderstudy).wngEvent 4
  else if m.role = 4 && m.leaseNo.toNat = own then
    let s1 := s.wngEvent 0x400
    if s.wngUnit = 1 then s1.becomeUnderstudy else s1
  else s

/-- WINGS_TIME_RECEIVE: a valid TIME frame whose last framing stamp lies at a tap of this tick (R376). -/
def State.timeReceive (s : State) (x : Fin 2) (tap : Fin 512) (l : List Byte) : State :=
  s.wngFrame x 1 2128 l fun s p =>
    let m := timeMsgIn p
    let stamp := s.stampIn 0 (if s.wingsRefined x then tap.val else 0)
    let s1 := s.modPath x fun q =>
      { q with arrivals := ((m.tseq, stamp, s.tick) :: q.arrivals).take 16, rxTseq := m.tseq, rxStamp := stamp, timeAt := some s.tick }
    let s2 := (s1.modWng fun w => { w with frame := some (m, x.val), frameAt := some s.tick }).heard
    let s3 := (((s2.setFld 0x0D0008 26 3 m.role).setBit 0x0D0008 22 (m.flags.testBit 2)).wr 0x0D0014 m.health).wr 0x0D006C m.ckptAck
    let s4 := match s3.wingsSlot with
      | some k => if s3.refState k = 0 then s3 else
          let q := qualityOf (.wings (BitVec.ofNat 16 m.q))
          (s3.refArrive k).advertise k q.1 q.2
      | none => s3
    ((s4.exchange x m).meetLead m).handbackStep

end Sys2Proof.Machine
end

