-- ==== Sys2Proof/Machine/Wng.lean ====
section
/-! DEFINITION. Sys2Proof/Machine/Wng.lean: takeover and handback, the writes of the wings block, and the meanings of its commands and events (spec/14_redundancy.md, R366, R388 to R397). -/
namespace Sys2Proof.Machine

/-! ### Takeover -/

/-- The tick at which the partner's TB0 read the frame's TX_PREV: the arrival of frame TSEQ − 1 less the path delay (R388); a frame that has no arrival on record came a millisecond before its successor. -/
def State.wingsTw (s : State) (m : TimeMsg) (x : Fin 2) : Nat :=
  let p := s.wng.paths[x]
  let prev := (m.tseq + 2 ^ 32 - 1) % 2 ^ 32
  let at' := match p.arrivals.find? (fun a => a.1 = prev) with
    | some a => a.2.2
    | none => match p.arrivals.find? (fun a => a.1 = m.tseq) with
      | some a => a.2.2 - ticksPerMs
      | none => s.tick - ticksPerMs
  at' - divUp (p.delay.toNat * 10) (8 * 2 ^ 56)

/-- A valid GRANT to a TAKE or a HANDBACK fixes C, F, t_w and T_k (R388, R395). -/
def State.takeoverStart (s : State) (handback : Bool) : State :=
  let tw := match s.wng.frame with | some (m, x) => s.wingsTw m ⟨x % 2, Nat.mod_lt _ (by decide)⟩ | none => s.tick
  let t : Takeover := ⟨stepInstant s.tb0, handback, (s.bestSlot).map CkSlot.image, s.wng.frame, tw⟩
  let s1 := s.modWng fun w => { w with takeover := some t, takeAt := none }
  if handback then s1 else s1.setRole 3

/-- LEASE_GRANT_RECEIVE: a valid GRANT extends the lease from the departure of its REQUEST, and by the REQUEST's kind starts a takeover or a handback (R368, R382, R388, R395). -/
def State.leaseGrant (s : State) (l : List Byte) : State :=
  if !s.paired || !s.leaseValid 2 l then s
  else match s.leaseAnswered l with
    | none => s
    | some q =>
      let due := (q.tick.getD s.tick) + min (beNat (slice l 24 4)) s.leaseMs * ticksPerMs
      let take := (q.kind = 1 && s.role = 1) || (q.kind = 2 && s.role = 2)
      let s1 := s.witnessed
      if (q.kind = 0 && s.leads) || take then
        let s2 := ((s1.wr 0x0D0050 (BitVec.ofNat 32 (beNat (slice l 12 4)))).setBit 0x0D0008 25 true).modWng fun w =>
          { w with expiry := some due, renewAt := some (match w.renewAt with | some t => t | none => s.tick + s.renewMs * ticksPerMs) }
        if take then s2.takeoverStart (q.kind = 2) else if s2.role = 4 then s2 else s2.setRole 4
      else s1

/-- |T_k − t_w| in the partner's TB0, units of 2⁻⁵⁶ ns (R389). -/
def State.takeElapsed (s : State) (t : Takeover) : Nat :=
  let lo := signed 32 (s.rd 0x0D007C).toNat
  (((s.tick - t.tw) * 8 * 2 ^ 56 : Nat) * ((10 ^ 15 : Nat) + lo) / (10 ^ 16 : Nat)).toNat

/-- Record `n` of a frame, where TB_MASK marks it. -/
def TimeMsg.record (m : TimeMsg) (n : Nat) : Option TimeRec := if m.tbMask.testBit n then m.recs[n]? else none

/-- The signed epoch offset of record `n`. -/
def TimeMsg.epoch (m : TimeMsg) (n : Nat) : Int := match m.record n with
  | some r => if m.negMask.testBit n then -(r.epoch : Int) else r.epoch
  | none => 0

/-- The section entry of a time base that C has. -/
def CkptImage.tbAt (c : CkptImage) (n : Nat) : Option CkTb := (c.tbs[n]?).filter (fun t => t.present)

/-- A time base takes the value, the increment and the owner of the takeover set (R389). -/
def State.takeTb (s : State) (c : CkptImage) (m : TimeMsg) (el : Nat) (n : Fin 64) : State :=
  match c.tbAt n, m.record n with
  | some k, some r =>
    let lo := signed 32 (s.rd 0x0D007C).toNat
    let v := ((m.txPrev + el : Nat) : Int) + m.epoch n + r.ratio * el / ((2 ^ 64 : Nat) : Int)
    let inc0 := (nominalInc : Int) + (nominalInc : Int) * lo / ((10 ^ 15 : Nat) : Int)
    let inc := (inc0 + inc0 * r.ratio / ((2 ^ 64 : Nat) : Int)).toNat
    let new := (v % (timeMod : Int)).toNat
    ((s.modTb n fun t => { t with prev := t.value, plain := t.value, value := new, stepped := true, inc := inc, incWrite := none, step := none, slew := none }).setBit (tbReg n 0x18) 0 k.owner)
  | _, _ => s

/-- The ledger of a time base starts from the inherited bound (R193). -/
def State.takeBound (s : State) (c : Option CkptImage) (t : Takeover) (n : Fin 64) : State :=
  if s.tbFenced n then s.untrace n 3
  else if s.tbHost n then s.untrace n 2
  else match c, t.frame with
    | some c, some (m, x) =>
      match c.tbAt n, m.record n with
      | some _, some r =>
        if t.tw + (s.rd 0x063000).toNat * ticksPerMs < s.tick || r.bound = 0xFFFFFFFF then s.untrace n 8
        else
          let px : Fin 2 := ⟨x % 2, Nat.mod_lt _ (by decide)⟩
          let comps : Comps := { ref := cap48 (r.bound * 250), meas := 50, path := cap48 (s.wingsTerm x), quant := if s.wingsRefined px then 3 else 801 }
          let hold := growSince (s.coefs ((s.tbLoop n).getD 0) false) t.tw s.tick
          (s.modBnd n fun l =>
            { l with comps := comps, hold := hold, falls := {}, why := 0, tv := t.tw, stale := false, inherited := true, floor := 0, floorEnds := false, firstSince := none, firstPeak := 0, slot := s.wingsSlot.map Fin.val, extraWait := some l.comps.extra, slope := 0, announced := 0 }).rebase n
      | _, _ => s.untrace n 10
    | _, _ => s.untrace n 10

/-- TAI_UTC and the armed leap of a UTC time base (R390). -/
def State.takeLeap (s : State) (c : CkptImage) (m : TimeMsg) (n : Fin 64) : State :=
  match c.tbAt n, m.record n with
  | some k, some _ =>
    if s.plt.plot.tbScale n ≠ 1 then s
    else
      let e := m.epoch n
      let tai : Int := -((2 * e + secU) / (2 * (secU : Int)))
      let keep := k.pend ≠ 0 && decide (s.tbs[n].value + secU < k.leapAt * secU)
      let s1 := (s.setFld (tbReg n 0x78) 16 16 (unsigned 16 tai)).setFld (tbReg n 0x78) 0 2 (if keep then k.pend else 0)
      if keep then s1.modTb n fun t => { t with leapAt := k.leapAt } else s1
  | _, _ => s

/-- Keys at the takeover tick (R391); a GMAC key that comes to be used up raises GMAC_EXHAUST (R311). -/
def State.takeKeys (s : State) (img : List Byte) (c : CkptImage) (tw : Nat) : State :=
  let k := c.keys
  let s1 := (List.range 2).foldl (fun (s : State) r => s.wr (0x0A0054 + 8 * r) (BitVec.ofNat 32 (max (s.svcEpoch r) (k.epochs.getD r (0, 0)).1))) s
  let add := 64000000 * imgPeriod img / 1000
  let late := decide (2 * imgPeriod img * 1000000 * 2 ^ 56 + imgTb0 img < s1.tb0At tw)
  let gens := k.gens.foldl (fun (g : Sparse Nat) p => Sparse.set (fun _ => 0) g p.1 (max p.2 (Sparse.get (fun _ => 0) g p.1))) s1.key.gens
  let gmac := k.gmac.foldl (fun (g : Sparse Nat) p => Sparse.set (fun _ => 0) g p.1 (min (p.2 + add) 0xFFFFFFFF)) ([] : Sparse Nat)
  let s2 := s1.modKey fun q => { q with gens := gens, gmac := gmac, dir := c.dir }
  let s3 := (List.finRange 256).foldl (fun (s : State) (i : Fin 256) => s.modSlot i fun q => { q with need := (k.slots.getD i (0, false)).1 }) s2
  let names := (gmac.map (fun p => keyNamed (p.1 / 2 ^ 32) (p.1 % 2 ^ 32))) ++ (List.range 256).map KeyName.slot
  if late then (s3.modKey fun q => { q with spent := (q.spent ++ names).eraseDups }).keyEvent 0x200
  else if gmac.any (fun p => decide (p.2 = 0xFFFFFFFF)) then s3.keyEvent 0x200 else s3

/-- DISQUALIFIED, QUALIFYING, DEGRADED, QUALIFIED in the order of R392. -/
def stateRank (st : Nat) : Nat := match st with | 4 => 0 | 1 => 1 | 3 => 2 | 2 => 3 | _ => 4

/-- A shared slot takes the worse state, the longer timer and both histories (R392). -/
def State.takeRef (s : State) (c : CkptImage) (k : Fin 24) : State :=
  match c.refs[k.val]? with
  | none => s
  | some r =>
    if !s.bit 0x0D0080 k || !Config.sameRefmap k || s.refState k = 0 || r.state = 0 then s
    else
      let st := if stateRank r.state < stateRank (s.refState k) then r.state else s.refState k
      let left := max r.left (match s.refs[k].timer with | some t => t - s.tick | none => 0)
      let s1 := (s.refEnter k st).raise (refReg k 8) (r.hist &&& (0xFFF ^^^ s.fld (refReg k 8) 0 12))
      let s2 := if r.wtr then s1.setBit (refReg k 4) 28 true else s1
      if st = 1 && left ≠ 0 then s2.modRef k fun q => { q with timer := some (s.tick + left) } else s2

/-- A loop whose model is not VALID takes C's model, with WNG_CTL.ATOM_SHARED (R392). -/
def State.takeModel (s : State) (c : CkptImage) (d : Fin 16) : State :=
  match c.dplls[d.val]? with
  | none => s
  | some q =>
    if s.bit (dpllReg d 0x5C) 0 || !q.valid || !s.bit 0x0D0000 5 then s
    else (s.wrAll (dpllReg d 0x60) q.model).setBit (dpllReg d 0x5C) 0 true

/-- R391 and R392 from an image. -/
def State.takeShared (s : State) (img : List Byte) (c : CkptImage) (tw : Nat) : State :=
  let s1 := s.takeKeys img c tw
  let s2 := (List.finRange 24).foldl (fun (s : State) (k : Fin 24) => s.takeRef c k) s1
  (List.finRange 16).foldl (fun (s : State) (d : Fin 16) => s.takeModel c d) s2

/-- T_k of a takeover (R388, R389 to R392). -/
def State.takeoverAct (s : State) (t : Takeover) : State :=
  let c := t.image.map imgSections
  let el := s.takeElapsed t
  let s1 := match c, t.frame with
    | some c, some (m, _) => (List.finRange 64).foldl (fun (s : State) (n : Fin 64) => s.takeTb c m el n) s
    | _, _ => s
  let s2 := s1.loopsFree
  let s3 := s2.presentTbs.foldl (fun (s : State) (n : Fin 64) => s.takeBound c t n) s2
  let s4 := match c, t.frame with
    | some c, some (m, _) => (List.finRange 64).foldl (fun (s : State) (n : Fin 64) => s.takeLeap c m n) s3
    | _, _ => s3
  let s5 := match t.image, c with
    | some i, some c => s4.takeShared i c t.tw
    | _, _ => s4
  ((s5.setRole 4).wngEvent 8).selEvalAll.selFollow s

/-- T_k of a handback: own references are taken as switches (R395). -/
def State.handbackAct (s : State) (t : Takeover) : State :=
  let s1 := match t.image with
    | some i => s.takeShared i (imgSections i) t.tw
    | none => s
  ((s1.setRole 4).selEvalAll).selFollow s

/-- TAKEOVER_TICK: the first tick at which TB0 reaches T_k (R388, R395). -/
def State.takeoverStep (s : State) : State :=
  match s.wng.takeover with
  | none => s
  | some t =>
    if s.tb0 < t.inst then s
    else
      let s1 := s.modWng fun w => { w with takeover := none }
      if t.handback then (if s1.role = 2 then s1.handbackAct t else s1) else (if s1.role = 3 then s1.takeoverAct t else s1)

/-! ### Writes -/

/-- The checks of a WNG_CTL write (R366). -/
def State.wngCtlErr (s : State) (v : Word) : Option Err :=
  let on := fget v 0 1 = 1
  let calm := s.role = 0 || s.role = 1
  if (fget v 0 2 ≠ s.fld 0x0D0000 0 2) && !calm then some .state
  else if on && !s.paired && (s.wingsSlot.isNone || s.leaseEntry.isNone) then some .plot
  else none

/-- A write of WNG_CTL: pairing begins and ends with PAIR_EN (R366, Table 14.2). -/
def State.wngCtl (s : State) (m : Master) (v : Word) : State :=
  s.guardW m 0x0D0000 v fun s =>
    match s.wngCtlErr v with
    | some e => s.reject m 0x0D0000 e
    | none =>
      let was := s.paired
      let s1 := (s.plainWrite m 0x0D0000 v).muteFollow s
      if s1.paired && !was then
        let s2 := s1.modWng fun w => { w with pairedAt := s.tick, witAt := s.tick, heardAt := none, frame := none, frameAt := none, lost := false, lo := [] }
        s2.becomeUnderstudy
      else if was && !s1.paired then s1.becomeSolo
      else s1

/-- A WNG_CMD write (Table 14.15). -/
def State.wngCmd (s : State) (m : Master) (v : Word) : State :=
  s.guardW m 0x0D0004 v fun s =>
    let path := fun (n : Nat) => (⟨n % 2, Nat.mod_lt _ (by decide)⟩ : Fin 2)
    match fget v 0 3 with
    | 1 => if s.leads && s.bit 0x0D0008 22 then s.leaseRelease.becomeUnderstudy else s.reject m 0x0D0004 .state
    | 2 => s.hbEnter (path 0)
    | 3 => s.hbEnter (path 1)
    | 4 => if s.srcLive 0x1200 || s.srcLive 0x1201 then s.reject m 0x0D0004 .state else s.hbExit (path 0)
    | 5 => if s.srcLive 0x1202 || s.srcLive 0x1203 then s.reject m 0x0D0004 .state else s.hbExit (path 1)
    | _ => s.reject m 0x0D0004 .range

/-- The checks of the settings of the block (R366, R397, Table 14.17). -/
def State.wngSetErr (s : State) (off : Nat) (v : Word) : Option Err :=
  let calm := s.role = 0 || s.role = 1
  if off = 0x0D0020 then (if fget v 0 16 ≠ s.pairId && !calm then some .state else none)
  else if off = 0x0D0024 then (if calm then none else some .state)
  else if off = 0x0D0028 then (if !calm then some .state else if s.leaseMs < 4 * v.toNat then some .range else none)
  else if off = 0x0D002C then (if !calm then some .state else if 10 * v.toNat < s.leaseMs then some .range else none)
  else if off = 0x0D0030 then
    (if !calm then some .state
     else if (s.slotOf (fget v 0 8)).occupied && attrPurpose (s.slotOf (fget v 0 8)).attr = 4 then none else some .state)
  else if (off = pathReg 0 0 || off = pathReg 1 0) && 10000000 < (signed 32 v.toNat).natAbs then some .range
  else none

/-- A write of any other register of the block. -/
def State.wngSet (s : State) (m : Master) (off : Nat) (v : Word) : State :=
  s.guardW m off v fun s =>
    match s.wngSetErr off v with
    | some e => s.reject m off e
    | none => s.plainWrite m off v

/-- Everything of the block that a tick brings (R375 to R395). -/
def State.wngTick (s : State) : State :=
  if !s.paired then s
  else
    let s1 := s.takeoverStep.partnerStep.blindStep.expireStep
    let s2 := if s1.tick % ticksPerMs = 0 then s1.healthStep else s1
    s2.handbackStep.holdoffStep.renewStep.takeStep.ckptTake.timeSendAll.hbSendAll

/-- WNG_LEASE_LEFT in ms and WNG_HOLDOFF_LEFT in s (Table 14.17). -/
def State.leaseLeft (s : State) : Nat := match s.wng.expiry with | some t => (t - s.tick) / ticksPerMs | none => 0
def State.holdoffLeft (s : State) : Nat := match s.wng.holdFrom with
  | some t => divUp (t + (s.rd 0x0D0070).toNat * ticksPerS - s.tick) ticksPerS
  | none => 0

/-! ### Meanings -/

/-- PAIR_EN_WRITE (R366). -/
def execPairEnWrite (m : Master) (v : Word) (s : State) : Out1 := .next (s.wngCtl m v)
/-- STEP_DOWN (R368). -/
def execStepDown (m : Master) (s : State) : Out1 := .next (s.wngCmd m 1)
/-- HB_ENTER (R377). -/
def execHbEnter (m : Master) (x : Fin 2) (s : State) : Out1 := .next (s.wngCmd m (BitVec.ofNat 32 (2 + x.val)))
/-- HB_EXIT (R377). -/
def execHbExit (m : Master) (x : Fin 2) (s : State) : Out1 := .next (s.wngCmd m (BitVec.ofNat 32 (4 + x.val)))
/-- WINGS_PATH_UP (R371). -/
def execWingsPathUp (x : Fin 2) (s : State) : Out1 := .next (s.pathUp x)
/-- WINGS_PATH_DOWN (R371). -/
def execWingsPathDown (x : Fin 2) (s : State) : Out1 := .next (s.pathDown x)
/-- WINGS_TIME_SEND (R375). -/
def execWingsTimeSend (s : State) : Out1 := .next s.timeSendAll
/-- WINGS_TIME_RECEIVE (R376). -/
def execWingsTimeReceive (x : Fin 2) (tap : Fin 512) (l : List Byte) (s : State) : Out1 := .next (s.timeReceive x tap l)
/-- WINGS_HB_SEND (R377). -/
def execWingsHbSend (s : State) : Out1 := .next s.hbSendAll
/-- WINGS_HB_RECEIVE (R377). -/
def execWingsHbReceive (x : Fin 2) (l : List Byte) (s : State) : Out1 := .next (s.hbReceive x l)
/-- CHECKPOINT_TAKE (R378). -/
def execCheckpointTake (s : State) : Out1 := .next s.ckptTake
/-- CHECKPOINT_CHUNK_RECEIVE (R380). -/
def execCheckpointChunkReceive (x : Fin 2) (l : List Byte) (s : State) : Out1 := .next (s.ckptReceive x l)
/-- HEALTH_EVAL (R387). -/
def execHealthEval (s : State) : Out1 := .next s.healthStep
/-- LEASE_RENEW_SEND (R382). -/
def execLeaseRenewSend (s : State) : Out1 := .next s.renewStep
/-- TAKE_REQUEST_SEND (R384). -/
def execTakeRequestSend (s : State) : Out1 := .next s.takeStep
/-- LEASE_GRANT_RECEIVE (R382). -/
def execLeaseGrantReceive (l : List Byte) (s : State) : Out1 := .next (s.leaseGrant l)
/-- LEASE_REFUSE_RECEIVE (R384). -/
def execLeaseRefuseReceive (l : List Byte) (s : State) : Out1 := .next (s.leaseRefuse l)
/-- LEASE_RELEASE_ACK_RECEIVE (R383). -/
def execLeaseReleaseAckReceive (l : List Byte) (s : State) : Out1 := .next (s.leaseAck l)
/-- LEASE_EXPIRE (R385). -/
def execLeaseExpire (s : State) : Out1 := .next s.expireStep
/-- WITNESS_BLIND (R384). -/
def execWitnessBlind (s : State) : Out1 := .next s.blindStep
/-- PARTNER_LOST (R384). -/
def execPartnerLost (s : State) : Out1 := .next s.partnerStep
/-- TAKEOVER_TICK (R388). -/
def execTakeoverTick (s : State) : Out1 := .next s.takeoverStep
/-- HOLDOFF_EXPIRE (R395). -/
def execHoldoffExpire (s : State) : Out1 := .next s.holdoffStep
/-- HANDBACK_RELEASE (R395). -/
def execHandbackRelease (s : State) : Out1 := .next s.handbackStep

end Sys2Proof.Machine
end

