-- ==== Sys2Proof/Machine/Fault.lean ====
section
/-! DEFINITION. Sys2Proof/Machine/Fault.lean: the fault collector: sampling, classes, masking, escalation, reactions, records and their release (spec/15_faults.md, R398 to R420, R504). -/
namespace Sys2Proof.Machine

/-! ### Units -/

def State.unitFence (s : State) (u : Nat) : Option Fence := s.flt.fences.find? (fun f => f.unit = u)

/-- The ENTRY_ID of the event whose reaction masks a unit's sources at this tick (R413). -/
def State.maskedBy (s : State) (u : Nat) : Option Nat :=
  match s.unitFence u with
  | some f => some f.id
  | none => (s.flt.masks.find? (fun m => m.1 = u && decide (s.tick < m.2.2))).map (fun m => m.2.1)

/-- The bit of a unit in FLT_FENCED and FLT_TB_FENCED. -/
def State.fenceBit (s : State) (u : Nat) (b : Bool) : State :=
  let i := u % 256
  match u / 256 with
  | 1 => s.setBit 0x0E0028 i b
  | 2 => s.setBit 0x0E0028 (4 + i) b
  | 3 => s.setBit (0x0E002C + 4 * (i / 32)) (i % 32) b
  | 4 => s.setBit 0x0E0028 6 b
  | 5 => s.setBit 0x0E0028 (7 + i) b
  | _ => s

/-- Capacity that a fenced cluster gave is replaced: sleeping clusters with engines of its overloaded classes wake (R294, R296). -/
def State.replaceCap (s : State) : State :=
  ((s.overHi s.sysMhz).filterMap (fun cls => (s.clustersIn [0]).find? (fun c => s.enginesOf c cls ≠ 0))).eraseDups.foldl (fun (s : State) c => s.clusWake c) s

/-- A cluster is fenced: its transactions are lost and counted, held frames fail check 2 later (Table 15.3, R296). -/
def State.fenceCluster (s : State) (c : Nat) : State :=
  let lost := s.svc.jobs.filter (fun j => j.rx.cluster = c)
  let s1 := lost.foldl (fun (s : State) j => (s.bumpSat (portReg j.rx.port 0x10C) 1).cyc c false j.cycles) s
  let s2 := s1.modSvc fun v => { v with jobs := v.jobs.filter (fun j => j.rx.cluster ≠ c), refRx := v.refRx.filter (fun r => r.cluster ≠ c) }
  let s3 := (List.finRange 16).foldl (fun (s : State) (p : Fin 16) => s.modPort p fun q =>
    { q with waiting := q.waiting.filter (fun w => decide (w.cluster ≠ c) || decide (w.ready ≤ s.tick)) }) s2
  (((s3.setFld (clusReg c 0) 30 2 3).modClus c fun k => { k with wakeBy := none, lowFrom := none }).domFollow s).replaceCap

/-- What isolation does to a unit (Table 15.3). -/
def State.fenceEffect (s : State) (u : Nat) : State :=
  let i := u % 256
  match u / 256 with
  | 1 => s.fenceCluster i
  | 2 => (List.finRange 16).foldl (fun (s : State) (p : Fin 16) =>
      if complexOf p = i && s.plt.plot.portMode p ≠ 0 then
        let s1 := s.linkFall p
        if s1.portState p = 1 then s1.portEnter p 2 else s1
      else s) s
  | 3 =>
    let n := tbIx i
    let s1 := s.untrace n 3
    let s2 := match s1.tbLoop n with | some d => if s1.loopTb d = some n then s1.dpllRelease d else s1 | none => s1
    (s2.modTb n fun t => { t with incWrite := none }).outsSettle.selFollow s
  | _ => s

/-- A unit comes back (R412). -/
def State.unfenceEffect (s : State) (u : Nat) : State :=
  let i := u % 256
  match u / 256 with
  | 1 => (s.setFld (clusReg i 0) 30 2 0).domFollow s
  | 3 =>
    let n := tbIx i
    let s1 := match s.tbLoop n with
      | some d => if s.loopTb d = some n && !s.tbHost n && !s.roleReleased then s.dpllFree d (incOffset (s.tbInc n)) else s
      | none => s
    (if s1.tbHost n then s1.untrace n 2 else s1).outsSettle
  | 4 => (List.finRange 2).foldl (fun (s : State) (x : Fin 2) => if s.chainOn x then s.chainStart x else s) s
  | 5 => s.setBit (btbReg i 8) 26 false
  | _ => s

/-- The sources that an isolation reset clears (R411). -/
def resetGroup (x : Nat) : Bool := [0x05, 0x0E, 0x0F, 0x10, 0x11, 0x13].contains (srcGroup x)

/-- The isolation reset drops the live bits of the unit's own sources, but those whose fault persists or whose path is broken (R411). -/
def State.isolationReset (s : State) (u : Nat) : State :=
  (s.liveSources.filter (fun x => resetGroup x && s.srcUnit x = some u && !flag s.flt.holds x && !flag s.flt.broken x)).foldl
    (fun (s : State) x => s.liveOff x) s

/-- A unit is isolated by the event with ENTRY_ID `id` (R405, R411, R413). -/
def State.isolate (s : State) (u id : Nat) (auto : Bool) : State :=
  if (s.unitFence u).isSome then s
  else
    let s1 := (s.modFlt fun f => { f with fences := f.fences ++ [⟨u, id, auto⟩], masks := f.masks.filter (fun m => decide (m.1 ≠ u)) }).fenceBit u true
    ((s1.fenceEffect u).isolationReset u).fltEvent 2

/-- A fence of the unit would leave fewer than two unfenced clusters, or no unfenced complex (R406). -/
def State.fenceTooMuch (s : State) (u : Nat) : Bool :=
  match u / 256 with
  | 1 => decide (((List.range 4).filter (fun c => s.plt.plot.cluster c && !s.clusterFenced c && decide (0x0100 + c ≠ u))).length < 2)
  | 2 => ((List.range 2).filter (fun x => s.plt.plot.complex x && !s.complexFenced x && decide (0x0200 + x ≠ u))).isEmpty
  | _ => false

/-! ### Curtains -/

/-- CURTAIN, FATAL, FAULT_N and REACTING of FLT_STAT. -/
def State.fltShow (s : State) : State :=
  let on := !s.flt.curtains.isEmpty
  let s1 := (s.setBit 0x0E000C 30 on).setBit 0x0E000C 28 on
  let s2 := s1.setBit 0x0E000C 31 (s.flt.curtains.any (fun c => c.fatal))
  s2.setBit 0x0E000C 29 (!s.flt.reacts.isEmpty)

/-- A curtain is taken (R408). -/
def State.curtainOn (s : State) (c : Curtain) : State :=
  (((s.modFlt fun f => { f with curtains := f.curtains ++ [c] }).fltShow).fltEvent 4).muteFollow s

/-- A FATAL event (R408): a latched curtain, every time base untraceable, a lead steps down. -/
def State.fatalOn (s : State) (src : Nat) : State :=
  let s1 := ((s.curtainOn ⟨src, true, true, none⟩).modWng fun w => { w with fatal := true }).fltEvent 0x10
  let s2 := s1.presentTbs.foldl (fun (s : State) (n : Fin 64) => s.untrace n 9) s1
  let s3 := s2.selFollow s1
  if s3.leads then s3.leaseRelease.becomeUnderstudy else s3

/-- The curtains for which `f` holds end; with the last of them the forcing ends (R410). -/
def State.curtainsEnd (s : State) (f : Curtain → Bool) : State :=
  if !s.flt.curtains.any f then s
  else
    let s1 := ((s.modFlt fun q => { q with curtains := q.curtains.filter (fun c => !f c) }).fltShow).muteFollow s
    if s1.curtain then s1 else s1.fltEvent 8

/-! ### Records -/

/-- The eight words of a record (Table 15.4). -/
def State.fltRecord (s : State) (e : FltEvent) (id : Nat) (cls : FClass) (masked escalated : Bool) (cause action unit : Nat) : FltRec :=
  let inj := s.flt.injected.contains e.src
  let e0 := fset (fset (fset (fset (fset (fset (fset (fset (BitVec.ofNat 32 e.src) 16 1 1) 17 1 (b2n (!s.apll0Locked))) 18 1 (b2n inj)) 19 1 (b2n escalated)) 20 1 (b2n e.broken)) 21 1 (b2n masked)) 22 2 cls.code) 24 8 (id % 256)
  let e2 := fset (fset (fset 0 0 16 unit) 20 4 action) 24 8 (if masked || escalated then cause % 256 else 0)
  #v[e0, e.syn, e2, BitVec.ofNat 32 s.tick, BitVec.ofNat 32 (s.tick / 2 ^ 32), BitVec.ofNat 32 (secOf s.tb0), BitVec.ofNat 32 (nsOf s.tb0), 0]

/-- The bytes of a record, little-endian. -/
def recBytes (r : FltRec) : List Byte := (r.toList.map (fun w => leBytes 4 w.toNat)).flatten

/-- A record enters the history, ring 3 and, the first severe unmasked one, FLT_FIRST (R416 to R418). -/
def State.putRecord (s : State) (r : FltRec) (masked : Bool) (cls : FClass) : State :=
  let full := decide (32 ≤ s.flt.hist.length)
  let s1 := s.modFlt fun f => { f with hist := (if full then f.hist.drop 1 else f.hist) ++ [r], nextId := f.nextId + 1 }
  let s2 := (if full then (s1.bumpSat 0x0E0080 1).fltEvent 0x40 else s1).setFld 0x0E000C 0 6 s1.flt.hist.length
  let s3 := if !masked && cls.code ≠ 0 && !s2.bit 0x0E000C 27 then (s2.wrAll 0x0E0040 r.toList).setBit 0x0E000C 27 true else s2
  (s3.fltEvent 1).ringPut 3 (recBytes r)

/-- The group and instance of a source are recorded as having reported (Table 15.9). -/
def State.stick (s : State) (x : Nat) : State :=
  let k := srcGroup x * 4 + srcInst x / 24
  let s1 := s.raise 0x0E0018 (2 ^ srcGroup x)
  s1.modFlt fun f => { f with srcSticky := Sparse.set (fun _ => 0) f.srcSticky k (rsqSet (Sparse.get (fun _ => 0) f.srcSticky k) (2 ^ (srcInst x % 24))) }

/-! ### Events -/

/-- The event counts for escalation: the state after the count, and the first event counted where the count is reached (R404). -/
def State.escalate (s : State) (x id : Nat) : Option Nat × State :=
  match s.escalation x with
  | none => (none, s)
  | some (n, win) =>
    let l := ((Sparse.get (fun _ => []) s.flt.counted x).filter (fun (p : Nat × Nat) => s.tick ≤ p.1 + win)) ++ [(s.tick, id)]
    let hit := decide (n ≤ l.length)
    (if hit then l.head?.map Prod.snd else none,
     s.modFlt fun f => { f with counted := Sparse.set (fun _ => []) f.counted x (if hit then [] else l) })

/-- A reaction in progress whose recovery path the source belongs to (R414). -/
def State.recoveryHit (s : State) (x : Nat) (unit : Option Nat) : Option Nat :=
  (s.flt.reacts.find? (fun r =>
    srcGroup x = 0 ||
    (!r.curtain && (match unit with
      | some u =>
        (r.unit / 256 = 1 && u / 256 = 1 && decide (u ≠ r.unit) && s.plt.plot.cluster (u % 256) && !s.clusterFenced (u % 256) &&
          [1, 2, 3].any (fun cls => s.enginesOf (r.unit % 256) cls ≠ 0 && s.enginesOf (u % 256) cls ≠ 0)) ||
        (r.unit / 256 = 3 && u / 256 = 2 && (List.range 16).any (fun p => complexOf p = u % 256 && s.plt.plot.portPresent p && s.plt.plot.stampTb p = r.unit % 256))
      | none => false)))).map React.id

/-- The reaction that the plot's table or the default asks for (R403). -/
def State.reactionOf (s : State) (x : Nat) : Reaction :=
  match s.plt.plot.reactFor x with
  | some e => match e.action with | 0 => .log | 1 => .fence | _ => .curtain
  | none => defReaction s.plt.plot.fenceProfile x

/-- The source's own reaction: a core restarts (R407), a wings path falls back (R377), a DMA channel restarts (R437); their mark in ACTION is 5. -/
def State.specialReact (s : State) (e : FltEvent) : Bool × State :=
  let i := srcInst e.src
  match srcGroup e.src with
  | 0x07 => (true, s.modFlt fun f => { f with coresDown := if f.coresDown.contains i then f.coresDown else f.coresDown ++ [i] })
  | 0x0B => (i = 1, s)
  | 0x12 => (true, s.hbEnter ⟨i / 2 % 2, Nat.mod_lt _ (by decide)⟩)
  | _ => (false, s)

/-- A reaction begins (R409). -/
def State.reactStart (s : State) (id : Nat) (curtain : Bool) (unit : Nat) : State :=
  (s.modFlt fun f => { f with reacts := f.reacts ++ [⟨id, curtain, unit, s.tick⟩] }).fltShow

/-- One declared event: a ledger's mismatch is its owner's first (R177); then it is masked, or counted, classed, reacted to and recorded (R402 to R408, R413, R414, R416). -/
def State.faultOne (s : State) (e : FltEvent) : State :=
  let id := s.flt.nextId % 256
  let unit := s.wiredUnit e.src e.syn
  let own := s.eventClass e.src e.cls
  let s0 := (s.stick e.src).fltEvent (if e.broken then 0x80 else 0)
  let s0 := if srcGroup e.src = 6 && s0.plt.plot.tbPresent (srcInst e.src) then s0.checkFail (tbIx (srcInst e.src)) else s0
  match unit.bind s0.maskedBy with
  | some cause => s0.putRecord (s0.fltRecord e id own true false cause 4 (unit.getD 0)) true own
  | none =>
    let esc := s0.escalate e.src id
    let rec' := if esc.1.isSome then none else if own = .uc then esc.2.recoveryHit e.src unit else none
    let cause := esc.1.or rec'
    let cls := if esc.1.isSome then own.next else if rec'.isSome then FClass.fatal else own
    let s1 := if cause.isSome then esc.2.fltEvent 0x20 else esc.2
    let r := s1.fltRecord e id cls false cause.isSome (cause.getD 0)
    match cls with
    | .corrected => s1.putRecord (r 0 0) false cls
    | .fatal => ((s1.fatalOn e.src).reactStart id true 0).putRecord (r 3 0) false cls
    | .uc =>
      let entry := s1.plt.plot.reactFor e.src
      let latch := match entry with | some q => q.latch | none => false
      let auto := (match entry with | some q => q.auto | none => false) && !latch
      let sp := s1.specialReact e
      let s2 := sp.2
      let asked := s2.reactionOf e.src
      let plan : Reaction := match asked, unit with
        | .fence, some u => if s2.fenceTooMuch u then .isolate else .fence
        | .fence, none => .log
        | .isolate, none => .log
        | p, _ => p
      match plan, unit with
      | .fence, some u => ((s2.isolate u id auto).reactStart id false u).putRecord (r 1 u) false cls
      | .isolate, some u =>
        (((s2.isolate u id auto).curtainOn ⟨e.src, latch, false, some u⟩).reactStart id true u).putRecord (r 2 u) false cls
      | .curtain, _ => ((s2.curtainOn ⟨e.src, latch, false, none⟩).reactStart id true 0).putRecord (r 2 0) false cls
      | _, _ => s2.putRecord (r (if sp.1 then 5 else 0) 0) false cls

/-- A detector of the model declares a fault that lasts until `faultClear` (R398). -/
def State.faultAs (s : State) (src : Nat) (cls : FClass) (syn : Word) : State :=
  if s.srcLive src then s
  else
    let e : FltEvent := ⟨src, cls, syn, false⟩
    (s.liveOn e true).faultOne e
def State.faultSignal (s : State) (src : Nat) (syn : Word) : State := s.faultAs src (defClass src) syn

/-- The fault of a detector of the model ends: only the live bit drops (R418). -/
def State.faultClear (s : State) (src : Nat) : State := s.liveOff src

/-- A fault that shows on the pair for one sample: an access or a check that failed once. -/
def State.faultPulse (s : State) (src : Nat) (cls : FClass) (syn : Word) : State :=
  if s.srcLive src then s
  else
    let e : FltEvent := ⟨src, cls, syn, false⟩
    ((s.liveOn e false).faultOne e).liveOff src

/-! ### Sampling -/

/-- One pair at this tick: the state after the sample, and the event it declares (R398, R399). -/
def State.samplePair (s : State) (x : PairSample) : Option FltEvent × State :=
  if !srcKnown x.src then (none, s)
  else if x.p = x.n then
    let seen := Sparse.get (fun _ => 0) s.flt.eqAt x.src = s.tick && s.tick ≠ 0
    let s1 := s.modFlt fun f => { f with eqAt := Sparse.set (fun _ => 0) f.eqAt x.src (s.tick + 1) }
    if seen && !flag s.flt.broken x.src then
      let e : FltEvent := ⟨x.src, defClass x.src, x.syn, true⟩
      (if s.srcLive x.src then none else some e, s1.liveOn e true)
    else (none, s1)
  else
    let s1 := s.modFlt fun f => { f with eqAt := Sparse.set (fun _ => 0) f.eqAt x.src 0 }
    if x.p then
      if s1.srcLive x.src then (none, s1.modFlt fun f => { f with broken := setFlag f.broken x.src false, holds := setFlag f.holds x.src x.holds })
      else
        let e : FltEvent := ⟨x.src, defClass x.src, x.syn, false⟩
        (some e, s1.liveOn e x.holds)
    else (none, s1.liveOff x.src)

/-- The order of R415: class first, then source. -/
def State.eventKey (s : State) (e : FltEvent) : Nat := (2 - (s.eventClass e.src e.cls).code) * 65536 + e.src

/-- Insertion of an event into a list in the order of R415. -/
def State.insertEvent (s : State) (e : FltEvent) : List FltEvent → List FltEvent
  | [] => [e]
  | a :: t => if s.eventKey e < s.eventKey a then e :: a :: t else a :: s.insertEvent e t

/-- FAULT_EVENT: the pairs sampled on this tick; the events they declare are handled in the order of R415. -/
def State.faultSample (s : State) (l : List PairSample) : State :=
  let r := l.foldl (fun (p : List FltEvent × State) x =>
    let q := p.2.samplePair x
    (match q.1 with | some e => q.2.insertEvent e p.1 | none => p.1, q.2)) ([], s)
  r.1.foldl (fun (s : State) e => s.faultOne e) r.2

/-! ### The end of reactions -/

/-- REACTION_DONE: isolation or forcing of the reaction with an ENTRY_ID is confirmed `ns` after its event tick, in time; one that is not in time is an event of COLLECTOR instance 1 (R409). -/
def State.reactionDone (s : State) (id ns : Nat) : State :=
  match s.flt.reacts.find? (fun r => r.id = id) with
  | none => s
  | some r =>
    let lim := if r.curtain then ticksPerUs else 10 * ticksPerUs
    let s1 := (s.modFlt fun f => { f with reacts := f.reacts.filter (fun q => decide (q ≠ r)) }).fltShow
    if r.start + lim < s.tick then s1.faultPulse 0x0001 .fatal 0
    else
      let v := BitVec.ofNat 32 (min ns 0xFFFFFFFF)
      let put := fun (q : FltRec) => if fget q[0] 24 8 = id then q.set 7 v else q
      let s2 := s1.modFlt fun f => { f with hist := f.hist.map put }
      if s2.bit 0x0E000C 27 && s2.fld 0x0E0040 24 8 = id then s2.wr 0x0E005C v else s2

/-- Reactions whose limit has passed without a confirmation (R409). -/
def State.reactionsLate (s : State) : State :=
  (s.flt.reacts.filter (fun r => decide (r.start + (if r.curtain then ticksPerUs else 10 * ticksPerUs) < s.tick))).foldl
    (fun (s : State) r => s.reactionDone r.id 0) s

/-- A unit is released (R412): masking of its sources ends 10 ms later (R413). -/
def State.unfence (s : State) (u : Nat) : State :=
  match s.unitFence u with
  | none => s
  | some f =>
    let s1 := (s.modFlt fun q => { q with fences := q.fences.filter (fun x => decide (x.unit ≠ u)), masks := q.masks ++ [(u, f.id, s.tick + 10 * ticksPerMs)] }).fenceBit u false
    (s1.unfenceEffect u).fltEvent 8

/-- AUTO_UNFENCE (R412). -/
def State.autoUnfence (s : State) : State :=
  (s.flt.fences.filter (fun f => f.auto && s.quietFor (s.unitSources f.unit))).foldl (fun (s : State) f => s.unfence f.unit) s

/-- CURTAIN_AUTO_RELEASE (R410): a curtain that is not latched ends once its source has been clear for RELEASE_MS and its unit has been released. -/
def State.autoRelease (s : State) : State :=
  s.curtainsEnd fun c => !c.latch && s.quietFor [c.src] && (match c.unit with | some u => (s.unitFence u).isNone | none => true)

/-- MASK_WINDOW_END (R413). -/
def State.maskEnd (s : State) : State := s.modFlt fun f => { f with masks := f.masks.filter (fun m => decide (s.tick < m.2.2)) }

/-- What a tick brings to the collector. -/
def State.fltTick (s : State) : State := s.reactionsLate.autoUnfence.autoRelease.maskEnd

/-- A source of the unit is live. -/
def State.unitLive (s : State) (u : Nat) : Bool := s.liveSources.any (fun x => s.srcUnit x = some u)

/-- FLT_CMD (Table 15.7). -/
def State.fltCmd (s : State) (m : Master) (v : Word) : State :=
  s.guardW m 0x0E0004 v fun s =>
    let a := s.fld 0x0E0008 0 16
    match fget v 0 2 with
    | 1 =>
      if !unitKnown a then s.reject m 0x0E0004 .range
      else if s.unitLive a || (s.unitFence a).isNone then s.reject m 0x0E0004 .state
      else (s.unfence a).autoRelease
    | 2 =>
      let mine := fun (c : Curtain) => c.latch && !c.fatal
      let l := s.flt.curtains.filter mine
      if l.isEmpty || l.any (fun c => s.srcLive c.src || (match c.unit with | some u => (s.unitFence u).isSome | none => false)) then
        s.reject m 0x0E0004 .state
      else s.curtainsEnd mine
    | 3 =>
      if !s.bit 0x0E000C 27 then s.reject m 0x0E0004 .state
      else if a % 256 ≠ s.fld 0x0E0040 24 8 then s.reject m 0x0E0004 .seq
      else (s.wrAll 0x0E0040 (List.replicate 8 0)).setBit 0x0E000C 27 false
    | _ => s.reject m 0x0E0004 .range

/-- FLT_HIST_POP: E0 of the oldest record, which leaves; its other words are latched for the reading master (R417). -/
def State.histPop (s : State) (m : Master) : State :=
  match s.checkRead m 0x0E0060 with
  | some e => s.rejectRead m 0x0E0060 e
  | none => match s.flt.hist with
    | [] => s.answer m.idx 0
    | r :: t =>
      let s1 := (s.modFlt fun f => { f with hist := t }).setFld 0x0E000C 0 6 t.length
      (s1.hsetAll m.idx 0x0E0064 (r.toList.drop 1)).answer m.idx r[0]

/-- CORE_RESTART_DONE: the core runs again (R407). -/
def State.coreRestart (s : State) (c : Fin 4) : State :=
  if s.flt.coresDown.contains c.val then
    s.modFlt fun f => { f with coresDown := f.coresDown.filter (fun x => x ≠ c.val), restarts := Sparse.set (fun _ => 0) f.restarts c.val (Sparse.get (fun _ => 0) f.restarts c.val + 1) }
  else s

/-- An accepted pair of writes of FLT_INJ drives a source's pair at the detector (R419, R454): two samples make a broken path. -/
def State.inject (s : State) (v : Word) : State :=
  let x := fget v 0 16
  let syn := s.rd 0x0E0094
  let mode := fget v 16 2
  let s1 := s.modFlt fun f => { f with injected := if mode = 1 then f.injected.filter (fun y => y ≠ x) else (f.injected.filter (fun y => y ≠ x)) ++ [x] }
  match mode with
  | 0 => s1.faultSample [⟨x, true, false, syn, true⟩]
  | 1 => s1.faultSample [⟨x, false, true, syn, true⟩]
  | _ => s1.modFlt fun f => { f with eqAt := Sparse.set (fun _ => 0) f.eqAt x (s.tick + 1) }

/-- Broken levels that an injection holds are sampled on the next tick (R398, R419). -/
def State.injectTick (s : State) : State :=
  s.faultSample ((s.flt.injected.filter (fun x => Sparse.get (fun _ => 0) s.flt.eqAt x = s.tick && !flag s.flt.broken x)).map fun x => ⟨x, false, false, s.rd 0x0E0094, true⟩)

/-- The checks of FLT_INJ and FLT_INJ_SYN beside the common ones (R419, Table 15.9). -/
def State.injErr (s : State) (off : Nat) (v : Word) : Option Err :=
  if s.otp.lifecycle ≠ .manufacture then some .lifecycle
  else if off = 0x0E0090 && !srcKnown (fget v 0 16) then some .range
  else none

/-! ### Views -/

/-- Live bits of group `g`, instances from 24 × `bank` (Table 15.9). -/
def State.liveWord (s : State) (g bank : Nat) : Word :=
  BitVec.ofNat 32 ((List.range 24).foldl (fun w i => if s.srcLive (g * 256 + 24 * bank + i) then w + 2 ^ i else w) 0)

/-- The computed registers of the block for a master. -/
def State.fltView (s : State) (m off : Nat) : Option Word :=
  let sel := s.hget m 0x0E001C
  if off = 0x0E0014 then
    some (BitVec.ofNat 32 ((List.range 24).foldl (fun w g => if s.liveSources.any (fun x => srcGroup x = g) then w + 2 ^ g else w) 0))
  else if off = 0x0E0020 then some (s.liveWord (fget sel 0 8) (fget sel 8 2))
  else if off = 0x0E0024 then some (Sparse.get (fun _ => 0) s.flt.srcSticky (fget sel 0 8 * 4 + fget sel 8 2))
  else if 0x0E0064 ≤ off && off < 0x0E0080 then some (s.hget m off)
  else none

/-- A write of FLT_SRC_STICKY clears the flags of the selected word if it names the current SEQ (R451). -/
def State.srcStickyWrite (s : State) (m : Nat) (v : Word) : State :=
  let sel := s.hget m 0x0E001C
  let k := fget sel 0 8 * 4 + fget sel 8 2
  let w := Sparse.get (fun _ => 0) s.flt.srcSticky k
  if fget v 24 8 = fget w 24 8 then s.modFlt fun f => { f with srcSticky := Sparse.set (fun _ => 0) f.srcSticky k (fset w 0 24 0) } else s

/-! ### Meanings -/

/-- FAULT_EVENT (R402). -/
def execFaultEvent (l : List PairSample) (s : State) : Out1 := .next (s.faultSample l)
/-- SOURCE_LIVE_BIT_CLEAR (R398). -/
def execSourceLiveBitClear (src : Nat) (s : State) : Out1 := .next (s.faultSample [⟨src, false, true, 0, false⟩])
/-- CORE_RESTART_DONE (R407). -/
def execCoreRestartDone (c : Fin 4) (s : State) : Out1 := .next (s.coreRestart c)
/-- REACTION_DONE (R409). -/
def execReactionDone (id : Byte) (ns : Nat) (s : State) : Out1 := .next (s.reactionDone id.toNat ns)
/-- CURTAIN_AUTO_RELEASE (R410). -/
def execCurtainAutoRelease (s : State) : Out1 := .next s.autoRelease
/-- AUTO_UNFENCE (R412). -/
def execAutoUnfence (s : State) : Out1 := .next s.autoUnfence
/-- MASK_WINDOW_END (R413). -/
def execMaskWindowEnd (s : State) : Out1 := .next s.maskEnd
/-- FLT_UNFENCE (R412). -/
def execFltUnfence (m : Master) (s : State) : Out1 := .next (s.fltCmd m 1)
/-- FLT_RELEASE (R410). -/
def execFltRelease (m : Master) (s : State) : Out1 := .next (s.fltCmd m 2)
/-- FLT_CLEAR_FIRST (R418). -/
def execFltClearFirst (m : Master) (s : State) : Out1 := .next (s.fltCmd m 3)
/-- FLT_HIST_POP_READ (R417). -/
def execFltHistPopRead (m : Master) (s : State) : Out1 := .next (s.histPop m)

end Sys2Proof.Machine
end

