-- ==== Sys2Proof/Machine/Key.lean ====
section
/-! DEFINITION. Sys2Proof/Machine/Key.lean: meanings of the commands and events of the key block (spec/11_keys.md). -/
namespace Sys2Proof.Machine

/-- KEY_STAGING_WRITE (R302): ATTR (`i` = 0), GEN (1) or VAL0 to VAL7 (2 to 9). -/
def execKeyStagingWrite (m : Master) (i : Fin 10) (v : Word) (s : State) : Out1 := .next (s.keyStage m i v)
/-- KEY_STAGING_TIMEOUT (R302). -/
def execKeyStagingTimeout (s : State) : Out1 := .next s.stgTimeout
/-- KEY_CMD (Table 11.9). -/
def State.keyCmd (s : State) (m : Master) (v : Word) : State :=
  s.guardD m 0x0A000C v fun s => match fget v 0 4 with
  | 1 => s.keyCommit m
  | 2 => s.keyAbort m
  | 3 => s.keyInvalidate m
  | 4 => s.keyInvalidateDer m
  | 5 => s.keyErase m
  | 6 => s.keyExport m
  | 7 => s.keyImport m
  | 8 => s.keyScan m
  | _ => s.reject m 0x0A000C .range

/-- KEY_COMMIT (R304). -/
def execKeyCommit (m : Master) (s : State) : Out1 := .next (s.keyCmd m 1)
/-- KEY_ABORT (R302). -/
def execKeyAbort (m : Master) (s : State) : Out1 := .next (s.keyCmd m 2)
/-- KEY_INVALIDATE (R316). -/
def execKeyInvalidate (m : Master) (s : State) : Out1 := .next (s.keyCmd m 3)
/-- KEY_INVALIDATE_DER (R316). -/
def execKeyInvalidateDer (m : Master) (s : State) : Out1 := .next (s.keyCmd m 4)
/-- KEY_ERASE (R305). -/
def execKeyErase (m : Master) (s : State) : Out1 := .next (s.keyCmd m 5)
/-- KEY_EXPORT (R313). -/
def execKeyExport (m : Master) (s : State) : Out1 := .next (s.keyCmd m 6)
/-- EXPORT_COMPLETE (R313): the stream ends, `ok` unless by a DMA error. -/
def execExportComplete (ok : Bool) (s : State) : Out1 := .next (s.exportEnd ok)
/-- KEY_IMPORT_SLOT (R315). -/
def execKeyImportSlot (m : Master) (s : State) : Out1 := .next (s.keyCmd m 7)
/-- IMPORT_COMPLETE (R314, R315): the two copies as host memory gave them. -/
def execImportComplete (a b : List Byte) (s : State) : Out1 := .next (s.importEnd a b)
/-- KEY_SCAN (R315). -/
def execKeyScan (m : Master) (s : State) : Out1 := .next (s.keyCmd m 8)
/-- SCAN_COMPLETE (R315): both copies of every record, in record order. -/
def execScanComplete (records : List (List Byte × List Byte)) (s : State) : Out1 := .next (s.scanEnd records)
/-- KEYGEN_OPERATION_ABORT (R317): the operations of port `p` that read a key before its generation rose and are still running at T + 2 µs. -/
def execKeygenOperationAbort (p : Fin 16) (s : State) : Out1 := .next (s.keyAborts p)
/-- PURGE_COMPLETE (R317): a purge that is due is complete. -/
def execPurgeComplete (s : State) : Out1 := .next (if s.key.purgeBy.isSome then s.purge else s)
/-- KEY_REMASK (R306). -/
def execKeyRemask (s : State) : Out1 := .next s.remask

/-- A reseed ends (R307): `ok` if the health tests of the entropy source passed. -/
def State.reseed (s : State) (ok : Bool) : State :=
  let s1 := s.modKey fun k => { k with seedAt := s.tick }
  if ok then (s1.setBit 0x0A0004 23 true).faultClear 0x0800
  else ((s1.setBit 0x0A0004 23 false).keyEvent 0x40).faultAs 0x0800 .uc 0

/-- DRBG_RESEED (R307). -/
def execDrbgReseed (ok : Bool) (s : State) : Out1 := .next (s.reseed ok)
/-- KEY_EPOCH_WRITE (R309). -/
def execKeyEpochWrite (m : Master) (r : Fin 2) (v : Word) (s : State) : Out1 := .next (s.keyEpoch m r v)
/-- KEY_SVC_CFG_WRITE (R309). -/
def execKeySvcCfgWrite (m : Master) (r : Fin 2) (v : Word) (s : State) : Out1 := .next (s.keySvcCfg m r v)

/-- KEY_OTP_CMD (Table 11.11). -/
def State.otpCmd (s : State) (m : Master) (v : Word) : State :=
  match fget v 0 3 with
  | 1 => s.otpStart m 0x94 v (s.fuseErr false) (.fuse0 s.otpHash)
  | 2 => s.otpStart m 0x94 v (s.fuseErr true) (.fuse1 s.otpHash)
  | 3 => s.otpStart m 0x94 v (s.revokeErr false) .revoke0
  | 4 => s.otpStart m 0x94 v (s.revokeErr true) .revoke1
  | _ => s.otpStart m 0x94 v (some .range) .revoke0

/-- FUSE_OPK0 (R318). -/
def execFuseOpk0 (m : Master) (s : State) : Out1 := .next (s.otpCmd m 1)
/-- FUSE_OPK1 (R318). -/
def execFuseOpk1 (m : Master) (s : State) : Out1 := .next (s.otpCmd m 2)
/-- REVOKE_OPK0 (R318). -/
def execRevokeOpk0 (m : Master) (s : State) : Out1 := .next (s.otpCmd m 3)
/-- REVOKE_OPK1 (R318). -/
def execRevokeOpk1 (m : Master) (s : State) : Out1 := .next (s.otpCmd m 4)

/-- KEY_LC_CMD (R319). -/
def State.lcCmd (s : State) (m : Master) (v : Word) : State := s.otpStart m 0x90 v (s.lcErr (fget v 0 3)) .advance
/-- LC_ADVANCE (R319). -/
def execLcAdvance (m : Master) (target : Fin 8) (s : State) : Out1 := .next (s.lcCmd m (BitVec.ofNat 32 target.val))

/-- KEY_OTP_DATA. -/
def State.keyOtpData (s : State) (i : Nat) (v : Word) : State :=
  s.modKey fun k => { k with otpData := k.otpData.set i v }

/-- KEY_STAT (Table 11.9). -/
def State.keyStat (s : State) : Word :=
  let opk := b2n (!s.otp.opk0.isEmpty) + 2 * b2n (!s.otp.opk1.isEmpty) + 4 * b2n s.otp.revoked0 + 8 * b2n s.otp.revoked1
  let w := fset (fset (fset (s.rd 0x0A0004) 29 3 s.otp.lifecycle.code) 28 1 (b2n s.key.otpOp.isSome)) 24 4 opk
  fset (fset w 22 1 (b2n s.key.stg.owner.isSome)) 16 6 (s.key.stg.owner.getD 0)

/-- The read views of the key block (Table 11.12). -/
def State.keyView (s : State) (off : Nat) : Option Word :=
  let q := s.slotOf s.keySel
  match off with
  | 0x0A0004 => some s.keyStat
  | 0x0A0014 => some (s.key.stg.attr.getD 0)
  | 0x0A0018 => some (BitVec.ofNat 32 (s.key.stg.gen.getD 0))
  | 0x0A0040 => some (if q.occupied then q.attr else 0)
  | 0x0A0044 => some (BitVec.ofNat 32 (b2n q.occupied * 2 ^ 16 + q.gen))
  | 0x0A0068 => some (BitVec.ofNat 32 (match s.derName with
      | .slot n => (s.slotOf n).gen
      | n => Sparse.get (fun _ => 0) s.key.gens n.code))
  | 0x0A00D0 => some (BitVec.ofNat 32 ((List.finRange 256).filter (fun (i : Fin 256) => s.key.slots[i].occupied)).length)
  | 0x0A00D4 => some (BitVec.ofNat 32 s.key.cache.length)
  | _ => none

end Sys2Proof.Machine
end

