-- ==== Sys2Proof/Machine/Port.lean ====
section
/-! DEFINITION. Sys2Proof/Machine/Port.lean: the commands of a port and the meanings of its commands and events (spec/09_ports_timestamping.md). -/
namespace Sys2Proof.Machine

/-- A port leaves for TEST, or ends TEST (Table 9.10); adjustments that changed take the link down (R241). -/
def State.testOut (s : State) (p : Fin 16) : State :=
  let s1 := s.modPort p fun q => { q with calRun := none }
  if s1.ports[p].retrain then (s1.linkFall p).modPort p fun q => { q with retrain := false }
  else s1.modPort p fun q => { q with testExit := some s.tick }

/-- The checks of GCL_ARM (R257, R27). -/
def State.gclErr (s : State) (p : Fin 16) : Option Err :=
  if s.ports[p].gcl.isSome then some .busy
  else if badInstant s.tbs[s.stampTb p].value (s.timeAt (portReg p 0x50)) then some .time
  else none

/-- GCL_ARM copies the admin list and its instant; the swap comes at the first of its cycle starts from the instant on (R257). -/
def State.gclArm (s : State) (p : Fin 16) : State :=
  let cyc := (s.rd (portReg p 0x44)).toNat
  let base := s.timeAt (portReg p 0x60)
  let l := (List.range (s.rd (portReg p 0x48)).toNat).map (fun k => s.rd (portReg p (0x400 + 4 * k)))
  (s.modPort p fun q => { q with gcl := some ⟨l, cyc, base, nextCycle cyc base (s.timeAt (portReg p 0x50))⟩ }).setBit (portReg p 8) 26 true

/-- PORTn_CMD (Table 9.17). -/
def State.portCmd (s : State) (m : Master) (p : Fin 16) (v : Word) : State :=
  let off := portReg p 4
  s.guardW m off v fun s =>
    let st := s.portState p
    match fget v 0 3 with
    | 1 => if st = 4 then s.portEnter p 5 else s.reject m off .state
    | 2 => if st = 5 then s.testOut p else s.reject m off .state
    | 3 =>
      if st = 0 || st = 1 then s.reject m off .state
      else if !s.plt.plot.portDormant p then s.reject m off .plot else s.portSleep p
    | 4 => if st = 1 then s.portWake p else s.reject m off .state
    | 5 => match s.gclErr p with
      | some e => s.reject m off e
      | none => s.gclArm p
    | 6 =>
      if s.ports[p].gcl.isSome then (s.modPort p fun q => { q with gcl := none }).setBit (portReg p 8) 26 false
      else s.reject m off .state
    | 7 =>
      if st = 5 then s.modPort p fun q => { q with calRun := some (s.fld (portReg p 0x80) 16 16, s.tick, 0) }
      else s.reject m off .state
    | _ => s.reject m off .range

/-- The next calibration frame leaves, one every 1 ms; CAL_DONE with the last (R242). -/
def State.calStep (s : State) (p : Fin 16) : State :=
  match s.ports[p].calRun with
  | none => s
  | some (left, due, seq) =>
    if s.portState p ≠ 5 || s.tick < due then s
    else
      let m := ptpMsg ⟨1, 0, s.fld (portReg p 0x80) 8 8, 0, 0, p.val, seq % 65536, 0x7F⟩ (List.replicate 10 0) 0
      let s1 := s.enqueue p ⟨s.queueOf p 0, s.tick, frameLen .l2 false false m.length, 0, 0, m, .calLog (seq % 65536), 0, true⟩
      if left ≤ 1 then (s1.modPort p fun q => { q with calRun := none }).portEvent p 0x80
      else s1.modPort p fun q => { q with calRun := some (left - 1, due + ticksPerMs, seq + 1) }

/-- PORTn_TX_ADJ, RX_ADJ and ASYM (R241, Table 9.20). -/
def State.portAdj (s : State) (m : Master) (p : Fin 16) (i : Fin 3) (v : Word) : State :=
  let off := portReg p (0x18 + 4 * i.val)
  s.guardW m off v fun s =>
    let st := s.portState p
    if (if i = 2 then 10000000 else 1000000) < (signed 32 v.toNat).natAbs then s.reject m off .range
    else if st ≠ 1 && st ≠ 2 && st ≠ 5 then s.reject m off .state
    else
      let s1 := s.wr off v
      if st = 5 && s.rd off ≠ v then s1.modPort p fun q => { q with retrain := true } else s1

/-- PORTn_CTL: PMA_LOOP may be set in TEST only (Table 9.16). -/
def State.portCtl (s : State) (m : Master) (p : Fin 16) (v : Word) : State :=
  s.guardW m (portReg p 0) v fun s =>
    if fget v 10 1 = 1 && !s.bit (portReg p 0) 10 && s.portState p ≠ 5 then s.reject m (portReg p 0) .state
    else s.plainWrite m (portReg p 0) v

/-- PORTn_STAT with its computed fields (Table 9.18). -/
def State.portStat (s : State) (p : Fin 16) : Word :=
  let w := s.rd (portReg p 8)
  let w := fset w 27 1 (b2n (s.portRefined p))
  let w := fset w 25 1 (b2n (s.portPartner p).isSome)
  let w := fset w 24 1 (b2n (s.partnerUp p))
  fset w 8 8 (min s.ports[p].held.length 255)

/-- A frame reaches a dormant port: a match wakes it, and is not served (R259). -/
def State.wakeMatch (s : State) (p : Fin 16) (f : Frame) : State :=
  if s.portState p = 1 && s.wakes p f then (s.portWake p).portEvent p 4 else s

/-- What a port does on a tick. -/
def State.portTick (s : State) (p : Fin 16) : State :=
  if !s.plt.plot.portPresent p then s
  else
    (((((((((s.gclSwap p).portTimer p).dormIdle p).pairExpire p).calStep p).keyAborts p).abortAll p).commitAll p).departAll p).startPlain p

/-! ### Meanings -/

/-- FRAME_RECEIVE (R239). -/
def execFrameReceive (p : Fin 16) (tap : Fin 512) (f : Frame) (s : State) : Out1 := .next (s.frameIn p tap f)
/-- PAUSE_FRAME_RECEIVE (R232). -/
def execPauseFrameReceive (p : Fin 16) (queue : Option (Fin 8)) (quanta : Nat) (s : State) : Out1 := .next (s.pauseIn p queue quanta)
/-- TOKEN_REFILL (R289). -/
def execTokenRefill (s : State) : Out1 := .next ((s.refillAll 1).refillAll 2)
/-- COMMIT_POINT_CHECK (R247). -/
def execCommitPointCheck (p : Fin 16) (s : State) : Out1 := .next (s.commitAll p)
/-- FRAME_ABORT (R248). -/
def execFrameAbort (p : Fin 16) (s : State) : Out1 := .next (s.abortAll p)
/-- FRAME_DEPARTURE (R245). -/
def execFrameDeparture (p : Fin 16) (s : State) : Out1 := .next (s.departAll p)
/-- UNRESERVED_TRANSMIT (R251). -/
def execUnreservedTransmit (p : Fin 16) (s : State) : Out1 := .next (s.startPlain p)
/-- TEST_ENTER (R258). -/
def execTestEnter (m : Master) (p : Fin 16) (s : State) : Out1 := .next (s.portCmd m p 1)
/-- TEST_EXIT (R241). -/
def execTestExit (m : Master) (p : Fin 16) (s : State) : Out1 := .next (s.portCmd m p 2)
/-- PORT_SLEEP (R258). -/
def execPortSleep (m : Master) (p : Fin 16) (s : State) : Out1 := .next (s.portCmd m p 3)
/-- PORT_WAKE (R258). -/
def execPortWake (m : Master) (p : Fin 16) (s : State) : Out1 := .next (s.portCmd m p 4)
/-- GCL_ARM (R257). -/
def execGclArm (m : Master) (p : Fin 16) (s : State) : Out1 := .next (s.portCmd m p 5)
/-- GCL_CANCEL (R257). -/
def execGclCancel (m : Master) (p : Fin 16) (s : State) : Out1 := .next (s.portCmd m p 6)
/-- GCL_SWAP (R257). -/
def execGclSwap (p : Fin 16) (s : State) : Out1 := .next (s.gclSwap p)
/-- CAL_SEND (R242). -/
def execCalSend (m : Master) (p : Fin 16) (s : State) : Out1 := .next (s.portCmd m p 7)
/-- CAL_FRAME_TRANSMIT (R242). -/
def execCalFrameTransmit (p : Fin 16) (s : State) : Out1 := .next (s.calStep p)
/-- PORT_CAL_TAG_READ (R242). -/
def execPortCalTagRead (m : Master) (p : Fin 16) (s : State) : Out1 := .next (s.calTagRead m p)
/-- PORT_CAL_ADJ_WRITE (R241). -/
def execPortCalAdjWrite (m : Master) (p : Fin 16) (i : Fin 3) (v : Word) (s : State) : Out1 := .next (s.portAdj m p i v)
/-- PORT_LINK_UP (R258). -/
def execPortLinkUp (p : Fin 16) (s : State) : Out1 := .next (s.linkRise p)
/-- PORT_LINK_DOWN (R258). -/
def execPortLinkDown (p : Fin 16) (s : State) : Out1 := .next (s.linkFall p)
/-- PORT_START_TIMER_EXPIRE (R258). -/
def execPortStartTimerExpire (p : Fin 16) (s : State) : Out1 := .next (s.portTimer p)
/-- PORT_DORM_IDLE_EXPIRE (R258). -/
def execPortDormIdleExpire (p : Fin 16) (s : State) : Out1 := .next (s.dormIdle p)
/-- WAKE_PATTERN_MATCH (R259). -/
def execWakePatternMatch (p : Fin 16) (f : Frame) (s : State) : Out1 := .next (s.wakeMatch p f)
/-- PAIR_ENTRY_EXPIRE (R262). -/
def execPairEntryExpire (p : Fin 16) (s : State) : Out1 := .next (s.pairExpire p)

end Sys2Proof.Machine
end

