-- ==== Sys2Proof/Machine/Svc.lean ====
section
/-! DEFINITION. Sys2Proof/Machine/Svc.lean: meanings of the commands and events of the service engines (spec/10_services.md). `build` is how many quanta a build takes, `pcs` the phase and markers of the physical layer. -/
namespace Sys2Proof.Machine

/-- NTP_REQUEST (R269). -/
def execNtpRequest (pcs : Pcs) (build : Nat) (s : State) : Out1 := .next (s.ntpRequest pcs build)
/-- BLOB_FETCH_DONE (R277): both copies of the record. -/
def execBlobFetchDone (a b : List Byte) (s : State) : Out1 := .next (s.blobDone a b)
/-- DELAY_REQ_RECEIVE (R280). -/
def execDelayReqReceive (build : Nat) (s : State) : Out1 := .next (s.delayReq build)
/-- PDELAY_REQ_RECEIVE (R280). -/
def execPdelayReqReceive (pcs : Pcs) (build : Nat) (s : State) : Out1 := .next (s.pdelayReq pcs build)
/-- REQUEST_UNICAST_TRANSMISSION (R287). -/
def execRequestUnicastTransmission (build : Nat) (s : State) : Out1 := .next (s.negotiate 4 build)
/-- CANCEL_UNICAST_TRANSMISSION (R287). -/
def execCancelUnicastTransmission (build : Nat) (s : State) : Out1 := .next (s.negotiate 6 build)
/-- GRANT_LAPSE (R287): grants of session slot `j` that have run out. -/
def execGrantLapse (j : Nat) (s : State) : Out1 := .next (s.grantLapse j)
/-- PTP_REFERENCE_MESSAGE (R280). -/
def execPtpReferenceMessage (s : State) : Out1 := .next s.refMessage
/-- MULTICAST_MESSAGE_SEND (R250): an Announce or a Sync of entry `i` on port `p`. -/
def execMulticastMessageSend (i : Nat) (p : Fin 16) (ann : Bool) (pcs : Pcs) (build : Nat) (s : State) : Out1 := .next (s.multicastSend i p ann pcs build)
/-- UNICAST_MESSAGE_SEND (R288): an Announce or a Sync of session slot `j`. -/
def execUnicastMessageSend (j : Nat) (ann : Bool) (pcs : Pcs) (build : Nat) (s : State) : Out1 := .next (s.unicastSend j ann pcs build)
/-- PDELAY_REQ_SEND (R280). -/
def execPdelayReqSend (i : Nat) (p : Fin 16) (build : Nat) (s : State) : Out1 := .next (s.pdelaySend i p build)
/-- ESMC_PDU_SEND (R293). -/
def execEsmcPduSend (i : Nat) (p : Fin 16) (build : Nat) (s : State) : Out1 := .next (s.esmcSend i p build)
/-- SVC_ENT_CFG_WRITE (R293). -/
def execSvcEntCfgWrite (m : Master) (v : Word) (s : State) : Out1 := .next (s.entCfgWrite m v)
/-- SVC_RL_WRITE (R290). -/
def execSvcRlWrite (m : Master) (i : Fin 2) (v : Word) (s : State) : Out1 := .next (s.rlWrite m i v)
/-- SVC_STG_RL_WRITE (R290). -/
def execSvcStgRlWrite (m : Master) (i : Fin 2) (v : Word) (s : State) : Out1 := .next (s.stgRlWrite m i v)
/-- SVC_PREF_CFG_WRITE (R280). -/
def execSvcPrefCfgWrite (m : Master) (v : Word) (s : State) : Out1 := .next (s.prefCfgWrite m v)
/-- SVC_SESS_D0_READ (R298). -/
def execSvcSessD0Read (m : Master) (s : State) : Out1 := .next (s.sessRead m)
/-- SVC_CYC_SRV_LO_READ (R298). -/
def execSvcCycSrvLoRead (m : Master) (c : Fin 4) (s : State) : Out1 := .next (s.cycRead m c)
/-- GOVERNOR_EVAL (R294). -/
def execGovernorEval (s : State) : Out1 := .next s.governTick
/-- CLUSTER_WAKE_DONE (R295). -/
def execClusterWakeDone (c : Fin 4) (s : State) : Out1 := .next (s.clusAwake c)
/-- CLUSTER_SLEEP (R294). -/
def execClusterSleep (c : Fin 4) (s : State) : Out1 := .next (s.clusSleep c)
/-- REFERENCE_DELAY_REQ_SEND (R127). -/
def execReferenceDelayReqSend (k : Fin 24) (build : Nat) (s : State) : Out1 := .next (s.refDelayReq k build)
/-- UPSTREAM_UNICAST_REQUEST (R280). -/
def execUpstreamUnicastRequest (k : Fin 24) (build : Nat) (s : State) : Out1 := .next (s.upstreamRequest k build)

end Sys2Proof.Machine
end

