-- ==== Sys2Proof/Machine/MemOps.lean ====
section
/-! DEFINITION. Sys2Proof/Machine/MemOps.lean: SRAM lines and their owners, scrubbing and retention, DMA channels, rings, flash access and the resets of the host side (spec/16_memory_interconnect_host.md). -/
namespace Sys2Proof.Machine

def State.modMem (s : State) (f : Mem → Mem) : State := { s with mem := f s.mem }

/-- Lines of the SRAM, and lines of a bank (R421). -/
def sramLines : Nat := 1572864
def bankLines : Nat := 65536

/-- The bank of a line. -/
def bankOf (line : Nat) : Nat := line / bankLines

/-- The 64 bytes of a line. -/
def State.lineBytes (s : State) (line : Nat) : List Byte := (List.range 64).map (fun i => Sparse.get sramUnlisted s.mem.sram (64 * line + i))

/-- Stores bytes from an address on. -/
def putBytes (m : Sparse Byte) (a : Nat) : List Byte → Sparse Byte
  | [] => m
  | b :: t => putBytes (Sparse.set sramUnlisted m a b) (a + 1) t

/-- A request reaches PD9, which wakes from retention (R428). -/
def State.pd9Wake (s : State) : State :=
  let s1 := (s.setBit 0x0F0004 31 false).modMem fun m => { m with lastReq := s.tick }
  s1.domFollow s

/-! ### Rings (R438) -/

/-- Bytes of an entry of ring `c`. -/
def ringEntry (c : Nat) : Nat := match c with | 2 => 4096 | 3 => 32 | _ => 256

/-- An entry of ring `c` is dropped: DROP and MEM_EVT.RING_DROP. -/
def State.ringDrop (s : State) (c : Nat) : State :=
  ((s.modRing c fun r => { r with ready := r.ready.drop 1 }).bumpSat (ringReg c 0x18) 1).raise 0x0F0008 (2 ^ (2 + c))

/-- The oldest entry that waits for ring `c` is not written. -/
def State.ringFail (s : State) (c : Nat) : State := if s.mem.rings[ringIx c].ready.isEmpty then s else s.ringDrop c

/-- The vector of ring `c` fires. -/
def State.ringFire (s : State) (c : Nat) : State := (s.fire (16 + c)).modRing c fun r => { r with firedAt := some s.tick, owed := false }

/-- MOD_US has passed since the vector's last firing. -/
def State.ringFree (s : State) (c : Nat) : Bool := match s.mem.rings[ringIx c].firedAt with
  | some t => decide (t + s.fld (ringReg c 0) 0 16 * ticksPerUs ≤ s.tick)
  | none => true

/-- PROD has advanced: with IRQ_EN the vector fires, no sooner than MOD_US after its previous firing. -/
def State.ringIrq (s : State) (c : Nat) : State :=
  if !s.bit (ringReg c 0) 30 then s
  else if s.ringFree c then s.ringFire c else s.modRing c fun r => { r with owed := true }

/-- MOD_US has run out with updates owed to the vector. -/
def State.ringOwed (s : State) (c : Nat) : State :=
  if s.mem.rings[ringIx c].owed && s.ringFree c then
    (if s.bit (ringReg c 0) 30 then s.ringFire c else s.modRing c fun r => { r with owed := false })
  else s

/-- The DMA channel is stopped (R437). -/
def State.dmaStopped (s : State) (ch : Nat) : Bool := s.bit 0x0F0004 (20 + ch)

/-- The link to the host is up. -/
def State.linkUp (s : State) : Bool := s.bit 0x0F0044 31

/-- The host address in BASE. -/
def State.ringBase (s : State) (c : Nat) : Nat := (s.rd (ringReg c 8)).toNat * 2 ^ 32 + (s.rd (ringReg c 4)).toNat

/-- The oldest ready entry of ring `c` is written, then the index word, then PROD advances; it is dropped where the ring is full, where the link is down, and after a reset of the host side until EN is set again (R438, R435). -/
def State.ringWrite (s : State) (c : Nat) : State :=
  match s.mem.rings[ringIx c].ready with
  | [] => s
  | e :: t =>
    let prod := s.rd (ringReg c 0x10)
    let size := (s.rd (ringReg c 0xC)).toNat
    if s.dmaStopped c then s
    else if !s.linkUp || s.mem.rings[ringIx c].halted || (prod - s.rd (ringReg c 0x14)).toNat = size then s.ringDrop c
    else
      let base := s.ringBase c
      let n := ringEntry c
      let ws : List HostWrite := [⟨base + prod.toNat % size * n, e⟩, ⟨base + size * n, leBytes 4 (prod + 1).toNat ++ [0, 0, 0, 0]⟩]
      (((s.modMem fun m => { m with toHost := ws }).modRing c fun r => { r with ready := t }).wr (ringReg c 0x10) (prod + 1)).ringIrq c

/-- MEM_RINGc_CTL: EN needs an aligned base; setting it ends a halt, clearing it discards what waits (R446, R438). -/
def State.ringCtl (s : State) (m : Master) (c : Nat) (v : Word) : State :=
  let off := ringReg c 0
  s.guardW m off v fun s =>
    let en := fget v 31 1 = 1
    if en && s.fld (ringReg c 4) 0 12 ≠ 0 then s.reject m off .align
    else
      let was := s.ringOn c
      let s1 := s.plainWrite m off v
      if en then
        let s2 := s1.modRing c fun r => { r with halted := false }
        if c = 4 && !was then { s2 with glb := { s2.glb with pmcSeq := 0 } } else s2
      else s1.modRing c fun r => { r with ready := [], owed := false }

/-- MEM_RINGc_BASE and SIZE: not while EN is 1; SIZE is a power of 2 (R446, Table 16.10). -/
def State.ringSet (s : State) (m : Master) (c o : Nat) (v : Word) : State :=
  let off := ringReg c o
  s.guardW m off v fun s =>
    if s.ringOn c then s.reject m off .state
    else if o = 0xC && !(List.range 17).any (fun i => v.toNat = 2 ^ i) then s.reject m off .range
    else s.plainWrite m off v

/-- MEM_RINGc_CONS: not later than PROD, and PROD − CONS at most SIZE (R438). -/
def State.ringCons (s : State) (m : Master) (c : Nat) (v : Word) : State :=
  let off := ringReg c 0x14
  s.guardW m off v fun s =>
    if (s.rd (ringReg c 0xC)).toNat < (s.rd (ringReg c 0x10) - v).toNat then s.reject m off .range
    else s.plainWrite m off v

/-! ### Owners of lines (R424, Table 16.1) -/

/-- The use code of the banks that hold an owner's lines (Table 2.4). -/
def ownerUse : LineOwner → Option Nat
  | .none => Option.none
  | .session _ => some 0
  | .frame _ _ => some 1
  | .cache _ _ | .dir _ _ | .ckpt _ => some 2
  | .gnss _ => some 3
  | .firmware _ => some 4
  | .ring _ => some 5

/-- A session slot is freed. -/
def State.sessionLost (s : State) (j : Nat) : State := s.setSession j none

/-- The `k`-th waiting request of a port is dropped and counted in PORTn_RX_ERR. -/
def State.frameLost (s : State) (p : Fin 16) (k : Nat) : State :=
  let s1 := s.bumpSat (portReg p 0x134) 1
  match (s1.svc.jobs.filter (fun j => j.rx.port = p.val))[k]? with
  | some j => (s1.modSvc fun v => { v with jobs := v.jobs.filter (fun x => !decide (x = j)) }).cyc j.rx.cluster false j.cycles
  | none => s1

/-- A cache line is invalidated. -/
def State.cacheLost (s : State) (n : KeyName) : State := s.modKey fun k => { k with cache := k.cache.filter (fun x => !decide (x.name = n)) }

/-- A directory entry is invalidated and its GMAC counter exhausted. -/
def State.dirLost (s : State) (n : KeyName) : State :=
  if s.key.dir.any (fun d => decide (d.name = n)) then
    (s.modKey fun k => { k with dir := k.dir.filter (fun d => !decide (d.name = n)) }).gmacSpend n
  else s

/-- A checkpoint slot stops being COMPLETE and is never used. -/
def State.ckptLost (s : State) (i : Fin 2) : State := (s.modCk i fun c => { c with complete := false, image := [], chunks := [] }).slotsShow

/-- The data of a satellite, by 256 × system + number, are discarded. -/
def State.gnssLost (s : State) (sv : Nat) : State :=
  { s with gnss := { s.gnss with db := s.gnss.db.filter (fun p => p.1 * 256 + p.2.1 ≠ sv) } }

/-- What an owner does about a failed line. -/
def State.ownerLost (s : State) (o : LineOwner) : State :=
  match o with
  | .none => s
  | .session j => s.sessionLost j
  | .frame p k => s.frameLost p k
  | .cache k i => s.cacheLost (keyNamed k i)
  | .dir k i => s.dirLost (keyNamed k i)
  | .ckpt i => s.ckptLost i
  | .gnss v => s.gnssLost v
  | .firmware _ => s
  | .ring c => s.ringFail (c.val + 2)

/-! ### Reading, writing and scrubbing lines -/

/-- The response to an initiator: an error, or data. -/
def State.sramResp (s : State) (init : Nat) (bad : Bool) (data : List Byte) : State :=
  s.modMem fun m => { m with resp := Sparse.set (fun _ => (false, [])) m.resp init (bad, data) }

/-- An access that the matrix refuses: outside the SRAM, an unpowered bank, or a bank outside the initiator's uses (R422, R429). -/
def State.sramRefused (s : State) (init line : Nat) : Bool :=
  let use := s.plt.plot.bankUse (bankOf line)
  decide (sramLines ≤ line) || !s.powered 9 || use = 7 || (init ≠ 31 && !Config.bankUses init use)

/-- The refusal: an error response, and GLB_ERR records ERR_DECODE (R422). -/
def State.sramReject (s : State) (init line : Nat) (write : Bool) : State :=
  (s.sramResp init true []).recordErr init .decode true write (64 * line)

/-- The syndrome of the SRAM events: initiator and line (R423, Table 15.4). -/
def sramSyn (init line : Nat) : Word := BitVec.ofNat 32 (init * 2 ^ 24 + line)

/-- A read passed at the second or third try (R423). -/
def State.sramCorr (s : State) (init line : Nat) : State :=
  let b := bankOf line
  let s1 := s.modMem fun m => { m with corr := Sparse.set (fun _ => 0) m.corr b (Sparse.get (fun _ => 0) m.corr b + 1) }
  (s1.raise 0x0F0008 2).faultPulse (0x0900 + b) .corrected (sramSyn init line)

/-- All three reads failed (R423): the owner acts as Table 16.1 states; a firmware line is restored from its other copy, and both lost are FATAL (R424). -/
def State.sramUncorr (s : State) (init line : Nat) (o : LineOwner) : State :=
  let b := bankOf line
  let own := if ownerUse o = some (s.plt.plot.bankUse b) then o else .none
  let restored := own = .firmware false
  let s1 := s.modMem fun m =>
    { m with
      uncorr := Sparse.set (fun _ => 0) m.uncorr b (Sparse.get (fun _ => 0) m.uncorr b + 1)
      failed := if restored then m.failed.filter (· ≠ line) else if m.failed.contains line then m.failed else m.failed ++ [line]
      scrubBad := m.scrubBad || decide (init = 31) }
  ((s1.raise 0x0F0008 4).ownerLost own).faultPulse (0x0A00 + b) (if own = .firmware true then .fatal else .uc) (sramSyn init line)

/-- SRAM_READ (R423): an initiator reads a line of which `fails` tries fail their CRC; a line that failed before and was not repaired fails again (R425). -/
def State.sramRead (s : State) (init line fails : Nat) (o : LineOwner) : State :=
  if s.sramRefused init line then s.sramReject init line false
  else
    let s1 := s.pd9Wake
    if 3 ≤ fails || s.mem.failed.contains line then (s1.sramResp init true []).sramUncorr init line o
    else
      let s2 := s1.sramResp init false (s.lineBytes line)
      if fails = 0 then s2 else s2.sramCorr init line

/-- SRAM_WRITE (R425, R426): bytes of one line from `at` on; a whole line repairs, part of one is a read-modify-write. -/
def State.sramWrite (s : State) (init line at' : Nat) (bytes : List Byte) (fails : Nat) (o : LineOwner) : State :=
  let data := bytes.take (64 - at')
  let put := fun (s : State) => (s.sramResp init false []).modMem fun m => { m with sram := putBytes m.sram (64 * line + at') data }
  if s.sramRefused init line then s.sramReject init line true
  else
    let s1 := s.pd9Wake
    if data.length = 64 then (put s1).modMem fun m => { m with failed := m.failed.filter (· ≠ line) }
    else if 3 ≤ fails || s.mem.failed.contains line then (s1.sramResp init true []).sramUncorr init line o
    else if fails = 0 then put s1 else (put s1).sramCorr init line

/-- One line of a scrub burst. -/
def State.scrubLine (s : State) (line fails : Nat) (o : LineOwner) : State :=
  if s.plt.plot.bankUse (bankOf line) = 7 then s
  else if 3 ≤ fails || s.mem.failed.contains line then s.sramUncorr 31 line o
  else if fails = 0 then s else s.sramCorr 31 line

/-- SCRUB_BURST (R427): 1,024 lines are read; `bad` lists those whose tries fail, by their place in the burst. A pass ends with the last line. -/
def State.scrubBurst (s : State) (bad : List (Fin 1024 × Fin 4 × LineOwner)) : State :=
  if !s.powered 9 then s
  else
    let a := s.mem.scrubLine
    let old := s.mem.failed.filter (fun l => decide (a ≤ l) && decide (l < a + 1024) && !bad.any (fun x => x.1.val + a = l))
    let s1 := bad.foldl (fun (s : State) x => s.scrubLine (a + x.1.val) x.2.1.val x.2.2) s.pd9Wake
    let s2 := old.foldl (fun (s : State) l => s.scrubLine l 3 .none) s1
    if a + 1024 < sramLines then s2.modMem fun m => { m with scrubLine := a + 1024 }
    else
      ((s2.modMem fun m => { m with scrubLine := 0, lastPass := some (s.tick, m.scrubBad), scrubBad := false }).bump 0x0F0024 1).raise 0x0F0008 1

/-- Ticks since the last completed pass, or since the first is awaited. -/
def State.scrubTicks (s : State) : Nat := s.tick - (match s.mem.lastPass with | some (t, _) => t | none => s.mem.passFrom)

/-- PD9_RETENTION_ENTER (R428): PD_MODE 2, no request for RET_IDLE µs, no cluster awake. -/
def State.pd9Retain (s : State) : State :=
  let awake := (List.range 4).any (fun c => s.clusState c = 1 || s.clusState c = 2)
  if s.powered 9 && s.plt.plot.pdMode 9 = 2 && !awake && decide (s.mem.lastReq + s.fld 0x0F0000 0 16 * ticksPerUs ≤ s.tick) then
    (s.setBit 0x0F0004 31 true).domFollow s
  else s

/-! ### DMA (R437) -/

/-- A fetch ends without an image (R58). -/
def State.fetchFail (s : State) : State :=
  let s1 := (((s.setFld 0x010008 0 3 0).setFld 0x010008 8 8 Err.state.code).wr 0x010010 (BitVec.ofNat 32 Err.state.code)).wr 0x010014 0
  { s1 with plt := { s1.plt with fetch := none, staging := [] } }

/-- The blob operation in flight on channel 1 fails: EXPORT_FAIL or IMPORT_FAIL (R437). -/
def State.blobFail (s : State) : State :=
  match s.key.ops with
  | .exporting _ _ :: _ => s.exportEnd false
  | o :: _ => (s.modKey fun k => { k with ops := k.ops.filter (fun x => !decide (x = o)) }).importFail .state
  | [] => match s.svc.fetching with
    | n :: _ => (s.importFail .state).fetchEnd n false
    | [] => s

/-- The operation in flight on a channel fails. -/
def State.dmaFail (s : State) (ch : Nat) : State :=
  match ch with
  | 0 => if s.plt.fetch = some .pcie then s.fetchFail else s
  | 1 => s.blobFail
  | c => s.ringFail c

/-- DMA_COMPLETION_ERROR (R437): the channel stops, the collector is told, the operation fails; the default reaction restarts the channel. -/
def State.dmaError (s : State) (ch : Fin 5) : State :=
  let s1 := (s.dmaFail ch).setBit 0x0F0004 (20 + ch.val) true
  ((s1.modMem fun m => { m with restart := Sparse.set (fun _ => none) m.restart ch.val (some (s.tick + 100 * ticksPerUs)) }).raise 0x0F0008 8).faultPulse 0x0B01 .uc (BitVec.ofNat 32 ch.val)

/-- A stopped channel runs again and its DMA_ERR bit clears. -/
def State.dmaRestart (s : State) (ch : Nat) : State :=
  if s.dmaStopped ch then
    (s.setBit 0x0F0004 (20 + ch) false).modMem fun m => { m with restart := Sparse.set (fun _ => none) m.restart ch none }
  else s

/-- Channels whose restart has come due. -/
def State.dmaTick (s : State) : State :=
  (List.range 5).foldl (fun (s : State) ch => match Sparse.get (fun _ => none) s.mem.restart ch with
    | some t => if t ≤ s.tick then s.dmaRestart ch else s
    | none => s) s

/-! ### Flash access (R443) -/

/-- The flash is in use by a transfer, the boot read or a FETCH_FLASH. -/
def State.flashBusy (s : State) : Bool := s.mem.qspi.isSome || s.pwr.boot = .reading || s.plt.fetch = some .flash

/-- The checks of MEM_QSPI_CMD (Table 16.11). -/
def State.qspiErr (s : State) (v : Word) : Option Err :=
  if fget v 9 4 ≠ 0 && !s.manufacture then some .range
  else if fget v 22 2 = 3 || fget v 13 2 = 3 || 32 < fget v 16 6 || 256 < fget v 0 9 then some .range
  else if s.flashBusy then some .busy else none

/-- MEM_QSPI_CMD starts one transfer. -/
def State.qspiCmd (s : State) (m : Master) (v : Word) : State :=
  s.guardW m 0x0F0204 v fun s =>
    match s.qspiErr v with
    | some e => s.reject m 0x0F0204 e
    | none => s.modMem fun q => { q with qspi := some ⟨v, s.rd 0x0F0208⟩, flashOut := [] }

/-- Four bytes of a transfer as a word, [31:24] first; bytes that the transfer does not fill are free values. -/
def State.wordIn (s : State) (l : List Byte) : Word × State :=
  let f := s.fresh 32
  let k := 8 * l.length
  if 32 ≤ k then (BitVec.ofNat 32 (beNat l), s) else (BitVec.ofNat 32 (beNat l * 2 ^ (32 - k) + f.1.toNat % 2 ^ (32 - k)), f.2)

/-- Bytes read from flash enter the FIFO as words; words beyond its 64 are lost. -/
def State.fifoFill (s : State) : Nat → List Byte → State
  | 0, _ => s
  | n + 1, l =>
    if l.isEmpty then s
    else
      let r := s.wordIn (l.take 4)
      (r.2.modMem fun m => { m with fifo := if m.fifo.length < 64 then m.fifo ++ [r.1] else m.fifo }).fifoFill n (l.drop 4)

/-- QSPI_TRANSFER_DONE: the transfer ends with the bytes that flash gave (R443). -/
def State.qspiDone (s : State) (data : List Byte) : State :=
  match s.mem.qspi with
  | none => s
  | some q =>
    let len := fget q.cmd 0 9
    let words := (len + 3) / 4
    let s1 := s.modMem fun m => { m with qspi := none }
    let s2 := if fget q.cmd 15 1 = 1 then s1.modMem fun m => { m with flashOut := m.fifo.take words, fifo := m.fifo.drop words }
      else s1.fifoFill 64 (data.take len)
    s2.raise 0x0F0008 0x80

/-- A push to MEM_QSPI_DATA. -/
def State.qspiPush (s : State) (m : Master) (v : Word) : State :=
  s.guardW m 0x0F0210 v fun s =>
    if 64 ≤ s.mem.fifo.length then s.reject m 0x0F0210 .busy else s.modMem fun q => { q with fifo := q.fifo ++ [v] }

/-- A read of MEM_QSPI_DATA pops; what an empty FIFO gives is a free value. -/
def State.qspiPop (s : State) (m : Master) : State :=
  match s.checkRead m 0x0F0210 with
  | some e => s.rejectRead m 0x0F0210 e
  | none => match s.mem.fifo with
    | w :: t => (s.modMem fun q => { q with fifo := t }).answer m.idx w
    | [] => let f := s.fresh 32; f.2.answer m.idx f.1

/-! ### The host side (R435, Table 16.4) -/

/-- A key of the held registers belongs to a master. -/
def heldBy (m : Nat) (k : Nat) : Bool := k / 2 ^ 24 = m

/-- The read-only latches of a master read 0 from now on. -/
def State.clearLatches (s : State) (m : Nat) : State :=
  (s.held.filter (fun p => heldBy m p.1 && (match findReg (p.1 % 2 ^ 24) with | some d => d.readOnly | none => true))).foldl
    (fun (s : State) p => s.hset m (p.1 % 2 ^ 24) 0) s

/-- PF_HOST_RESET: 0 FLR, 1 hot reset, 2 link down, 3 D3hot. -/
def State.hostReset (s : State) (kind : Fin 4) : State :=
  let s1 := (List.range 5).foldl (fun (s : State) ch => s.dmaFail ch) s
  let s2 := [2, 3, 4].foldl (fun (s : State) c => if s.ringOn c then s.modRing c fun r => { r with halted := true } else s) s1
  let s3 := (s2.stgLost 0).clearLatches 0
  match kind.val with
  | 0 => s3
  | 3 => s3.setBit 0x0F0044 23 true
  | _ => s3.setBit 0x0F0044 31 false

/-- VF_FLR: its latches read 0 and its armed cues are cancelled and counted. -/
def State.vfReset (s : State) (v : Fin 16) : State :=
  (List.finRange 16).foldl (fun (s : State) (c : Fin 16) =>
    if s.out.cues[c].arm.isSome && s.plt.plot.cueOwner c = v.val then s.cueCancel c true else s) (s.clearLatches (1 + v.val))

/-- D0_RETURN: the link is up with a speed and a width, and the host has enabled VFs. -/
def State.d0Return (s : State) (speed : Fin 8) (width vfEn : Nat) : State :=
  s.wr 0x0F0044 (BitVec.ofNat 32 (2 ^ 31 + speed.val * 2 ^ 28 + width % 16 * 2 ^ 24 + vfEn % 2 ^ 16))

/-! ### Computed registers -/

/-- MEM_STAT.DMA_BUSY. -/
def State.dmaBusy (s : State) (ch : Nat) : Bool :=
  match ch with
  | 0 => s.plt.fetch = some .pcie
  | 1 => !s.key.ops.isEmpty || !s.svc.fetching.isEmpty
  | c => !s.mem.rings[ringIx c].ready.isEmpty

/-- The computed registers of the block for a master (Table 16.9 to Table 16.11). -/
def State.memView (s : State) (m off : Nat) : Option Word :=
  let b := fget (s.hget m 0x0F000C) 0 5
  let q := fget (s.hget m 0x0F0030) 0 3
  let use := s.plt.plot.bankUse b
  match off with
  | 0x0F0004 =>
    let w := fset (s.rd off) 30 1 (b2n (decide (20 * ticksPerS < s.scrubTicks)))
    some ((List.range 5).foldl (fun w ch => fset w (25 + ch) 1 (b2n (s.dmaBusy ch))) w)
  | 0x0F0010 => some (BitVec.ofNat 32 (use * 2 ^ 29 + b2n (decide (use ≠ 7) && s.powered 9) * 2 ^ 28))
  | 0x0F0014 => some (BitVec.ofNat 32 (Sparse.get (fun _ => 0) s.mem.corr b))
  | 0x0F0018 => some (BitVec.ofNat 32 (Sparse.get (fun _ => 0) s.mem.uncorr b))
  | 0x0F0020 => some (BitVec.ofNat 32 (min (s.scrubTicks / ticksPerMs) 0xFFFFFFFF))
  | 0x0F0034 => some (BitVec.ofNat 32 (s.plt.plot.qosWeight q * 2 ^ 24 + s.plt.plot.qosMaxOut q * 2 ^ 16))
  | 0x0F020C => some (fset (fset (s.rd off) 31 1 (b2n s.flashBusy)) 0 7 s.mem.fifo.length)
  | _ => none

end Sys2Proof.Machine
end

