-- ==== Sys2Proof/Machine/Out.lean ====
section
/-! DEFINITION. Sys2Proof/Machine/Out.lean: the meanings of the output, synthesiser and cue commands (spec/12_outputs_cues.md). -/
namespace Sys2Proof.Machine

/-- APLL0 loses lock: OUT_EVT.APLL0_LOST and a FATAL event (R321). -/
def State.apll0Lost (s : State) : State :=
  if !s.apll0Locked then s
  else (((s.setBit 0x0B0000 0 false).raise 0x0B0068 1).outsSettle).faultSignal 0x0100 0

/-- APLLk loses lock: its outputs take the curtain behaviour and the collector is told (R339). -/
def State.apllLost (s : State) (k : Fin 4) : State :=
  if !s.bit (apllReg k 4) 31 then s
  else
    let s1 := (s.setBit (apllReg k 4) 31 false).setFld (apllReg k 4) 0 16 (min (s.fld (apllReg k 4) 0 16 + 1) 0xFFFF)
    let mine := fun j => s.outPll j = k.val && s.plt.plot.outMode j ≠ 0
    let s2 := (List.finRange 12).foldl (fun s (j : Fin 12) =>
      if mine j.val then ((s.setBit (outReg j 4) 26 true).raise (outReg j 8) 0x10).outHoldOff j else s) s1
    (s2.raise 0x0B0068 (8 * 2 ^ k.val)).faultSignal (0x0D01 + k.val) 0

/-- APLLk locks: its outputs are released under R340. -/
def State.apllLocks (s : State) (k : Fin 4) : State :=
  if s.bit (apllReg k 4) 31 then s
  else
    let s1 := s.setBit (apllReg k 4) 31 true
    let s2 := (List.finRange 12).foldl (fun s (j : Fin 12) =>
      if s.outPll j = k.val then (s.setBit (outReg j 4) 26 false).outRelease j (s.outSquelch j) else s) s1
    s2.faultClear (0x0D01 + k.val)

/-- OUT_APLLk_CTL.TB (R324). -/
def State.apllTb (s : State) (m : Master) (k : Fin 4) (v : Word) : State :=
  s.guardW m (apllReg k 0) v fun s =>
    if s.bit (apllReg k 4) 30 then s.reject m (apllReg k 0) .state
    else if !s.plt.plot.tbPresent (fget v 0 6) || s.plt.plot.apllFreq (k.val + 1) = 0 then s.reject m (apllReg k 0) .plot
    else ((s.wr (apllReg k 0) v).setBit (apllReg k 4) 25 true).outsSettle

/-- The rate move of APLLk ends: it runs at its slave time base's rate, or at its DPLL's (R323, R324). -/
def State.apllMoved (s : State) (k : Fin 4) : State :=
  if !s.bit (apllReg k 4) 25 then s
  else
    let t : Fin 64 := ⟨s.fld (apllReg k 0) 0 6, Nat.lt_of_lt_of_le (Nat.mod_lt _ (by decide)) (by decide)⟩
    ((s.modApll k fun a => { a with rate := if s.bit (apllReg k 4) 30 then a.rate else s.tbEffInc t }).setBit (apllReg k 4) 25 false).outsSettle

/-- Moves `a` toward `b` by at most `d`. -/
def toward (a b : Int) (d : Nat) : Int := if a < b then min b (a + d) else max b (a - d)

/-- The aligner of output `k` compares: phase error `e` in ps, positive late (R328, R329, R331). The DLL control it leaves is a free value in its range (assumption 12). -/
def State.alignCompare (s : State) (k : Fin 12) (e : Int) : State :=
  let s := s.outSettle k
  if s.bit (outReg k 4) 27 || s.outState k = 0 then s
  else
    let s1 := ((s.wr (outReg k 0x20) (sat32 e)).modOut k fun o =>
      { o with phOfs := toward o.phOfs (signed 32 (s.rd (outReg k 0xC)).toNat) 5000,
               pulseW := (s.rd (outReg k 0x14)).toNat })
    match s.outState k with
    | 2 => if e.natAbs ≤ 1000 then (s1.outEnter k 3).raise (outReg k 8) 1 else s1
    | 3 =>
      if 1600 < e.natAbs then
        let s2 := (s1.outEnter k 2).raise (outReg k 8) 2
        if s.bit (outReg k 0) 1 then s2.outLow k else s2
      else
        let r := s1.fresh 32
        r.2.wr (outReg k 0x24) (BitVec.ofInt 32 (((r.1.toNat % 16001 : Nat) : Int) - 8000))
    | _ => s1

/-- A restarting output takes its first rising edge at the first grid instant at least 10 µs after the event, once its APLL is locked (R329, R334). -/
def State.outRestart (s : State) (k : Fin 12) : State :=
  match s.out.outs[k].restartFrom with
  | none => s
  | some t =>
    if t + 10 * ticksPerUs ≤ s.tick && s.gridDue k && !s.bit (outReg k 4) 27 && !s.muted && s.bit (apllReg (s.outPll k) 4) 31 then
      s.modOut k fun o => { o with low := false, restartFrom := none, pulseW := (s.rd (outReg k 0x14)).toNat }
    else s

/-- OUTk_PH_OFS: −8,000 to +8,000 steps of 0.2 ps; the edge moves at the compare (R331). -/
def State.outPhOfs (s : State) (m : Master) (k : Fin 12) (v : Word) : State :=
  s.guardW m (outReg k 0xC) v fun s =>
    if 8000 < (signed 32 v.toNat).natAbs then s.reject m (outReg k 0xC) .range else s.wr (outReg k 0xC) v

/-- OUTk_PULSE_W (R327). -/
def State.outPulseW (s : State) (m : Master) (k : Fin 12) (v : Word) : State :=
  s.guardW m (outReg k 0x14) v fun s =>
    let f := s.plt.plot.outFreq k
    if !pulseFreq f then s.reject m (outReg k 0x14) .state
    else if v.toNat ≠ 0 && (v.toNat < 100 || 10 ^ 15 < (v.toNat + 100) * f) then s.reject m (outReg k 0x14) .range
    else s.wr (outReg k 0x14) v

/-- OUTk_CTL: MUTE squelches at once, its clearing restarts (R339, R340); REALIGN and IRQ_EN are plain. -/
def State.outCtl (s : State) (m : Master) (k : Fin 12) (v : Word) : State :=
  s.guardW m (outReg k 0) v fun s =>
    let was := s.bit (outReg k 0) 0
    let s1 := s.plainWrite m (outReg k 0) v
    if fget v 0 1 = 1 && !was then s1.outHoldOff k
    else if fget v 0 1 = 0 && was then s1.outRelease k true
    else s1

/-- A glide ends once its time has run (R332). -/
def State.glideDone (s : State) (k : Fin 12) : State :=
  match s.out.outs[k].glide with
  | none => s
  | some g =>
    if g.start + g.ms * ticksPerMs ≤ s.tick then
      (((s.modOut k fun o => { o with glide := none, freq := g.toF }).setBit (outReg k 4) 28 false).raise (outReg k 8) 4).outSettle k
    else s

/-- SYSPLL loses lock: the consumers go to the bypass clock of 625 MHz (R338). -/
def State.sysLost (s : State) : State :=
  if !s.sysLocked then s
  else ((((s.setBit 0x0B0064 31 false).setBit 0x0B0064 30 true).setBit 0x0B0064 29 false).setFld 0x0B0064 0 16 625
    |>.raise 0x0B0068 2).faultSignal 0x0C00 0

/-- SYSPLL has held lock for 100 µs: CORE_CLK returns at SYS_MIN_MHZ (R338), or at 750 MHz while no plot gives one (R476). -/
def State.sysLocks (s : State) : State :=
  if s.sysLocked then s
  else ((((s.setBit 0x0B0064 31 true).setBit 0x0B0064 30 false).setFld 0x0B0064 0 16 (max 750 s.plt.plot.sysMin)).raise 0x0B0068 4).faultClear 0x0C00

/-- The spread-spectrum depth is legal for its mode (Table 12.13). -/
def sscOk (v : Word) : Bool :=
  match fget v 0 2 with
  | 0 => true
  | 1 => 1 ≤ fget v 4 4 && fget v 4 4 ≤ 10
  | 2 => 1 ≤ fget v 4 4 && fget v 4 4 ≤ 5
  | _ => false

/-- OUT_SYS_CTL (R336): the setting in `ssc` holds from the next modulation period. -/
def State.sysCtl (s : State) (m : Master) (v : Word) : State :=
  s.guardW m 0x0B0060 v fun s =>
    if !sscOk v then s.reject m 0x0B0060 .range
    else
      let s1 := s.plainWrite m 0x0B0060 v
      { s1 with out := { s1.out with ssc := BitVec.ofNat 32 (fget v 0 8) } }

/-- APLL0_LOCK_LOST (R321). -/
def execApll0LockLost (s : State) : Out1 := .next s.apll0Lost
/-- APLL_LOCK_LOST (R339). -/
def execApllLockLost (k : Fin 4) (s : State) : Out1 := .next (s.apllLost k)
/-- APLL_RELOCKED (R340). -/
def execApllRelocked (k : Fin 4) (s : State) : Out1 := .next (s.apllLocks k)
/-- APLL_TB_WRITE (R324). -/
def execApllTbWrite (m : Master) (k : Fin 4) (v : Word) (s : State) : Out1 := .next (s.apllTb m k v)
/-- APLL_RATE_MOVE_DONE (R324). -/
def execApllRateMoveDone (k : Fin 4) (s : State) : Out1 := .next (s.apllMoved k)
/-- ALIGNER_COMPARE (R328). -/
def execAlignerCompare (k : Fin 12) (e : Int) (s : State) : Out1 := .next (s.alignCompare k e)
/-- OUTPUT_RESTART (R329). -/
def execOutputRestart (k : Fin 12) (s : State) : Out1 := .next (s.outRestart k)
/-- OUT_PH_OFS_WRITE (R331). -/
def execOutPhOfsWrite (m : Master) (k : Fin 12) (v : Word) (s : State) : Out1 := .next (s.outPhOfs m k v)
/-- OUT_PULSE_W_WRITE (R327). -/
def execOutPulseWWrite (m : Master) (k : Fin 12) (v : Word) (s : State) : Out1 := .next (s.outPulseW m k v)
/-- OUT_MUTE_WRITE (R339): a write of OUTk_CTL. -/
def execOutMuteWrite (m : Master) (k : Fin 12) (v : Word) (s : State) : Out1 := .next (s.outCtl m k v)
/-- GLIDE_DONE (R332). -/
def execGlideDone (k : Fin 12) (s : State) : Out1 := .next (s.glideDone k)
/-- SYSPLL_LOCK_LOST (R338). -/
def execSyspllLockLost (s : State) : Out1 := .next s.sysLost
/-- SYSPLL_RELOCKED (R338). -/
def execSyspllRelocked (s : State) : Out1 := .next s.sysLocks
/-- SSC_WRITE (R336). -/
def execSscWrite (m : Master) (v : Word) (s : State) : Out1 := .next (s.sysCtl m v)
/-- CUE_ARM (R343). -/
def execCueArm (m : Master) (c : Fin 16) (s : State) : Out1 := .next (s.cueArmCmd m c)
/-- CUE_DISARM (R347). -/
def execCueDisarm (m : Master) (c : Fin 16) (s : State) : Out1 := .next (s.cueDisarmCmd m c)
/-- CUE_FIRE (R344). -/
def execCueFire (c : Fin 16) (s : State) : Out1 := .next (s.cueTick c)
/-- CUE_PULSE_END (R344). -/
def execCuePulseEnd (c : Fin 16) (s : State) : Out1 := .next (s.cueEnd c)

end Sys2Proof.Machine
end

