-- ==== Sys2Proof/Machine/Ref.lean ====
section
/-! DEFINITION. Sys2Proof/Machine/Ref.lean: the meanings of the commands and events of references and selectors (spec/05_references.md). -/
namespace Sys2Proof.Machine

/-- REFn_CTL.EN is set: Table 5.4, first row; ACT is live until the first arrival (R121), a CLKIN identifies its rate (R123), a disqualification by the host or by class 7 stands. -/
def State.refEnable (s : State) (k : Fin 24) : State :=
  let s1 := ((s.refEnter k 1).setBit (refReg k 4) 28 false).modRef k fun r =>
    { r with timer := none, softClear := none, glitchEnd := none, lastMsg := none, phase := none }
  let on := 1 + (if s.bit (refReg k 0) 1 then 0x800 else 0) + (if s.refQ k / 256 = 7 then 0x400 else 0)
  let s2 := ((s1.refLive k on 0).identify k).calSettle (s.calTarget k).1 (s.calTarget k).2
  s2.selEvalAll.selFollow s

/-- REFn_CTL.EN is cleared: UNUSED, the live bits clear, the history stays (Table 5.4). -/
def State.refDisable (s : State) (k : Fin 24) : State :=
  let s1 := ((s.refEnter k 0).setFld (refReg k 4) 0 12 0).modRef k fun r =>
    { r with timer := none, softClear := none, glitchEnd := none, identifying := false }
  s1.selEvalAll.selFollow s

/-- A CLKIN slot with RATE_LIST 0 has a usable nominal rate (R148). -/
def State.nomOk (s : State) (k : Nat) : Bool :=
  !(isClkin (s.plt.plot.refSource k) && s.plt.plot.refRateList k = 0) ||
    (decide (1000000 ≤ s.refNom k) && decide (s.refNom k ≤ 1000000000000000))

/-- A write of REFn_CTL (Table 5.11): EN, HOST_DISQ and the enables. -/
def State.refCtl (s : State) (m : Master) (k : Fin 24) (v : Word) : State :=
  s.guardW m (refReg k 0) v fun s =>
    let en := fget v 0 1 = 1
    let was := s.bit (refReg k 0) 0
    if en && !was && !s.nomOk k then s.reject m (refReg k 0) .state
    else
      let s1 := s.plainWrite m (refReg k 0) v
      if en && !was then s1.refEnable k
      else if !en && was then s1.refDisable k
      else if fget v 1 1 = 1 then s1.refMonitor k 0x800 0 else s1.refMonitor k 0 0x800

/-- ACT_DEADLINE: the deadline tick has come without an arrival (R121). -/
def State.actCheck (s : State) (k : Fin 24) : State :=
  match s.actDeadline k with
  | none => s
  | some t => if t ≤ s.tick then s.refSilent k else s

/-- GLITCH_DETECTED (R122). -/
def State.glitch (s : State) (k : Fin 24) : State :=
  if s.refState k = 0 then s
  else
    (s.modRef k fun r => { r with glitches := r.glitches + 1, glitchEnd := some (s.tick + 100 * ticksPerMs) }).refMonitor k 2 0

/-- GLITCH_HOLD_EXPIRE: 100 ms after the last glitch (R122). -/
def State.glitchOver (s : State) (k : Fin 24) : State :=
  match s.refs[k].glitchEnd with
  | none => s
  | some t => if t ≤ s.tick then (s.modRef k fun r => { r with glitchEnd := none }).refClear k 2 else s

/-- The position and rate of the first listed rate within 1 × 10⁻³ of a measured rate (R123). -/
def matchRate (f : Nat) (l : List Nat) : Option (Nat × Nat) :=
  ((List.range l.length).zip l).find? (fun p => decide (((p.2 : Int) - f).natAbs * 1000 ≤ f))

/-- RATE_IDENTIFIED: an identification ends with the measured rate `f` in µHz (R123). -/
def State.rateFound (s : State) (k : Fin 24) (f : Nat) : State :=
  if !s.refs[k].identifying then s
  else match matchRate f (s.refRates k) with
    | none => s
    | some p =>
      ((s.modRef k fun r => { r with identifying := false, rate := p.2 }).setFld (refReg k 4) 24 3 p.1).refMonitor k 0 8

/-- REFn_MEAS of one 10 ms update (R148). -/
def State.publishMeas (s : State) (k : Fin 24) (y : Int) : State :=
  let r := s.refs[k]
  let left := match r.timer with | some t => divUp (t - s.tick) ticksPerS | none => 0
  s.wrAll (refReg k 0x60)
    [sat32 (divAway y 1000), sat32 r.ensFf, sat32 r.ensPh, BitVec.ofNat 32 r.loss, BitVec.ofNat 32 r.fpp, BitVec.ofNat 32 left, r.glitches]

/-- FREQ_MONITOR_EVAL: the fractional frequency `y` over the window, in 10⁻¹⁵ (R123, R124, R128). -/
def State.freqEval (s : State) (k : Fin 24) (y : Int) : State :=
  if s.refState k = 0 then s
  else
    let hard := decide ((s.rd (refReg k 0x20)).toNat * 1000 < y.natAbs)
    let softLim := (s.rd (refReg k 0x1C)).toNat
    let soft := decide (softLim * 1000 < y.natAbs)
    let back := decide (y.natAbs ≤ softLim * 800)
    let lost := decide (1000000000000 < y.natAbs) && !s.refs[k].identifying
    let s1 := s.publishMeas k y
    let s2 := if lost then s1.identify k else s1
    let s3 := (s2.refLive k ((if hard then 0x10 else 0) + (if soft then 0x20 else 0))
      ((if hard then 0 else 0x10) + (if back then 0x20 else 0))).refSettle k
    if s3.refState k ≠ s.refState k then s3.selEvalAll.selFollow s else s3

/-- Per mille, rounded up. -/
def perMille (a b : Nat) : Nat := if b = 0 then 0 else divUp (a * 1000) b

/-- The smallest of a list. -/
def minInt (l : List Int) : Int := l.foldl (fun a b => min a b) (l.getD 0 0)

/-- PACKET_MONITOR_EVAL: loss and floor-packet percentage over REFn_PKT_WIN (R127, R128). -/
def State.packetEval (s : State) (k : Fin 24) : State :=
  if s.refState k = 0 || !isPtp (s.plt.plot.refSource k) then s
  else
    let w := (s.rd (refReg k 0x4C)).toNat * ticksPerS
    let sy := s.refs[k].syncs.filter (fun (p : Nat × Nat × Int) => s.tick ≤ p.1 + w)
    let rs := s.refs[k].resps.filter (fun (p : Nat × Int) => s.tick ≤ p.1 + w)
    let ds := sy.map (fun p => p.2.2)
    let dr := rs.map (fun p => p.2)
    let cl : Int := (s.rd (refReg k 0x50)).toNat * 1000
    let missing := sy.foldl (fun a (p : Nat × Nat × Int) => a + p.2.1) 0
    let expected := sy.length + missing
    let hits := (ds.filter (fun d => decide (d ≤ minInt ds + cl))).length + (dr.filter (fun d => decide (d ≤ minInt dr + cl))).length
    let total := ds.length + dr.length
    let lossOver := fun lim => decide (lim * expected < missing * 1000)
    let fppUnder := fun lim => decide (hits * 1000 < lim * total)
    let lossReg := s.rd (refReg k 0x54)
    let fppReg := s.rd (refReg k 0x58)
    let hard := lossOver (fget lossReg 16 16) || fppUnder (fget fppReg 16 16)
    let soft := lossOver (fget lossReg 0 16) || fppUnder (fget fppReg 0 16)
    let back := decide (missing * 10000 ≤ 8 * fget lossReg 0 16 * expected) && decide (5 * fget fppReg 0 16 * total ≤ 4 * hits * 1000)
    let s1 := s.modRef k fun r => { r with syncs := sy, resps := rs, loss := perMille missing expected, fpp := perMille hits total }
    if total = 0 then s1
    else s1.refMonitor k ((if hard then 0x100 else 0) + (if soft then 0x200 else 0))
      ((if hard then 0 else 0x100) + (if back then 0x200 else 0))

/-- ESMC_ABSENCE_TIMEOUT: 5 s without an information PDU is QL-FAILED (R127). -/
def State.esmcAbsent (s : State) (k : Fin 24) : State :=
  if isSyncE (s.plt.plot.refSource k) && decide (s.refs[k].lastEsmc + 5 * ticksPerS ≤ s.tick) then s.advertise k 0x7FE 0 else s

/-- QUAL_TIMER_EXPIRE: a timer has run its length and no hard bit is live (R131, R132). -/
def State.qualExpire (s : State) (k : Fin 24) : State :=
  match s.refs[k].timer with
  | none => s
  | some t =>
    if s.refState k = 1 && decide (t ≤ s.tick) && s.live k &&& hardMask = 0 then
      let s1 := ((s.modRef k fun r => { r with timer := none, softClear := none }).setBit (refReg k 4) 28 false).refEnter k
        (if s.live k &&& softMask = 0 then 2 else 3)
      s1.selEvalAll.selFollow s
    else s

/-- DEG_CLEAR_EXPIRE: every soft bit clear for REFn_DEG_CLEAR (Table 5.4). -/
def State.degExpire (s : State) (k : Fin 24) : State :=
  match s.refs[k].softClear with
  | none => s
  | some t =>
    if s.refState k = 3 && decide (t + s.refSecs k 0x48 ≤ s.tick) && s.live k &&& softMask = 0 then
      ((s.modRef k fun r => { r with softClear := none }).refEnter k 2).selEvalAll.selFollow s
    else s

/-- SWITCH_COMPLETE: the remaining distance reaches zero (R142). -/
def State.switchDone (s : State) (d : Fin 16) : State :=
  if s.switching d && decide (s.sels[d].remain.natAbs ≤ s.pullReach d) then
    ((s.setRemain d 0).setBit (selReg d 0x10) 29 false).raise (selReg d 0x14) 4
  else s

/-- REFn_PH_COMP: −100,000,000 to +100,000,000 ps, taken up by the next sample (R119, R145). -/
def State.phComp (s : State) (m : Master) (k : Fin 24) (v : Word) : State :=
  s.guardW m (refReg k 0x3C) v fun s =>
    if 100000000 < (signed 32 v.toNat).natAbs then s.reject m (refReg k 0x3C) .range
    else (s.plainWrite m (refReg k 0x3C) v).modRef k fun r => { r with compPend := some (signed 32 v.toNat) }

/-- REFn_PRIO: acts at the evaluation it triggers (R139). -/
def State.refPrioW (s : State) (m : Master) (k : Fin 24) (v : Word) : State :=
  s.guardW m (refReg k 0x10) v fun s =>
    let s1 := s.plainWrite m (refReg k 0x10) v
    ((List.finRange 16).foldl (fun s (d : Fin 16) => if s.bit (selReg d 4) k then s.selEval d else s) s1).selFollow s

/-- SELd_CTL (R139, R140). -/
def State.selCtl (s : State) (m : Master) (d : Fin 16) (v : Word) : State :=
  s.guardW m (selReg d 0) v fun s => ((s.plainWrite m (selReg d 0) v).selEval d).selFollow s

/-- The checks of SELd_CAND (R136). -/
def State.candErr (s : State) (d : Fin 16) (v : Word) : Option Err :=
  let set := fun (k : Nat) => fget v k 1 = 1
  if (List.range 24).any (fun k => set k && s.plt.plot.refSource k = 0) then some .plot
  else if (s.loopTb d).isSome && (List.range 24).any (fun k => set k && !s.timeKind k) then some .range
  else none

/-- SELd_CAND (R136, R139). -/
def State.selCand (s : State) (m : Master) (d : Fin 16) (v : Word) : State :=
  s.guardW m (selReg d 4) v fun s =>
    match s.candErr d v with
    | some e => s.reject m (selReg d 4) e
    | none => ((s.plainWrite m (selReg d 4) v).selEval d).selFollow s

/-- SELd_QHOLD: the value in force on each tick decides whether a hold has run (R138). -/
def State.selQhold (s : State) (m : Master) (d : Fin 16) (v : Word) : State :=
  s.guardW m (selReg d 0xC) v fun s => s.plainWrite m (selReg d 0xC) v

/-- The state in which REFn_NOM may be written (R148). -/
def State.nomLocked (s : State) (k : Nat) : Bool := s.bit (refReg k 0) 0 || s.plt.plot.refRateList k ≠ 0

/-- REFn_NOM_LO: held per master (R148). -/
def State.nomLo (s : State) (m : Master) (k : Fin 24) (v : Word) : State :=
  s.guardW m (refReg k 0x14) v fun s =>
    if s.nomLocked k then s.reject m (refReg k 0x14) .state
    else (s.hset m.idx (refReg k 0x14) v).mark m.idx (refReg k 0x14) true

/-- REFn_NOM_HI: the combined 64-bit value, 1 Hz to 1 GHz in µHz (R148). -/
def State.nomHi (s : State) (m : Master) (k : Fin 24) (v : Word) : State :=
  s.guardW m (refReg k 0x18) v fun s =>
    let x := v.toNat * 2 ^ 32 + (s.hget m.idx (refReg k 0x14)).toNat
    if s.nomLocked k then s.reject m (refReg k 0x18) .state
    else if !s.marked m.idx (refReg k 0x14) then s.reject m (refReg k 0x18) .seq
    else if x < 1000000 || 1000000000000000 < x then s.reject m (refReg k 0x18) .range
    else ((s.wr (refReg k 0x14) (BitVec.ofNat 32 x)).wr (refReg k 0x18) v).mark m.idx (refReg k 0x14) false

/-- REFn_MEAS_FF: latches the rest of the update for the reading master (R148). -/
def State.measRead (s : State) (m : Master) (k : Fin 24) : State :=
  match s.checkRead m (refReg k 0x60) with
  | some e => s.rejectRead m (refReg k 0x60) e
  | none =>
    (s.hsetAll m.idx (refReg k 0x64) ((List.range 6).map fun i => s.rd (refReg k (0x64 + 4 * i)))).answer m.idx (s.rd (refReg k 0x60))

/-- REF_ENABLE (R131): a write of REFn_CTL. -/
def execRefEnable (m : Master) (k : Fin 24) (v : Word) (s : State) : Out1 := .next (s.refCtl m k v)
/-- REF_DISABLE (R131): a write of REFn_CTL. -/
def execRefDisable (m : Master) (k : Fin 24) (v : Word) (s : State) : Out1 := .next (s.refCtl m k v)
/-- HOST_DISQ_WRITE (R120): a write of REFn_CTL. -/
def execHostDisqWrite (m : Master) (k : Fin 24) (v : Word) (s : State) : Out1 := .next (s.refCtl m k v)
/-- ACT_DEADLINE (R121). -/
def execActDeadline (k : Fin 24) (s : State) : Out1 := .next (s.actCheck k)
/-- GLITCH_DETECTED (R122). -/
def execGlitchDetected (k : Fin 24) (s : State) : Out1 := .next (s.glitch k)
/-- GLITCH_HOLD_EXPIRE (R122). -/
def execGlitchHoldExpire (k : Fin 24) (s : State) : Out1 := .next (s.glitchOver k)
/-- RATE_IDENTIFIED (R123). -/
def execRateIdentified (k : Fin 24) (f : Nat) (s : State) : Out1 := .next (s.rateFound k f)
/-- FREQ_MONITOR_EVAL (R124). -/
def execFreqMonitorEval (k : Fin 24) (y : Int) (s : State) : Out1 := .next (s.freqEval k y)
/-- ENSEMBLE_VERDICT (R125). -/
def execEnsembleVerdict (s : State) : Out1 := .next s.ensemble
/-- PACKET_MONITOR_EVAL (R127). -/
def execPacketMonitorEval (k : Fin 24) (s : State) : Out1 := .next (s.packetEval k)
/-- ESMC_ABSENCE_TIMEOUT (R127). -/
def execEsmcAbsenceTimeout (k : Fin 24) (s : State) : Out1 := .next (s.esmcAbsent k)
/-- QUAL_TIMER_EXPIRE (R131). -/
def execQualTimerExpire (k : Fin 24) (s : State) : Out1 := .next (s.qualExpire k)
/-- DEG_CLEAR_EXPIRE (R131). -/
def execDegClearExpire (k : Fin 24) (s : State) : Out1 := .next (s.degExpire k)
/-- SWITCH_COMPLETE (R142). -/
def execSwitchComplete (d : Fin 16) (s : State) : Out1 := .next (s.switchDone d)
/-- ADVERTISED_QUALITY_CHANGE (R134). -/
def execAdvertisedQualityChange (k : Fin 24) (q : AdvQuality) (s : State) : Out1 :=
  .next (s.advertise k (qualityOf q).1 (qualityOf q).2)
/-- QHOLD_EXPIRE (R138). -/
def execQholdExpire (d : Fin 16) (k : Fin 24) (s : State) : Out1 := .next (s.qholdEnd d k)
/-- REF_PH_COMP_WRITE (R145). -/
def execRefPhCompWrite (m : Master) (k : Fin 24) (v : Word) (s : State) : Out1 := .next (s.phComp m k v)
/-- REF_PRIO_WRITE (R139). -/
def execRefPrioWrite (m : Master) (k : Fin 24) (v : Word) (s : State) : Out1 := .next (s.refPrioW m k v)
/-- SEL_CTL_WRITE (R140). -/
def execSelCtlWrite (m : Master) (d : Fin 16) (v : Word) (s : State) : Out1 := .next (s.selCtl m d v)
/-- SEL_CAND_WRITE (R136). -/
def execSelCandWrite (m : Master) (d : Fin 16) (v : Word) (s : State) : Out1 := .next (s.selCand m d v)
/-- SEL_QHOLD_WRITE (R138). -/
def execSelQholdWrite (m : Master) (d : Fin 16) (v : Word) (s : State) : Out1 := .next (s.selQhold m d v)
/-- REF_NOM_LO_WRITE (R148). -/
def execRefNomLoWrite (m : Master) (k : Fin 24) (v : Word) (s : State) : Out1 := .next (s.nomLo m k v)
/-- REF_NOM_HI_WRITE (R148). -/
def execRefNomHiWrite (m : Master) (k : Fin 24) (v : Word) (s : State) : Out1 := .next (s.nomHi m k v)
/-- REF_MEAS_FF_READ (R148). -/
def execRefMeasFfRead (m : Master) (k : Fin 24) (s : State) : Out1 := .next (s.measRead m k)
/-- REF_PHASE_SAMPLE (R112): the phase of the slot against TB0 in 2⁻⁵⁶ ns. -/
def execRefPhaseSample (k : Fin 24) (phase : Int) (touched : Bool) (s : State) : Out1 := .next (s.refSample k phase s.tick touched)
/-- PAIR_COMPARISON (R114). -/
def execPairComparison (s : State) : Out1 := .next s.pairCompare
/-- TDC_PAIR_PH_LO_READ (R115). -/
def execTdcPairPhLoRead (m : Master) (s : State) : Out1 := .next (s.pairRead m)

end Sys2Proof.Machine
end

