-- ==== Sys2Proof/Machine/Tdc.lean ====
section
/-! DEFINITION. Sys2Proof/Machine/Tdc.lean: meanings of the commands and events of the TDC block (spec/04_tdc_measurement.md). -/
namespace Sys2Proof.Machine

/-- TDC_ARM (R107). -/
def execTdcArm (m : Master) (n : Fin 24) (s : State) : Out1 := .next (s.tdcArmCmd m n)
/-- TDC_DISARM (R108). -/
def execTdcDisarm (m : Master) (n : Fin 24) (s : State) : Out1 := .next (s.tdcDisarmCmd m n)
/-- TDC_FLUSH (R108). -/
def execTdcFlush (m : Master) (n : Fin 24) (s : State) : Out1 := .next (s.tdcFlushCmd m n)
/-- TDC_WINDOW_OPEN (R102). -/
def execTdcWindowOpen (n : Fin 24) (s : State) : Out1 := .next (s.tdcTryOpen n)
/-- TDC_EPOCH_START (R101). -/
def execTdcEpochStart (n : Fin 24) (s : State) : Out1 := .next (s.tdcTryStart n)
/-- TDC_EDGE (R103): an edge at the input of channel `i` on this tick, at `tap`; `sat` where the delay line had no transition for it. -/
def execTdcEdge (i : Fin 24) (tap : Fin 512) (fall sat : Bool) (s : State) : Out1 := .next (s.tdcEdgeAt i tap.val fall sat)
/-- TDC_WINDOW_CLOSE (R105). -/
def execTdcWindowClose (n : Fin 24) (s : State) : Out1 := .next (s.tdcTryClose n)
/-- TDC_WINDOW_TIMEOUT (R102). -/
def execTdcWindowTimeout (n : Fin 24) (s : State) : Out1 := .next (s.tdcTryTimeout n)
/-- TDC_FIFO_LO_READ (R109). -/
def execTdcFifoLoRead (m : Master) (n : Fin 24) (s : State) : Out1 := .next (s.tdcFifoRead m n)
/-- TDC_TICK_LO_READ (R96). -/
def execTdcTickLoRead (m : Master) (s : State) : Out1 := .next (s.tdcTickRead m)

/-- A delay line leaves lock (R93): its LOCKED bit clears and its CAL_LOST bit is set. -/
def State.tdcLose (s : State) (n : Fin 24) : State :=
  let s1 := ((s.setBit 0x030010 n.val false).modTdc n fun c => { c with lostAt := some (c.lostAt.getD s.tick) }).raise 0x030014 (2 ^ n.val)
  s1.refineFollow s

/-- A delay line locks (R93, R94): a loss of up to 10 ms is a CORRECTED event, a longer one ends its fault. -/
def State.tdcRegain (s : State) (n : Fin 24) : State :=
  let s1 := (s.setBit 0x030010 n.val true).modTdc n fun c => { c with lostAt := none }
  match s.tdc.ch[n].lostAt with
  | none => s1
  | some t => if s.tick ≤ t + 10 * ticksPerMs then s1.faultPulse (0x0400 + n.val) .corrected 0 else s1.faultClear (0x0400 + n.val)

/-- A lock loss lasts beyond 10 ms (R94). -/
def State.tdcLong (s : State) (n : Fin 24) : State :=
  match s.tdc.ch[n].lostAt with
  | some t => if t + 10 * ticksPerMs < s.tick then s.faultAs (0x0400 + n.val) .uc 0 else s
  | none => s

/-- TDC_LOCK_LOST (R93). -/
def execTdcLockLost (n : Fin 24) (s : State) : Out1 := .next (s.tdcLose n)
/-- TDC_LOCK_REGAINED (R94). -/
def execTdcLockRegained (n : Fin 24) (s : State) : Out1 := .next (s.tdcRegain n)
/-- TDC_LOCK_LOSS_LONG (R94). -/
def execTdcLockLossLong (n : Fin 24) (s : State) : Out1 := .next (s.tdcLong n)
/-- LANE_PHASE_WINDOW (R110): the selected clock's first edge as ticks after the window's tick and tap, none where no edge came. -/
def execLanePhaseWindow (g : Fin 5) (edge : Option (Nat × Fin 512)) (s : State) : Out1 := .next ((s.laneWindow g edge).refineFollow s)

/-- The upper half that a TDC read returns is the master's latch; FIFO registers of a VENDOR channel read 0 to the host (R91, R96, R109). -/
def State.tdcView (s : State) (m off : Nat) : Option Word :=
  if off = 0x030004 || off = 0x030028 || off = 0x03002C || off = 0x030030 || off = 0x030034 then some (s.hget m off)
  else if 0x030100 ≤ off && off < 0x030700 && (off - 0x030100) % 0x40 = 0x34 then some (s.hget m off)
  else if 0x030100 ≤ off && off < 0x030700 && (off - 0x030100) % 0x40 = 8 then
    let n := (off - 0x030100) / 0x40
    some (fset (fset (s.rd off) 3 1 (b2n (s.tdcLocked n))) 4 1 (b2n (s.tdcVendor n)))
  else none

end Sys2Proof.Machine
end

