-- ==== Sys2Proof/Machine/Verify.lean ====
section
/-! DEFINITION. Sys2Proof/Machine/Verify.lean: the stage-plot image and its verification, Tables 2.1 to 2.6 (R35 to R43) with the constraints of the other chapters (R117, R135, R233, R259, R268, R322, R325, R341, R403, R422). -/
namespace Sys2Proof.Machine

/-- A failed verification: code, step of Table 2.6, SECT_ID and image byte offset (R42). -/
structure PlotFail where
  code : Err
  step : Nat
  sect : Nat
  off : Nat
deriving DecidableEq, Repr

/-- Offsets of the section table, the key block and the signature. -/
def imgTable (l : List Byte) : Nat := leAt l 0x1C 4
def imgKeyOff (l : List Byte) : Nat := leAt l 0x20 4
def imgSigOff (l : List Byte) : Nat := leAt l 0x24 4
/-- SECTION_COUNT and the table entries by number. -/
def imgCount (l : List Byte) : Nat := leAt l 0x12 2
def imgEnt (l : List Byte) (i : Nat) : Nat := imgTable l + 16 * i
/-- The offset of a section's body, 0 where the table has none. -/
def imgBodyOff (l : List Byte) (id : Nat) : Nat :=
  match (List.range (imgCount l)).find? (fun i => leAt l (imgEnt l i) 2 = id) with
  | some i => leAt l (imgEnt l i + 4) 4
  | none => 0
/-- The body of a section. -/
def imgBody (l : List Byte) (id : Nat) : List Byte :=
  match (List.range (imgCount l)).find? (fun i => leAt l (imgEnt l i) 2 = id) with
  | some i => slice l (leAt l (imgEnt l i + 4) 4) (leAt l (imgEnt l i + 8) 4)
  | none => []

/-- The section bodies of an image. -/
def imgPlot (l : List Byte) : Plot where
  global := imgBody l 1
  power := imgBody l 2
  banksFixed := imgBody l 3
  ports := imgBody l 4
  timebases := imgBody l 5
  refmap := imgBody l 6
  services := imgBody l 7
  part := imgBody l 8
  qos := imgBody l 9
  outputs := imgBody l 10
  banksAssign := imgBody l 11
  faultSec := imgBody l 12
  access := imgBody l 13
  limits := imgBody l 14
  btb := imgBody l 15

/-- ROLLBACK_IDX, PLOT_SERIAL and a word of PLOT_ID. -/
def imgRollback (l : List Byte) : Nat := leAt l 0x18 1
def imgSerial (l : List Byte) : Word := BitVec.ofNat 32 (leAt l 0x14 4)
def imgId (l : List Byte) (i : Nat) : Word := BitVec.ofNat 32 (leAt l (0x28 + 4 * i) 4)

/-- The class that Table 2.3 gives a section: 1 re-plottable. -/
def sectClass (id : Nat) : Nat := if 8 ≤ id && id ≤ 11 then 1 else 0

/-! ### Steps 1 to 8 -/

/-- The first of a list of checks that fails. -/
def firstFail (l : List (Bool × PlotFail)) : Option PlotFail := (l.find? (fun x => x.1)).map Prod.snd

/-- Step 1: lengths, then the offset fields of the header (multiples of 4) and of the section table (multiples of 64, lengths of 4) (R35). -/
def verify1 (l : List Byte) : Option PlotFail :=
  let f := fun (o : Nat) => (⟨.align, 1, 0, o⟩ : PlotFail)
  let ent := fun (i : Nat) =>
    [(decide (leAt l (imgEnt l i + 4) 4 % 64 ≠ 0), (⟨.align, 1, leAt l (imgEnt l i) 2, imgEnt l i + 4⟩ : PlotFail)),
     (decide (leAt l (imgEnt l i + 8) 4 % 4 ≠ 0), ⟨.align, 1, leAt l (imgEnt l i) 2, imgEnt l i + 8⟩)]
  firstFail ([(decide (0x40000 < l.length) || decide (leAt l 8 4 ≠ l.length), f 8), (decide (imgTable l % 4 ≠ 0), f 0x1C),
    (decide (imgKeyOff l % 4 ≠ 0), f 0x20), (decide (imgSigOff l % 4 ≠ 0), f 0x24)] ++ (List.range (min (imgCount l) 64)).flatMap ent)

/-- Steps 2 and 3: the header. -/
def verify3 (l : List Byte) : Option PlotFail :=
  let f := fun (o : Nat) => (⟨.decode, 3, 0, o⟩ : PlotFail)
  firstFail [(decide (crc32c (l.take 0x7C) ≠ leAt l 0x7C 4), ⟨.crc, 2, 0, 0x7C⟩), (decide (leAt l 0 4 ≠ 0x544C5059), f 0),
    (decide (leAt l 4 2 ≠ 3), f 4), (decide (leAt l 6 2 ≠ 0x80), f 6), (decide (leAt l 0xC 4 ≠ 0x9640), f 0xC),
    (decide (0xA2 < leAt l 0x10 1), f 0x10), (decide (2 ≤ leAt l 0x11 1), f 0x11), (decide (64 < imgRollback l), f 0x18),
    (decide (imgSigOff l + 96 ≠ leAt l 8 4), f 0x24)]

/-- Step 4: the section table and the set of sections (R36); a section that no entry holds is reported at the table's CRC. -/
def verify4 (l : List Byte) : Option PlotFail :=
  let n := imgCount l
  let id := fun i => leAt l (imgEnt l i) 2
  let bad := fun i =>
    !(decide (1 ≤ id i) && decide (id i ≤ 15)) || leAt l (imgEnt l i + 3) 1 ≠ sectClass (id i) || leAt l (imgEnt l i + 2) 1 ≠ 1 ||
      (List.range i).any (fun j => id j = id i)
  if crc32c (slice l (imgTable l) (16 * n)) ≠ leAt l (imgTable l + 16 * n) 4 then some ⟨.crc, 4, 0, imgTable l + 16 * n⟩
  else match (List.range n).find? bad with
    | some i => some ⟨.decode, 4, id i, imgEnt l i⟩
    | none => if n ≠ 15 then some ⟨.decode, 4, 0, imgTable l + 16 * n⟩ else none

/-- Step 5: the CRC of every body, in table order. -/
def verify5 (l : List Byte) : Option PlotFail :=
  ((List.range (imgCount l)).find? (fun i =>
    crc32c (slice l (leAt l (imgEnt l i + 4) 4) (leAt l (imgEnt l i + 8) 4)) ≠ leAt l (imgEnt l i + 12) 4)).map fun i =>
      ⟨.crc, 5, leAt l (imgEnt l i) 2, leAt l (imgEnt l i + 4) 4⟩

/-- The key hash that OTP holds for a KEY_SLOT whose revoke fuse is intact (R39). -/
def Otp.keyHash (o : Otp) (slot : Nat) : Option (List Byte) :=
  match slot with
  | 0 => if o.revoked0 || o.opk0.isEmpty then none else some o.opk0
  | 1 => if o.revoked1 || o.opk1.isEmpty then none else some o.opk1
  | 0xFF => some o.mfgKey
  | _ => none

/-- Steps 6 to 8: life cycle, key and signature, rollback (R39 to R41). -/
def verify8 (o : Otp) (fuses : Nat) (l : List Byte) : Option PlotFail :=
  let k := imgKeyOff l
  let pub := slice l (k + 1) 97
  let sig := slice l (imgSigOff l) 96
  let digest := Config.sha384 (l.take (imgSigOff l))
  let wild := decide (o.lifecycle ≠ .manufacture)
  let hashBad := match o.keyHash (leAt l k 1) with
    | some h => decide (Config.sha384 pub ≠ h)
    | none => true
  firstFail [(o.lifecycle = .blank || o.lifecycle = .retired, ⟨.lifecycle, 6, 0, 0⟩),
    (wild && (leAt l 0x11 1).testBit 0, ⟨.lifecycle, 6, 0, 0x11⟩), (wild && leAt l k 1 = 0xFF, ⟨.lifecycle, 6, 0, k⟩),
    (hashBad, ⟨.perm, 7, 0, k⟩), (!Config.ecdsaP384 pub digest sig, ⟨.perm, 7, 0, imgSigOff l⟩),
    (decide (imgRollback l < fuses), ⟨.seq, 8, 0, 0x18⟩)]

/-! ### Step 9: ranges -/

/-- A field: its section and its offset in the body. -/
abbrev Spot := Nat × Nat

/-- The fields of a section at offsets given with whether they are out of range. -/
def spots (sect : Nat) (l : List (Bool × Nat)) : List Spot := (l.filter (fun x => x.1)).map (fun x => (sect, x.2))

/-- A byte of a body outside 0 to `hi`. -/
def overB (l : List Byte) (hi o : Nat) : Bool × Nat := (decide (hi < pb l o), o)
/-- Reserved bytes that are not 0 (R37). -/
def rsvB (l : List Byte) (os : List Nat) : List (Bool × Nat) := os.map (overB l 0)

def isPkt (src : Nat) : Bool := src = 0x50 || src = 0x51
/-- SOURCE codes of REFMAP. -/
def sourceOk (s : Nat) : Bool := s = 0 || (decide (0x10 ≤ s) && decide (s ≤ 0x17)) || [0x20, 0x21, 0x30, 0x40, 0x50, 0x51].contains s
/-- FIXED_QUALITY of a fixed input (R135). -/
def fixedOk (q : Nat) : Bool := decide (0x20 ≤ q) && !(decide (27 ≤ q % 32) && decide (q % 32 ≤ 30))

def rangeGlobal (p : Plot) : List Spot :=
  spots 1 [(decide (pb p.global 3 ≠ 0), 0), (decide (pb p.global 4 = 0 || 64 < pb p.global 4), 4), overB p.global 15 5, overB p.global 3 6, overB p.global 3 7]

def rangePorts (p : Plot) : List Spot :=
  (List.range 16).flatMap fun n =>
    let o := 8 * n
    let m := p.portMode n
    spots 4 ([(!(decide (m ≤ 7) || m = 15), o), overB p.ports 3 (o + 1), (decide (15 < p.portPair n) && p.portPair n ≠ 255, o + 2),
      overB p.ports 63 (o + 3), (decide (3 < p.wakePattern n), o + 4)] ++ rsvB p.ports [o + 6, o + 7])

def rangeTbs (p : Plot) : List Spot :=
  (List.range 64).flatMap fun n =>
    let o := 16 * n
    let t := p.timebases
    spots 5 ([overB t 1 o, overB t 2 (o + 1), overB t 1 (o + 2), (decide (15 < pb t (o + 3)) && pb t (o + 3) ≠ 255, o + 3), overB t 1 (o + 4)] ++
      rsvB t [o + 5] ++ [(decide (2 ^ 48 ≤ (p.tbEpoch n).natAbs), o + 8)])

def rangeRefs (p : Plot) : List Spot :=
  (List.range 24).flatMap fun n =>
    let o := 8 * n
    let src := p.refSource n
    let port := if isPkt src then decide (15 < p.refPort n) else decide (p.refPort n ≠ 255)
    let fixedIn := (decide (0x10 ≤ src) && decide (src ≤ 0x17)) || src = 0x30
    spots 6 ([(!sourceOk src, o), (port, o + 1), (decide (p.refPrio n = 0), o + 2), (fixedIn && !fixedOk (p.refQuality n), o + 3),
      overB p.refmap 7 (o + 4), overB p.refmap 1 (o + 5)] ++ rsvB p.refmap [o + 6, o + 7])

def rangeSvc (p : Plot) : List Spot :=
  (if 256 < p.svcCount then [(7, 0)] else []) ++
  (List.range (min p.svcCount 256)).flatMap fun i =>
    let o := 2 + 8 * i
    spots 7 ([overB p.services 63 o, overB p.services 7 (o + 1), overB p.services 15 (o + 5)] ++ rsvB p.services [o + 6, o + 7])

def rangePart (p : Plot) : List Spot :=
  spots 8 ((List.range 64).map (overB p.part 3) ++ [overB p.part 4 0x40] ++ rsvB p.part [0x41] ++
    [(decide (p.sysMin < 750) || decide (1500 < p.sysMin), 0x42), (decide (p.sysMax < p.sysMin) || decide (1500 < p.sysMax), 0x44)])

def rangeQos (p : Plot) : List Spot :=
  spots 9 ((List.range 8).map (fun i => (decide (p.qosWeight i = 0), i)) ++
    (List.range 8).map (fun i => (decide (p.qosMaxOut i = 0) || decide (64 < p.qosMaxOut i), 8 + i)))

/-- µHz in a hertz. -/
def uHz : Nat := 1000000

def rangeOut (p : Plot) : List Spot :=
  ((List.range 4).flatMap fun k =>
    let f := p.apllFreq (k + 1)
    spots 10 [(f ≠ 0 && (decide (f < 4000000000 * uHz) || decide (6000000000 * uHz < f)), 8 * k)]) ++
  ((List.range 12).flatMap fun k =>
    let o := 0x20 + 16 * k
    let m := p.outMode k
    let top := if m = 1 then 1500000000 * uHz else 250000000 * uHz
    spots 10 [(decide (p.outApll k = 0) || decide (4 < p.outApll k), o), overB p.outputs 2 (o + 1), overB p.outputs 1 (o + 2), overB p.outputs 63 (o + 3),
      ((m = 1 || m = 2) && (decide (p.outFreq k < uHz) || decide (top < p.outFreq k)), o + 4), (decide (8000 < (p.outDll k).natAbs), o + 12)]) ++
  ((List.range 16).flatMap fun c =>
    let o := 0xE0 + 4 * c
    spots 10 ([overB p.outputs 63 o, (decide (15 < p.cueOwner c) && p.cueOwner c ≠ 255, o + 1), overB p.outputs 2 (o + 2)] ++ rsvB p.outputs [o + 3]))

def rangeFault (p : Plot) : List Spot :=
  spots 12 ([overB p.faultSec 1 0] ++ rsvB p.faultSec [1, 2, 3] ++ [(decide (64 < p.reactCount), 4)] ++ rsvB p.faultSec [6, 7]) ++
  (List.range (min p.reactCount 64)).flatMap fun i =>
    let o := 8 + 8 * i
    let b := p.reactByte i
    let g := b 0
    let inst := decide (g ≤ 0x13) && !(decide (b 1 ≤ b 2) && decide (b 2 ≤ groupHigh.getD g 0))
    spots 12 [(decide (0x13 < g), o), (inst, o + 1), (decide (3 < b 3), o + 3), (decide (2 < b 4), o + 4), (decide (3 < b 5), o + 5),
      (decide (b 6 = 1), o + 6), (decide (b 6 ≠ 0 && b 7 = 0), o + 7)]

def rangeAccess (p : Plot) : List Spot :=
  (List.range 32).flatMap fun m =>
    let row := leAt p.access (8 * m) 8
    let bad := decide (2 ^ 36 ≤ row) || (List.range 18).any (fun b => (row >>> (2 * b)) % 4 = 2) || (decide (26 ≤ m) && row ≠ 0)
    spots 13 [(bad, 8 * m)]

/-- Every field out of its range (R37). -/
def rangeSpots (p : Plot) : List Spot :=
  rangeGlobal p ++ spots 2 ((List.range 12).map (overB p.power 2)) ++ spots 3 ((List.range 24).map (overB p.banksFixed 7)) ++ rangePorts p ++
  rangeTbs p ++ rangeRefs p ++ rangeSvc p ++ rangePart p ++ rangeQos p ++ rangeOut p ++
  spots 11 ((List.range 24).map (fun b => (!(decide (pb p.banksAssign b ≤ 5) || pb p.banksAssign b = 7 || pb p.banksAssign b = 255), b))) ++
  rangeFault p ++ rangeAccess p ++
  (List.range 4).flatMap fun b => spots 15 ([overB p.btb 1 (8 * b), overB p.btb 1 (8 * b + 1), overB p.btb 63 (8 * b + 2)] ++ rsvB p.btb [8 * b + 3])

/-! ### Step 9: constraints -/

/-- A constraint that is broken gives the fields that it involves. -/
def broken (c : Bool) (fields : List Spot) : List (List Spot) := if c then [fields] else []

/-- A time base that a field names is absent. -/
def tbGone (p : Plot) (n : Nat) (f : Spot) : List (List Spot) := broken (decide (n < 64) && !p.tbPresent n) [f, (5, 16 * n)]

def conGlobal (p : Plot) : List (List Spot) :=
  let present := ((List.range 64).filter (fun n => pb p.timebases (16 * n) = 1)).length
  broken (pb p.global 4 ≠ present) [(1, 4), (5, 0)] ++
  broken (p.pdMode 0 ≠ 1) [(2, 0)] ++ broken (p.pdMode 1 ≠ 1) [(2, 1)] ++ broken (p.pdMode 9 = 0) [(2, 9)] ++ broken (p.pdMode 10 = 0) [(2, 10)]

/-- R38. -/
def conPower (p : Plot) : List (List Spot) :=
  let pd11 : List Spot := (2, 11) ::
    (((List.range 12).filter (fun k => p.outMode k ≠ 0)).map (fun k => (10, 0x21 + 16 * k)) ++
     ((List.range 16).filter (fun c => p.cueElec c ≠ 0)).map (fun c => (10, 0xE2 + 4 * c)) ++
     ((List.range 4).filter (fun k => p.apllFreq (k + 1) ≠ 0)).map (fun k => (10, 8 * k)) ++
     ((List.range 4).filter (fun b => p.btbOn b)).map (fun b => (15, 8 * b)) ++
     ((List.range 24).filter (fun n => p.refSource n = 0x40)).map (fun n => (6, 8 * n)))
  broken (pb p.global 7 ≠ 0 && p.pdMode 2 = 0) [(1, 7), (2, 2)] ++
  (List.range 4).flatMap (fun c => broken (p.cluster c && p.pdMode (3 + c) = 0) [(1, 5), (2, 3 + c)]) ++
  (List.range 2).flatMap (fun x => broken (p.complex x && p.pdMode (7 + x) = 0) [(1, 6), (2, 7 + x)]) ++
  broken (pd11.length ≠ 1 && p.pdMode 11 = 0) pd11

def conBanks (p : Plot) : List (List Spot) :=
  let fixedHas := fun (c : Nat) => (List.range 24).any (fun b => pb p.banksFixed b = c)
  broken (!fixedHas 2) [(3, 0)] ++ broken (!fixedHas 4) [(3, 0)] ++ broken (!fixedHas 5) [(3, 0)] ++
  broken (pb p.global 7 ≠ 0 && !fixedHas 3) [(3, 0)] ++
  broken (pb p.global 6 ≠ 0 && !(List.range 24).any (fun b => p.bankUse b = 1)) [(3, 0)] ++
  (List.range 24).flatMap (fun b => broken ((pb p.banksFixed b = 6) = (pb p.banksAssign b = 255)) [(3, b), (11, b)])

/-- A mode of a 400G port. -/
def is400 (m : Nat) : Bool := m = 6 || m = 7

def conPorts (p : Plot) : List (List Spot) :=
  (List.range 16).flatMap fun n =>
    let m := p.portMode n
    let q := p.portPair n
    broken (is400 m && (n % 4 ≠ 0 || !(List.range 3).all (fun j => p.portMode (n + 1 + j) = 15))) [(4, 8 * n)] ++
    broken (m = 15 && (n % 4 = 0 || !is400 (p.portMode (n / 4 * 4)))) [(4, 8 * (n / 4 * 4)), (4, 8 * n)] ++
    broken (p.portHA n && !(decide (4 ≤ m) && decide (m ≤ 7))) [(4, 8 * n), (4, 8 * n + 1)] ++
    broken (decide (q ≤ 15) && (q / 8 = n / 8 || p.portMode q ≠ m || p.portPair q ≠ n)) [(4, 8 * n + 2), (4, 8 * q + 2)] ++
    tbGone p (p.stampTb n) (4, 8 * n + 3)

def conTbs (p : Plot) : List (List Spot) :=
  broken (pb p.timebases 0 ≠ 1) [(5, 0)] ++ broken (p.tbScale 0 ≠ 0) [(5, 1)] ++ broken (pb p.timebases 4 ≠ 0) [(5, 4)] ++
  (List.range 64).flatMap fun n =>
    let on := pb p.timebases (16 * n) = 1
    let d := pb p.timebases (16 * n + 3)
    let twin := (List.range n).find? (fun j => pb p.timebases (16 * j) = 1 && pb p.timebases (16 * j + 3) = d)
    broken (on && pb p.timebases (16 * n + 2) = 0 && d = 255) [(5, 16 * n + 2), (5, 16 * n + 3)] ++
    (match twin with
     | some j => broken (on && d ≠ 255) [(5, 16 * j + 3), (5, 16 * n + 3)]
     | none => [])

def conRefs (p : Plot) : List (List Spot) :=
  let pkts := (List.range 24).filter (fun n => isPkt (p.refSource n))
  broken (decide (12 < pkts.length)) (pkts.map (fun n => (6, 8 * n))) ++
  (List.range 24).flatMap fun n =>
    let src := p.refSource n
    let clkin := decide (0x10 ≤ src) && decide (src ≤ 0x17)
    broken (p.refRateList n ≠ 0 && !clkin) [(6, 8 * n), (6, 8 * n + 4)] ++ broken (pb p.refmap (8 * n + 5) = 1 && !clkin) [(6, 8 * n), (6, 8 * n + 5)]

/-- Table 10.3: transport and domain of a service; OPTIONS bits are two-step, L2, IPv4, IPv6. -/
def transportOk (kind opt : Nat) : Bool :=
  let l2 := opt.testBit 1
  let ip := opt.testBit 2 || opt.testBit 3
  match kind with
  | 0 | 3 => ip && !l2
  | 2 | 4 | 6 => l2 && !ip
  | 7 => ip
  | _ => true
def svcDomainOk (kind d : Nat) : Bool :=
  match kind with
  | 1 | 5 => decide (d ≤ 127)
  | 2 => decide (24 ≤ d) && decide (d ≤ 43)
  | 3 => decide (44 ≤ d) && decide (d ≤ 63)
  | _ => d = 0

def conSvc (p : Plot) : List (List Spot) :=
  (List.range (min p.svcCount 256)).flatMap fun i =>
    let o := 2 + 8 * i
    let k := p.svcKind i
    let scale := p.tbScale (p.svcTb i)
    let tbOk := match k with
      | 0 => scale = 1
      | 2 | 3 => scale ≠ 2
      | 7 => p.svcTb i = 0
      | _ => true
    (if k = 6 then [] else tbGone p (p.svcTb i) (7, o)) ++ broken (!tbOk) [(7, o), (7, o + 1)] ++
    broken (!transportOk k (p.svcOptions i)) [(7, o + 1), (7, o + 5)] ++ broken (!svcDomainOk k (p.svcDomain i)) [(7, o + 1), (7, o + 4)] ++
    broken (k = 5 && (List.range 16).any (fun n => (p.svcPorts i).testBit n && !p.portHA n)) [(7, o + 1), (7, o + 2)]

def conOut (p : Plot) : List (List Spot) :=
  ((List.range 12).flatMap fun k =>
    let o := 0x20 + 16 * k
    if p.outMode k = 0 then []
    else
      let a := p.apllFreq (p.outApll k)
      let f := p.outFreq k
      let ratio := f ≠ 0 && decide (4 ≤ a / f) && decide (a / f ≤ 2 ^ 33) && decide (f / Nat.gcd a f < 2 ^ 32)
      broken (a = 0) [(10, 8 * (p.outApll k - 1)), (10, o)] ++ broken (a ≠ 0 && !ratio) [(10, 8 * (p.outApll k - 1)), (10, o + 4)] ++
      tbGone p (p.outTb k) (10, o + 3)) ++
  (List.range 16).flatMap fun c => tbGone p (p.cueTb c) (10, 0xE0 + 4 * c)

/-- The least class of an event of a group's instances (Table 15.2). -/
def entryDefault (g a b : Nat) : Nat := ((List.range (b + 1 - a)).map (fun i => (defClass (g * 256 + a + i)).code)).foldl min 2
/-- Every instance that an entry covers is wired to a unit (Table 15.1); group 0x0A follows its events (R504). -/
def entryWired (s : State) (g a b : Nat) : Bool := g = 0x0A || (List.range (b + 1 - a)).all (fun i => (s.wiredUnit (g * 256 + a + i) 0).isSome)

def conFault (s : State) (p : Plot) : List (List Spot) :=
  let clusters := ((List.range 4).filter p.cluster).length
  broken (p.fenceProfile && (decide (clusters < 3) || pb p.global 6 ≠ 3)) [(1, 5), (1, 6), (12, 0)] ++
  (List.range (min p.reactCount 64)).flatMap fun i =>
    let o := 8 + 8 * i
    let b := p.reactByte i
    let dflt := entryDefault (b 0) (b 1) (b 2)
    let cls := if b 3 = 0 then dflt else b 3 - 1
    let twin := (List.range i).find? (fun j => p.reactByte j 0 = b 0 && decide (p.reactByte j 1 ≤ b 2) && decide (b 1 ≤ p.reactByte j 2))
    (match twin with | some j => [[(12, 8 + 8 * j), (12, o)]] | none => []) ++
    broken (b 3 ≠ 0 && decide (b 3 - 1 < dflt)) [(12, o + 3)] ++
    broken (cls = 2 && b 4 ≠ 0) [(12, o + 3), (12, o + 4)] ++
    broken (b 4 = 1 && !entryWired s (b 0) (b 1) (b 2)) [(12, o), (12, o + 4)] ++
    broken (b 4 = 1 && [0x0A, 0x0E, 0x0F, 0x10].contains (b 0) && !p.fenceProfile) [(12, 0), (12, o + 4)]

/-- Every broken constraint (R37, R38 and those of the other chapters). -/
def plotSpots (s : State) (p : Plot) : List (List Spot) :=
  conGlobal p ++ conPower p ++ conBanks p ++ conPorts p ++ conTbs p ++ conRefs p ++ conSvc p ++
  (List.range 64).flatMap (fun e => broken (p.engine e ≠ 0 && !p.cluster (e / 16)) [(1, 5), (8, e)]) ++
  conOut p ++ conFault s p ++
  (List.range 32).flatMap fun m =>
    broken ((decide (17 ≤ m) && decide (m ≤ 22) || m = 24 || m = 25) && leAt p.access (8 * m) 8 ≠ (Config.vendorRow m).toNat) [(13, 8 * m)]

/-- The least of a list of places in the image: offset, section. -/
def firstPlace (l : List (Nat × Nat)) : Option (Nat × Nat) :=
  l.foldl (fun (b : Option (Nat × Nat)) x => match b with
    | none => some x
    | some y => if x.1 < y.1 then some x else some y) none

/-- The place of a field in the image. -/
def imgPlace (l : List Byte) (f : Spot) : Nat × Nat := (imgBodyOff l f.1 + f.2, f.1)

/-- Step 9: the first field out of range, or else the constraint whose first field lies first (R42). -/
def verify9 (s : State) (l : List Byte) : Option PlotFail :=
  let p := imgPlot l
  match firstPlace ((rangeSpots p).map (imgPlace l)) with
  | some x => some ⟨.range, 9, x.2, x.1⟩
  | none => (firstPlace ((plotSpots s p).filterMap (fun c => firstPlace (c.map (imgPlace l))))).map fun x => ⟨.plot, 9, x.2, x.1⟩

/-- Table 2.6: the first failing step of an image. -/
def State.verifyImage (s : State) (l : List Byte) : Option PlotFail :=
  (verify1 l).or ((verify3 l).or ((verify4 l).or ((verify5 l).or ((verify8 s.otp (s.fld 0x010048 0 7) l).or (verify9 s l)))))

/-- Every reload-class section of two images agrees byte for byte (R43). -/
def sameReload (a b : List Byte) : Bool := ((List.range 15).filter (fun i => sectClass (i + 1) = 0)).all (fun i => imgBody a (i + 1) = imgBody b (i + 1))

end Sys2Proof.Machine
end

