-- ==== Sys2Proof/Machine/Apply.lean ====
section
/-! DEFINITION. Sys2Proof/Machine/Apply.lean: what a full apply does to every part of the block (spec/02_stage_plot.md, R47 to R49, R501). -/
namespace Sys2Proof.Machine

/-- A time base keeps its value, increment and ledger: TB0, and one whose entry is the same in both plots (R48). -/
def keptTb (old new : Plot) (n : Nat) : Bool := n = 0 || (old.tbPresent n && new.tbPresent n && decide (old.tbEntry n = new.tbEntry n))

/-- Registers at the offsets that `p` picks return to their reset values, held words and marks with them. -/
def State.dropRegs (s : State) (p : Nat → Bool) : State :=
  { s with regs := s.regs.filter (fun x => !p x.1), held := s.held.filter (fun x => !p (x.1 % 2 ^ 24)), marks := s.marks.filter (fun x => !p (x.1 % 2 ^ 24)) }

/-- A page of registers returns to its reset values (R501). -/
def State.resetPage (s : State) (lo len : Nat) : State := s.dropRegs (fun k => decide (lo ≤ k) && decide (k < lo + len))

/-- A staging register of Table 17.6, or a staging valid register. -/
def isStaging (k : Nat) : Bool :=
  (decide (0x020000 ≤ k) && decide (k < 0x024000) && decide (0xC0 ≤ k % 0x100) && decide (k % 0x100 < 0xD0))
  || (decide (0x090018 ≤ k) && decide (k ≤ 0x090020))
  || (decide (0x0C0000 ≤ k) && decide (k < 0x0C0800) && (k % 0x200 = 0x14 || k % 0x200 = 0x18))

/-- A pending commit is cancelled with ERR_STATE; every staged value and valid bit is discarded (R49). -/
def State.applyCommit (s : State) : State :=
  let s1 := s.dropRegs isStaging
  if s.glb.commitAt.isNone then s1
  else
    let s2 := (s1.setBit 0x000044 31 false).setFld 0x000044 8 8 Err.state.code
    ({ s2 with glb := { s2.glb with commitAt := none } }).raise 0x00000C 2

/-! ### Servo loops and selectors -/

/-- A slot is mapped to a source that the selector's kind accepts: its bit of SELd_CAND at reset (R501, R136). -/
def State.candBit (s : State) (d : Nat) (k : Nat) : Bool :=
  s.plt.plot.refSource k ≠ 0 && ((s.plt.plot.dpllTb d).isNone || s.timeKind k)

/-- SELd_CAND at reset. -/
def State.candReset (s : State) (d : Nat) : Word := (List.range 24).foldl (fun w k => fset w k 1 (b2n (s.candBit d k))) 0

/-- A loop and its selector whose kind changes, or that come to serve a time base that is not kept, start anew (R501); a TIME loop that moves to another time base, and a FREQ loop whose APLL is off, are RELEASED (R48, Table 6.4). -/
def State.applyLoop (s : State) (old : Plot) (d : Fin 16) : State :=
  let new := s.plt.plot
  let a := old.dpllTb d
  let b := new.dpllTb d
  if a.isSome ≠ b.isSome || (match b with | some n => !keptTb old new n | none => false) then
    let s1 := match s.loopApll d with | some k => s.apllFree k | none => s
    let s2 := ((((s1.resetPage (dpllReg d 0) 0x100).resetPage (selReg d 0) 0x40).modDpll d fun _ => {}).modSel d fun _ => {})
    s2.wr (selReg d 4) (s2.candReset d)
  else if a ≠ b || (b.isNone && (s.loopApll d).isNone) then (if s.dpllState d = 0 then s else s.dpllRelease d)
  else s

/-- A slot whose REFMAP entry changes: its bit of every SELd_CAND takes its reset value, its registers and its state start anew, a fixed input has its quality (R48, R501, R135). -/
def State.applyRef (s : State) (old : Plot) (k : Fin 24) : State :=
  let new := s.plt.plot
  if old.refEntry k = new.refEntry k then s
  else
    let src := new.refSource k
    let q := if isClkin src || isAtom src then fixedQuality (new.refQuality k) else 0x06FE
    let s1 := (s.resetPage (refReg k 0) 0x100).modRef k fun _ => {}
    let s2 := (List.finRange 16).foldl (fun (s : State) (d : Fin 16) => (s.setBit (selReg d 4) k (s.candBit d k)).modSel d fun x =>
      { x with effQ := Sparse.set (fun _ => 0x06FE) x.effQ k q, holdFrom := Sparse.set (fun _ => none) x.holdFrom k none }) s1
    let s3 := s2.modSvc fun v => { v with prefs := v.prefs.set k { cfg := v.prefs[k].cfg } }
    if src = 0 then s3
    else
      ((s3.setFld (refReg k 0xC) 0 16 q).setFld (refReg k 0x10) 0 8 (new.refPrio k)).setBit (refReg k 0) 0 (!(isClkin src && new.refRateList k = 0))

/-- The slots that start enabled leave UNUSED (Table 5.4). -/
def State.applyEnable (s : State) (old : Plot) (k : Fin 24) : State :=
  if old.refEntry k ≠ s.plt.plot.refEntry k && s.bit (refReg k 0) 0 then s.refEnable k else s

/-! ### Time bases -/

/-- A step, slew or leap is armed. -/
def State.tbArmed (s : State) (n : Fin 64) : Bool := s.tbs[n].step.isSome || s.tbs[n].slew.isSome || s.fld (tbReg n 0x78) 0 2 ≠ 0

/-- A kept time base takes the owner of its entry; every other one starts at TB0 plus its offset with the nominal increment and no bound, and what was armed on it is discarded (R48, R49). -/
def State.applyTb (s : State) (old : Plot) (n : Fin 64) : State :=
  let new := s.plt.plot
  if keptTb old new n then s.setOwner n (new.tbOwner n)
  else
    let armed := s.tbArmed n
    let v := (((s.tb0 : Int) + new.tbEpoch n * secU) % (timeMod : Int)).toNat
    let t : Tb := if new.tbPresent n then { value := v, prev := v, plain := v } else {}
    let s1 := (((s.resetPage (tbReg n 0) 0x100).resetPage (bndReg n 0) 0x80).modTb n fun _ => t).modBnd n fun _ => {}
    let s2 := if new.tbPresent n then
        (s1.setBit (tbReg n 0x18) 0 (new.tbOwner n)).setFld (tbReg n 0x78) 16 16 (unsigned 16 (-(new.tbEpoch n)))
      else s1
    if armed then s2.tbEvent n 8 else s2

/-! ### Ports, capture channels, outputs, cues and buses -/

/-- A port trains anew; its pending gate swap goes where its entry changes or its time base is not kept (R47, R49). -/
def State.applyPort (s : State) (old : Plot) (p : Fin 16) : State :=
  let new := s.plt.plot
  let same := decide (slice old.ports (8 * p) 8 = slice new.ports (8 * p) 8) && keptTb old new (new.stampTb p)
  let s1 := if s.ports[p].gcl.isSome && !same then (s.modPort p fun q => { q with gcl := none }).setBit (portReg p 8) 26 false else s
  let on := new.portPresent p
  let s2 := (s1.linkFall p).portEnter p (if !on then 0 else if new.portDormant p then 1 else 2)
  s2.modPort p fun q => { q with served := false, held := if on then q.held else [], waiting := if on then q.waiting else [] }

/-- A channel armed with an epoch start on a time base that is not kept, or whose owner changes, is disarmed, and an open window closed as by DISARM (R49, R92, R108). -/
def State.applyTdc (s : State) (old : Plot) (vendor : Bool) (n : Fin 24) : State :=
  let moved := s.tdcVendor n ≠ vendor
  let gone := s.tdcKind n = 0 && !keptTb old s.plt.plot (s.tdcSel n)
  let s1 := if s.tdcArmed n && (moved || gone) then
      (if s.tdcIsOpen n then s.tdcClose n (s.tdc.ch[n].start.getD (noStart s.tick)) true
       else (s.setBit (tdcReg n 8) 1 false).modTdc n fun c => { c with disarm := none })
    else s
  if moved then s1.setFifo n [] else s1

/-- An APLL follows its plan frequency: off, started anew and out of lock until it locks, or as it is. -/
def State.applyApll (s : State) (old : Plot) (k : Fin 4) : State :=
  let f := s.plt.plot.apllFreq (k.val + 1)
  if f = old.apllFreq (k.val + 1) then s
  else if f = 0 then ((s.setBit (apllReg k 4) 31 false).setBit (apllReg k 4) 30 false).setBit (apllReg k 4) 25 false |>.modApll k fun _ => {}
  else
    let t : Fin 64 := ⟨s.fld (apllReg k 0) 0 6, Nat.lt_of_lt_of_le (Nat.mod_lt _ (by decide)) (by decide)⟩
    (s.setBit (apllReg k 4) 31 false).modApll k fun a => { a with plan := f, rate := s.tbEffInc t }

/-- An output whose entry or whose APLL's plan changes starts by its entry; OUTk_PH_OFS takes a changed offset (R47, R331). -/
def State.applyOut (s : State) (old : Plot) (k : Fin 12) : State :=
  let new := s.plt.plot
  let a := new.outApll k
  let s1 := if slice old.outputs (0x20 + 16 * k) 16 = slice new.outputs (0x20 + 16 * k) 16 && old.apllFreq a = new.apllFreq a then s
    else
      let s1 := if old.outDll k = new.outDll k then s
        else (s.wr (outReg k 0xC) (BitVec.ofInt 32 (new.outDll k))).modOut k fun o => { o with phOfs := new.outDll k }
      (s1.setBit (outReg k 4) 27 false).outEnable k
  let off := new.outMode k ≠ 0 && !s1.bit (apllReg (new.outApll k - 1) 4) 31
  let s2 := s1.setBit (outReg k 4) 26 off
  if s2.outHeldOff k then s2.outHoldOff k else s2

/-- An armed cue whose entry changes or whose time base is not kept is cancelled and counted (R49, R347). -/
def State.applyCue (s : State) (old : Plot) (c : Fin 16) : State :=
  let new := s.plt.plot
  let same := decide (slice old.outputs (0xE0 + 4 * c) 4 = slice new.outputs (0xE0 + 4 * c) 4) && keptTb old new (new.cueTb c)
  if s.out.cues[c].arm.isSome && !same then s.cueCancel c true else s

/-- A bus starts by its entry; a mask written to one whose entry is unchanged stands (Table 13.4, R501). -/
def State.applyBtb (s : State) (old : Plot) (b : Fin 4) : State :=
  let mask := s.rd (btbReg b 0x10)
  let s1 := s.btbApply b
  if slice old.btb (8 * b) 8 = slice s.plt.plot.btb (8 * b) 8 && s.plt.plot.btbOn b then
    ((s1.wr (btbReg b 0x10) mask).setFld (btbReg b 8) 0 6 (slotsOf mask).length).modBtb b fun x => { x with mask := mask }
  else s1

/-- A pending common start is cancelled (R49). -/
def State.applyCommon (s : State) : State :=
  { s.setBit 0x0C1000 31 false with btb := { s.btb with common := none } }

/-! ### SRAM banks -/

/-- A bank is invalidated and zeroed; the owner it had drops the entries it held there, each as an uncorrected-contained loss (Table 2.8, Table 16.1). -/
def State.bankDrop (s : State) (b use : Nat) : State :=
  let lo := b * bankLines
  let s1 := s.modMem fun m =>
    { m with sram := m.sram.filter (fun p => !(decide (64 * lo ≤ p.1) && decide (p.1 < 64 * (lo + bankLines)))), failed := m.failed.filter (fun l => l / bankLines ≠ b) }
  let mine := fun (entry : Nat) => (Config.entryBank use entry).val = b
  match use with
  | 0 => ((s.svc.sess.map Prod.fst).filter (fun j => mine j)).foldl (fun (s : State) j => s.sessionLost j) s1
  | 1 => (List.finRange 16).foldl (fun (s : State) (p : Fin 16) =>
      ((List.range (s.svc.jobs.filter (fun j => j.rx.port = p.val)).length).reverse.filter (fun k => mine (p.val * 65536 + k))).foldl
        (fun (s : State) k => s.frameLost p k) s) s1
  | 2 =>
    let s2 := ((s.key.cache.map (fun l => l.name)).filter (fun n => mine (3 * n.code))).foldl (fun (s : State) n => s.cacheLost n) s1
    let s3 := ((s.key.dir.map (fun l => l.name)).filter (fun n => mine (3 * n.code + 1))).foldl (fun (s : State) n => s.dirLost n) s2
    (List.finRange 2).foldl (fun (s : State) (i : Fin 2) => if mine (3 * i.val + 2) then s.ckptLost i else s) s3
  | 3 => ((s.gnss.db.map (fun p => p.1 * 256 + p.2.1)).filter (fun v => mine v)).foldl (fun (s : State) v => s.gnssLost v) s1
  | 5 => [2, 3, 4].foldl (fun (s : State) c =>
      ((List.range s.mem.rings[ringIx c].ready.length).filter (fun i => mine (c * 65536 + i))).foldl (fun (s : State) _ => s.ringFail c) s) s1
  | _ => s1

/-- Every bank whose use changes is reassigned. -/
def State.banksFollow (s : State) (old : Plot) : State :=
  (List.range 24).foldl (fun (s : State) b => if old.bankUse b = s.plt.plot.bankUse b then s else s.bankDrop b (old.bankUse b)) s

/-! ### The apply -/

/-- Chains that the plot no longer has are disabled; GNSSx_CLK_CFG.DPLL starts as the DPLL of TB0 (Table 8.10). -/
def State.applyGnss (s : State) (first : Bool) : State :=
  (List.finRange 2).foldl (fun (s : State) (x : Fin 2) =>
    let s1 := if s.bit 0x070000 x && !s.plt.plot.chain x then (s.setBit 0x070000 x false).chainStop x else s
    if first then s1.setFld (gnssReg x 0x80) 0 4 ((s.plt.plot.tbDpll 0).getD 0) else s1) s

/-- Clusters wait for their power; a fenced one stays so (Table 10.21). -/
def State.applyClusters (s : State) : State :=
  (List.range 4).foldl (fun (s : State) c => s.setFld (clusReg c 0) 30 2 (if s.clusterFenced c then 3 else 0)) s

/-- Step 3 of R47: every section of `new` is applied over the plot in force. -/
def State.applySections (s : State) (new : Plot) : State :=
  let old := s.plt.plot
  let first := !s.plt.inForce
  let vendor := (List.range 24).map (fun n => s.tdcVendor n)
  let s := { s with plt := { s.plt with plot := new, inForce := true } }
  let s := (s.applyCommit).setFld 0x000004 0 24 new.orgId
  let s := (List.finRange 4).foldl (fun (s : State) k => s.applyApll old k) s
  let s := (List.finRange 16).foldl (fun (s : State) d => s.applyLoop old d) s
  let s := (List.finRange 24).foldl (fun (s : State) k => s.applyRef old k) s
  let s := (List.finRange 64).foldl (fun (s : State) n => s.applyTb old n) s
  let s := if s.roleReleased then s else s.loopsFree
  let s := (List.finRange 24).foldl (fun (s : State) k => s.applyEnable old k) s
  let s := s.applyGnss first
  let s := (List.finRange 16).foldl (fun (s : State) p => s.applyPort old p) s
  let s := (List.finRange 24).foldl (fun (s : State) (n : Fin 24) => s.applyTdc old (vendor.getD n.val false) n) s
  let s := (List.finRange 12).foldl (fun (s : State) k => s.applyOut old k) s
  let s := (List.finRange 16).foldl (fun (s : State) c => s.applyCue old c) s
  let s := (List.finRange 4).foldl (fun (s : State) b => s.applyBtb old b) s
  let s := (s.applyCommon.banksFollow old).applyClusters.powerPlan
  (s.selEvalAll.selFollow s).outsSettle

/-- Steps 1 and 2 of R47: outputs, cues and buses take their curtain state, services stop. -/
def State.applyBegin (s : State) : State :=
  let s1 := s.setFld 0x010008 0 3 4
  (({ s1 with plt := { s1.plt with applying := true } }).muteFollow s).servicesStop

/-- The clusters that a completed apply leaves awake: those that may not sleep, and the first MIN_AWAKE. -/
def State.applyAwake (s : State) : State :=
  let here := (List.range 4).filter (fun c => s.plt.plot.cluster c && s.clusState c = 0)
  let sleepers := here.filter (fun c => s.plt.plot.pdMode (3 + c) = 2)
  let up := here.filter (fun c => s.plt.plot.pdMode (3 + c) ≠ 2) ++ sleepers.take (s.plt.plot.minAwake - (here.length - sleepers.length))
  up.foldl (fun (s : State) c => s.setFld (clusReg c 0) 30 2 2) s

/-- PLT_ACTIVE_SERIAL and PLT_ACTIVE_ID show an image. -/
def State.showActive (s : State) (img : List Byte) : State :=
  ((s.wr 0x010040 (imgSerial img)).wrAll 0x010050 ((List.range 4).map (imgId img)))

/-- Outputs that wait for their first edge count their 10 µs from here (R340). -/
def State.outsStart (s : State) : State :=
  (List.finRange 12).foldl (fun (s : State) (k : Fin 12) =>
    s.modOut k fun o => { o with restartFrom := if o.low && s.plt.plot.outMode k ≠ 0 then some s.tick else o.restartFrom }) s

/-- Step 4 of R47: domains are up, the staging image becomes active, the curtain is released, APPLIED is raised; at a start-up, `ms` after the reset, the image applied is the active one already. -/
def State.applyEnd (s : State) (ms : Nat) : State :=
  let booting := s.pwr.boot ≠ .none
  let img := if booting then s.plt.active else s.plt.staging
  let rest := if booting then s.plt.staging else []
  let s1 := s.powerAll.applyAwake
  let s2 := ((s1.showActive img).setFld 0x010008 0 5 (if rest.isEmpty then 8 else 11)).setBit 0x010008 6 (!rest.isEmpty && s1.bit 0x010008 6)
  let s3 := { s2 with plt := { s2.plt with active := img, staging := rest, applying := false } }
  let s4 := (s3.raise 0x01000C 4).modPwr fun p => { p with unplotted := false, boot := .none }
  let s5 := if booting then s4.wr 0x10001C (BitVec.ofNat 32 ms) else s4
  (s5.muteFollow s).outsStart

end Sys2Proof.Machine
end

