-- ==== Sys2Proof/Machine/Plt.lean ====
section
/-! DEFINITION. Sys2Proof/Machine/Plt.lean: the loader, re-plots and start-up of the plot, and the meanings of their commands and events (spec/02_stage_plot.md). -/
namespace Sys2Proof.Machine

def State.modPlt (s : State) (f : Plt → Plt) : State := { s with plt := f s.plt }

/-- PLT_STATUS.STAGE_STATE: 0 IDLE, 1 FETCHING, 2 VERIFYING, 3 STAGED, 4 APPLYING. -/
def State.stage (s : State) : Nat := s.fld 0x010008 0 3
def State.setStage (s : State) (n : Nat) : State := s.setFld 0x010008 0 3 n
/-- ACTIVE_VALID. -/
def State.activeValid (s : State) : Bool := s.bit 0x010008 3

/-- A failed load, verification or re-plot: PLT_ERR_INFO, PLT_ERR_OFFSET and LAST_ERR (R42). -/
def State.pltFail (s : State) (f : PlotFail) : State :=
  ((s.wr 0x010010 (BitVec.ofNat 32 (f.sect * 2 ^ 16 + f.step * 2 ^ 8 + f.code.code))).wr 0x010014 (BitVec.ofNat 32 f.off)).setFld 0x010008 8 8 f.code.code

/-! ### Fetching and verifying -/

/-- The checks of a fetch (Table 2.9, R54, R443, Table 2.13). -/
def State.fetchErr (s : State) (src : FetchSrc) : Option Err :=
  if s.plt.replotAt.isSome || s.stage ≠ 0 || s.pwr.boot ≠ .none then some .busy
  else match src with
    | .pcie => if s.fld 0x010018 0 6 ≠ 0 then some .align else if s.rd 0x010020 = 0 then some .range else none
    | .flash => if s.mem.qspi.isSome then some .busy else if (s.rd 0x010024).toNat % 64 ≠ 0 then some .align else none

/-- CMD = FETCH_PCIE or FETCH_FLASH: the staging image is fetched. -/
def State.fetchCmd (s : State) (m : Master) (src : FetchSrc) : State :=
  s.guardW m 0x010000 (match src with | .pcie => 1 | .flash => 2) fun s =>
    match s.fetchErr src with
    | some e => s.reject m 0x010000 e
    | none => (s.setStage 1).modPlt fun p => { p with fetch := some src, staging := [] }

/-- CMD = ABORT: a fetch or a verification stops (R58). -/
def State.abortCmd (s : State) (m : Master) : State :=
  s.guardW m 0x010000 3 fun s => if s.stage = 1 || s.stage = 2 then s.fetchFail else s.reject m 0x010000 .state

/-- CMD = DISCARD_STAGED: the staging image and a pending re-plot go (R54). -/
def State.discardCmd (s : State) (m : Master) : State :=
  s.guardW m 0x010000 4 fun s =>
    if s.stage = 3 then ((s.setStage 0).setFld 0x010008 5 2 0).modPlt fun p => { p with replotAt := none, staging := [] }
    else s.reject m 0x010000 .state

/-- The checks of BURN_ROLLBACK (R41). -/
def State.burnErr (s : State) : Option Err :=
  if s.otp.lifecycle ≠ .provisioned && s.otp.lifecycle ≠ .deployed then some .lifecycle
  else if !s.activeValid then some .state
  else if s.key.otpOp.isSome then some .busy else none

/-- CMD = BURN_ROLLBACK: fuses burn up to the ROLLBACK_IDX of the active plot (R41). -/
def State.burnCmd (s : State) (m : Master) : State :=
  s.guardW m 0x010000 5 fun s =>
    match s.burnErr with
    | some e => s.reject m 0x010000 e
    | none => s.modKey fun k => { k with otpOp := some (.rollback (imgRollback s.plt.active)) }

/-- PLT_CTL by value (Table 2.9). -/
def State.pltCtl (s : State) (m : Master) (v : Word) : State :=
  match v.toNat with
  | 1 => s.fetchCmd m .pcie
  | 2 => s.fetchCmd m .flash
  | 3 => s.abortCmd m
  | 4 => s.discardCmd m
  | 5 => s.burnCmd m
  | _ => s.guardW m 0x010000 v fun s => s.reject m 0x010000 .range

/-- FETCH_COMPLETE: the last byte is in; verification begins. A stopped DMA channel brings nothing. -/
def State.fetched (s : State) (img : List Byte) : State :=
  match s.plt.fetch with
  | none => s
  | some src =>
    if src = .pcie && s.dmaStopped 0 then s
    else
      let l := if src = .pcie then img.take (s.rd 0x010020).toNat else img
      (s.setStage 2).modPlt fun p => { p with fetch := none, staging := l }

/-- VERIFY_DONE (R42, R43). -/
def State.verified (s : State) : State :=
  if s.stage ≠ 2 then s
  else match s.verifyImage s.plt.staging with
    | some f => (((s.pltFail f).setStage 0).modPlt fun p => { p with staging := [] }).raise 0x01000C 2
    | none => ((s.setStage 3).setBit 0x010008 6 (s.activeValid && sameReload s.plt.staging s.plt.active)).raise 0x01000C 1

/-! ### Applying -/

/-- A verified image in the store is applied; the sections wait for PD1 to leave reset where it has not (R47). -/
def State.applyImage (s : State) (img : List Byte) : State :=
  let s1 := s.applyBegin
  if s.pd1 then s1.applySections (imgPlot img) else s1

/-- The image that a start-up applies. -/
def State.bootApply (s : State) (img : List Byte) : State :=
  ((s.modPwr fun p => { p with boot := .applying }).modPlt fun p => { p with active := img }).applyImage img

/-- PD1 has left reset: an apply that waited for it goes on. -/
def State.applyLate (s : State) : State :=
  if s.plt.applying then s.applySections (imgPlot (if s.pwr.boot = .applying then s.plt.active else s.plt.staging)) else s

/-- The instant that the master's held words give a re-plot. -/
def State.replotInstant (s : State) (m : Master) : Nat := s.htimeAt m.idx 0x010030

/-- The checks of PLT_APPLY (Table 2.10, R51, R54, R27). -/
def State.applyErr (s : State) (m : Master) (mode : Nat) : Option Err :=
  if mode ≠ 1 && mode ≠ 2 then some .range
  else if s.plt.replotAt.isSome then some .busy
  else if s.stage ≠ 3 then some .state
  else if mode = 1 then none
  else if !s.bit 0x010008 6 then some .state
  else if !(List.range 4).all (fun i => s.marked m.idx (0x010030 + 4 * i)) then some .seq
  else if badInstant s.tb0 (s.replotInstant m) then some .time else none

/-- A completed pair of writes of PLT_APPLY: FULL applies the staging image at once, REPLOT arms a re-plot. -/
def State.pltApply (s : State) (m : Master) (v : Word) : State :=
  s.guardD m 0x010004 v fun s =>
    match s.applyErr m (fget v 0 2) with
    | some e => s.reject m 0x010004 e
    | none =>
      if fget v 0 2 = 1 then s.applyImage s.plt.staging
      else
        let s1 := (List.range 4).foldl (fun (s : State) i => s.mark m.idx (0x010030 + 4 * i) false) s
        (s1.setBit 0x010008 5 true).modPlt fun p => { p with replotAt := some (s.replotInstant m) }

/-- APPLY_COMPLETE: step 4 of R47. -/
def State.applied (s : State) (ms : Nat) : State := if s.plt.applying && s.pd1 then s.applyEnd ms else s

/-! ### Re-plots -/

/-- A re-plot is due where TB0 has the value `v` (R51). -/
def State.replotDue (s : State) (v : Nat) : Bool := match s.plt.replotAt with
  | some t => decide (t ≤ v)
  | none => false

/-- What of the device's state keeps a re-plot from being applied: the section that assigns engines to a fenced cluster, or takes a bank of a fenced unit (R52). -/
def State.replotBar (s : State) (new : Plot) : Option Nat :=
  let old := s.plt.plot
  let eng := (List.range 64).any (fun e => s.clusterFenced (e / 16) && new.engine e ≠ 0 && old.engine e ≠ new.engine e)
  let bank := (List.range 24).any (fun b => old.bankUse b ≠ new.bankUse b &&
    ((old.bankUse b = 3 && s.gnssFenced) || (old.bankUse b = 1 && (s.complexFenced 0 || s.complexFenced 1))))
  if eng then some 8 else if bank then some 0xB else none

/-- The frequency that a gliding output has reached (R333). -/
def State.freqNow (s : State) (k : Fin 12) : Nat :=
  match s.out.outs[k].glide with
  | none => s.out.outs[k].freq
  | some g =>
    let len := g.ms * ticksPerMs
    if len = 0 then g.toF else ((g.fromF : Int) + ((g.toF : Int) - g.fromF) * (min (s.tick - g.start) len : Nat) / len).toNat

/-- GLIDE_START (R332): an output on the move to a new frequency; under a curtain it waits for the release (R340). -/
def State.glideStart (s : State) (k : Fin 12) (ms : Nat) : State :=
  let g : Glide := ⟨s.freqNow k, s.plt.plot.outFreq k, s.tick, ms⟩
  if s.bit (outReg k 4) 27 then s.modOut k fun o => { o with freq := g.fromF, glide := none, stopped := some g }
  else (s.modOut k fun o => { o with freq := g.fromF, glide := some g, stopped := none }).setBit (outReg k 4) 28 true

/-- What a re-plot does to an output (R331 to R334, Table 2.8). -/
def State.replotOut (s : State) (old : Plot) (k : Fin 12) : State :=
  let new := s.plt.plot
  let s1 := if old.outDll k = new.outDll k then s else s.wr (outReg k 0xC) (BitVec.ofInt 32 (new.outDll k))
  let ramp := old.apllFreq (new.outApll k) ≠ new.apllFreq (new.outApll k)
  if new.outMode k = 0 then (if old.outMode k = 0 then s1 else s1.outEnable k)
  else if old.outMode k ≠ new.outMode k || old.outApll k ≠ new.outApll k then
    let s2 := (s1.setBit (outReg k 4) 26 (!s.bit (apllReg (new.outApll k - 1) 4) 31)).outEnable k
    if s2.outHeldOff k then s2.outHoldOff k else s2
  else if ramp || old.outFreq k ≠ new.outFreq k then
    let ms := (s.rd (outReg k 0x10)).toNat
    s1.glideStart k (if ramp then max ms 10 else ms)
  else s1

/-- What a re-plot does to an APLL: off, started, or its VCO ramps (R332). -/
def State.replotApll (s : State) (old : Plot) (k : Fin 4) : State :=
  let f := s.plt.plot.apllFreq (k.val + 1)
  if f = old.apllFreq (k.val + 1) then s
  else if f = 0 || old.apllFreq (k.val + 1) = 0 then s.applyApll old k
  else (s.modApll k fun a => { a with plan := f }).setBit (apllReg k 4) 25 true

/-- A re-plot that changes a cue's owner or time base cancels an armed cue and counts it (R347). -/
def State.replotCue (s : State) (old : Plot) (c : Fin 16) : State :=
  let new := s.plt.plot
  if s.out.cues[c].arm.isSome && (old.cueOwner c ≠ new.cueOwner c || old.cueTb c ≠ new.cueTb c) then s.cueCancel c true else s

/-- Domains follow a re-plot; a cluster that it leaves without engines stays on until it is idle (Table 2.8, R473). -/
def State.replotPower (s : State) : State :=
  let busy := s.pwr.powered.filter (fun d => decide (3 ≤ d) && decide (d ≤ 6) && !s.plt.plot.wantsDomain d && !s.clusIdle (d - 3))
  let s1 := s.modPwr fun q =>
    { q with powered := q.powered.filter (fun d => s.plt.plot.wantsDomain d || busy.contains d),
             wanted := (List.range 12).filter (fun d => s.plt.plot.wantsDomain d && !q.powered.contains d) }
  s1.domFollow s

/-- Clusters that no longer have engines are switched off once idle. -/
def State.powerTrim (s : State) : State :=
  let gone := s.pwr.powered.filter (fun d => decide (3 ≤ d) && decide (d ≤ 6) && !s.plt.plot.wantsDomain d && s.clusIdle (d - 3))
  if gone.isEmpty then s
  else ((gone.foldl (fun (s : State) d => if s.clusterFenced (d - 3) then s else s.setFld (clusReg (d - 3) 0) 30 2 0) s).modPwr fun q =>
    { q with powered := q.powered.filter (fun d => !gone.contains d) }).domFollow s

/-- REPLOT_APPLY at its tick (R52, R53, Table 2.8): all re-plottable sections or none. -/
def State.replotNow (s : State) : State :=
  let old := s.plt.plot
  let img := s.plt.staging
  let new := imgPlot img
  let s0 := (s.setBit 0x010008 5 false).modPlt fun p => { p with replotAt := none }
  match s.replotBar new with
  | some sect => (s0.pltFail ⟨.state, 0xF, sect, 0⟩).raise 0x01000C 0x20
  | none =>
    let s1 := s0.modPlt fun p => { p with plot := new, active := img, staging := [] }
    let s2 := (List.finRange 4).foldl (fun (s : State) k => s.replotApll old k) s1
    let s3 := (List.finRange 12).foldl (fun (s : State) k => s.replotOut old k) s2
    let s4 := (List.finRange 16).foldl (fun (s : State) c => s.replotCue old c) s3
    let s5 := ((s4.banksFollow old).replotPower.outsSettle).showActive img
    (((s5.setStage 0).setBit 0x010008 6 false).bump 0x010044 1).raise 0x01000C 0x10

/-- A due re-plot is applied. -/
def State.replotTry (s : State) (v : Nat) : State := if s.replotDue v then s.replotNow else s

/-! ### Start-up -/

/-- The dark plot comes into force (R44, R46, Table 2.7). -/
def State.darkEnter (s : State) : State :=
  let s1 := (s.applySections darkPlot).modPlt fun p => { p with active := [], staging := [], applying := false }
  let s2 := ((s1.showActive []).setFld 0x010008 0 7 0x10).modPwr fun p => { p with boot := .none, unplotted := false }
  s2.muteFollow s

/-- The dark plot at a start-up, `ms` after the reset. -/
def State.bootDark (s : State) (ms : Nat) : State := s.darkEnter.wr 0x10001C (BitVec.ofNat 32 ms)

/-- An image that fails at start-up: its failure is recorded (R42). -/
def State.bootFail (s : State) (f : PlotFail) : State := (s.pltFail f).raise 0x01000C 2

/-- BOOT_IMAGE_VERIFIED (R44): the first image that passes is applied; with both failed, `ms` after POR, the dark plot comes into force. -/
def State.bootDone (s : State) (a b : List Byte) (ms : Nat) : State :=
  if s.pwr.boot ≠ .reading || s.pwr.por then s
  else
    match s.verifyImage a with
    | none => s.bootApply a
    | some f =>
      let s1 := s.bootFail f
      match s.verifyImage b with
      | none => s1.bootApply b
      | some g => (s1.bootFail g).bootDark ms

/-- WARM_RESET_REVERIFY_DONE (R45): the image in the store is applied again; one that fails leaves the dark plot. -/
def State.reverifyDone (s : State) (ms : Nat) : State :=
  if s.pwr.boot ≠ .reverifying then s
  else match s.verifyImage s.plt.active with
    | none => s.bootApply s.plt.active
    | some f => (s.bootFail f).bootDark ms

/-! ### Meanings -/

/-- FETCH_PCIE (R42). -/
def execFetchPcie (m : Master) (s : State) : Out1 := .next (s.fetchCmd m .pcie)
/-- FETCH_FLASH (R42). -/
def execFetchFlash (m : Master) (s : State) : Out1 := .next (s.fetchCmd m .flash)
/-- FETCH_ABORT (R58). -/
def execFetchAbort (m : Master) (s : State) : Out1 := .next (s.abortCmd m)
/-- DISCARD_STAGED (R54). -/
def execDiscardStaged (m : Master) (s : State) : Out1 := .next (s.discardCmd m)
/-- BURN_ROLLBACK (R41). -/
def execBurnRollback (m : Master) (s : State) : Out1 := .next (s.burnCmd m)
/-- FETCH_COMPLETE (R42): the bytes of the image. -/
def execFetchComplete (img : List Byte) (s : State) : Out1 := .next (s.fetched img)
/-- FETCH_FAILED (R58). -/
def execFetchFailed (s : State) : Out1 := .next (if s.plt.fetch.isSome then s.fetchFail else s)
/-- VERIFY_DONE (R43). -/
def execVerifyDone (s : State) : Out1 := .next s.verified
/-- FULL_APPLY (R47): a completed pair of writes with MODE FULL. -/
def execFullApply (m : Master) (s : State) : Out1 := .next (s.pltApply m 1)
/-- REPLOT_ARM (R51): a completed pair of writes with MODE REPLOT. -/
def execReplotArm (m : Master) (s : State) : Out1 := .next (s.pltApply m 2)
/-- REPLOT_APPLY (R52). -/
def execReplotApply (s : State) : Out1 := .next (s.replotTry (max s.tb0 s.tb0Next))
/-- BOOT_IMAGE_VERIFIED (R44): the two flash images and the milliseconds since POR. -/
def execBootImageVerified (a b : List Byte) (ms : Nat) (s : State) : Out1 := .next (s.bootDone a b ms)
/-- WARM_RESET_REVERIFY_DONE (R45). -/
def execWarmResetReverifyDone (ms : Nat) (s : State) : Out1 := .next (s.reverifyDone ms)
/-- APPLY_COMPLETE (R47): at a start-up, `ms` after POR. -/
def execApplyComplete (ms : Nat) (s : State) : Out1 := .next (s.applied ms)

end Sys2Proof.Machine
end

