-- ==== Sys2Proof/Machine/Commit.lean ====
section
/-! DEFINITION. Sys2Proof/Machine/Commit.lean: the scheduled commit and the global snapshot (spec/01_architecture.md, R23 to R31; spec/17_registers.md, R460 to R463; R87). -/
namespace Sys2Proof.Machine

def State.modGlb (s : State) (f : Glb → Glb) : State := { s with glb := f s.glb }

/-! ### The commit -/

/-- Everything staged and valid takes effect (Table 17.6). -/
def State.stagedApply (s : State) : State :=
  let s1 := (List.finRange 64).foldl (fun (s : State) (n : Fin 64) => s.commitTb n) s
  let s2 := (List.range 2).foldl (fun (s : State) i =>
    if s.bit 0x090020 i then (s.rlSet i (s.rd (0x090018 + 4 * i))).setBit 0x090020 i false else s) s1
  (List.finRange 4).foldl (fun (s : State) (b : Fin 4) => s.btbCommit b) s2

/-- The commit comes to its tick: all of it is applied, or none (R28, R463). -/
def State.commitNow (s : State) : State :=
  let s0 := (s.setBit 0x000044 31 false).modGlb fun g => { g with commitAt := none }
  match s.commitErr with
  | none => ((s0.stagedApply.bump 0x000048 1).setFld 0x000044 8 8 0).raise 0x00000C 1
  | some (r, e) => ((s0.wr 0x00004C (BitVec.ofNat 32 r)).setFld 0x000044 8 8 e.code).raise 0x00000C 2

/-- The commit on the first tick on which TB0 has come to its instant; `v` is TB0's value for that tick (R26). -/
def State.commitTry (s : State) (v : Nat) : State := match s.glb.commitAt with
  | some t => if t ≤ v then s.commitNow else s
  | none => s

/-- What keeps a W3 write from arming, after the permission check (R461): its order, a pending commit, the instant. -/
def State.commitW3Err (s : State) (m : Master) (inst : Nat) : Option Err :=
  if !(List.range 3).all (fun i => s.marked m.idx (0x000030 + 4 * i)) then some .seq
  else if s.glb.commitAt.isSome then some .busy
  else if badInstant s.tb0 inst then some .time else none

/-- GLB_COMMIT_TIME_W3: arms the commit at the instant of the master's held words (R461, R26, R27). -/
def State.commitW3 (s : State) (m : Master) (v : Word) : State :=
  s.guardW m 0x00003C v fun s =>
    let s1 := s.hset m.idx 0x00003C (BitVec.ofNat 32 (fget v 0 16))
    let inst := s1.htimeAt m.idx 0x000030
    match s.commitW3Err m inst with
    | some e => s.reject m 0x00003C e
    | none =>
      ((List.range 3).foldl (fun (s : State) i => s.mark m.idx (0x000030 + 4 * i) false) (s1.setBit 0x000044 31 true)).modGlb fun g =>
        { g with commitAt := some inst }

/-- GLB_COMMIT_CTL: CANCEL removes a pending commit (R463). -/
def State.commitCtl (s : State) (m : Master) (v : Word) : State :=
  s.guardW m 0x000040 v fun s =>
    if fget v 0 1 = 0 then s
    else if s.glb.commitAt.isNone then s.reject m 0x000040 .state
    else (s.setBit 0x000044 31 false).modGlb fun g => { g with commitAt := none }

/-! ### The snapshot -/

/-- GLB_SNAP_CTL: the value 1 requests a snapshot on the next tick (R24, R460). -/
def State.snapCtl (s : State) (m : Master) (v : Word) : State :=
  s.guardW m 0x000020 v fun s => if v ≠ 1 then s.reject m 0x000020 .range else s.modGlb fun g => { g with snapReq := true }

/-- The increment that a time base added on the tick just formed, slew offset included (R87). -/
def State.addedInc (s : State) (n : Fin 64) : Nat :=
  if s.tbs[n].plain = s.tbs[n].prev then s.tbEffInc n else s.tbs[n].plain - s.tbs[n].prev

/-- The shadows of one time base (R87). -/
def State.snapTb (s : State) (n : Fin 64) : State :=
  if !s.plt.plot.tbPresent n then s
  else s.wrAll (tbReg n 0xA0) (timeWords s.tbs[n].value ++
    [BitVec.ofNat 32 (s.addedInc n), BitVec.ofNat 32 (s.addedInc n / 2 ^ 32), BitVec.ofNat 32 (s.bound n), s.prov n])

/-- The 32 bytes of a time base in a snapshot entry (Table 16.6); an absent one has 0 and the bound 0xFFFF_FFFF. -/
def State.snapTbBytes (s : State) (n : Fin 64) : List Byte :=
  if s.plt.plot.tbPresent n then
    (timeWords s.tbs[n].value).flatMap (fun w => leBytes 4 w.toNat) ++ leBytes 8 (s.addedInc n) ++ leBytes 4 (s.bound n) ++ leBytes 4 (s.prov n).toNat
  else List.replicate 24 0 ++ leBytes 4 0xFFFFFFFF ++ List.replicate 4 0

/-- The 16 bytes of a reference slot: its phase against TB0 in 2⁻¹⁶ ns, 0 before its first sample, REFn_STAT and REFn_QUAL. -/
def State.snapRefBytes (s : State) (k : Fin 24) : List Byte :=
  leBytes 8 (unsigned 64 ((s.refs[k].phase.getD 0) / (2 ^ 40 : Nat))) ++ leBytes 4 (s.rd (refReg k 4)).toNat ++ leBytes 4 (s.rd (refReg k 0xC)).toNat

/-- The entry of ring 2 (Table 16.6). -/
def State.snapEntry (s : State) : List Byte :=
  let seq := leBytes 4 (s.rd 0x000024).toNat
  seq ++ leBytes 4 (s.rd 0x000028).toNat ++ leBytes 8 s.tick ++
    leBytes 8 ((List.range 64).foldl (fun a n => if s.plt.plot.tbPresent n then a + 2 ^ n else a) 0) ++ List.replicate 40 0 ++
    (List.finRange 64).flatMap s.snapTbBytes ++ (List.finRange 24).flatMap s.snapRefBytes ++ List.replicate 1592 0 ++ seq ++ List.replicate 4 0

/-- SNAPSHOT_LATCH: the shadow set is this tick's state (R23, R87, R96, R439). -/
def State.snapLatch (s : State) : State :=
  if !s.glb.snapReq then s
  else
    let s1 := (List.finRange 64).foldl (fun (s : State) (n : Fin 64) => s.snapTb n) (s.modGlb fun g => { g with snapReq := false })
    let s2 := (s1.wrAll 0x030008 [BitVec.ofNat 32 s.tick, BitVec.ofNat 32 (s.tick / 2 ^ 32)]).wr 0x000028 (s1.rd 0x000048)
    let s3 := s2.bump 0x000024 1
    s3.ringPut 2 s3.snapEntry

/-! ### Meanings -/

/-- GLB_SNAP_CTL_WRITE (R24). -/
def execGlbSnapCtlWrite (m : Master) (v : Word) (s : State) : Out1 := .next (s.snapCtl m v)
/-- SNAPSHOT_LATCH (R23). -/
def execSnapshotLatch (s : State) : Out1 := .next s.snapLatch
/-- GLB_COMMIT_TIME_W3_WRITE (R461). -/
def execGlbCommitTimeW3Write (m : Master) (v : Word) (s : State) : Out1 := .next (s.commitW3 m v)
/-- COMMIT_CANCEL (R463): a write of 1 to GLB_COMMIT_CTL. -/
def execCommitCancel (m : Master) (s : State) : Out1 := .next (s.commitCtl m 1)
/-- COMMIT_APPLY (R28): a commit whose instant TB0 has reached, or reaches with the next tick. -/
def execCommitApply (s : State) : Out1 := .next (s.commitTry (max s.tb0 s.tb0Next))

end Sys2Proof.Machine
end

