-- ==== Sys2Proof/Machine/Mbx.lean ====
section
/-! DEFINITION. Sys2Proof/Machine/Mbx.lean: the mailboxes of the global block (spec/17_registers.md, R464). -/
namespace Sys2Proof.Machine

/-- A register of mailbox `b` (Table 17.4): CMD 0, STAT 4, ARG 8 to 0x14, RSP 0x18 to 0x24. -/
def mbxReg (b o : Nat) : Nat := 0x000100 + 0x40 * b + o

/-- A command of mailbox `b` is running. -/
def State.mbxBusy (s : State) (b : Nat) : Bool := s.bit (mbxReg b 4) 31

/-- Free values for words of a response that Table 17.8 does not state. -/
def State.freshWords (s : State) : Nat → List Word × State
  | 0 => ([], s)
  | k + 1 => let f := s.fresh 32; let r := f.2.freshWords k; (f.1 :: r.1, r.2)

/-- Two's complement of a temperature in units of 0.01 °C. -/
def centi (t : Int) : Word := BitVec.ofInt 32 (t * 100)

/-- The words that a command states for RSP0 onwards, and its code (Table 17.8); the other words are free. -/
def State.mbxStated (s : State) (b op : Nat) : List Word × Nat :=
  let arg0 := s.rd (mbxReg b 8)
  match op with
  | 1 => ([~~~ arg0], 0)
  | 2 => ((List.range 4).map Config.fwInfo, 0)
  | 3 => match s.pwr.temps with
    | [] => ([], 0)
    | t :: l => ([centi (l.foldl max t), centi (l.foldl min t)], 0)
  | 4 => if 3 < arg0.toNat then ([], Err.range.code) else ([BitVec.ofNat 32 (Sparse.get (fun _ => 0) s.flt.restarts arg0.toNat)], 0)
  | 5 => ([], 0)
  | _ => ([], Err.decode.code)

/-- GO = 1 starts the command of OP with the arguments held (R464). -/
def State.mbxStart (s : State) (b : Nat) : State :=
  let st := s.mbxStated b (s.fld (mbxReg b 0) 0 8)
  let f := s.freshWords (4 - st.1.length)
  (f.2.setBit (mbxReg b 4) 31 true).modGlb fun g => { g with mbx := Sparse.set (fun _ => none) g.mbx b (some ⟨st.1 ++ f.1, st.2⟩) }

/-- A write of a mailbox register: GO and the arguments wait while a command runs (R464). -/
def State.mbxWrite (s : State) (m : Master) (off : Nat) (v : Word) : State :=
  s.guardW m off v fun s =>
    let b := (off - 0x000100) / 0x40
    let o := off % 0x40
    if s.mbxBusy b && (o ≠ 0 || fget v 31 1 = 1) then s.reject m off .busy
    else if o = 0 && fget v 31 1 = 1 then (s.plainWrite m off v).mbxStart b
    else s.plainWrite m off v

/-- A running command completes: RSP0 to RSP3 and CODE are written, GO and BUSY clear, MBXm_DONE is raised (R464). -/
def State.mbxDone (s : State) (b : Nat) : State :=
  match Sparse.get (fun _ => none) s.glb.mbx b with
  | none => s
  | some r =>
    let s1 := (s.wrAll (mbxReg b 0x18) r.rsp).wr (mbxReg b 4) (BitVec.ofNat 32 r.code)
    ((s1.setBit (mbxReg b 0) 31 false).modGlb fun g => { g with mbx := Sparse.set (fun _ => none) g.mbx b none }).raise 0x00000C (2 ^ (2 + b))

/-- The write of CMD with `op` and GO = 1 by `m` to mailbox `b`. -/
def State.mbxRun (s : State) (m : Master) (b : Fin 2) (op : Nat) : State := s.mbxWrite m (mbxReg b 0) (BitVec.ofNat 32 (2 ^ 31 + op))

/-- MAILBOX_ECHO (R464). -/
def execMailboxEcho (m : Master) (b : Fin 2) (s : State) : Out1 := .next (s.mbxRun m b 1)
/-- MAILBOX_FW_INFO (R464). -/
def execMailboxFwInfo (m : Master) (b : Fin 2) (s : State) : Out1 := .next (s.mbxRun m b 2)
/-- MAILBOX_DIE_TEMP (R464). -/
def execMailboxDieTemp (m : Master) (b : Fin 2) (s : State) : Out1 := .next (s.mbxRun m b 3)
/-- MAILBOX_CORE_STAT (R464). -/
def execMailboxCoreStat (m : Master) (b : Fin 2) (s : State) : Out1 := .next (s.mbxRun m b 4)
/-- MAILBOX_SELFTEST (R464). -/
def execMailboxSelftest (m : Master) (b : Fin 2) (s : State) : Out1 := .next (s.mbxRun m b 5)
/-- MAILBOX_COMPLETE (R464). -/
def execMailboxComplete (b : Fin 2) (s : State) : Out1 := .next (s.mbxDone b)

end Sys2Proof.Machine
end

