-- ==== Sys2Proof/Machine/Mem.lean ====
section
/-! DEFINITION. Sys2Proof/Machine/Mem.lean: the meanings of the commands and events of the SRAM, DMA, rings, flash and host side (spec/16_memory_interconnect_host.md). -/
namespace Sys2Proof.Machine

/-- SRAM_READ (R423): of the three tries, `fails` fail. -/
def execSramRead (init : Fin 32) (line : Nat) (fails : Fin 4) (o : LineOwner) (s : State) : Out1 := .next (s.sramRead init.val line fails.val o)
/-- SRAM_WRITE (R425): bytes of one line from byte `at'` on. -/
def execSramWrite (init : Fin 32) (line : Nat) (pos : Fin 64) (bytes : List Byte) (fails : Fin 4) (o : LineOwner) (s : State) : Out1 :=
  .next (s.sramWrite init.val line pos.val bytes fails.val o)
/-- SCRUB_BURST (R427). -/
def execScrubBurst (bad : List (Fin 1024 × Fin 4 × LineOwner)) (s : State) : Out1 := .next (s.scrubBurst bad)
/-- PD9_RETENTION_ENTER (R428). -/
def execPd9RetentionEnter (s : State) : Out1 := .next s.pd9Retain
/-- DMA_COMPLETION_ERROR (R437). -/
def execDmaCompletionError (ch : Fin 5) (s : State) : Out1 := .next (s.dmaError ch)
/-- DMA_CHANNEL_RESTART (R437). -/
def execDmaChannelRestart (ch : Fin 5) (s : State) : Out1 := .next (s.dmaRestart ch.val)
/-- RING_ENTRY_WRITE (R438): the oldest ready entry of ring 2 + `c`. -/
def execRingEntryWrite (c : Fin 3) (s : State) : Out1 := .next (s.ringWrite (2 + c.val))
/-- RING_CONS_WRITE (R438). -/
def execRingConsWrite (m : Master) (c : Fin 3) (v : Word) (s : State) : Out1 := .next (s.ringCons m (2 + c.val) v)
/-- RING_EN_WRITE (R446): a write of MEM_RINGc_CTL. -/
def execRingEnWrite (m : Master) (c : Fin 3) (v : Word) (s : State) : Out1 := .next (s.ringCtl m (2 + c.val) v)
/-- RING_MOD_US_EXPIRE (R438). -/
def execRingModUsExpire (c : Fin 3) (s : State) : Out1 := .next (s.ringOwed (2 + c.val))
/-- QSPI_CMD_WRITE (R443). -/
def execQspiCmdWrite (m : Master) (v : Word) (s : State) : Out1 := .next (s.qspiCmd m v)
/-- QSPI_TRANSFER_DONE (R443): the bytes that flash gave, for a read. -/
def execQspiTransferDone (data : List Byte) (s : State) : Out1 := .next (s.qspiDone data)
/-- QSPI_DATA_ACCESS (Table 16.11): a push of a word, or a pop. -/
def execQspiDataAccess (m : Master) (push : Option Word) (s : State) : Out1 :=
  .next (match push with | some v => s.qspiPush m v | none => s.qspiPop m)
/-- PF_HOST_RESET (R435): 0 FLR, 1 hot reset, 2 link down, 3 D3hot. -/
def execPfHostReset (kind : Fin 4) (s : State) : Out1 := .next (s.hostReset kind)
/-- VF_FLR (R435). -/
def execVfFlr (v : Fin 16) (s : State) : Out1 := .next (s.vfReset v)
/-- D0_RETURN (R435): speed code, lanes, and the VFs enabled. -/
def execD0Return (speed : Fin 8) (width : Fin 16) (vfEn : Fin 65536) (s : State) : Out1 := .next (s.d0Return speed width.val vfEn.val)

end Sys2Proof.Machine
end

