-- ==== Sys2Proof/Machine/Dng.lean ====
section
/-! DEFINITION. Sys2Proof/Machine/Dng.lean: the pending pairs of dangerous registers (spec/17_registers.md, R454). -/
namespace Sys2Proof.Machine

/-- The pair pending for master index `i`. -/
def State.pair (s : State) (i : Nat) : Option DngPair := Sparse.get (fun _ => none) s.glb.dng i

/-- Replaces the pair pending for master index `i`. -/
def State.setPair (s : State) (i : Nat) (p : Option DngPair) : State :=
  { s with glb := { s.glb with dng := Sparse.set (fun _ => none) s.glb.dng i p } }

/-- The pending pair of master index `i`, if there is one, fails: ERR_PAIR against the address of its first half (R454, R458). -/
def State.pairFail (s : State) (i : Nat) : State := match s.pair i with
  | none => s
  | some p => (((s.setPair i none).recordErr i .pair false true p.off).setLastErr p.off .pair)

/-- A first half at `off` arms a pair with a fresh window. -/
def State.pairArm (s : State) (i off : Nat) (v : Word) : State := s.setPair i (some ⟨off, v, s.tick⟩)

/-- Ticks from the first half to the cycle after the 64th, at five ticks a bus cycle while APLL0 is locked (R432, R454). -/
def pairTicks : Nat := 65 * 5

/-- The window of master index `i` has closed on this tick (R454). -/
def State.pairOver (s : State) (i : Nat) : Bool :=
  s.apll0Locked && (match s.pair i with | some p => decide (p.at' + pairTicks ≤ s.tick) | none => false)

/-- Every pair whose window has closed fails. -/
def State.pairsTick (s : State) : State :=
  (List.range 26).foldl (fun (s : State) i => if s.pairOver i then s.pairFail i else s) s

end Sys2Proof.Machine
end

