-- ==== Sys2Proof/Machine/Ledger.lean ====
section
/-! DEFINITION. Sys2Proof/Machine/Ledger.lean: meanings of the commands and events of the error bound ledger (spec/07_error_bound.md): refreshes, staleness, the host margin, calibration records and the latched group. -/
namespace Sys2Proof.Machine

/-- LEDGER_REFRESH (R178): `bad` names a ledger whose two adders disagree (R177). -/
def execLedgerRefresh (bad : Option (Fin 64)) (s : State) : Out1 :=
  .next (match bad with
    | some n => (s.refreshTick).faultPulse (0x0600 + n.val) .uc 0
    | none => s.refreshTick)

/-- The selected slot of a TIME-kind loop goes stale: three sample intervals without a verified sample in ACQUIRING or LOCKED (R182). -/
def State.staleDue (s : State) (d : Fin 16) : State :=
  match s.loopTb d, s.selected d with
  | some n, some k =>
    let due := decide (max s.dplls[d].lastVer s.bnd[n].tv + 3 * s.sampleTicks k s.solTicks ≤ s.tick)
    if (s.dpllState d = 2 || s.dpllState d = 3) && due && !s.bnd[n].stale then
      (s.modBnd n fun l => { l with stale := true }).raise (bndReg n 8) 8
    else s
  | _, _ => s

/-- SAMPLE_STALE (R182). -/
def execSampleStale (d : Fin 16) (s : State) : Out1 := .next (s.staleDue d)

/-- BNDn_EXTRA (Table 7.1): a rise acts on the next tick, a fall waits for a verified sample. -/
def State.extraWrite (s : State) (m : Master) (n : Fin 64) (v : Word) : State :=
  s.guardW m (bndReg n 0xC) v fun s =>
    let s1 := s.plainWrite m (bndReg n 0xC) v
    let x := v.toNat
    s1.modBnd n fun l =>
      if max l.comps.extra (l.extraRise.getD 0) ≤ x then { l with extraRise := some x, extraWait := none }
      else { l with extraWait := some x }

/-- BND_EXTRA_WRITE (R174). -/
def execBndExtraWrite (m : Master) (n : Fin 64) (v : Word) (s : State) : Out1 := .next (s.extraWrite m n v)

/-- The rises of EXTRA written on the last tick (Table 7.1). -/
def State.extraRises (s : State) : State :=
  (List.finRange 64).foldl (fun s (n : Fin 64) => match s.bnd[n].extraRise with
    | some x => (s.ledgerRise n { extra := some x }).modBnd n fun l => { l with extraRise := none }
    | none => s) s

/-! ### Calibration records -/

/-- A record from the words of its registers (Table 7.12). -/
def recOf (ctl stamp path : Word) : CalRec := ⟨fget ctl 31 1 = 1, fget ctl 24 3, fget ctl 0 5, stamp.toNat, path.toNat⟩
/-- The record as last written. -/
def State.recWritten (s : State) (k : Nat) : CalRec := recOf (s.rd (calReg k 0)) (s.rd (calReg k 4)) (s.rd (calReg k 8))

/-- A target is in use: a TIME selector has selected a slot whose path it covers, or the lane's link is up (R188). -/
def State.targetUsed (s : State) (kind idx : Nat) : Bool :=
  (List.finRange 16).any (fun (d : Fin 16) => (s.loopTb d).isSome && (match s.selected d with
    | some k => s.calTarget k = (kind, idx)
    | none => false)) || (kind = 0 && s.portLink idx)

/-- What follows from a written record: the values in force at once, those of the next tick, those that wait (R188). -/
def State.calEffect (s : State) (c : Cal) (w : CalRec) : Cal :=
  let f := c.rise.getD c.inForce
  let usedOld := s.targetUsed f.kind f.index
  let usedNew := s.targetUsed w.kind w.index
  let off : CalRec := { f with valid := false }
  if !usedOld && !usedNew then ⟨w, none, none⟩
  else if f.kind ≠ w.kind || f.index ≠ w.index then
    if usedNew && w.valid then
      if usedOld then ⟨c.inForce, some off, some w⟩ else ⟨off, none, some w⟩
    else ⟨c.inForce, some w, none⟩
  else if !w.valid then (if f.valid then ⟨c.inForce, some { w with valid := false }, none⟩ else ⟨w, none, none⟩)
  else if !f.valid then ⟨c.inForce, c.rise, some w⟩
  else
    let r : CalRec := { f with uncStamp := max f.uncStamp w.uncStamp, uncPath := max f.uncPath w.uncPath }
    ⟨c.inForce, if r = c.inForce then none else some r, if r = w then none else some w⟩

/-- A write to a register of calibration record `k`: BND_CALk_CTL (`o` = 0), UNC_STAMP (1), UNC_PATH (2), ID (3) (R187, R188). -/
def State.calWrite (s : State) (m : Master) (k : Fin 32) (o : Fin 4) (v : Word) : State :=
  let off := calReg k (4 * o.val)
  s.guardW m off v fun s =>
    let s1 := s.plainWrite m off v
    let w := s1.recWritten k
    let twin := (List.finRange 32).any (fun (j : Fin 32) =>
      j ≠ k && (s1.recWritten j).valid && (s1.recWritten j).kind = w.kind && (s1.recWritten j).index = w.index)
    if w.kind ≠ 0 && w.uncStamp ≠ 0 then s.reject m off .range
    else if w.valid && twin then s.reject m off .state
    else if o.val = 3 then s1
    else
      let c := s1.calEffect s1.cals[k] w
      (s1.modCal k fun _ => c).setBit (calReg k 0) 30 c.wait.isSome

/-- BND_CAL_RECORD_WRITE (R188). -/
def execBndCalRecordWrite (m : Master) (k : Fin 32) (o : Fin 4) (v : Word) (s : State) : Out1 := .next (s.calWrite m k o v)

/-- A path term or a lane's stamp term rises between two states: raise events of the ledgers and of the time bases that the lane stamps (R180, R184, R188). -/
def State.calFollow (s before : State) : State :=
  let s1 := (List.finRange 16).foldl (fun (s : State) (d : Fin 16) => match s.loopTb d, s.selected d with
    | some n, some k => if before.pathOf k < s.pathOf k then s.ledgerRise n { path := some (s.pathOf k) } else s
    | _, _ => s) s
  (List.finRange 16).foldl (fun s (p : Fin 16) =>
    if s.portLink p && before.portTerm p (s.portRefined p) < s.portTerm p (s.portRefined p) then s.portTermRise p else s) s1

/-- The raises of records written on the last tick (R188). -/
def State.calRises (s : State) : State :=
  if s.cals.toList.any (fun c => c.rise.isSome) then
    ({ s with cals := s.cals.map (fun c => match c.rise with | some r => { c with inForce := r, rise := none } | none => c) } : State).calFollow s
  else s

/-! ### Reads -/

/-- A component in ps as its register shows it. -/
def psReg (n : Nat) : Word := BitVec.ofNat 32 (min n 0xFFFFFFFF)

/-- The group from BNDn_C_REF to BNDn_TV_HI as of this tick (Table 7.9, R183). -/
def State.bndGroup (s : State) (n : Fin 64) : List Word :=
  let l := s.bnd[n]
  let c := l.comps
  [psReg c.ref, psReg c.meas, psReg c.servo, psReg (divUp l.hold psU + l.tb0Max + l.tb0AtTv), psReg c.path, psReg c.quant,
   psReg (c.switch + l.tb0Switch), psReg c.extra, BitVec.ofNat 32 (s.bound n), psReg (divUp l.slope (10 ^ 16)), s.prov n, l.raiseSeq,
   BitVec.ofNat 32 l.tv, BitVec.ofNat 32 (l.tv / 2 ^ 32)]

/-- A read of BNDn_C_REF latches the group (R200). -/
def State.bndRead (s : State) (m : Master) (n : Fin 64) : State :=
  match s.checkRead m (bndReg n 0x10) with
  | some e => s.rejectRead m (bndReg n 0x10) e
  | none =>
    if s.plt.plot.tbPresent n then
      let l := s.bndGroup n
      (s.hsetAll m.idx (bndReg n 0x10) l).answer m.idx (l.headD 0)
    else s.answer m.idx 0

/-- BND_C_REF_READ (R200). -/
def execBndCRefRead (m : Master) (n : Fin 64) (s : State) : Out1 := .next (s.bndRead m n)

/-- BNDn_STAT (Table 7.10). -/
def State.bndStat (s : State) (n : Fin 64) : Word :=
  let l := s.bnd[n]
  fset (fset (fset (fset (fset 0 29 3 (s.provMode n)) 25 4 l.why) 24 1 (b2n l.firstSince.isSome)) 23 1 (b2n l.stale)) 22 1 (b2n l.saturated)

/-- A word of one bit for each of 32 instances from `lo`. -/
def bitWord (lo : Nat) (f : Nat → Bool) : Word := BitVec.ofNat 32 (((List.range 32).map (fun i => if f (lo + i) then 2 ^ i else 0)).sum)

/-- The read views of the ledger block. -/
def State.bndView (s : State) (m off : Nat) : Option Word :=
  if off < 0x062000 then
    let n : Fin 64 := ⟨(off - 0x060000) / 0x80 % 64, Nat.mod_lt _ (by decide)⟩
    let o := off % 0x80
    if o = 4 then some (s.bndStat n) else if 0x10 ≤ o && o < 0x48 then some (s.hget m off) else none
  else
    let irq := fun (i : Nat) => s.fld (bndReg i 8) 0 24 ≠ 0 && s.bit (bndReg i 0) 0
    let untr := fun (i : Nat) => s.untraceable ⟨i % 64, Nat.mod_lt _ (by decide)⟩
    match off with
    | 0x063008 => some (bitWord 0 untr)
    | 0x06300C => some (bitWord 32 untr)
    | 0x063010 => some (bitWord 0 irq)
    | 0x063014 => some (bitWord 32 irq)
    | _ => none

end Sys2Proof.Machine
end

