-- ==== Sys2Proof/Machine/Pmc.lean ====
section
/-! DEFINITION. Sys2Proof/Machine/Pmc.lean: the performance-counter reader and the entries of ring 4 (spec/17_registers.md, R467, R468). -/
namespace Sys2Proof.Machine

/-- Table 17.12 lists the identifier, and its cluster or port is present. -/
def State.pmcKnown (s : State) (id : Nat) : Bool :=
  let g := id / 256
  let i := id % 256
  if 0x10 ≤ g && g < 0x14 then decide (i < 5) && s.plt.plot.cluster (g - 0x10)
  else if 0x20 ≤ g && g < 0x30 then decide (i < 16) && s.plt.plot.portPresent (g - 0x20)
  else match g with
    | 0x40 => decide (i < 49)
    | 0x50 => decide (i < 4)
    | 0x60 => decide (i < 2)
    | _ => false

/-- A 64-bit count by its identifier (R467). Cycles are kept in units of 1/1,250 cycle. -/
def State.pmcVal (s : State) (id : Nat) : BitVec 64 :=
  let c := s.svc.clus[(id / 256 - 0x10) % 4]'(Nat.mod_lt _ (by decide))
  if 0x1000 ≤ id && id < 0x1400 && id % 256 < 4 then
    BitVec.ofNat 64 ((match id % 256 with | 0 => c.srv | 1 => c.dsc | 2 => c.idl | _ => c.stl) / 1250)
  else if 0x4000 ≤ id && id < 0x4018 then BitVec.ofNat 64 (Sparse.get (fun _ => 0) s.mem.corr (id - 0x4000))
  else if 0x4018 ≤ id && id < 0x4030 then BitVec.ofNat 64 (Sparse.get (fun _ => 0) s.mem.uncorr (id - 0x4018))
  else if id = 0x6000 then BitVec.ofNat 64 s.flt.nextId
  else Sparse.get (fun _ => 0) s.glb.pmc id

/-- PMC_SEL: any master that may read the block may write it; an identifier that is not listed fails (R467, Table 17.14). -/
def State.pmcSel (s : State) (m : Master) (v : Word) : State :=
  match s.checkRead m 0x110004 with
  | some e => s.reject m 0x110004 e
  | none =>
    if fget v 16 16 ≠ 0 && !s.manufacture then s.reject m 0x110004 .range
    else if !s.pmcKnown (fget v 0 16) then s.reject m 0x110004 .range
    else s.hset m.idx 0x110004 (BitVec.ofNat 32 (fget v 0 16))

/-- PMC_LISTk (Table 17.14). -/
def State.pmcList (s : State) (m : Master) (k : Nat) (v : Word) : State :=
  let off := 0x110100 + 4 * k
  s.guardW m off v fun s =>
    if fget v 31 1 = 1 && !s.pmcKnown (fget v 0 16) then s.reject m off .range else s.plainWrite m off v

/-- The counter that a master has selected. -/
def State.pmcSelected (s : State) (i : Nat) : BitVec 64 := s.pmcVal (fget (s.hget i 0x110004) 0 16)

/-- PMC_CTR_LO: the low half; the high half of the same value is latched for the reading master (R467). -/
def State.pmcRead (s : State) (m : Master) : State :=
  match s.checkRead m 0x110008 with
  | some e => s.rejectRead m 0x110008 e
  | none =>
    let v := s.pmcSelected m.idx
    (s.hset m.idx 0x11000C (BitVec.ofNat 32 (v.toNat / 2 ^ 32))).answer m.idx (BitVec.ofNat 32 v.toNat)

/-- PMC_LISTk.EN. -/
def State.pmcListed (s : State) (k : Nat) : Bool := s.bit (0x110100 + 4 * k) 31

/-- An entry of ring 4 (Table 17.13). -/
def State.pmcEntry (s : State) : List Byte :=
  leBytes 4 s.glb.pmcSeq.toNat ++
    leBytes 4 ((List.range 28).foldl (fun a k => if s.pmcListed k then a + 2 ^ k else a) 0) ++ leBytes 8 s.tick ++
    (timeWords s.tb0).flatMap (fun w => leBytes 4 w.toNat) ++
    (List.range 28).flatMap fun k => leBytes 8 (if s.pmcListed k then (s.pmcVal (s.fld (0x110100 + 4 * k) 0 16)).toNat else 0)

/-- PMC_RING_ENTRY: on each tick that is a multiple of RING_MS ms while EN is 1 (R468). -/
def State.pmcRing (s : State) : State :=
  if s.ringOn 4 && s.pd1 && s.tick % (s.fld 0x110000 0 16 * ticksPerMs) = 0 then
    (s.ringPut 4 s.pmcEntry).modGlb fun g => { g with pmcSeq := g.pmcSeq + 1 }
  else s

/-- PMC_RING_ENTRY (R468). -/
def execPmcRingEntry (s : State) : Out1 := .next s.pmcRing

end Sys2Proof.Machine
end

