-- ==== Sys2Proof/Machine/Reset.lean ====
section
/-! DEFINITION. Sys2Proof/Machine/Reset.lean: the three resets, the always-on clock, supplies, temperature and fuse burns, and the meanings of their commands and events (spec/18_power_reset_startup.md). -/
namespace Sys2Proof.Machine

/-! ### Fuses -/

/-- What a completed burn leaves in the fuses (R318, R319, R41). -/
def State.burn (s : State) (op : OtpOp) : State :=
  match op with
  | .fuse0 h => { s with otp := { s.otp with opk0 := h } }
  | .fuse1 h => { s with otp := { s.otp with opk1 := h } }
  | .revoke0 => { s with otp := { s.otp with revoked0 := true } }
  | .revoke1 => { s with otp := { s.otp with revoked1 := true } }
  | .advance => { s with otp := { s.otp with lifecycle := s.otp.lifecycle.next } }
  | .rollback n => s.setFld 0x010048 0 7 (max (s.fld 0x010048 0 7) n)

/-- OTP_BURN_DONE: OTP_BUSY clears; an advance raises LC_CHANGED, and RETIRED empties the key block, stops the services and applies the dark plot (R319). -/
def State.burnDone (s : State) : State :=
  match s.key.otpOp with
  | none => s
  | some op =>
    let s1 := (s.burn op).modKey fun k => { k with otpOp := none }
    if op ≠ .advance then s1
    else
      let s2 := s1.keyEvent 0x100
      if s2.otp.lifecycle = .retired then s2.keyWipe.servicesStop.darkEnter else s2

/-- A reset or a loss of power during a burn: the fuse is blown or it is not (R305, Table 11.3). -/
def State.burnCut (s : State) : State :=
  match s.key.otpOp with
  | none => s
  | some op =>
    let f := s.fresh 1
    if f.1 = 1 then f.2.burn op else f.2

/-! ### Resets (R478 to R480) -/

/-- PWR_RST_CAUSE of a reset. -/
def State.cause (s : State) (k : RstKind) (src : Nat) : State := s.wr 0x100014 (BitVec.ofNat 32 (k.code * 16 + src))

/-- COLD: everything returns to its reset value but the fuses (Table 18.4); the boot read begins. -/
def State.coldReset (s : State) (src : Nat) (por : Bool) : State :=
  let s := s.burnCut
  let r := State.reset
  let t : State := { r with otp := s.otp, fv := s.fv, pending := s.pending, resp := s.resp }
  ((t.setFld 0x010048 0 7 (s.fld 0x010048 0 7)).cause .cold src).modPwr fun p => { p with por := por }

/-- A register field held in PD0 (R480). -/
def heldInPd0 (off : Nat) : Bool :=
  let b := off / 0x10000
  b = 1 || b = 14 || b = 16 || off = 0x0D0000 || (decide (0x0D0020 ≤ off) && decide (off < 0x0D0038)) || (decide (0x0D0040 ≤ off) && decide (off < 0x0D0050))

/-- The collector over a reset of PD1: FATAL curtains end, restarted cores run, and times count from the tick counter's new start. -/
def Flt.rebase (f : Flt) : Flt :=
  { f with
    eqAt := []
    clearedAt := []
    counted := f.counted.map (fun p => (p.1, p.2.map (fun q => (0, q.2))))
    curtains := f.curtains.filter (fun c => !c.fatal)
    reacts := []
    masks := []
    coresDown := []
    restarts := [] }

/-- The plot store over a WARM reset: both images stay; a load in progress is lost (R45, R58). -/
def Plt.warm (p : Plt) (staged : Bool) : Plt := { active := p.active, staging := if staged then p.staging else [] }

/-- The domains that a WARM or SERVICE reset leaves on; PD2 to PD8 and PD11 restart with the plot. -/
def Pwr.restart (p : Pwr) : List Nat := p.powered.filter (fun d => d = 0 || d = 1 || d = 9 || d = 10)

/-- A unit with PAIR_EN starts in UNDERSTUDY (R480). -/
def State.pairedStart (s : State) : State := if s.paired then ((s.setFld 0x0D0008 29 3 1).setFld 0x0D0008 26 3 7).modWng fun w => { w with pairedAt := s.tick } else s

/-- WARM: PD1 and all that serves start anew; what PD0 holds, the store, the fuses and the GNSS bank stay (Table 18.4). -/
def State.warmReset (s : State) (src : Nat) : State :=
  let s := s.burnCut
  let r := State.reset
  let now : Int := s.tick
  let staged := s.stage = 3
  let t : State :=
    { r with
      regs := s.regs.filter (fun p => heldInPd0 p.1)
      held := s.held.filter (fun p => heldInPd0 (p.1 % 2 ^ 24))
      marks := s.marks.filter (fun p => heldInPd0 (p.1 % 2 ^ 24))
      resp := s.resp
      glb := { r.glb with errs := s.glb.errs }
      plt := s.plt.warm staged
      flt := s.flt.rebase
      gnss := { r.gnss with db := s.gnss.db.map (fun p => (p.1, p.2.1, p.2.2 - now)), fixAt := s.gnss.fixAt.map (fun t => t - now) }
      otp := s.otp
      pwr := { s.pwr with rst := (s.pwr.rst.filter (fun q => decide (s.tick < q.2))).map (fun q => (q.1, q.2 - s.tick)), boot := .reverifying, powered := s.pwr.restart, wanted := [], fwOk := false }
      fv := s.fv
      pending := s.pending }
  let t1 := (((t.setFld 0x010008 0 3 (if staged then 3 else 0)).setBit 0x010008 5 false).setBit 0x010008 6 (staged && s.bit 0x010008 6)).setBit 0x010008 4 false
  let t2 := ((t1.setFld 0x0B0000 5 3 (if s.bit 0x100004 31 then s.fld 0x100004 28 3 else 0)).cause .warm src).setFld 0x100018 16 16 (s.fld 0x100018 16 16 + 1)
  t2.fltShow.pairedStart

/-- SERVICE: all that serves restarts by the plot in force, and PD1's time runs on (Table 18.4, R45). -/
def State.serviceReset (s : State) : State :=
  let p := s.plt.plot
  let s1 := (s.servicesStop).hostReset 2
  let s2 := ((List.range 24).filter (fun b => pb p.banksFixed b = 6 || [0, 1, 5].contains (p.bankUse b))).foldl (fun (s : State) b => s.bankDrop b (p.bankUse b)) s1
  let s3 := (List.finRange 2).foldl (fun (s : State) (x : Fin 2) => let s := s.pathDown x; if s.bit 0x070000 x then (s.chainStop x).chainStart x else s) s2
  let s4 := (List.finRange 16).foldl (fun (s : State) (q : Fin 16) => s.applyPort p q) s3
  let s5 := (List.finRange 4).foldl (fun (s : State) (k : Fin 4) => (s.setBit (apllReg k 4) 31 false).applyBtb p k) s4.cuesCut
  let s6 := (List.finRange 16).foldl (fun (s : State) (c : Fin 16) => if s.out.cues[c].arm.isSome then s.cueCancel c false else s) s5.applyCommon
  let s7 := (List.finRange 12).foldl (fun (s : State) (k : Fin 12) =>
    let s := ((s.setBit (outReg k 4) 27 false).setBit (outReg k 4) 26 (p.outMode k ≠ 0)).outEnable k
    if s.outHeldOff k then s.outHoldOff k else s) s6
  let s8 := (s7.modPwr fun q => { q with powered := q.restart }).applyClusters.powerPlan
  let s9 := if s8.paired && s8.role ≠ 1 then s8.becomeUnderstudy else s8
  (s9.cause .service 5).setFld 0x100018 0 16 (s.fld 0x100018 0 16 + 1)

/-- A reset of a kind by command. -/
def State.cmdReset (s : State) (k : RstKind) : State :=
  match k with
  | .warm => s.warmReset 5
  | .service => s.serviceReset
  | .cold => s.coldReset 5 false

/-- The checks of PWR_RST_CMD (R481, Table 18.7). -/
def State.rstErr (s : State) (v : Word) : Option Err :=
  let k := fget v 0 2
  if k = 0 then some .range
  else if s.key.otpOp.isSome || s.stage = 4 then some .busy
  else if k = 2 && s.bit 0x0E000C 31 then some .state else none

/-- The kind that PWR_RST_CMD.KIND names. -/
def rstKind (k : Nat) : RstKind := match k with | 1 => .warm | 2 => .service | _ => .cold

/-- A completed pair of writes of PWR_RST_CMD: the reset starts 10 µs later. -/
def State.rstCmd (s : State) (m : Master) (v : Word) : State :=
  s.guardD m 0x100010 v fun s =>
    match s.rstErr v with
    | some e => s.reject m 0x100010 e
    | none => s.modPwr fun p => { p with rst := p.rst ++ [(rstKind (fget v 0 2), s.tick + 10 * ticksPerUs)] }

/-- A reset that a command asked for begins on its tick. -/
def State.rstTick (s : State) : State :=
  match s.pwr.rst.find? (fun q => decide (q.2 ≤ s.tick) || !s.pd1) with
  | some q => (s.modPwr fun p => { p with rst := p.rst.filter (fun x => !decide (x = q)) }).cmdReset q.1
  | none => s

/-- RESET_N low for `ns`: below 1 µs it may or may not be taken (R478). -/
def State.resetPulse (s : State) (ns : Nat) : State :=
  if s.pwr.por then s
  else if 1000 ≤ ns then s.warmReset 4
  else
    let f := s.fresh 1
    if f.1 = 1 then f.2.warmReset 4 else f.2

/-! ### Clocks (R474 to R477) -/

/-- LO_CLK is detected at listed rate `rate` (0 to 4: 10, 20, 25, 50, 100 MHz): PD0 runs from it and APLL0 starts. -/
def State.loDetected (s : State) (rate : Fin 5) : State :=
  if s.pwr.por || s.bit 0x100004 31 then s
  else ((((s.setBit 0x100004 31 true).setFld 0x100004 28 3 rate).setFld 0x0B0000 5 3 rate).raise 0x100008 2)

/-- LO_CLK stops or drifts: PD0 returns to the RC, and APLL0 loses lock (R475). -/
def State.loLost (s : State) : State :=
  if s.bit 0x100004 31 then ((s.setBit 0x100004 31 false).raise 0x100008 1).apll0Lost else s

/-- PD1 leaves reset: the tick counter starts at 0, TB0 at 0 with the host as owner and no bound, and an apply that waited goes on (R95, R477). -/
def State.pd1Start (s : State) : State :=
  let s1 := ({ s with pd1 := true, tick := 0, refreshAt := 0 }).setBit (tbReg 0 0x18) 0 true
  ((s1.modBnd 0 fun _ => {}).modMem fun m => { m with passFrom := 0, lastReq := 0 }).applyLate

/-- APLL0 locks to the detected LO_CLK: PD1 leaves reset at the first lock after a reset that covers it (R476). -/
def State.apll0Locks (s : State) : State :=
  if s.pwr.por || !s.bit 0x100004 31 || s.apll0Locked then s
  else
    let s1 := s.setBit 0x0B0000 0 true
    let s2 := if s.pd1 then s1 else s1.pd1Start
    s2.outsSettle.faultClear 0x0100

/-! ### Supplies and temperature (R469, R491, R497) -/

/-- PWR_STAT.SUPPLY_OK: the supply of a domain that is on is within its window. -/
def State.supplyOk (s : State) (d : Nat) : Bool := s.powered d && !s.srcLive (0x0300 + d)

/-- PWR_STAT. -/
def State.pwrStat (s : State) : Word := (List.range 12).foldl (fun w d => fset w d 1 (b2n (s.supplyOk d))) (s.rd 0x100004)

/-- The computed registers of the block. -/
def State.pwrView (s : State) (off : Nat) : Option Word :=
  match off with
  | 0x100004 => some s.pwrStat
  | 0x10000C => some s.domWord
  | _ => none

/-- SUPPLY_EXCURSION: the rail of domain `d` has left its window for 1 µs, or is inside it again. -/
def State.supply (s : State) (d : Fin 12) (inside : Bool) : State :=
  if inside then s.faultClear (0x0300 + d.val) else s.faultSignal (0x0300 + d.val) 0

/-- THERMAL_SENSOR_READ: instance 1 at 115 °C, instance 0 from 100 °C until below 97 °C; the trip is handled first (R497, R415). -/
def State.thermal (s : State) (t : List Int) : State :=
  let s1 := s.modPwr fun p => { p with temps := t }
  match t with
  | [] => s1
  | a :: r =>
    let hot := r.foldl max a
    let s2 := if 115 ≤ hot then s1.faultSignal 0x0201 0 else s1.faultClear 0x0201
    if 100 ≤ hot then s2.faultSignal 0x0200 0 else if hot < 97 then s2.faultClear 0x0200 else s2

/-! ### Meanings -/

/-- OTP_BURN_DONE (R318, R319). -/
def execOtpBurnDone (s : State) : Out1 := .next s.burnDone
/-- POR_ASSERT (R478): POR low, or VDD_AON outside its window. -/
def execPorAssert (vddAon : Bool) (s : State) : Out1 := .next (s.coldReset (if vddAon then 2 else 1) true)
/-- POR_RELEASE (R477): PD0 leaves reset on the RC clock. -/
def execPorRelease (s : State) : Out1 := .next (if s.pwr.por then s.modPwr fun p => { p with por := false } else s)
/-- RESET_N_PULSE (R478). -/
def execResetNPulse (ns : Fin 100000000) (s : State) : Out1 := .next (s.resetPulse ns.val)
/-- RESET_N_LONG (R478). -/
def execResetNLong (s : State) : Out1 := .next (if s.pwr.por then s else s.coldReset 3 false)
/-- PWR_RST_CMD_WARM (R481): a completed pair of writes with KIND WARM. -/
def execPwrRstCmdWarm (m : Master) (s : State) : Out1 := .next (s.rstCmd m 1)
/-- PWR_RST_CMD_SERVICE (R481). -/
def execPwrRstCmdService (m : Master) (s : State) : Out1 := .next (s.rstCmd m 2)
/-- PWR_RST_CMD_COLD (R481). -/
def execPwrRstCmdCold (m : Master) (s : State) : Out1 := .next (s.rstCmd m 3)
/-- POWER_LOSS (R471, R50): a rail leaves its window with POR high; nothing but the fuses stays, until POR is released. -/
def execPowerLoss (s : State) : Out1 := .next (s.coldReset 1 true)
/-- LO_CLK_DETECTED (R474). -/
def execLoClkDetected (rate : Fin 5) (s : State) : Out1 := .next (s.loDetected rate)
/-- LO_LOST (R475). -/
def execLoLost (s : State) : Out1 := .next s.loLost
/-- APLL0_LOCKED (R95, R476). -/
def execApll0Locked (s : State) : Out1 := .next s.apll0Locks
/-- DOMAIN_POWER_ON (R472): the ramp of the first domain that waits is complete. -/
def execDomainPowerOn (s : State) : Out1 := .next s.powerNext
/-- FIRMWARE_SELF_CHECK_DONE (R477). -/
def execFirmwareSelfCheckDone (s : State) : Out1 := .next (if s.pd1 then s.modPwr fun p => { p with fwOk := true } else s)
/-- SUPPLY_EXCURSION (R491). -/
def execSupplyExcursion (d : Fin 12) (inside : Bool) (s : State) : Out1 := .next (s.supply d inside)
/-- THERMAL_SENSOR_READ (R497). -/
def execThermalSensorRead (t : List Int) (s : State) : Out1 := .next (s.thermal t)

end Sys2Proof.Machine
end

