-- ==== Sys2Proof/Machine/Tick.lean ====
section
/-! DEFINITION. Sys2Proof/Machine/Tick.lean: one tick of the time-base clock in the order of Table 1.5 (R21), and the events of a tick as commands of their own. -/
namespace Sys2Proof.Machine

/-- RAISE_SEQ may advance again (R184). -/
def State.newTick (s : State) : State := { s with tick := s.tick + 1, bnd := s.bnd.map fun l => { l with raised := false } }

/-- Every index in turn. -/
def State.each {n : Nat} (s : State) (f : State → Fin n → State) : State := (List.finRange n).foldl f s

/-- A step of TBn that its DPLL armed has been applied: STEPPED, and reason 7 of Table 7.4 (R157). -/
def State.stepFollow (s : State) (d : Fin 16) : State :=
  match s.loopTb d with
  | some n =>
    if s.dplls[d].stepping && s.tbs[n].step.isNone then
      let s1 := s.modDpll d fun q => { q with stepping := false }
      if s.tbs[n].stepped then (s1.dpllEvent d 0x80).untrace n 7 else s1
    else s
  | none => s

/-- Orders 1 to 4 of Table 1.5. -/
def State.tickTimes (s : State) : State :=
  let v := s.tb0Next
  let s1 := (s.replotTry v).commitTry v
  let s2 := (s1.each (fun s (n : Fin 64) => s.ownTb n)).each (fun s (n : Fin 64) => s.incTb n)
  let s3 := s2.advance0
  let eff := State.eff0 s2 s3
  let s4 := s3.each (fun s (n : Fin 64) => if n.val = 0 || !s.plt.plot.tbPresent n then s else s.advance n eff)
  (s4.each State.stepFollow).takeoverStep

/-- Order 5 of Table 1.5: the ledgers. -/
def State.tickLedgers (s : State) : State := (s.extraRises.calRises.each State.staleDue).refreshTick

/-- A deadline of messages or solutions; that of a clock's edges comes as its own event (R121). -/
def State.actTick (s : State) (k : Fin 24) : State :=
  let src := s.plt.plot.refSource k
  if s.live k &&& 1 = 0 && (isGnss src || isWings src || isPtp src) then s.actCheck k else s

/-- The timers of the references and the selectors. -/
def State.refTick (s : State) : State :=
  let s1 := s.each (fun s (k : Fin 24) => ((((s.actTick k).glitchOver k).esmcAbsent k).qualExpire k).degExpire k)
  s1.each (fun s (d : Fin 16) => (s.each (fun s (k : Fin 24) => s.qholdEnd d k)).switchDone d)

/-- ACQUIRING begins on the tick after an entry into FREE with a slot selected (Table 6.4). -/
def State.acquireTick (s : State) (d : Fin 16) : State :=
  if s.dplls[d].acquireNext then
    let s1 := s.modDpll d fun q => { q with acquireNext := false }
    match s1.selected d with
    | some k => if s1.dpllState d = 1 then s1.dpllTake d k else s1
    | none => s1
  else s

/-- The timers of the loops. -/
def State.loopTick (s : State) : State := s.each (fun s (d : Fin 16) => ((s.acquireTick d).lockAchieved d).fwLost d)

/-- A lock loss of a delay line passes 10 ms on this tick (R94). -/
def State.tdcLongTick (s : State) (n : Fin 24) : State :=
  match s.tdc.ch[n].lostAt with
  | some t => if t + 10 * ticksPerMs + 1 = s.tick then s.tdcLong n else s
  | none => s

/-- The consumers of order 6 that stamp or show the time: snapshot, captures, cues, buses, ports, outputs. -/
def State.tickStamps (s : State) : State :=
  let s1 := s.snapLatch.tdcTick.each State.tdcLongTick
  let s2 := s1.each (fun s (c : Fin 16) => (s.cueEnd c).cueTick c)
  let s3 := (s2.btbTick).each (fun s (p : Fin 16) => s.portTick p)
  (s3.each (fun s (k : Fin 12) => (s.glideDone k).outRestart k)).gnssTick

/-- What runs on the tick beside the timing core: services, keys, faults, memory, power. -/
def State.tickBlocks (s : State) : State :=
  let s1 := s.cycTick.governTick.rlTick
  let s2 := ((List.range 4).foldl (fun (s : State) c => s.clusWakeDue c) s1)
  let s3 := (s2.svc.sess.map (·.1)).foldl (fun (s : State) j => s.grantLapse j) s2
  let s4 := s3.keyTick.stgTimeout.remask.uartTick.fltTick.injectTick.dmaTick.pd9Retain
  ([2, 3, 4].foldl (fun (s : State) c => s.ringOwed c) s4.pmcRing).powerTrim

/-- One tick (R21): the times, the ledgers, what follows from them, the consumers, the rest, and a reset that falls due. -/
def State.ticked (s : State) : State :=
  (s.newTick.pairsTick.tickTimes.tickLedgers.refTick.loopTick.wngTick.tickStamps.tickBlocks).rstTick

/-- TICK (R60): while PD1 is in reset, or POR holds the device, no tick clock runs; a commanded reset then begins at once. -/
def execTick (s : State) : Out1 := .next (if s.pwr.por then s else if s.pd1 then s.ticked else s.rstTick)

/-! ### Events of a tick as commands -/

/-- A time base takes an event of the tick that has come: its value changes by the step and slew given, and by a leap or wrap that is due; what consumers compare it with moves along. -/
def State.eventTb (s : State) (n : Fin 64) (sum : Int) (stp : Int × Option StepArm × Nat) (sl : Int × Option SlewArm × Nat) : State :=
  let t := s.tbs[n]
  (s.formTb n sum stp sl).modTb n fun q => { q with prev := t.prev, plain := ((t.plain : Int) + (sum - t.value)).toNat, stepped := t.stepped || q.stepped }

/-- The value that TB0 comes to with its next addition. -/
def State.tb0Comes (s : State) : Nat := s.tb0 + s.tbEffInc 0

/-- The step of `n` is due: TB0 comes to its instant (R72). -/
def State.stepRow (s : State) (n : Fin 64) : State :=
  let t := s.tbs[n]
  if (match t.step with | some a => decide (a.inst ≤ s.tb0Comes) | none => false) then
    (s.eventTb n t.value (stepOn t.step s.tb0Comes t.value) (0, t.slew, 0)).each State.stepFollow
  else s

/-- One tick of the slew of `n`: its offset is added and its count runs (R76). -/
def State.slewRow (s : State) (n : Fin 64) : State :=
  let t := s.tbs[n]
  let sl := slewOn t.slew s.tb0Comes
  s.eventTb n (t.value + sl.1) (t.value + sl.1, t.step, 0) sl

/-- An armed slew of `n` begins (R76). -/
def State.slewBegin (s : State) (n : Fin 64) : State :=
  match s.tbs[n].slew with
  | some w => if !w.running && decide (w.inst ≤ s.tb0Comes) then s.slewRow n else s
  | none => s

/-- The last tick of a running slew of `n` (R76). -/
def State.slewLast (s : State) (n : Fin 64) : State :=
  match s.tbs[n].slew with
  | some w => if w.running && decide (w.left ≤ 1) then s.slewRow n else s
  | none => s

/-- The addition with which the value of `n` passes the range of the seconds field, and wraps (R62). -/
def State.wrapRow (s : State) (n : Fin 64) : State :=
  let t := s.tbs[n]
  let sum : Int := t.value + s.tbEffInc n
  if (timeMod : Int) ≤ sum then s.eventTb n sum (sum, t.step, 0) (0, t.slew, 0) else s

/-- The addition with which UTC time base `n` comes to a leap: PEND `pend`, in the inserted second or not (R82, R83). -/
def State.leapRow (s : State) (n : Fin 64) (pend : Nat) (active : Bool) : State :=
  let t := s.tbs[n]
  let sum := t.value + s.tbEffInc n
  if s.plt.plot.tbScale n = 1 && s.fld (tbReg n 0x78) 0 2 = pend && s.bit (tbReg n 0x1C) 7 = active
      && decide (t.leapAt * secU ≤ sum + (if pend = 2 then secU else 0)) then
    s.eventTb n sum (sum, t.step, 0) (0, t.slew, 0)
  else s

/-- OWNER_CHANGE (R69). -/
def execOwnerChange (n : Fin 64) (s : State) : Out1 := .next (s.ownTb n)
/-- STEP_APPLY (R73). -/
def execStepApply (n : Fin 64) (s : State) : Out1 := .next (s.stepRow n)
/-- SLEW_START (R76). -/
def execSlewStart (n : Fin 64) (s : State) : Out1 := .next (s.slewBegin n)
/-- SLEW_END (R76). -/
def execSlewEnd (n : Fin 64) (s : State) : Out1 := .next (s.slewLast n)
/-- SEC_WRAP (R62). -/
def execSecWrap (n : Fin 64) (s : State) : Out1 := .next (s.wrapRow n)
/-- LEAP_INSERT (R82). -/
def execLeapInsert (n : Fin 64) (s : State) : Out1 := .next (s.leapRow n 1 false)
/-- LEAP_SECOND_END (R82). -/
def execLeapSecondEnd (n : Fin 64) (s : State) : Out1 := .next (s.leapRow n 1 true)
/-- LEAP_DELETE (R83). -/
def execLeapDelete (n : Fin 64) (s : State) : Out1 := .next (s.leapRow n 2 false)

end Sys2Proof.Machine
end

