-- ==== Sys2Proof/Machine/View.lean ====
section
/-! DEFINITION. Sys2Proof/Machine/View.lean: what a register reads as: fields that show other state, latches, and instances that are absent (spec/17_registers.md, R448, R455; R56). -/
namespace Sys2Proof.Machine

/-- The two halves of a 64-bit value. -/
def lo32 (v : Nat) : Word := BitVec.ofNat 32 v
def hi32 (v : Nat) : Word := BitVec.ofNat 32 (v / 2 ^ 32)

/-- A bound register: it reads 0xFFFF_FFFF on an absent instance (R56). -/
def isBound (off : Nat) : Bool :=
  (decide (0x020000 ≤ off) && decide (off < 0x024000) && (off % 0x100 = 0x10 || off % 0x100 = 0xB8))
  || (decide (0x060000 ≤ off) && decide (off < 0x062000) && off % 0x80 = 0x30)
  || (decide (0x0C0000 ≤ off) && decide (off < 0x0C0800) && off % 0x200 = 0x50)

/-! ### The global block -/

/-- The record that master index `m` has selected (Table 17.3). -/
def State.errSel (s : State) (m : Nat) : Nat :=
  let x := fget (s.hget m 0x000010) 0 6
  if x = 0x3F then m else x

/-- GLB_ERR of a record (Table 17.3). -/
def State.errWord (s : State) (i : Nat) : Word :=
  let r := s.err i
  BitVec.ofNat 32 (r.code * 2 ^ 24 + i * 2 ^ 18 + b2n r.matrix * 2 ^ 17 + b2n r.write * 2 ^ 16 + r.count.toNat)

/-- GLB_IRQ_PEND (R459). -/
def State.irqPend (s : State) : Word :=
  BitVec.ofNat 32 ((List.range 18).foldl (fun w b => if s.irqOn b then w + 2 ^ b else w) 0)

/-- Views of the global block for master index `m`. -/
def State.glbView (s : State) (m off : Nat) : Option Word :=
  match off with
  | 0x000004 => some (BitVec.ofNat 32 s.plt.plot.orgId)
  | 0x000014 => some (s.errWord (s.errSel m))
  | 0x000018 => some (s.hget m off)
  | 0x00001C => some s.irqPend
  | _ => none

/-! ### Time bases -/

/-- TBn_STAT (Table 3.5). -/
def State.tbStat (s : State) (m : Nat) (n : Fin 64) : Word :=
  let p := s.plt.plot
  let w := s.rd (tbReg n 0x1C)
  let w := fset w 9 2 (p.tbScale n)
  let w := fset w 8 1 (b2n (n.val ≠ 0 && !p.tbSameRate n))
  let w := fset w 6 1 (b2n (s.fld (tbReg n 0x78) 0 2 ≠ 0))
  let w := fset w 5 1 (fget (s.hget m (tbReg n 0x1C)) 5 1)
  let w := fset w 4 1 (b2n s.tbs[n].slew.isSome)
  let w := fset w 3 1 (b2n s.tbs[n].step.isSome)
  let w := fset w 2 1 (b2n (s.untraceable n))
  let w := fset w 1 1 (b2n (s.tbFenced n))
  fset w 0 1 1

/-- The increment that TBn_INC reads: TB0's on a same-rate time base (R64). -/
def State.incShown (s : State) (n : Fin 64) : Nat := if s.plt.plot.tbSameRate n then s.tbs[0].inc else s.tbs[n].inc

/-- The rate ratio of TBn to TB0, truncated toward zero; 0 for a same-rate time base (R78). -/
def State.rateRatio (s : State) (n : Fin 64) : Int :=
  Int.tdiv (((s.incShown n : Int) - (s.tbs[0].inc : Int)) * (2 ^ 64 : Nat)) (s.tbs[0].inc : Int)

/-- Views of the time-base block. -/
def State.tbView (s : State) (m off : Nat) : Option Word :=
  if 0x024000 ≤ off then none
  else
    let n : Fin 64 := ⟨(off - 0x020000) / 0x100 % 64, Nat.mod_lt _ (by decide)⟩
    let o := off % 0x100
    let left := match s.tbs[n].slew with | some w => w.left | none => 0
    if o < 0x18 || (0x88 ≤ o && o < 0xA0) then some (s.hget m off)
    else match o with
      | 0x1C => some (s.tbStat m n)
      | 0x20 => some (lo32 (s.incShown n))
      | 0x24 => some (hi32 (s.incShown n))
      | 0x70 => some (lo32 left)
      | 0x74 => some (hi32 left)
      | _ => none

/-- A read of TBn_NOW_W0 latches the time, its bound and provenance, the epoch and the rate ratio for the reading master, all as of the serve tick (R22, R85, R78). -/
def State.nowLatch (s : State) (m : Nat) (n : Fin 64) : State :=
  let t := s.tbs[n].value
  let d : Int := (t : Int) - (s.tb0 : Int)
  let r := unsigned 64 (s.rateRatio n)
  let s1 := s.hsetAll m (tbReg n 0) (timeWords t ++ [lo32 (s.bound n), s.prov n])
  let s2 := s1.hset m (tbReg n 0x1C) (fset 0 5 1 (b2n (decide (d < 0))))
  s2.hsetAll m (tbReg n 0x88) (timeWords d.natAbs ++ [lo32 r, hi32 r])

/-- TBn_NOW_W0 (R85). -/
def State.nowRead (s : State) (m : Master) (n : Fin 64) : State :=
  match s.checkRead m (tbReg n 0) with
  | some e => s.rejectRead m (tbReg n 0) e
  | none =>
    if s.plt.plot.tbPresent n then (s.nowLatch m.idx n).answer m.idx ((timeWords s.tbs[n].value).headD 0) else s.answer m.idx 0

/-! ### References, loops and outputs -/

/-- Views of the reference block: the latched measurements and the summaries (R130, Table 5.13). -/
def State.refView (s : State) (m off : Nat) : Option Word :=
  if off < 0x041800 then (if 0x64 ≤ off % 0x100 && off % 0x100 < 0x7C then some (s.hget m off) else none)
  else
    let slots := fun (f : Nat → Bool) => BitVec.ofNat 32 ((List.range 24).foldl (fun w k => if f k then w + 2 ^ k else w) 0)
    match off with
    | 0x043000 => some (slots fun k => s.refState k = 2 || s.refState k = 3)
    | 0x043004 => some (slots fun k => ((irqSrcs 4).filter (fun x => x.evt = refReg k 8)).any s.srcOn)
    | 0x043008 => some (slots fun d => decide (d < 16) && s.fld (selReg d 0x14) 0 24 ≠ 0 && s.bit (selReg d 0) 16)
    | _ => none

/-- Views of the servo block: the age of a holdover and its growth G (Table 6.12). -/
def State.dpllView (s : State) (off : Nat) : Option Word :=
  if 0x051000 ≤ off then none
  else
    let d := (off - 0x050000) / 0x100
    let held := s.dpllState d = 4
    match off % 0x100 with
    | 0x48 => some (match s.plt.plot.dpllTb d with
        | some n => if held then BitVec.ofNat 32 ((s.tick - (s.bnd[n % 64]'(Nat.mod_lt _ (by decide))).tv) / ticksPerS) else 0
        | none => 0)
    | 0x4C => some (match s.plt.plot.dpllTb d with
        | some n =>
          let k : Fin 64 := ⟨n % 64, Nat.mod_lt _ (by decide)⟩
          let g := s.bnd[k].hold * 10 ^ 7 + (if held then s.sinceRefresh k else 0)
          BitVec.ofNat 32 (min (divUp g (250 * psU * 10 ^ 7)) 0xFFFFFFFE)
        | none => 0)
    | _ => none

/-- Views of the output block: the plan's frequencies and the plot's choices (Tables 12.14, 12.15). -/
def State.outView (s : State) (off : Nat) : Option Word :=
  let p := s.plt.plot
  if 0x0B0010 ≤ off && off < 0x0B0050 then
    let f := (s.out.aplls[(off - 0x0B0010) / 0x10 % 4]'(Nat.mod_lt _ (by decide))).plan
    match off % 0x10 with
    | 8 => some (lo32 f)
    | 0xC => some (hi32 f)
    | _ => none
  else if 0x0B0100 ≤ off && off < 0x0B0400 then
    let k := (off - 0x0B0100) / 0x40
    match off % 0x40 with
    | 4 => some (fset (fset (fset (s.rd off) 25 1 (b2n (s.alignable k))) 19 6 (p.outTb k)) 16 3 (p.outApll k))
    | 0x18 => some (lo32 (p.outFreq k))
    | 0x1C => some (hi32 (p.outFreq k))
    | _ => none
  else if 0x0B0800 ≤ off && off < 0x0B0C00 && off % 0x40 = 8 then
    let c := (off - 0x0B0800) / 0x40
    some (fset (fset (s.rd off) 24 6 (p.cueTb c)) 16 8 (p.cueOwner c))
  else none

/-! ### The other blocks -/

/-- Latched registers of the GNSS block, and SURVEY_LEFT (R228). -/
def State.gnssView (s : State) (m off : Nat) : Option Word :=
  if off = 0x070048 then some (s.hget m off)
  else if 0x070100 ≤ off && off < 0x070300 then
    let o := off % 0x100
    if (4 ≤ o && o ≤ 0x38 && o ≠ 8) then some (s.hget m off)
    else if o = 0x58 then some (BitVec.ofNat 32 (s.surveyLeft ⟨(off - 0x070100) / 0x100 % 2, Nat.mod_lt _ (by decide)⟩))
    else none
  else none

/-- Latched registers of the backplane buses (R365). -/
def State.btbView (s : State) (m off : Nat) : Option Word :=
  if off < 0x0C0800 && ((0x44 ≤ off % 0x200 && off % 0x200 < 0x54) || 0x100 ≤ off % 0x200) then some (s.hget m off) else none

/-- Views of the ports: STAT, and the latched stamp of a calibration record (R264). -/
def State.portView (s : State) (m off : Nat) : Option Word :=
  let o := off % 0x1000
  if o = 8 then some (s.portStat ⟨(off - 0x080000) / 0x1000 % 16, Nat.mod_lt _ (by decide)⟩)
  else if 0x88 ≤ o && o < 0x98 then some (s.hget m off)
  else none

/-- FLT_STAT shows the FAULT_N pin (Table 15.9, R482). -/
def State.faultView (s : State) (m off : Nat) : Option Word :=
  if off = 0x0E000C then some (fset (s.rd off) 28 1 (b2n (s.curtain || s.pwr.unplotted))) else s.fltView m off

/-- What the register at `off` shows beside the register file. -/
def State.view (s : State) (m off : Nat) : Option Word :=
  match off / 0x10000 with
  | 0 => s.glbView m off
  | 2 => s.tbView m off
  | 3 => s.tdcView m off
  | 4 => s.refView m off
  | 5 => s.dpllView off
  | 6 => s.bndView m off
  | 7 => s.gnssView m off
  | 8 => s.portView m off
  | 9 => s.svcView m off
  | 10 => s.keyView off
  | 11 => s.outView off
  | 12 => s.btbView m off
  | 13 => match off with
    | 0x0D0054 => some (BitVec.ofNat 32 s.leaseLeft)
    | 0x0D0074 => some (BitVec.ofNat 32 s.holdoffLeft)
    | _ => none
  | 14 => s.faultView m off
  | 15 => s.memView m off
  | 16 => s.pwrView off
  | 17 => if off = 0x11000C then some (s.hget m off) else none
  | _ => none

/-- The value of the register at `off` for master index `m`: reserved offsets read 0, an absent instance reads 0 or an unknown bound (R56), fields that only act read 0 (R448). -/
def State.value (s : State) (m off : Nat) : Word :=
  match findReg off with
  | none => 0
  | some d =>
    if s.absent off then (if isBound off then 0xFFFFFFFF else 0)
    else d.visible ((s.view m off).getD (if d.perMaster then s.hget m off else s.rd off))

/-- The value with its RC fields cleared. -/
def RegDesc.cleared (d : RegDesc) (w : Word) : Word := d.fields.foldl (fun w f => if f.acc = .rc then fset w f.lo f.wd 0 else w) w

/-- What a read of the register at `off` leaves: its RC fields are cleared (R453). -/
def State.readClears (s : State) (m off : Nat) : State :=
  match findReg off with
  | none => s
  | some d =>
    if !d.isRc || s.absent off then s
    else if off = 0x0900B4 then s.modEnt (s.entSel m) fun e => { e with rlDrop := 0 }
    else s.wr off (d.cleared (s.rd off))

end Sys2Proof.Machine
end

