-- ==== Sys2Proof/Machine/Bus.lean ====
section
/-! DEFINITION. Sys2Proof/Machine/Bus.lean: one access of the peripheral bus: which rule a written or read register follows, decode misses, the complement aperture and the VF page (spec/17_registers.md, R447 to R458, R465, R466). -/
namespace Sys2Proof.Machine

/-- An index below `n + 1`. -/
def fin (n i : Nat) : Fin (n + 1) := ⟨i % (n + 1), Nat.mod_lt _ (Nat.succ_pos n)⟩

/-- A write under the common checks and a further one. -/
def State.writeIf (s : State) (m : Master) (off : Nat) (v : Word) (e : State → Option Err) : State :=
  s.guardW m off v fun s => match e s with
    | some e => s.reject m off e
    | none => s.plainWrite m off v

/-- A write of a register without behaviour of its own (R448), or of an RSQ register (R451). -/
def State.writePlain (s : State) (m : Master) (off : Nat) (v : Word) : State :=
  s.guardW m off v fun s => if ((findReg off).map RegDesc.isRsq).getD false then s.rsqWrite off v else s.plainWrite m off v

/-! ### Writes, block by block -/

def State.writeGlb (s : State) (m : Master) (off : Nat) (v : Word) : State :=
  match off with
  | 0x000010 => s.writeIf m off v fun _ => if 32 ≤ fget v 0 6 && fget v 0 6 ≠ 0x3F then some .range else none
  | 0x000020 => s.snapCtl m v
  | 0x00003C => s.commitW3 m v
  | 0x000040 => s.commitCtl m v
  | _ => if 0x000100 ≤ off && off < 0x000180 then s.mbxWrite m off v else s.writePlain m off v

def State.writePlt (s : State) (m : Master) (off : Nat) (v : Word) : State :=
  match off with
  | 0x010000 => s.pltCtl m v
  | 0x010004 => s.pltApply m v
  | _ => s.writePlain m off v

def State.writeTb (s : State) (m : Master) (off : Nat) (v : Word) : State :=
  if 0x024000 ≤ off then s.writePlain m off v
  else
    let n := fin 63 ((off - 0x020000) / 0x100)
    match off % 0x100 with
    | 0x18 => s.tbCtl m n v
    | 0x20 => s.tbIncLo m n 0x20 v
    | 0x24 => s.tbIncHi m n v
    | 0x38 => s.tbCmd m n v
    | 0x78 => s.leapCtl m n v
    | 0x80 => s.leapAtW m n false v
    | 0x84 => s.leapAtW m n true v
    | 0xC0 => s.tbIncLo m n 0xC0 v
    | 0xC4 => s.tbStgIncHi m n v
    | 0xC8 => s.tbStgCtl m n v
    | 0xCC => s.stgValid m off v
    | _ => s.writePlain m off v

def State.writeTdc (s : State) (m : Master) (off : Nat) (v : Word) : State :=
  if off < 0x030100 || 0x030700 ≤ off then s.writePlain m off v
  else
    let n := fin 23 ((off - 0x030100) / 0x40)
    let o := off % 0x40
    if o = 4 then s.tdcCmd m n v
    else if o = 8 || o = 0x1C || 0x30 ≤ o then s.writePlain m off v
    else s.tdcConfig m n o v

/-- SOFT and HARD limits of a reference slot, and the window (Tables 5.3, 5.14). -/
def State.refLimErr (s : State) (k o : Nat) (v : Word) : Option Err :=
  match o with
  | 0x1C => if (s.rd (refReg k 0x20)).toNat < v.toNat then some .range else none
  | 0x20 => if v.toNat < (s.rd (refReg k 0x1C)).toNat then some .range else none
  | 0x24 => if v.toNat % 10 ≠ 0 then some .range else none
  | 0x54 => if fget v 16 16 < fget v 0 16 then some .range else none
  | 0x58 => if fget v 0 16 < fget v 16 16 then some .range else none
  | _ => none

def State.writeRef (s : State) (m : Master) (off : Nat) (v : Word) : State :=
  if off < 0x041800 then
    let k := fin 23 ((off - 0x040000) / 0x100)
    match off % 0x100 with
    | 0x00 => s.refCtl m k v
    | 0x10 => s.refPrioW m k v
    | 0x14 => s.nomLo m k v
    | 0x18 => s.nomHi m k v
    | 0x3C => s.phComp m k v
    | 0x1C => s.writeIf m off v fun s => s.refLimErr k 0x1C v
    | 0x20 => s.writeIf m off v fun s => s.refLimErr k 0x20 v
    | 0x24 => s.writeIf m off v fun s => s.refLimErr k 0x24 v
    | 0x54 => s.writeIf m off v fun s => s.refLimErr k 0x54 v
    | 0x58 => s.writeIf m off v fun s => s.refLimErr k 0x58 v
    | _ => s.writePlain m off v
  else if 0x042000 ≤ off && off < 0x042400 then
    let d := fin 15 ((off - 0x042000) / 0x40)
    match off % 0x40 with
    | 0 => s.selCtl m d v
    | 4 => s.selCand m d v
    | 0xC => s.selQhold m d v
    | _ => s.writePlain m off v
  else s.writePlain m off v

def State.writeDpll (s : State) (m : Master) (off : Nat) (v : Word) : State :=
  if off < 0x051000 then
    let d := fin 15 ((off - 0x050000) / 0x100)
    match off % 0x100 with
    | 0 => s.dpllCtl m d v
    | 4 => s.dpllBw m d v
    | 0x50 => s.writeIf m off v fun s => if v.toNat < (s.rd (dpllReg d 0x54)).toNat then some .range else none
    | 0x54 => s.writeIf m off v fun s => if (s.rd (dpllReg d 0x50)).toNat < v.toNat then some .range else none
    | _ => s.writePlain m off v
  else match off with
    | 0x051000 => s.fwClassW m v
    | 0x051004 => s.fwFloorW m 0 v
    | 0x051008 => s.fwFloorW m 1 v
    | 0x05100C => s.fwFloorW m 2 v
    | 0x051010 => s.fwFloorW m 3 v
    | 0x051024 => s.uartTx m v
    | _ => s.writePlain m off v

def State.writeBnd (s : State) (m : Master) (off : Nat) (v : Word) : State :=
  if off < 0x062000 && off % 0x80 = 0xC then s.extraWrite m (fin 63 ((off - 0x060000) / 0x80)) v
  else if 0x062000 ≤ off && off < 0x062200 && off % 4 = 0 then s.calWrite m (fin 31 ((off - 0x062000) / 0x10)) (fin 3 (off % 0x10 / 4)) v
  else s.writePlain m off v

def State.writeGnss (s : State) (m : Master) (off : Nat) (v : Word) : State :=
  if off = 0x070000 then s.gnssCtl m v
  else if 0x070010 ≤ off && off < 0x070030 && off % 4 = 0 then
    s.guardW m off v fun s => s.rootWrite m (fin 7 ((off - 0x070010) / 4)) v
  else if 0x070100 ≤ off && off < 0x070300 then
    let x := fin 1 ((off - 0x070100) / 0x100)
    match off % 0x100 with
    | 0 => s.gnssCfg m x v
    | 0x08 => s.writePlain m off v
    | 0x94 => s.fespiWrite m x v
    | o => s.gnssOther m x o v
  else s.writePlain m off v

def State.writePort (s : State) (m : Master) (off : Nat) (v : Word) : State :=
  let p := fin 15 ((off - 0x080000) / 0x1000)
  match off % 0x1000 with
  | 0x00 => s.portCtl m p v
  | 0x04 => s.portCmd m p v
  | 0x18 => s.portAdj m p 0 v
  | 0x1C => s.portAdj m p 1 v
  | 0x20 => s.portAdj m p 2 v
  | _ => s.writePlain m off v

def State.writeSvc (s : State) (m : Master) (off : Nat) (v : Word) : State :=
  match off with
  | 0x090000 => s.govCtlWrite m v
  | 0x090010 => s.rlWrite m 0 v
  | 0x090014 => s.rlWrite m 1 v
  | 0x090018 => s.stgRlWrite m 0 v
  | 0x09001C => s.stgRlWrite m 1 v
  | 0x090020 => s.stgValid m off v
  | 0x090080 => s.entSelWrite m v
  | 0x090084 => s.entCfgWrite m v
  | 0x090088 => s.entRateWrite m v
  | 0x09008C => s.entKeyWrite m v
  | 0x0900C4 => s.prefCfgWrite m v
  | _ => s.writePlain m off v

def State.writeKey (s : State) (m : Master) (off : Nat) (v : Word) : State :=
  match off with
  | 0x0A000C => s.keyCmd m v
  | 0x0A0014 => s.keyStage m 0 v
  | 0x0A0018 => s.keyStage m 1 v
  | 0x0A0050 => s.keySvcCfg m 0 v
  | 0x0A0054 => s.keyEpoch m 0 v
  | 0x0A0058 => s.keySvcCfg m 1 v
  | 0x0A005C => s.keyEpoch m 1 v
  | 0x0A007C => s.writeIf m off v fun s => if (s.rd 0x0A0078).toNat ≤ v.toNat then some .range else none
  | 0x0A0090 => s.lcCmd m v
  | 0x0A0094 => s.otpCmd m v
  | _ =>
    if 0x0A0020 ≤ off && off < 0x0A0040 && off % 4 = 0 then s.keyStage m (fin 9 (2 + (off - 0x0A0020) / 4)) v
    else if 0x0A00A0 ≤ off && off < 0x0A00D0 && off % 4 = 0 then s.guardW m off v fun s => s.keyOtpData ((off - 0x0A00A0) / 4) v
    else s.writePlain m off v

def State.writeOut (s : State) (m : Master) (off : Nat) (v : Word) : State :=
  if 0x0B0010 ≤ off && off < 0x0B0050 && off % 0x10 = 0 then s.apllTb m (fin 3 ((off - 0x0B0010) / 0x10)) v
  else if off = 0x0B0060 then s.sysCtl m v
  else if 0x0B0100 ≤ off && off < 0x0B0400 then
    let k := fin 11 ((off - 0x0B0100) / 0x40)
    match off % 0x40 with
    | 0 => s.outCtl m k v
    | 0xC => s.outPhOfs m k v
    | 0x14 => s.outPulseW m k v
    | _ => s.writePlain m off v
  else if 0x0B0800 ≤ off && off < 0x0B0C00 then s.cueWrite m (fin 15 ((off - 0x0B0800) / 0x40)) (off % 0x40) v
  else s.writePlain m off v

def State.writeBtb (s : State) (m : Master) (off : Nat) (v : Word) : State :=
  if off = 0x0C1000 then s.btbStartCtl m v
  else if off < 0x0C0800 then
    let b := fin 3 ((off - 0x0C0000) / 0x200)
    match off % 0x200 with
    | 0x04 => s.btbCmd m b v
    | 0x10 => s.btbMask m b v
    | 0x14 => s.btbStgMask m b v
    | 0x18 => s.stgValid m off v
    | _ => s.writePlain m off v
  else s.writePlain m off v

def State.writeWng (s : State) (m : Master) (off : Nat) (v : Word) : State :=
  match off with
  | 0x0D0000 => s.wngCtl m v
  | 0x0D0004 => s.wngCmd m v
  | 0x0D000C => s.writePlain m off v
  | _ => s.wngSet m off v

/-- FLT_INJ: the injection of a completed pair (R419). -/
def State.fltInj (s : State) (m : Master) (off : Nat) (v : Word) : State :=
  s.guardD m off v fun s => match s.injErr off v with
    | some e => s.reject m off e
    | none => if off = 0x0E0090 then s.inject v else s

def State.writeFlt (s : State) (m : Master) (off : Nat) (v : Word) : State :=
  match off with
  | 0x0E0004 => s.fltCmd m v
  | 0x0E0024 => s.guardW m off v fun s => s.srcStickyWrite m.idx v
  | 0x0E0090 => s.fltInj m off v
  | 0x0E0094 => s.fltInj m off v
  | _ => s.writePlain m off v

def State.writeMem (s : State) (m : Master) (off : Nat) (v : Word) : State :=
  if 0x0F0140 ≤ off && off < 0x0F01A0 then
    let c := 2 + (off - 0x0F0140) / 0x20
    match off % 0x20 with
    | 0x00 => s.ringCtl m c v
    | 0x04 => s.ringSet m c 4 v
    | 0x08 => s.ringSet m c 8 v
    | 0x0C => s.ringSet m c 0xC v
    | 0x14 => s.ringCons m c v
    | _ => s.writePlain m off v
  else match off with
    | 0x0F0204 => s.qspiCmd m v
    | 0x0F0210 => s.qspiPush m v
    | _ => s.writePlain m off v

def State.writePmc (s : State) (m : Master) (off : Nat) (v : Word) : State :=
  if off = 0x110004 then s.pmcSel m v
  else if 0x110100 ≤ off && off < 0x110170 && off % 4 = 0 then s.pmcList m ((off - 0x110100) / 4) v
  else s.writePlain m off v

/-- The effect of a write at a BAR0 offset below 0x12_0000, a completed pair on a DNG register included. -/
def State.regWrite (s : State) (m : Master) (off : Nat) (v : Word) : State :=
  match off / 0x10000 with
  | 0 => s.writeGlb m off v
  | 1 => s.writePlt m off v
  | 2 => s.writeTb m off v
  | 3 => s.writeTdc m off v
  | 4 => s.writeRef m off v
  | 5 => s.writeDpll m off v
  | 6 => s.writeBnd m off v
  | 7 => s.writeGnss m off v
  | 8 => s.writePort m off v
  | 9 => s.writeSvc m off v
  | 10 => s.writeKey m off v
  | 11 => s.writeOut m off v
  | 12 => s.writeBtb m off v
  | 13 => s.writeWng m off v
  | 14 => s.writeFlt m off v
  | 15 => s.writeMem m off v
  | 16 => if off = 0x100010 then s.rstCmd m v else s.writePlain m off v
  | 17 => s.writePmc m off v
  | _ => s

/-! ### Reads -/

/-- A read of a register whose value no latch is taken with (R448, R453, R450). -/
def State.readPlain (s : State) (m : Master) (off : Nat) (e : Option Err) : State :=
  match e with
  | some e => s.rejectRead m off e
  | none => (s.readClears m.idx off).answer m.idx (s.value m.idx off)

/-- GLB_ERR: latches GLB_ERR_ADDR (R458). -/
def State.errRead (s : State) (m : Master) : State :=
  match s.checkRead m 0x000014 with
  | some e => s.rejectRead m 0x000014 e
  | none =>
    let i := s.errSel m.idx
    (s.hset m.idx 0x000018 (s.err i).addr).answer m.idx (s.errWord i)

/-- A read at a BAR0 offset below 0x12_0000. -/
def State.regRead (s : State) (m : Master) (off : Nat) : State :=
  let b := off / 0x10000
  let plain := s.readPlain m off (s.checkRead m off)
  if off = 0x000014 then s.errRead m
  else if b = 2 && off < 0x024000 && off % 0x100 = 0 then s.nowRead m (fin 63 ((off - 0x020000) / 0x100))
  else if off = 0x030000 then s.tdcTickRead m
  else if off = 0x030024 then s.pairRead m
  else if 0x030100 ≤ off && off < 0x030700 && off % 0x40 = 0x30 then s.tdcFifoRead m (fin 23 ((off - 0x030100) / 0x40))
  else if 0x030100 ≤ off && off < 0x030700 && (off % 0x40 = 0x38 || off % 0x40 = 0x3C) then
    s.readPlain m off (s.tdcReadErr m ((off - 0x030100) / 0x40) (off % 0x40))
  else if b = 4 && off < 0x041800 && off % 0x100 = 0x60 then s.measRead m (fin 23 ((off - 0x040000) / 0x100))
  else if off = 0x051028 then s.uartRead m
  else if b = 6 && off < 0x062000 && off % 0x80 = 0x10 then s.bndRead m (fin 63 ((off - 0x060000) / 0x80))
  else if off = 0x070044 then s.svRead m
  else if 0x070100 ≤ off && off < 0x070300 && off % 0x100 = 0xC then s.offRead m (fin 1 ((off - 0x070100) / 0x100))
  else if b = 8 && off % 0x1000 = 0x84 then s.calTagRead m (fin 15 ((off - 0x080000) / 0x1000))
  else if off = 0x090040 then s.sessRead m
  else if 0x090100 ≤ off && off < 0x090500 && off % 0x100 = 0x10 then s.cycRead m (fin 3 ((off - 0x090100) / 0x100))
  else if b = 12 && off < 0x0C0800 && off % 0x200 = 0x40 then s.btbEdgeRead m (fin 3 ((off - 0x0C0000) / 0x200))
  else if b = 12 && off < 0x0C0800 && off % 0x200 = 0x100 then s.btbImgRead m (fin 3 ((off - 0x0C0000) / 0x200))
  else if off = 0x0E0060 then s.histPop m
  else if off = 0x0F0210 then s.qspiPop m
  else if off = 0x110008 then s.pmcRead m
  else plain

/-! ### The VF page -/

/-- The cues that VF `v` owns, and the time bases it shares (Table 17.11). -/
def State.vfCues (s : State) (v : Nat) : Word :=
  BitVec.ofNat 32 ((List.range 16).foldl (fun w c => if s.plt.plot.cueOwner c = v then w + 2 ^ c else w) 0)
def State.vfTbs (s : State) (v lo : Nat) : Word :=
  BitVec.ofNat 32 ((List.range 32).foldl (fun w n => if (s.plt.plot.tbTenants (lo + n)).testBit v then w + 2 ^ n else w) 0)

/-- The page offsets of a time-base view (R86, Table 17.11). -/
def inTbView (o : Nat) : Bool := o % 4 = 0 && (o < 0x18 || o = 0x18 || o = 0x1C || (0x88 ≤ o && o < 0xA0))

/-- A VF's row grants it reads of block `b`. -/
def State.vfMay (s : State) (v b : Nat) : Bool := s.access (1 + v) b % 2 = 1

/-- The VF may read counters: its bit in PMC_VF_EN, and a group from 0x10 to 0x2F (R467). -/
def State.vfPmc (s : State) (v : Fin 16) : Bool :=
  let g := fget (s.hget (1 + v.val) 0x110004) 8 8
  s.bit 0x110010 v.val && decide (0x10 ≤ g) && decide (g < 0x30)

/-- A rejected access of the VF page, recorded at its page offset. -/
def State.vfReject (s : State) (m : Master) (off : Nat) (write : Bool) (e : Err) : State :=
  let s1 := s.recordErr m.idx e false write off
  if write then s1 else s1.answer m.idx 0

/-- A read of VF `v` at a VF BAR0 offset (R466). -/
def State.vfRead (s : State) (v : Fin 16) (off : Nat) : State :=
  let m : Master := .vf v
  let i := 1 + v.val
  if s.pwr.por then s
  else if 0x1000 ≤ off && off < 0x5000 && inTbView (off % 0x100) then
    let n := fin 63 ((off - 0x1000) / 0x100)
    let r := tbReg n (off % 0x100)
    if !s.vfMay v 2 || !(s.plt.plot.tbTenants n).testBit v then s.vfReject m off false .perm
    else if off % 0x100 = 0x18 then s.answer i 0
    else if off % 0x100 = 0 then
      if s.plt.plot.tbPresent n then (s.nowLatch i n).answer i ((timeWords s.tbs[n].value).headD 0) else s.answer i 0
    else s.answer i (s.value i r)
  else if 0x6000 ≤ off && off < 0x6400 then
    let c := (off - 0x6000) / 0x40
    let r := cueReg c (off % 0x40)
    if s.plt.plot.cueOwner c ≠ v.val || !s.vfMay v 11 then s.vfReject m off false .perm
    else (s.readClears i r).answer i (s.value i r)
  else if off = 0x8000 || off = 0x8004 || off = 0x8008 then
    if !s.vfMay v 17 || (off ≠ 0x8000 && !s.vfPmc v) then s.vfReject m off false .perm
    else if off = 0x8000 then s.answer i (s.hget i 0x110004)
    else if off = 0x8004 then
      let c := s.pmcSelected i
      (s.hset i 0x11000C (hi32 c.toNat)).answer i (lo32 c.toNat)
    else s.answer i (s.hget i 0x11000C)
  else match off with
    | 0x0000 => s.answer i (BitVec.ofNat 32 (0x9640A200 + v.val))
    | 0x0004 => s.answer i (s.vfTbs v 0)
    | 0x0008 => s.answer i (s.vfTbs v 32)
    | 0x000C => s.answer i (s.vfCues v)
    | 0x0010 => (s.hset i 0x000018 (s.err i).addr).answer i (s.errWord i)
    | 0x0014 => s.answer i (s.hget i 0x000018)
    | 0x0018 => s.answer i (BitVec.ofNat 32 (b2n (s.bit 0x110010 v.val)))
    | _ => s.answer i 0

/-- A write of VF `v` at a VF BAR0 offset: its cues and PMC_SEL, and nothing else (R466). -/
def State.vfWrite (s : State) (v : Fin 16) (off : Nat) (w : Word) : State :=
  let m : Master := .vf v
  if s.pwr.por then s
  else if 0x6000 ≤ off && off < 0x6400 then s.cueWrite m (fin 15 ((off - 0x6000) / 0x40)) (off % 0x40) w
  else if off = 0x8000 then
    if !s.vfMay v 17 then s.vfReject m off true .perm
    else if (fget w 16 16 ≠ 0 && !s.manufacture) || !s.pmcKnown (fget w 0 16) then s.vfReject m off true .range
    else s.hset m.idx 0x110004 (BitVec.ofNat 32 (fget w 0 16))
  else s.vfReject m off true .perm

/-! ### The bus -/

/-- The register at `off` is DNG (R454). -/
def isDngAt (off : Nat) : Bool := ((findReg off).map RegDesc.isDng).getD false

/-- An access to an address that no block decodes (R433): a read returns 0xFFFF_FFFF. -/
def State.decodeMiss (s : State) (m : Master) (off : Nat) (write : Bool) : State :=
  if s.pwr.por then s
  else
    let s1 := s.recordErr m.idx .decode false write off
    if write then s1 else s1.answer m.idx 0xFFFFFFFF

/-- A write in the complement aperture, of `v` at the complement of `a` (R454). -/
def State.complement (s : State) (m : Master) (a : Nat) (v : Word) : State :=
  match s.pair m.idx with
  | none => s.reject m (a + 0x800000) .pair
  | some p => if v = ~~~ p.value then (s.setPair m.idx none).regWrite m a p.value else s.pairFail m.idx

/-- One write on the bus (R447, R454, R433). -/
def State.busWrite (s : State) (m : Master) (off : Nat) (v : Word) : State :=
  match m with
  | .vf x => s.vfWrite x (off % 0x10000) v
  | _ =>
    if s.pwr.por then s
    else
      let mine : Bool := match s.pair m.idx with | some p => decide (p.off + 0x800000 = off) | none => false
      let s1 := if mine then s else s.pairFail m.idx
      if 0x800000 ≤ off then
        if 0x920000 ≤ off then s1.decodeMiss m off true else s1.complement m (off - 0x800000) v
      else if 0x120000 ≤ off then s1.decodeMiss m off true
      else if isDngAt off then s1.pairArm m.idx off v
      else s1.regWrite m off v

/-- A read in the complement aperture (R455). -/
def State.complementRead (s : State) (m : Master) (a : Nat) : State :=
  match s.checkRead m a with
  | some e => s.rejectRead m (a + 0x800000) e
  | none => s.answer m.idx (if isDngAt a then ~~~ (s.value m.idx a) else 0)

/-- One read on the bus (R447, R433, R455). -/
def State.busRead (s : State) (m : Master) (off : Nat) : State :=
  match m with
  | .vf x => s.vfRead x (off % 0x10000)
  | _ =>
    if s.pwr.por then s
    else if 0x800000 ≤ off then
      if 0x920000 ≤ off then s.decodeMiss m off false else s.complementRead m (off - 0x800000)
    else if 0x120000 ≤ off then s.decodeMiss m off false
    else s.regRead m off

end Sys2Proof.Machine
end

