-- ==== Sys2Proof/Machine/Glb.lean ====
section
/-! DEFINITION. Sys2Proof/Machine/Glb.lean: meanings of the commands of the register bus, of the management SPI and of the PF vectors (spec/17_registers.md; spec/16_memory_interconnect_host.md, R444, R445). -/
namespace Sys2Proof.Machine

/-! ### Register accesses -/

/-- REGISTER_WRITE (R448): one write of master `m` at a BAR0 offset, or of a VF at a VF BAR0 offset. -/
def execRegisterWrite (m : Master) (off : Fin 16777216) (v : Word) (s : State) : Out1 := .next (s.busWrite m off.val v)
/-- DECODE_MISS_ACCESS (R433): an access at an offset that no block decodes; at any other offset it is the access that it is. -/
def execDecodeMissAccess (m : Master) (off : Fin 16777216) (write : Bool) (v : Word) (s : State) : Out1 :=
  .next (if write then s.busWrite m off.val v else s.busRead m off.val)
/-- RSQ_CLEAR_WRITE (R451). -/
def execRsqClearWrite (m : Master) (off : Fin 16777216) (v : Word) (s : State) : Out1 := .next (s.busWrite m off.val v)
/-- RC_READ (R453): one read of master `m`; it clears an RC field, and returns the value of any register. -/
def execRcRead (m : Master) (off : Fin 16777216) (s : State) : Out1 := .next (s.busRead m off.val)
/-- DNG_FIRST_HALF (R454). -/
def execDngFirstHalf (m : Master) (off : Fin 8388608) (v : Word) (s : State) : Out1 := .next (s.busWrite m off.val v)
/-- DNG_COMPLEMENT (R454): the write of `v` at `off` + 0x80_0000. -/
def execDngComplement (m : Master) (off : Fin 8388608) (v : Word) (s : State) : Out1 := .next (s.busWrite m (0x800000 + off.val) v)
/-- DNG_PAIR_TIMEOUT (R454): the cycle after the 64th comes with the pair of `m` still pending. -/
def execDngPairTimeout (m : Master) (s : State) : Out1 := .next (if s.pwr.por then s else s.pairFail m.idx)
/-- DNG_COMPLEMENT_READ (R455). -/
def execDngComplementRead (m : Master) (off : Fin 8388608) (s : State) : Out1 := .next (s.busRead m (0x800000 + off.val))
/-- GLB_ERR_READ (R458). -/
def execGlbErrRead (m : Master) (s : State) : Out1 := .next (s.busRead m (if m.isVf then 0x0010 else 0x000014))
/-- TB_NOW_W0_READ (R85, R86): through BAR0, or through the VF page. -/
def execTbNowW0Read (m : Master) (n : Fin 64) (s : State) : Out1 :=
  .next (s.busRead m (if m.isVf then 0x1000 + 0x100 * n.val else tbReg n 0))
/-- PMC_CTR_LO_READ (R467): through BAR0, or through the VF page. -/
def execPmcCtrLoRead (m : Master) (s : State) : Out1 := .next (s.busRead m (if m.isVf then 0x8004 else 0x110008))
/-- FLT_INJ_WRITE (R419): a completed pair on FLT_INJ. -/
def execFltInjWrite (m : Master) (v : Word) (s : State) : Out1 := .next (s.fltInj m 0x0E0090 v)

/-! ### The management SPI -/

/-- The code of the last access of the management SPI: its record's, if the access failed (R444). -/
def State.spiCode (before after : State) : Nat :=
  if (after.err 23).count = (before.err 23).count then 0 else (after.err 23).code

/-- The response bytes of a transaction. -/
def State.spiAnswer (s : State) (l : List Byte) : State := s.modMem fun q => { q with mspi := l }

/-- The STATUS byte of a write. -/
def State.spiStatus (s : State) (c : Nat) : State := s.spiAnswer [BitVec.ofNat 8 c]

/-- STATUS, D and the CRC over them (Table 16.7). -/
def State.spiData (s : State) (c : Nat) (d : Word) : State :=
  let l := BitVec.ofNat 8 c :: beBytes 4 d.toNat
  s.spiAnswer (l ++ [BitVec.ofNat 8 (crc8 l)])

/-- A write access served for the management SPI, with its STATUS. -/
def State.spiAccess (s : State) (k : State → State) : State := let s1 := k s; s1.spiStatus (State.spiCode s s1)

/-- DWRITE to a DNG register: both halves within two bus cycles (R445). -/
def State.spiPair (s : State) (a : Nat) (d : Word) : State :=
  s.spiAccess fun s => (s.busWrite .mspi a d).busWrite .mspi (a + 0x800000) (~~~ d)

/-- PING's byte (Table 16.7). -/
def State.spiPing (s : State) : Nat :=
  b2n (s.powered 0) + 2 * b2n (s.bit 0x100004 31) + 4 * b2n s.apll0Locked + 8 * b2n (s.bit 0x010008 0)

/-- One transaction of the management SPI, from its bytes in order; one that chip select ends early changes nothing (R444, R445). -/
def State.spi (s : State) (l : List Byte) : State :=
  if s.pwr.por then s
  else
    let op := (l.headD 0).toNat
    let a := beNat (slice l 1 3)
    let d := BitVec.ofNat 32 (beNat (slice l 4 4))
    let crcOk := fun (n : Nat) => crc8 (l.take n) = (l.getD n 0).toNat
    match op with
    | 0x02 =>
      if l.length < 9 then s
      else if !crcOk 8 then s.spiStatus Err.crc.code
      else if a % 4 ≠ 0 then s.spiStatus Err.align.code
      else s.spiAccess fun s => s.busWrite .mspi a d
    | 0x12 =>
      if l.length < 9 then s
      else if !crcOk 8 then s.spiStatus Err.crc.code
      else if a % 4 ≠ 0 then s.spiStatus Err.align.code
      else if 0x800000 ≤ a then s.spiStatus Err.range.code
      else if isDngAt a then s.spiPair a d else s.spiAccess fun s => s.busWrite .mspi a d
    | 0x0B =>
      if l.length < 9 then s
      else if !crcOk 4 then s.spiData Err.crc.code 0
      else if a % 4 ≠ 0 then s.spiData Err.align.code 0
      else let s1 := s.busRead .mspi a; s1.spiData (State.spiCode s s1) (Sparse.get (fun _ => 0) s1.resp 23)
    | 0x05 => s.spiStatus s.spiPing
    | _ => if l.isEmpty then s else s.spiStatus Err.decode.code

/-- MSPI_WRITE (R444): A, D and the CRC byte as received. -/
def execMspiWrite (a : Fin 16777216) (d : Word) (crc : Byte) (s : State) : Out1 :=
  .next (s.spi (0x02 :: beBytes 3 a.val ++ beBytes 4 d.toNat ++ [crc]))
/-- MSPI_DWRITE (R445). -/
def execMspiDwrite (a : Fin 16777216) (d : Word) (crc : Byte) (s : State) : Out1 :=
  .next (s.spi (0x12 :: beBytes 3 a.val ++ beBytes 4 d.toNat ++ [crc]))
/-- MSPI_READ (R444): A, the CRC byte as received, and the dummy bytes. -/
def execMspiRead (a : Fin 16777216) (crc : Byte) (s : State) : Out1 :=
  .next (s.spi (0x0B :: beBytes 3 a.val ++ [crc, 0, 0, 0, 0]))
/-- MSPI_PING (R444): a transaction given byte by byte; with the one byte 0x05 it is PING, and with others it is what its opcode makes it, a transaction that ends early or an unknown opcode included. -/
def execMspiPing (l : List Byte) (s : State) : Out1 := .next (s.spi l)

/-! ### Vectors -/

/-- The host unmasks a vector: a condition that rose meanwhile fires it (R459). -/
def State.unmask (s : State) (v : Nat) : State :=
  let q := s.glb.irq
  let s1 := s.modGlb fun g => { g with irq := { q with masked := q.masked.filter (fun x => x ≠ v), waiting := q.waiting.filter (fun x => x ≠ v) } }
  if q.waiting.contains v then s1.fire v else s1

/-- MSIX_VECTOR_UNMASK (R459). -/
def execMsixVectorUnmask (v : Fin 32) (s : State) : Out1 := .next (s.unmask v.val)

end Sys2Proof.Machine
end

