-- ==== Sys2Proof/Machine/Dispatch.lean ====
section
/-! DEFINITION. Sys2Proof/Machine/Dispatch.lean: one arm per command, each the direct call of its meaning. -/
namespace Sys2Proof.Machine

/-- The effect of a command on everything but the queue. -/
def exec (i : Instr) (s : State) : Host.Outcome State Fault Refusal :=
  match i with
  | .registerWrite m off v => Sys2Proof.Machine.execRegisterWrite m off v s
  | .decodeMissAccess m off write v => Sys2Proof.Machine.execDecodeMissAccess m off write v s
  | .rsqClearWrite m off v => Sys2Proof.Machine.execRsqClearWrite m off v s
  | .rcRead m off => Sys2Proof.Machine.execRcRead m off s
  | .dngFirstHalf m off v => Sys2Proof.Machine.execDngFirstHalf m off v s
  | .dngComplement m off v => Sys2Proof.Machine.execDngComplement m off v s
  | .dngPairTimeout m => Sys2Proof.Machine.execDngPairTimeout m s
  | .dngComplementRead m off => Sys2Proof.Machine.execDngComplementRead m off s
  | .glbErrRead m => Sys2Proof.Machine.execGlbErrRead m s
  | .glbSnapCtlWrite m v => Sys2Proof.Machine.execGlbSnapCtlWrite m v s
  | .snapshotLatch => Sys2Proof.Machine.execSnapshotLatch s
  | .glbCommitTimeW3Write m v => Sys2Proof.Machine.execGlbCommitTimeW3Write m v s
  | .commitCancel m => Sys2Proof.Machine.execCommitCancel m s
  | .commitApply => Sys2Proof.Machine.execCommitApply s
  | .mailboxEcho m b => Sys2Proof.Machine.execMailboxEcho m b s
  | .mailboxFwInfo m b => Sys2Proof.Machine.execMailboxFwInfo m b s
  | .mailboxDieTemp m b => Sys2Proof.Machine.execMailboxDieTemp m b s
  | .mailboxCoreStat m b => Sys2Proof.Machine.execMailboxCoreStat m b s
  | .mailboxSelftest m b => Sys2Proof.Machine.execMailboxSelftest m b s
  | .mailboxComplete b => Sys2Proof.Machine.execMailboxComplete b s
  | .pmcCtrLoRead m => Sys2Proof.Machine.execPmcCtrLoRead m s
  | .pmcRingEntry => Sys2Proof.Machine.execPmcRingEntry s
  | .fetchPcie m => Sys2Proof.Machine.execFetchPcie m s
  | .fetchFlash m => Sys2Proof.Machine.execFetchFlash m s
  | .fetchAbort m => Sys2Proof.Machine.execFetchAbort m s
  | .discardStaged m => Sys2Proof.Machine.execDiscardStaged m s
  | .burnRollback m => Sys2Proof.Machine.execBurnRollback m s
  | .fetchComplete img => Sys2Proof.Machine.execFetchComplete img s
  | .fetchFailed => Sys2Proof.Machine.execFetchFailed s
  | .verifyDone => Sys2Proof.Machine.execVerifyDone s
  | .fullApply m => Sys2Proof.Machine.execFullApply m s
  | .replotArm m => Sys2Proof.Machine.execReplotArm m s
  | .replotApply => Sys2Proof.Machine.execReplotApply s
  | .bootImageVerified a b ms => Sys2Proof.Machine.execBootImageVerified a b ms s
  | .tbIncLoWrite m n v => Sys2Proof.Machine.execTbIncLoWrite m n v s
  | .tbIncHiWrite m n v => Sys2Proof.Machine.execTbIncHiWrite m n v s
  | .tbStgIncLoWrite m n v => Sys2Proof.Machine.execTbStgIncLoWrite m n v s
  | .tbStgIncHiWrite m n v => Sys2Proof.Machine.execTbStgIncHiWrite m n v s
  | .tbOwnerWrite m n v => Sys2Proof.Machine.execTbOwnerWrite m n v s
  | .ownerChange n => Sys2Proof.Machine.execOwnerChange n s
  | .tbStgCtlWrite m n v => Sys2Proof.Machine.execTbStgCtlWrite m n v s
  | .stgValidDiscard m t v => Sys2Proof.Machine.execStgValidDiscard m t v s
  | .armStep m n back => Sys2Proof.Machine.execArmStep m n back s
  | .cancelStep m n => Sys2Proof.Machine.execCancelStep m n s
  | .armSlew m n => Sys2Proof.Machine.execArmSlew m n s
  | .cancelSlew m n => Sys2Proof.Machine.execCancelSlew m n s
  | .stepApply n => Sys2Proof.Machine.execStepApply n s
  | .slewStart n => Sys2Proof.Machine.execSlewStart n s
  | .slewEnd n => Sys2Proof.Machine.execSlewEnd n s
  | .secWrap n => Sys2Proof.Machine.execSecWrap n s
  | .leapCtlWrite m n v => Sys2Proof.Machine.execLeapCtlWrite m n v s
  | .leapAtWrite m n hi v => Sys2Proof.Machine.execLeapAtWrite m n hi v s
  | .leapInsert n => Sys2Proof.Machine.execLeapInsert n s
  | .leapSecondEnd n => Sys2Proof.Machine.execLeapSecondEnd n s
  | .leapDelete n => Sys2Proof.Machine.execLeapDelete n s
  | .tbNowW0Read m n => Sys2Proof.Machine.execTbNowW0Read m n s
  | .tdcArm m n => Sys2Proof.Machine.execTdcArm m n s
  | .tdcDisarm m n => Sys2Proof.Machine.execTdcDisarm m n s
  | .tdcFlush m n => Sys2Proof.Machine.execTdcFlush m n s
  | .tdcWindowOpen n => Sys2Proof.Machine.execTdcWindowOpen n s
  | .tdcEpochStart n => Sys2Proof.Machine.execTdcEpochStart n s
  | .tdcEdge ix tap fall sat => Sys2Proof.Machine.execTdcEdge ix tap fall sat s
  | .tdcWindowClose n => Sys2Proof.Machine.execTdcWindowClose n s
  | .tdcWindowTimeout n => Sys2Proof.Machine.execTdcWindowTimeout n s
  | .tdcFifoLoRead m n => Sys2Proof.Machine.execTdcFifoLoRead m n s
  | .tdcTickLoRead m => Sys2Proof.Machine.execTdcTickLoRead m s
  | .tdcLockLost n => Sys2Proof.Machine.execTdcLockLost n s
  | .tdcLockRegained n => Sys2Proof.Machine.execTdcLockRegained n s
  | .tdcLockLossLong n => Sys2Proof.Machine.execTdcLockLossLong n s
  | .lanePhaseWindow g edge => Sys2Proof.Machine.execLanePhaseWindow g edge s
  | .refPhaseSample k phase touched => Sys2Proof.Machine.execRefPhaseSample k phase touched s
  | .pairComparison => Sys2Proof.Machine.execPairComparison s
  | .tdcPairPhLoRead m => Sys2Proof.Machine.execTdcPairPhLoRead m s
  | .refEnable m k v => Sys2Proof.Machine.execRefEnable m k v s
  | .refDisable m k v => Sys2Proof.Machine.execRefDisable m k v s
  | .hostDisqWrite m k v => Sys2Proof.Machine.execHostDisqWrite m k v s
  | .actDeadline k => Sys2Proof.Machine.execActDeadline k s
  | .glitchDetected k => Sys2Proof.Machine.execGlitchDetected k s
  | .glitchHoldExpire k => Sys2Proof.Machine.execGlitchHoldExpire k s
  | .rateIdentified k f => Sys2Proof.Machine.execRateIdentified k f s
  | .freqMonitorEval k y => Sys2Proof.Machine.execFreqMonitorEval k y s
  | .ensembleVerdict => Sys2Proof.Machine.execEnsembleVerdict s
  | .packetMonitorEval k => Sys2Proof.Machine.execPacketMonitorEval k s
  | .esmcAbsenceTimeout k => Sys2Proof.Machine.execEsmcAbsenceTimeout k s
  | .qualTimerExpire k => Sys2Proof.Machine.execQualTimerExpire k s
  | .degClearExpire k => Sys2Proof.Machine.execDegClearExpire k s
  | .switchComplete d => Sys2Proof.Machine.execSwitchComplete d s
  | .advertisedQualityChange k q => Sys2Proof.Machine.execAdvertisedQualityChange k q s
  | .qholdExpire d k => Sys2Proof.Machine.execQholdExpire d k s
  | .refPhCompWrite m k v => Sys2Proof.Machine.execRefPhCompWrite m k v s
  | .refPrioWrite m k v => Sys2Proof.Machine.execRefPrioWrite m k v s
  | .selCtlWrite m d v => Sys2Proof.Machine.execSelCtlWrite m d v s
  | .selCandWrite m d v => Sys2Proof.Machine.execSelCandWrite m d v s
  | .selQholdWrite m d v => Sys2Proof.Machine.execSelQholdWrite m d v s
  | .refNomLoWrite m k v => Sys2Proof.Machine.execRefNomLoWrite m k v s
  | .refNomHiWrite m k v => Sys2Proof.Machine.execRefNomHiWrite m k v s
  | .refMeasFfRead m k => Sys2Proof.Machine.execRefMeasFfRead m k s
  | .dpllUpdate d fe => Sys2Proof.Machine.execDpllUpdate d fe s
  | .dpllLockAchieved d => Sys2Proof.Machine.execDpllLockAchieved d s
  | .flywheelEngage d => Sys2Proof.Machine.execFlywheelEngage d s
  | .flywheelLost d => Sys2Proof.Machine.execFlywheelLost d s
  | .dpllApllWrite m d v => Sys2Proof.Machine.execDpllApllWrite m d v s
  | .dpllBwWrite m d v => Sys2Proof.Machine.execDpllBwWrite m d v s
  | .dpllFwClassWrite m v => Sys2Proof.Machine.execDpllFwClassWrite m v s
  | .dpllFwFloorWrite m ix v => Sys2Proof.Machine.execDpllFwFloorWrite m ix v s
  | .modelFit d x y dd uy ud res span => Sys2Proof.Machine.execModelFit d x y dd uy ud res span s
  | .atomPpsCheck ps => Sys2Proof.Machine.execAtomPpsCheck ps s
  | .atomUartTxWrite m v => Sys2Proof.Machine.execAtomUartTxWrite m v s
  | .atomUartRxRead m => Sys2Proof.Machine.execAtomUartRxRead m s
  | .atomUartRxByte b => Sys2Proof.Machine.execAtomUartRxByte b s
  | .ledgerRefresh bad => Sys2Proof.Machine.execLedgerRefresh bad s
  | .sampleStale d => Sys2Proof.Machine.execSampleStale d s
  | .bndExtraWrite m n v => Sys2Proof.Machine.execBndExtraWrite m n v s
  | .bndCalRecordWrite m k o v => Sys2Proof.Machine.execBndCalRecordWrite m k o v s
  | .bndCRefRead m n => Sys2Proof.Machine.execBndCRefRead m n s
  | .gnssChainEnable m v => Sys2Proof.Machine.execGnssChainEnable m v s
  | .gnssChainDisable m v => Sys2Proof.Machine.execGnssChainDisable m v s
  | .gnssClearDb m v => Sys2Proof.Machine.execGnssClearDb m v s
  | .gnssSolution x f => Sys2Proof.Machine.execGnssSolution x f s
  | .gnssJamMeasure x k noise occ => Sys2Proof.Machine.execGnssJamMeasure x k noise occ s
  | .gnssJamReadmit x k => Sys2Proof.Machine.execGnssJamReadmit x k s
  | .integFailClear x => Sys2Proof.Machine.execIntegFailClear x s
  | .gnssModeWrite m x v => Sys2Proof.Machine.execGnssModeWrite m x v s
  | .surveyDone x px py pz sig3 => Sys2Proof.Machine.execSurveyDone x px py pz sig3 s
  | .surveyFail x => Sys2Proof.Machine.execSurveyFail x s
  | .osnmaRootWrite m ix v => Sys2Proof.Machine.execOsnmaRootWrite m ix v s
  | .gnssLeapAccept typ l votes auth taiUtc => Sys2Proof.Machine.execGnssLeapAccept typ l votes auth taiUtc s
  | .gnssLeapWithdrawn => Sys2Proof.Machine.execGnssLeapWithdrawn s
  | .fespiDataWrite m x v => Sys2Proof.Machine.execFespiDataWrite m x v s
  | .fespiTransferDone x v => Sys2Proof.Machine.execFespiTransferDone x v s
  | .gnssOffW0Read m x => Sys2Proof.Machine.execGnssOffW0Read m x s
  | .gnssSvStatRead m => Sys2Proof.Machine.execGnssSvStatRead m s
  | .frameReceive p tap f => Sys2Proof.Machine.execFrameReceive p tap f s
  | .pauseFrameReceive p queue quanta => Sys2Proof.Machine.execPauseFrameReceive p queue quanta s
  | .tokenRefill => Sys2Proof.Machine.execTokenRefill s
  | .commitPointCheck p => Sys2Proof.Machine.execCommitPointCheck p s
  | .frameAbort p => Sys2Proof.Machine.execFrameAbort p s
  | .frameDeparture p => Sys2Proof.Machine.execFrameDeparture p s
  | .unreservedTransmit p => Sys2Proof.Machine.execUnreservedTransmit p s
  | .testEnter m p => Sys2Proof.Machine.execTestEnter m p s
  | .testExit m p => Sys2Proof.Machine.execTestExit m p s
  | .portSleep m p => Sys2Proof.Machine.execPortSleep m p s
  | .portWake m p => Sys2Proof.Machine.execPortWake m p s
  | .gclArm m p => Sys2Proof.Machine.execGclArm m p s
  | .gclCancel m p => Sys2Proof.Machine.execGclCancel m p s
  | .gclSwap p => Sys2Proof.Machine.execGclSwap p s
  | .calSend m p => Sys2Proof.Machine.execCalSend m p s
  | .calFrameTransmit p => Sys2Proof.Machine.execCalFrameTransmit p s
  | .portCalTagRead m p => Sys2Proof.Machine.execPortCalTagRead m p s
  | .portCalAdjWrite m p ix v => Sys2Proof.Machine.execPortCalAdjWrite m p ix v s
  | .portLinkUp p => Sys2Proof.Machine.execPortLinkUp p s
  | .portLinkDown p => Sys2Proof.Machine.execPortLinkDown p s
  | .portStartTimerExpire p => Sys2Proof.Machine.execPortStartTimerExpire p s
  | .portDormIdleExpire p => Sys2Proof.Machine.execPortDormIdleExpire p s
  | .wakePatternMatch p f => Sys2Proof.Machine.execWakePatternMatch p f s
  | .pairEntryExpire p => Sys2Proof.Machine.execPairEntryExpire p s
  | .ntpRequest pcs build => Sys2Proof.Machine.execNtpRequest pcs build s
  | .blobFetchDone a b => Sys2Proof.Machine.execBlobFetchDone a b s
  | .delayReqReceive build => Sys2Proof.Machine.execDelayReqReceive build s
  | .pdelayReqReceive pcs build => Sys2Proof.Machine.execPdelayReqReceive pcs build s
  | .requestUnicastTransmission build => Sys2Proof.Machine.execRequestUnicastTransmission build s
  | .cancelUnicastTransmission build => Sys2Proof.Machine.execCancelUnicastTransmission build s
  | .grantLapse j => Sys2Proof.Machine.execGrantLapse j s
  | .ptpReferenceMessage => Sys2Proof.Machine.execPtpReferenceMessage s
  | .multicastMessageSend ix p ann pcs build => Sys2Proof.Machine.execMulticastMessageSend ix p ann pcs build s
  | .unicastMessageSend j ann pcs build => Sys2Proof.Machine.execUnicastMessageSend j ann pcs build s
  | .pdelayReqSend ix p build => Sys2Proof.Machine.execPdelayReqSend ix p build s
  | .esmcPduSend ix p build => Sys2Proof.Machine.execEsmcPduSend ix p build s
  | .svcEntCfgWrite m v => Sys2Proof.Machine.execSvcEntCfgWrite m v s
  | .svcRlWrite m ix v => Sys2Proof.Machine.execSvcRlWrite m ix v s
  | .svcStgRlWrite m ix v => Sys2Proof.Machine.execSvcStgRlWrite m ix v s
  | .svcPrefCfgWrite m v => Sys2Proof.Machine.execSvcPrefCfgWrite m v s
  | .svcSessD0Read m => Sys2Proof.Machine.execSvcSessD0Read m s
  | .svcCycSrvLoRead m c => Sys2Proof.Machine.execSvcCycSrvLoRead m c s
  | .governorEval => Sys2Proof.Machine.execGovernorEval s
  | .clusterWakeDone c => Sys2Proof.Machine.execClusterWakeDone c s
  | .clusterSleep c => Sys2Proof.Machine.execClusterSleep c s
  | .keyStagingWrite m ix v => Sys2Proof.Machine.execKeyStagingWrite m ix v s
  | .keyStagingTimeout => Sys2Proof.Machine.execKeyStagingTimeout s
  | .keyCommit m => Sys2Proof.Machine.execKeyCommit m s
  | .keyAbort m => Sys2Proof.Machine.execKeyAbort m s
  | .keyInvalidate m => Sys2Proof.Machine.execKeyInvalidate m s
  | .keyInvalidateDer m => Sys2Proof.Machine.execKeyInvalidateDer m s
  | .keyErase m => Sys2Proof.Machine.execKeyErase m s
  | .keyExport m => Sys2Proof.Machine.execKeyExport m s
  | .exportComplete ok => Sys2Proof.Machine.execExportComplete ok s
  | .keyImportSlot m => Sys2Proof.Machine.execKeyImportSlot m s
  | .importComplete a b => Sys2Proof.Machine.execImportComplete a b s
  | .keyScan m => Sys2Proof.Machine.execKeyScan m s
  | .scanComplete records => Sys2Proof.Machine.execScanComplete records s
  | .keygenOperationAbort p => Sys2Proof.Machine.execKeygenOperationAbort p s
  | .purgeComplete => Sys2Proof.Machine.execPurgeComplete s
  | .keyRemask => Sys2Proof.Machine.execKeyRemask s
  | .drbgReseed ok => Sys2Proof.Machine.execDrbgReseed ok s
  | .keyEpochWrite m r v => Sys2Proof.Machine.execKeyEpochWrite m r v s
  | .keySvcCfgWrite m r v => Sys2Proof.Machine.execKeySvcCfgWrite m r v s
  | .fuseOpk0 m => Sys2Proof.Machine.execFuseOpk0 m s
  | .fuseOpk1 m => Sys2Proof.Machine.execFuseOpk1 m s
  | .revokeOpk0 m => Sys2Proof.Machine.execRevokeOpk0 m s
  | .revokeOpk1 m => Sys2Proof.Machine.execRevokeOpk1 m s
  | .lcAdvance m target => Sys2Proof.Machine.execLcAdvance m target s
  | .otpBurnDone => Sys2Proof.Machine.execOtpBurnDone s
  | .apll0LockLost => Sys2Proof.Machine.execApll0LockLost s
  | .apll0Locked => Sys2Proof.Machine.execApll0Locked s
  | .apllLockLost k => Sys2Proof.Machine.execApllLockLost k s
  | .apllRelocked k => Sys2Proof.Machine.execApllRelocked k s
  | .apllTbWrite m k v => Sys2Proof.Machine.execApllTbWrite m k v s
  | .apllRateMoveDone k => Sys2Proof.Machine.execApllRateMoveDone k s
  | .alignerCompare k e => Sys2Proof.Machine.execAlignerCompare k e s
  | .outputRestart k => Sys2Proof.Machine.execOutputRestart k s
  | .outPhOfsWrite m k v => Sys2Proof.Machine.execOutPhOfsWrite m k v s
  | .outPulseWWrite m k v => Sys2Proof.Machine.execOutPulseWWrite m k v s
  | .outMuteWrite m k v => Sys2Proof.Machine.execOutMuteWrite m k v s
  | .glideDone k => Sys2Proof.Machine.execGlideDone k s
  | .syspllLockLost => Sys2Proof.Machine.execSyspllLockLost s
  | .syspllRelocked => Sys2Proof.Machine.execSyspllRelocked s
  | .sscWrite m v => Sys2Proof.Machine.execSscWrite m v s
  | .cueArm m c => Sys2Proof.Machine.execCueArm m c s
  | .cueDisarm m c => Sys2Proof.Machine.execCueDisarm m c s
  | .cueFire c => Sys2Proof.Machine.execCueFire c s
  | .cuePulseEnd c => Sys2Proof.Machine.execCuePulseEnd c s
  | .btbFrameEdge b => Sys2Proof.Machine.execBtbFrameEdge b s
  | .btbFsEdge b periods ps => Sys2Proof.Machine.execBtbFsEdge b periods ps s
  | .btbClkLoss b => Sys2Proof.Machine.execBtbClkLoss b s
  | .btbClkReturn b => Sys2Proof.Machine.execBtbClkReturn b s
  | .btbPause m b => Sys2Proof.Machine.execBtbPause m b s
  | .btbStop m b => Sys2Proof.Machine.execBtbStop m b s
  | .btbStart m b => Sys2Proof.Machine.execBtbStart m b s
  | .btbAutoStart b => Sys2Proof.Machine.execBtbAutoStart b s
  | .btbResyncResume b => Sys2Proof.Machine.execBtbResyncResume b s
  | .btbMaskWrite m b v => Sys2Proof.Machine.execBtbMaskWrite m b v s
  | .btbStgMaskWrite m b v => Sys2Proof.Machine.execBtbStgMaskWrite m b v s
  | .btbCommonStartArm m buses => Sys2Proof.Machine.execBtbCommonStartArm m buses s
  | .btbCommonStartCancel m => Sys2Proof.Machine.execBtbCommonStartCancel m s
  | .btbCommonStart => Sys2Proof.Machine.execBtbCommonStart s
  | .btbEdgeW0Read m b => Sys2Proof.Machine.execBtbEdgeW0Read m b s
  | .btbImg0HiRead m b => Sys2Proof.Machine.execBtbImg0HiRead m b s
  | .pairEnWrite m v => Sys2Proof.Machine.execPairEnWrite m v s
  | .stepDown m => Sys2Proof.Machine.execStepDown m s
  | .hbEnter m x => Sys2Proof.Machine.execHbEnter m x s
  | .hbExit m x => Sys2Proof.Machine.execHbExit m x s
  | .wingsPathUp x => Sys2Proof.Machine.execWingsPathUp x s
  | .wingsPathDown x => Sys2Proof.Machine.execWingsPathDown x s
  | .wingsTimeSend => Sys2Proof.Machine.execWingsTimeSend s
  | .wingsTimeReceive x tap l => Sys2Proof.Machine.execWingsTimeReceive x tap l s
  | .wingsHbSend => Sys2Proof.Machine.execWingsHbSend s
  | .wingsHbReceive x l => Sys2Proof.Machine.execWingsHbReceive x l s
  | .checkpointTake => Sys2Proof.Machine.execCheckpointTake s
  | .checkpointChunkReceive x l => Sys2Proof.Machine.execCheckpointChunkReceive x l s
  | .healthEval => Sys2Proof.Machine.execHealthEval s
  | .leaseRenewSend => Sys2Proof.Machine.execLeaseRenewSend s
  | .takeRequestSend => Sys2Proof.Machine.execTakeRequestSend s
  | .leaseGrantReceive l => Sys2Proof.Machine.execLeaseGrantReceive l s
  | .leaseRefuseReceive l => Sys2Proof.Machine.execLeaseRefuseReceive l s
  | .leaseReleaseAckReceive l => Sys2Proof.Machine.execLeaseReleaseAckReceive l s
  | .leaseExpire => Sys2Proof.Machine.execLeaseExpire s
  | .witnessBlind => Sys2Proof.Machine.execWitnessBlind s
  | .partnerLost => Sys2Proof.Machine.execPartnerLost s
  | .takeoverTick => Sys2Proof.Machine.execTakeoverTick s
  | .holdoffExpire => Sys2Proof.Machine.execHoldoffExpire s
  | .handbackRelease => Sys2Proof.Machine.execHandbackRelease s
  | .faultEvent l => Sys2Proof.Machine.execFaultEvent l s
  | .coreRestartDone c => Sys2Proof.Machine.execCoreRestartDone c s
  | .reactionDone id ns => Sys2Proof.Machine.execReactionDone id ns s
  | .curtainAutoRelease => Sys2Proof.Machine.execCurtainAutoRelease s
  | .autoUnfence => Sys2Proof.Machine.execAutoUnfence s
  | .maskWindowEnd => Sys2Proof.Machine.execMaskWindowEnd s
  | .fltUnfence m => Sys2Proof.Machine.execFltUnfence m s
  | .fltRelease m => Sys2Proof.Machine.execFltRelease m s
  | .fltClearFirst m => Sys2Proof.Machine.execFltClearFirst m s
  | .fltHistPopRead m => Sys2Proof.Machine.execFltHistPopRead m s
  | .fltInjWrite m v => Sys2Proof.Machine.execFltInjWrite m v s
  | .sramRead init line fails o => Sys2Proof.Machine.execSramRead init line fails o s
  | .sramWrite init line pos bytes fails o => Sys2Proof.Machine.execSramWrite init line pos bytes fails o s
  | .scrubBurst bad => Sys2Proof.Machine.execScrubBurst bad s
  | .pd9RetentionEnter => Sys2Proof.Machine.execPd9RetentionEnter s
  | .dmaCompletionError ch => Sys2Proof.Machine.execDmaCompletionError ch s
  | .dmaChannelRestart ch => Sys2Proof.Machine.execDmaChannelRestart ch s
  | .ringEntryWrite c => Sys2Proof.Machine.execRingEntryWrite c s
  | .ringConsWrite m c v => Sys2Proof.Machine.execRingConsWrite m c v s
  | .ringEnWrite m c v => Sys2Proof.Machine.execRingEnWrite m c v s
  | .qspiCmdWrite m v => Sys2Proof.Machine.execQspiCmdWrite m v s
  | .qspiTransferDone data => Sys2Proof.Machine.execQspiTransferDone data s
  | .qspiDataAccess m push => Sys2Proof.Machine.execQspiDataAccess m push s
  | .mspiWrite a d crc => Sys2Proof.Machine.execMspiWrite a d crc s
  | .mspiDwrite a d crc => Sys2Proof.Machine.execMspiDwrite a d crc s
  | .mspiRead a crc => Sys2Proof.Machine.execMspiRead a crc s
  | .mspiPing l => Sys2Proof.Machine.execMspiPing l s
  | .pfHostReset kind => Sys2Proof.Machine.execPfHostReset kind s
  | .vfFlr v => Sys2Proof.Machine.execVfFlr v s
  | .d0Return speed width vfEn => Sys2Proof.Machine.execD0Return speed width vfEn s
  | .porAssert vddAon => Sys2Proof.Machine.execPorAssert vddAon s
  | .resetNPulse ns => Sys2Proof.Machine.execResetNPulse ns s
  | .resetNLong => Sys2Proof.Machine.execResetNLong s
  | .pwrRstCmdWarm m => Sys2Proof.Machine.execPwrRstCmdWarm m s
  | .pwrRstCmdService m => Sys2Proof.Machine.execPwrRstCmdService m s
  | .pwrRstCmdCold m => Sys2Proof.Machine.execPwrRstCmdCold m s
  | .powerLoss => Sys2Proof.Machine.execPowerLoss s
  | .loClkDetected rate => Sys2Proof.Machine.execLoClkDetected rate s
  | .loLost => Sys2Proof.Machine.execLoLost s
  | .domainPowerOn => Sys2Proof.Machine.execDomainPowerOn s
  | .firmwareSelfCheckDone => Sys2Proof.Machine.execFirmwareSelfCheckDone s
  | .supplyExcursion d inside => Sys2Proof.Machine.execSupplyExcursion d inside s
  | .thermalSensorRead t => Sys2Proof.Machine.execThermalSensorRead t s
  | .tick => Sys2Proof.Machine.execTick s
  | .sourceLiveBitClear src => Sys2Proof.Machine.execSourceLiveBitClear src s
  | .porRelease => Sys2Proof.Machine.execPorRelease s
  | .applyComplete ms => Sys2Proof.Machine.execApplyComplete ms s
  | .warmResetReverifyDone ms => Sys2Proof.Machine.execWarmResetReverifyDone ms s
  | .ringModUsExpire c => Sys2Proof.Machine.execRingModUsExpire c s
  | .msixVectorUnmask v => Sys2Proof.Machine.execMsixVectorUnmask v s
  | .referenceDelayReqSend k build => Sys2Proof.Machine.execReferenceDelayReqSend k build s
  | .upstreamUnicastRequest k build => Sys2Proof.Machine.execUpstreamUnicastRequest k build s

end Sys2Proof.Machine
end

