-- ==== Sys2Proof/Safety.lean ====
section
/-! DEFINITION. Sys2Proof/Safety.lean: what counts as a sound state, an allowed change of the fuses and a safe run of the block, in the terms the claims use. -/
namespace Sys2Proof.Machine

/-- The canonical form of the SRAM: rising byte addresses, and no listed byte that reads as an unlisted one does. -/
def Memory.wf (m : Sparse Byte) : Bool := Sparse.wf sramUnlisted m

/-- The tables that stand for the registers, for what is held, latched and marked per master, for the read data and for the SRAM are in their canonical form, so that equal contents are equal data. -/
def State.canonical (s : State) : Bool :=
  Sparse.wf regReset s.regs && Sparse.wf (fun k => regReset (k % 2 ^ 24)) s.held && Sparse.wf (fun _ => false) s.marks &&
    Sparse.wf (fun _ => 0) s.resp && Memory.wf s.mem.sram

/-- A change of the fuses that hardware allows: the life cycle stays or moves on, and a revoked key stays revoked (R318, R319). -/
def Otp.onward (a b : Otp) : Prop :=
  a.lifecycle.code ≤ b.lifecycle.code ∧ (a.revoked0 = true → b.revoked0 = true) ∧ (a.revoked1 = true → b.revoked1 = true)

/-- Everything of a state but the register file and the record of the vectors. -/
def State.beside (s : State) : State := { s with regs := [], glb := { s.glb with irq := {} } }

/-- Every register but those at the listed offsets reads the same in the register file. -/
def State.regsBut (l : List Nat) (s t : State) : Prop := ∀ o, o ∉ l → t.rd o = s.rd o

/-- `n` commands of the queue run to `t` without a fault or a refusal. -/
def State.runsTo (n : Nat) (s t : State) : Prop := Sys2Proof.core.run n s = .next t

/-- A safe run of `n` commands: none stops, and the state they end in is canonical. -/
def State.safeFor (n : Nat) (s : State) : Prop := ∃ t, s.runsTo n t ∧ t.canonical = true

end Sys2Proof.Machine
end

