-- ==== Sys2Proof/Claims.lean ====
section
/-! DEFINITION. Sys2Proof/Claims.lean: words that the statements share: what a frame leaves, what an event register and an error record show, and which registers have a rule of their own. -/
namespace Sys2Proof.Machine

/-- What the last read of master index `i` returned. -/
def State.answerOf (s : State) (i : Nat) : Word := Sparse.get (fun _ => 0) s.resp i

/-- Hardware has set the flags of `mask` in an RSQ register: every flag is the old one or a new one, and SEQ is one higher modulo 256 (R451). -/
def raisedTo (old new : Word) (mask : Nat) : Prop :=
  (∀ b, b < 24 → new.getLsbD b = (old.getLsbD b || mask.testBit b)) ∧ fget new 24 8 = (fget old 24 8 + 1) % 256

/-- The flags of `mask` are set in the event register at `evt`. -/
def State.raised (s t : State) (evt mask : Nat) : Prop := raisedTo (s.rd evt) (t.rd evt) mask

/-- Nothing but the register file and the record of the vectors differs, and of the registers only the listed ones. -/
def State.onlyRegs (l : List Nat) (s t : State) : Prop := State.regsBut l s t ∧ t.beside = s.beside

/-- The error record of master `m` after one more failed access (R458), every other master's record being as it was. -/
def State.failed (s t : State) (m : Master) (e : Err) (write : Bool) (addr : Nat) : Prop :=
  t.err m.idx = ⟨e.code, false, write, (s.err m.idx).count + 1, BitVec.ofNat 32 addr⟩ ∧ ∀ j, j ≠ m.idx → t.err j = s.err j

/-- The parts of the state, one for each field; the front end's record is split into its own fields. -/
inductive Part where
  | regs | held | marks | resp | tick | refreshAt | pd1 | plt | tbs | bnd | cals | refs | sels | dplls | uart | tdc | ports | out | flt | svc | gnss | btb | wng | mem | key | otp | pwr | fv | pending
  | errs | dng | snapReq | commitAt | mbx | pmc | pmcSeq | irq
deriving DecidableEq, Repr

/-- A part is the same in two states. -/
def Part.same (p : Part) (s t : State) : Prop :=
  match p with
  | .regs => t.regs = s.regs
  | .held => t.held = s.held
  | .marks => t.marks = s.marks
  | .resp => t.resp = s.resp
  | .tick => t.tick = s.tick
  | .refreshAt => t.refreshAt = s.refreshAt
  | .pd1 => t.pd1 = s.pd1
  | .plt => t.plt = s.plt
  | .tbs => t.tbs = s.tbs
  | .bnd => t.bnd = s.bnd
  | .cals => t.cals = s.cals
  | .refs => t.refs = s.refs
  | .sels => t.sels = s.sels
  | .dplls => t.dplls = s.dplls
  | .uart => t.uart = s.uart
  | .tdc => t.tdc = s.tdc
  | .ports => t.ports = s.ports
  | .out => t.out = s.out
  | .flt => t.flt = s.flt
  | .svc => t.svc = s.svc
  | .gnss => t.gnss = s.gnss
  | .btb => t.btb = s.btb
  | .wng => t.wng = s.wng
  | .mem => t.mem = s.mem
  | .key => t.key = s.key
  | .otp => t.otp = s.otp
  | .pwr => t.pwr = s.pwr
  | .fv => t.fv = s.fv
  | .pending => t.pending = s.pending
  | .errs => t.glb.errs = s.glb.errs
  | .dng => t.glb.dng = s.glb.dng
  | .snapReq => t.glb.snapReq = s.glb.snapReq
  | .commitAt => t.glb.commitAt = s.glb.commitAt
  | .mbx => t.glb.mbx = s.glb.mbx
  | .pmc => t.glb.pmc = s.glb.pmc
  | .pmcSeq => t.glb.pmcSeq = s.glb.pmcSeq
  | .irq => t.glb.irq = s.glb.irq

/-- The frame of a command: every part of the state but the listed ones is unchanged. -/
def State.keepsBut (l : List Part) (s t : State) : Prop := ∀ p, p ∉ l → p.same s t

/-- A write of master `m` at `off` has been rejected with `e`: its error record and the LAST_ERR field of the unit show it, and nothing else has changed (R450, R458). -/
def State.refuses (s t : State) (m : Master) (e : Err) (off : Nat) : Prop :=
  s.failed t m e true off ∧ State.regsBut ((lastErrAt off).toList.map Prod.fst) s t ∧
  (∀ r lo, lastErrAt off = some (r, lo) → t.rd r = fset (s.rd r) lo 8 e.code) ∧ s.keepsBut [.regs, .errs] t

/-- A write or command of the owner of time base `n` by another master: ERR_OWNER and OWNER_REJECT (R67). -/
def State.rejectsOwner (s t : State) (m : Master) (n : Fin 64) (off : Nat) : Prop :=
  s.failed t m .owner true off ∧ s.raised t (tbReg n 0x3C) 0x80 ∧ t.fld (tbReg n 0x1C) 24 8 = 13 ∧
  State.regsBut [tbReg n 0x1C, tbReg n 0x3C] s t ∧ s.keepsBut [.regs, .errs, .irq] t

/-- An instant that R27 accepts: not earlier than TB0, and no more than 3,600 s later. -/
def State.timely (s : State) (inst : Nat) : Prop := s.tbs[0].value ≤ inst ∧ inst ≤ s.tbs[0].value + 3600 * secU

/-- No time base but `n` has changed. -/
def State.onlyTb (s t : State) (n : Fin 64) : Prop := ∀ k : Fin 64, k ≠ n → t.tbs[k] = s.tbs[k]

/-- No TDC channel but `n` has changed, nor the pair comparison. -/
def State.onlyCh (s t : State) (n : Fin 24) : Prop :=
  (∀ k : Fin 24, k ≠ n → t.tdc.ch[k] = s.tdc.ch[k]) ∧ t.tdc.pairE = s.tdc.pairE ∧ t.tdc.pairStart = s.tdc.pairStart

/-- No leap second is armed on time base `n`, or it is not UTC (R80). -/
def State.leapless (s : State) (n : Fin 64) : Prop := s.plt.plot.tbScale n ≠ 1 ∨ s.fld (tbReg n 0x78) 0 2 = 0

/-- What the qualification of slots, the selectors, the loops and the ledgers hold, together with the registers and the vectors. -/
def loopParts : List Part := [.regs, .tbs, .bnd, .cals, .refs, .sels, .dplls, .irq]

/-- Only the listed registers and those of the selectors, the loops and the ledgers differ. -/
def State.loopRegs (l : List Nat) (s t : State) : Prop := ∀ o, o ∉ l → (o < 0x042000 ∨ 0x070000 ≤ o) → t.rd o = s.rd o

/-- Besides such registers, no state outside the parts of `loopParts` differs. -/
def State.loopFrame (l : List Nat) (s t : State) : Prop := State.loopRegs l s t ∧ s.keepsBut loopParts t

/-- The state of Table 5.4 that a slot in state `st` takes by its live bits alone, timers aside. -/
def settled (st live : Nat) : Nat :=
  match st with
  | 2 => if live &&& hardMask ≠ 0 then 4 else if live &&& softMask ≠ 0 then 3 else 2
  | 3 => if live &&& hardMask ≠ 0 then 4 else 3
  | 4 => if live &&& hardMask = 0 then 1 else 4
  | n => n

/-- The monitors of slot `k` set the bits of `on` and clear those of `off`, as far as they act on its source (Table 5.1), and its state follows Table 5.4. -/
def State.monitors (s t : State) (k : Fin 24) (on off : Nat) : Prop :=
  let m := monitorMask (s.plt.plot.refSource k)
  let new := (s.live k &&& (0xFFF ^^^ (off &&& m))) ||| (on &&& m)
  t.refState k = settled (s.refState k) new ∧
  ((s.refState k ≠ 4 ∨ new &&& hardMask ≠ 0 ∨ isClkin (s.plt.plot.refSource k) = false) → t.live k = new) ∧
  (∀ j : Fin 24, j ≠ k → t.refs[j] = s.refs[j]) ∧ s.loopFrame [refReg k 4, refReg k 8] t

/-- What a FREQ selector that is neither evaluated again by its time base nor aligning has selected (R137, R139, R140): the forced slot while it is selectable, nothing in HOLDOVER mode, and in AUTO mode with REVERT the first slot of the ranking. -/
def State.ranked (t : State) (d : Fin 16) : Prop :=
  t.loopTb d = none →
    (t.fld (selReg d 0) 0 2 = 2 → t.selected d = none) ∧
    (t.fld (selReg d 0) 0 2 = 1 → ∀ k : Fin 24, t.fld (selReg d 0) 8 5 = k.val → t.selected d = if t.selectable d k then some k else none) ∧
    (t.fld (selReg d 0) 0 2 = 0 → t.bit (selReg d 0) 4 = true →
      (∀ k, t.selected d = some k → t.selectable d k = true ∧ ∀ j, t.selectable d j = true → t.rankKey d k ≤ t.rankKey d j) ∧
      (t.selected d = none → ∀ j, t.selectable d j = false))

/-- One fault record has been written, that of an event of source `src`: it is the newest of at most 32, VALID is 1, and ENTRY_ID is the next number (R416, R417). -/
def State.recorded (s t : State) (src : Nat) (r : FltRec) : Prop :=
  t.flt.hist = (if 32 ≤ s.flt.hist.length then s.flt.hist.drop 1 else s.flt.hist) ++ [r] ∧ t.flt.nextId = s.flt.nextId + 1 ∧
  fget r[0] 0 16 = src ∧ fget r[0] 16 1 = 1 ∧ fget r[0] 24 8 = s.flt.nextId % 256

/-- No plot entry raises the class of source `src` or counts its events, so that its event is CORRECTED and asks for no reaction. -/
def State.plainSource (s : State) (src : Nat) (cls : FClass) : Prop := s.eventClass src cls = .corrected ∧ s.escalation src = none

/-- Only port `p` and the listed registers differ, with the record of the vectors. -/
def State.onlyPort (p : Fin 16) (l : List Nat) (s t : State) : Prop :=
  State.regsBut l s t ∧ (∀ q : Fin 16, q ≠ p → t.ports[q] = s.ports[q]) ∧ s.keepsBut [.regs, .ports, .irq] t

/-- The parts that the roles and the link of a paired unit act on. -/
def linkParts : List Part := loopParts ++ [.wng, .svc, .ports, .out, .btb, .pmc, .fv]

/-- The unit has entered UNDERSTUDY (R366, R368, R369, Table 14.1): it holds no lease, serves nobody, its loops are RELEASED, every present time base is untraceable with the cause "not serving", and what mutes its outputs is in force. -/
def State.steppedDown (t : State) : Prop :=
  t.role = 1 ∧ t.leaseHeld = false ∧ t.svc.jobs = [] ∧ t.svc.sess = [] ∧ t.wng.expiry = none ∧ t.wng.takeover = none ∧ t.muted = true ∧
  (∀ p : Fin 16, ∀ h, h ∈ t.ports[p].held → h.committed.isSome = true) ∧
  (∀ d : Fin 16, t.dpllState d = 0) ∧ (∀ n : Fin 64, t.plt.plot.tbPresent n = true → t.bnd[n].why = 11)

/-- The register at `off` has a rule of its own for writes, so that a plain write does not describe it: commands, staged and applied values, checked limits, arrays with owners (chapters 2 to 18). -/
def ownRule (off : Nat) : Bool :=
  let p := off % 0x100
  match off / 0x10000 with
  | 0 => [0x10, 0x20, 0x3C, 0x40].contains off || (decide (0x100 ≤ off) && decide (off < 0x180))
  | 1 => off = 0x010000 || off = 0x010004
  | 2 => decide (off < 0x024000) && [0x18, 0x20, 0x24, 0x38, 0x78, 0x80, 0x84, 0xC0, 0xC4, 0xC8, 0xCC].contains p
  | 3 => decide (0x030100 ≤ off) && decide (off < 0x030700)
  | 4 => off < 0x042400
  | 5 => (decide (off < 0x051000) && [0, 4, 0x50, 0x54].contains p) || (decide (0x051000 ≤ off) && decide (off < 0x051028))
  | 6 => off < 0x062200
  | 7 => off < 0x070300
  | 8 => [0, 4, 0x18, 0x1C, 0x20].contains (off % 0x1000)
  | 9 => off < 0x0900C8
  | 10 => [0x0A000C, 0x0A0050, 0x0A0054, 0x0A0058, 0x0A005C, 0x0A007C, 0x0A0090, 0x0A0094].contains off
      || (decide (0x0A0014 ≤ off) && decide (off < 0x0A0040)) || (decide (0x0A00A0 ≤ off) && decide (off < 0x0A00D0))
  | 11 => off < 0x0B0C00
  | 12 => off < 0x0C1004
  | 13 => off ≠ 0x0D000C
  | 14 => [0x0E0004, 0x0E0024, 0x0E0090, 0x0E0094].contains off
  | 15 => (decide (0x0F0140 ≤ off) && decide (off < 0x0F01A0)) || off = 0x0F0204 || off = 0x0F0210
  | 16 => off = 0x100010
  | 17 => off = 0x110004 || (decide (0x110100 ≤ off) && decide (off < 0x110170))
  | _ => true

end Sys2Proof.Machine
end

