-- ==== Sys2Proof/WellFormed.lean ====
section
/-! DEFINITION. Sys2Proof/WellFormed.lean: which operands a command can have where their types do not say it: lines of the SRAM (R421), the bytes of a line, slots of the session table (R285), services entries, decoded offsets (R433), what a frame and a solution can hold. An ill-formed command stands for nothing that can reach the block. -/
namespace Sys2Proof

/-- No block decodes the offset: 0x12_0000 to 0x7F_FFFF and the same range of the complement aperture (R433). -/
def decodeMisses (off : Nat) : Bool := decide (0x120000 ≤ off % 0x800000)

/-- At most the first 64 bytes of a frame are given as its head (Table 9.11). -/
def Frame.wf (f : Frame) : Bool := decide (f.head.length ≤ 64)

/-- A satellite of one of the four systems. -/
def Sat.wf (a : Sat) : Bool := decide (a.sys < 4) && decide (1 ≤ a.prn) && decide (a.prn < 64) && decide (a.bands < 8) && decide (a.elev ≤ 90)

/-- The operands of a command are such that the spec gives it a meaning. -/
def Instr.wf : Instr → Bool
  | .decodeMissAccess _ off _ _ => decodeMisses off.val
  | .gnssSolution _ f => f.sats.all Sat.wf
  | .gnssJamMeasure _ _ _ occ => decide (occ ≤ 1000)
  | .gnssLeapAccept typ l votes _ taiUtc => decide (1 ≤ typ) && decide (typ ≤ 2) && decide (l < 2 ^ 48) && decide (votes < 256) && decide (taiUtc < 256)
  | .frameReceive _ _ f => Frame.wf f
  | .pauseFrameReceive _ _ quanta => decide (quanta < 65536)
  | .wakePatternMatch _ f => Frame.wf f
  | .grantLapse j => decide (j < 1048576)
  | .multicastMessageSend i _ _ _ _ => decide (i < 256)
  | .unicastMessageSend j _ _ _ => decide (j < 1048576)
  | .pdelayReqSend i _ _ => decide (i < 256)
  | .esmcPduSend i _ _ => decide (i < 256)
  | .faultEvent l => l.all (fun x => decide (x.src < 65536))
  | .sramRead _ line _ _ => decide (line < 1572864)
  | .sramWrite _ line pos bytes _ _ => decide (line < 1572864) && decide (pos.val + bytes.length ≤ 64) && !bytes.isEmpty
  | .scrubBurst bad => decide (bad.length ≤ 1024)
  | .qspiTransferDone data => decide (data.length ≤ 256)
  | .mspiPing l => !l.isEmpty
  | .thermalSensorRead t => !t.isEmpty
  | .sourceLiveBitClear src => decide (src < 65536)
  | .registerWrite _ _ _ | .rsqClearWrite _ _ _ | .rcRead _ _ | .dngFirstHalf _ _ _ | .dngComplement _ _ _ | .dngPairTimeout _
  | .dngComplementRead _ _ | .glbErrRead _ | .glbSnapCtlWrite _ _ | .snapshotLatch | .glbCommitTimeW3Write _ _ | .commitCancel _ | .commitApply
  | .mailboxEcho _ _ | .mailboxFwInfo _ _ | .mailboxDieTemp _ _ | .mailboxCoreStat _ _ | .mailboxSelftest _ _ | .mailboxComplete _ | .pmcCtrLoRead _
  | .pmcRingEntry | .fetchPcie _ | .fetchFlash _ | .fetchAbort _ | .discardStaged _ | .burnRollback _ | .fetchComplete _ | .fetchFailed | .verifyDone
  | .fullApply _ | .replotArm _ | .replotApply | .bootImageVerified _ _ _ | .tbIncLoWrite _ _ _ | .tbIncHiWrite _ _ _ | .tbStgIncLoWrite _ _ _
  | .tbStgIncHiWrite _ _ _ | .tbOwnerWrite _ _ _ | .ownerChange _ | .tbStgCtlWrite _ _ _ | .stgValidDiscard _ _ _ | .armStep _ _ _ | .cancelStep _ _
  | .armSlew _ _ | .cancelSlew _ _ | .stepApply _ | .slewStart _ | .slewEnd _ | .secWrap _ | .leapCtlWrite _ _ _ | .leapAtWrite _ _ _ _
  | .leapInsert _ | .leapSecondEnd _ | .leapDelete _ | .tbNowW0Read _ _ | .tdcArm _ _ | .tdcDisarm _ _ | .tdcFlush _ _ | .tdcWindowOpen _
  | .tdcEpochStart _ | .tdcEdge _ _ _ _ | .tdcWindowClose _ | .tdcWindowTimeout _ | .tdcFifoLoRead _ _ | .tdcTickLoRead _ | .tdcLockLost _
  | .tdcLockRegained _ | .tdcLockLossLong _ | .lanePhaseWindow _ _ | .refPhaseSample _ _ _ | .pairComparison | .tdcPairPhLoRead _ | .refEnable _ _ _
  | .refDisable _ _ _ | .hostDisqWrite _ _ _ | .actDeadline _ | .glitchDetected _ | .glitchHoldExpire _ | .rateIdentified _ _ | .freqMonitorEval _ _
  | .ensembleVerdict | .packetMonitorEval _ | .esmcAbsenceTimeout _ | .qualTimerExpire _ | .degClearExpire _ | .switchComplete _
  | .advertisedQualityChange _ _ | .qholdExpire _ _ | .refPhCompWrite _ _ _ | .refPrioWrite _ _ _ | .selCtlWrite _ _ _ | .selCandWrite _ _ _
  | .selQholdWrite _ _ _ | .refNomLoWrite _ _ _ | .refNomHiWrite _ _ _ | .refMeasFfRead _ _ | .dpllUpdate _ _ | .dpllLockAchieved _
  | .flywheelEngage _ | .flywheelLost _ | .dpllApllWrite _ _ _ | .dpllBwWrite _ _ _ | .dpllFwClassWrite _ _ | .dpllFwFloorWrite _ _ _
  | .modelFit _ _ _ _ _ _ _ _ | .atomPpsCheck _ | .atomUartTxWrite _ _ | .atomUartRxRead _ | .atomUartRxByte _ | .ledgerRefresh _ | .sampleStale _
  | .bndExtraWrite _ _ _ | .bndCalRecordWrite _ _ _ _ | .bndCRefRead _ _ | .gnssChainEnable _ _ | .gnssChainDisable _ _ | .gnssClearDb _ _
  | .gnssJamReadmit _ _ | .integFailClear _ | .gnssModeWrite _ _ _ | .surveyDone _ _ _ _ _ | .surveyFail _ | .osnmaRootWrite _ _ _
  | .gnssLeapWithdrawn | .fespiDataWrite _ _ _ | .fespiTransferDone _ _ | .gnssOffW0Read _ _ | .gnssSvStatRead _ | .tokenRefill | .commitPointCheck _
  | .frameAbort _ | .frameDeparture _ | .unreservedTransmit _ | .testEnter _ _ | .testExit _ _ | .portSleep _ _ | .portWake _ _ | .gclArm _ _
  | .gclCancel _ _ | .gclSwap _ | .calSend _ _ | .calFrameTransmit _ | .portCalTagRead _ _ | .portCalAdjWrite _ _ _ _ | .portLinkUp _
  | .portLinkDown _ | .portStartTimerExpire _ | .portDormIdleExpire _ | .pairEntryExpire _ | .ntpRequest _ _ | .blobFetchDone _ _
  | .delayReqReceive _ | .pdelayReqReceive _ _ | .requestUnicastTransmission _ | .cancelUnicastTransmission _ | .ptpReferenceMessage
  | .svcEntCfgWrite _ _ | .svcRlWrite _ _ _ | .svcStgRlWrite _ _ _ | .svcPrefCfgWrite _ _ | .svcSessD0Read _ | .svcCycSrvLoRead _ _ | .governorEval
  | .clusterWakeDone _ | .clusterSleep _ | .keyStagingWrite _ _ _ | .keyStagingTimeout | .keyCommit _ | .keyAbort _ | .keyInvalidate _
  | .keyInvalidateDer _ | .keyErase _ | .keyExport _ | .exportComplete _ | .keyImportSlot _ | .importComplete _ _ | .keyScan _ | .scanComplete _
  | .keygenOperationAbort _ | .purgeComplete | .keyRemask | .drbgReseed _ | .keyEpochWrite _ _ _ | .keySvcCfgWrite _ _ _ | .fuseOpk0 _ | .fuseOpk1 _
  | .revokeOpk0 _ | .revokeOpk1 _ | .lcAdvance _ _ | .otpBurnDone | .apll0LockLost | .apll0Locked | .apllLockLost _ | .apllRelocked _
  | .apllTbWrite _ _ _ | .apllRateMoveDone _ | .alignerCompare _ _ | .outputRestart _ | .outPhOfsWrite _ _ _ | .outPulseWWrite _ _ _
  | .outMuteWrite _ _ _ | .glideDone _ | .syspllLockLost | .syspllRelocked | .sscWrite _ _ | .cueArm _ _ | .cueDisarm _ _ | .cueFire _
  | .cuePulseEnd _ | .btbFrameEdge _ | .btbFsEdge _ _ _ | .btbClkLoss _ | .btbClkReturn _ | .btbPause _ _ | .btbStop _ _ | .btbStart _ _
  | .btbAutoStart _ | .btbResyncResume _ | .btbMaskWrite _ _ _ | .btbStgMaskWrite _ _ _ | .btbCommonStartArm _ _ | .btbCommonStartCancel _
  | .btbCommonStart | .btbEdgeW0Read _ _ | .btbImg0HiRead _ _ | .pairEnWrite _ _ | .stepDown _ | .hbEnter _ _ | .hbExit _ _ | .wingsPathUp _
  | .wingsPathDown _ | .wingsTimeSend | .wingsTimeReceive _ _ _ | .wingsHbSend | .wingsHbReceive _ _ | .checkpointTake | .checkpointChunkReceive _ _
  | .healthEval | .leaseRenewSend | .takeRequestSend | .leaseGrantReceive _ | .leaseRefuseReceive _ | .leaseReleaseAckReceive _ | .leaseExpire
  | .witnessBlind | .partnerLost | .takeoverTick | .holdoffExpire | .handbackRelease | .coreRestartDone _ | .reactionDone _ _ | .curtainAutoRelease
  | .autoUnfence | .maskWindowEnd | .fltUnfence _ | .fltRelease _ | .fltClearFirst _ | .fltHistPopRead _ | .fltInjWrite _ _ | .pd9RetentionEnter
  | .dmaCompletionError _ | .dmaChannelRestart _ | .ringEntryWrite _ | .ringConsWrite _ _ _ | .ringEnWrite _ _ _ | .qspiCmdWrite _ _
  | .qspiDataAccess _ _ | .mspiWrite _ _ _ | .mspiDwrite _ _ _ | .mspiRead _ _ | .pfHostReset _ | .vfFlr _ | .d0Return _ _ _ | .porAssert _
  | .resetNPulse _ | .resetNLong | .pwrRstCmdWarm _ | .pwrRstCmdService _ | .pwrRstCmdCold _ | .powerLoss | .loClkDetected _ | .loLost
  | .domainPowerOn | .firmwareSelfCheckDone | .supplyExcursion _ _ | .tick | .porRelease | .applyComplete _ | .warmResetReverifyDone _
  | .ringModUsExpire _ | .msixVectorUnmask _ | .referenceDelayReqSend _ _ | .upstreamUnicastRequest _ _ => true

end Sys2Proof
end

