-- ==== Sys2Proof/Certificates/Slice0/Obligations.lean ====
section
/-! DEFINITION. Sys2Proof/Certificates/Slice0/Obligations.lean: the statements about this model. Each is over every state and operand that meets its hypotheses; each part says that a command answers a next state and what that state holds, with the frame of the parts that stay as they are. -/
open Sys2Proof Sys2Proof.Machine

/-! ### The block as a whole -/

/-- A step runs the command at the front of the queue on the state that holds the rest of the queue, and an empty queue is left as it is; the idling is the model's choice (assumption 4). -/
def Obligations.FrontCommandRuns : Prop :=
  (∀ (c : Instr) (l : List Instr) (s : State), s.pending = c :: l → step s = exec c { s with pending := l }) ∧
  (∀ s : State, s.pending = [] → step s = .next s)

/-- R458, R477, R479, R480 and the Reset columns of the register tables: after reset every register, held ones too, reads its reset value, GLB_ERR_SEL its own record; no error is recorded, no commit, pair, mailbox command or fault is pending, every time base is untraceable, PD1 is in reset and nothing waits. The tables are in canonical form. The values that no rule gives are the model's (assumption 1). -/
def Obligations.ResetState : Prop :=
  (∀ o, State.reset.rd o = regReset o) ∧ (∀ i o, o < 2 ^ 24 → State.reset.hget i o = regReset o) ∧ State.reset.errSel 5 = 5 ∧ State.reset.rd 0x00000C = 0 ∧
  (∀ i, State.reset.err i = {}) ∧ (∀ i, State.reset.pair i = none) ∧ (∀ b, Sparse.get (fun _ => none) State.reset.glb.mbx b = none) ∧ State.reset.glb.commitAt = none ∧
  (∀ n : Fin 64, State.reset.untraceable n = true) ∧ (∀ d : Fin 16, State.reset.dpllState d = 0) ∧ State.reset.flt.hist = [] ∧ (∀ x, State.reset.srcLive x = false) ∧
  State.reset.plt.inForce = false ∧ State.reset.stage = 0 ∧ State.reset.activeValid = false ∧ State.reset.muted = true ∧
  State.reset.pd1 = false ∧ State.reset.tick = 0 ∧ State.reset.pending = [] ∧ State.reset.canonical = true

/-- R318, R319, R398 to R420: every command ends in a next state from every state, whatever its operands; it leaves the queue to the step, and the fuses only move on: the life cycle never goes back, and a revoked root key stays revoked. -/
def Obligations.EveryCommandCompletes : Prop :=
  ∀ (c : Instr) (s : State), ∃ t, exec c s = .next t ∧ (s.canonical = true → t.pending = s.pending ∧ Otp.onward s.otp t.otp)

/-- Every step keeps the canonical form of the tables of registers, of held and latched words, of read data and of SRAM bytes, so that equal contents are equal data; a run of any number of commands from a canonical state ends in one, with no stop on the way. -/
def Obligations.StepKeepsCanonicalForm : Prop :=
  (∀ s t : State, s.canonical = true → step s = .next t → t.canonical = true) ∧ (∀ (n : Nat) (s : State), s.canonical = true → s.safeFor n)

/-! ### The register bus -/

/-- R448: an accepted write of a register without a rule of its own sets its RW fields and nothing else; a register held per master is set for the writing master. -/
def Obligations.PlainWriteSetsRwFields : Prop :=
  ∀ (m : Master) (off : Fin 16777216) (v : Word) (s : State) (d : RegDesc),
    s.pair m.idx = none → isDngAt off.val = false → ownRule off.val = false → findReg off.val = some d → d.isRsq = false →
    s.checkWrite m off.val v = none →
    ∃ t, exec (.registerWrite m off v) s = .next t ∧
      (d.perMaster = false →
        (∀ f ∈ d.fields, fget (t.rd off.val) f.lo f.wd = if f.acc = .rw then fget v f.lo f.wd else fget (s.rd off.val) f.lo f.wd) ∧
        State.onlyRegs [off.val] s t) ∧
      (d.perMaster = true →
        (∀ f ∈ d.fields, fget (t.hget m.idx off.val) f.lo f.wd = if f.acc = .rw then fget v f.lo f.wd else fget (s.hget m.idx off.val) f.lo f.wd) ∧
        (∀ j o, o < 2 ^ 24 → (j, o) ≠ (m.idx, off.val) → t.hget j o = s.hget j o) ∧ t = { s with held := t.held, marks := t.marks })

/-- R433, R450, R457, R458: a write that fails a common check changes nothing but the error record of its master and the LAST_ERR field of the unit; an access at an offset that no block decodes is recorded with ERR_DECODE, a read of it returns 0xFFFF_FFFF, and nothing else changes. -/
def Obligations.RejectedAccesses : Prop :=
  (∀ (m : Master) (off : Fin 16777216) (v : Word) (s : State) (e : Err),
      m.isVf = false → s.pwr.por = false → s.pair m.idx = none → isDngAt off.val = false → ownRule off.val = false → off.val < 0x120000 →
      s.checkWrite m off.val v = some e →
      ∃ t, exec (.registerWrite m off v) s = .next t ∧ s.failed t m e true off.val ∧
        State.regsBut ((lastErrAt off.val).toList.map Prod.fst) s t ∧
        (∀ r lo, lastErrAt off.val = some (r, lo) → t.rd r = fset (s.rd r) lo 8 e.code) ∧
        t = { s with regs := t.regs, glb := { s.glb with errs := t.glb.errs } }) ∧
  (∀ (m : Master) (off : Fin 16777216) (write : Bool) (v : Word) (s : State),
      m.isVf = false → s.pwr.por = false → s.pair m.idx = none → decodeMisses off.val = true →
      ∃ t, exec (.decodeMissAccess m off write v) s = .next t ∧ s.failed t m .decode write off.val ∧
        (write = false → t.answerOf m.idx = 0xFFFFFFFF) ∧ (∀ j, (write = true ∨ j ≠ m.idx) → t.answerOf j = s.answerOf j) ∧
        t = { s with resp := t.resp, glb := { s.glb with errs := t.glb.errs } })

/-- R451: hardware that sets flags of an RSQ register advances its SEQ by 1 modulo 256; a write clears every flag and keeps SEQ if the written [31:24] equal the current SEQ, and changes nothing in the register if they differ, whatever the written [23:0], so that the interrupt condition stays as it was; a write that carries the SEQ of before a set has no effect. FLT_SRC_STICKY, whose write also acts on its sources, is not among the registers. -/
def Obligations.RsqWriteClearsOnEqualSeq : Prop :=
  (∀ (evt mask : Nat) (s : State), 0 < mask → mask < 2 ^ 24 → s.raised (s.raise evt mask) evt mask) ∧
  (∀ (m : Master) (off : Fin 16777216) (v : Word) (s : State) (d : RegDesc),
    let cue := 0x0B0800 ≤ off.val ∧ off.val < 0x0B0C00
    s.pair m.idx = none → findReg off.val = some d → d.isRsq = true → off.val ≠ 0x0E0024 → (¬ cue → s.checkWrite m off.val v = none) →
    (cue → m.isVf = false ∧ s.cueCheck m ((off.val - 0x0B0800) / 0x40) (off.val % 0x40) v false = none) →
    ∃ t, exec (.rsqClearWrite m off v) s = .next t ∧ State.onlyRegs [off.val] s t ∧
      (fget v 24 8 = fget (s.rd off.val) 24 8 → (∀ b, b < 24 → (t.rd off.val).getLsbD b = false) ∧ fget (t.rd off.val) 24 8 = fget (s.rd off.val) 24 8) ∧
      (fget v 24 8 ≠ fget (s.rd off.val) 24 8 → t.rd off.val = s.rd off.val ∧ ∀ b, t.irqOn b = s.irqOn b) ∧
      (∀ (u : State) (mask : Nat), 0 < mask → mask < 2 ^ 24 → s = u.raise off.val mask → fget v 24 8 = fget (u.rd off.val) 24 8 → t.rd off.val = s.rd off.val))

/-- R85, R453, R458, R467: a read of a register that is one RC counter returns its value and clears it, and leaves the performance-counter reader as it was; the reads of GLB_ERR, TBn_NOW_W0 and PMC_CTR_LO return the first word and latch the words beside it for the reading master. -/
def Obligations.ReadsThatClearOrLatch : Prop :=
  (∀ (m : Master) (off : Fin 16777216) (s : State) (d : RegDesc),
      findReg off.val = some d → d.isRc = true → off.val ≠ 0x0E0060 → off.val ≠ 0x0900B4 →
      (off.val / 0x10000 = 3 → s.tdcReadErr m ((off.val - 0x030100) / 0x40) (off.val % 0x40) = none) →
      s.checkRead m off.val = none → s.absent off.val = false →
      ∃ t, exec (.rcRead m off) s = .next t ∧ t.answerOf m.idx = s.rd off.val ∧ t.rd off.val = 0 ∧ State.regsBut [off.val] s t ∧
        (∀ j, j ≠ m.idx → t.answerOf j = s.answerOf j) ∧ t = { s with regs := t.regs, resp := t.resp }) ∧
  ((∀ (m : Master) (s : State), s.checkRead m 0x000014 = none →
      ∃ t, exec (.glbErrRead m) s = .next t ∧ fget (t.answerOf m.idx) 24 8 = (s.err (s.errSel m.idx)).code % 256 ∧
        fget (t.answerOf m.idx) 0 16 = (s.err (s.errSel m.idx)).count.toNat ∧
        t.hget m.idx 0x000018 = (s.err (s.errSel m.idx)).addr ∧ t = { s with held := t.held, resp := t.resp }) ∧
    (∀ (m : Master) (n : Fin 64) (s : State), s.checkRead m (tbReg n 0) = none → s.plt.plot.tbPresent n = true →
      ∃ t, exec (.tbNowW0Read m n) s = .next t ∧ t.answerOf m.idx = BitVec.ofNat 32 (s.tbs[n].value % 2 ^ 56 / 2 ^ 24) ∧
        t.hget m.idx (tbReg n 4) = BitVec.ofNat 32 (s.tbs[n].value % secU / 2 ^ 56) ∧
        t.hget m.idx (tbReg n 8) = BitVec.ofNat 32 (s.tbs[n].value / secU) ∧
        t.hget m.idx (tbReg n 0x10) = BitVec.ofNat 32 (s.bound n) ∧ t.hget m.idx (tbReg n 0x14) = s.prov n ∧
        (∀ j o, j ≠ m.idx → o < 2 ^ 24 → t.hget j o = s.hget j o) ∧ t = { s with held := t.held, resp := t.resp }) ∧
    (∀ (m : Master) (s : State), s.checkRead m 0x110008 = none →
      ∃ t, exec (.pmcCtrLoRead m) s = .next t ∧ t.answerOf m.idx = BitVec.ofNat 32 (s.pmcSelected m.idx).toNat ∧
        t.hget m.idx 0x11000C = BitVec.ofNat 32 ((s.pmcSelected m.idx).toNat / 2 ^ 32) ∧ t = { s with held := t.held, resp := t.resp }))

/-- R454: a write to a DNG register arms a pair with a fresh window, and one that was pending fails with ERR_PAIR at its first half's address; the cycle after the 64th fails a pending pair in the same way; the right complement performs the write of the first half, a wrong one fails the pair and does nothing else, and one with no pair pending fails at its own address. -/
def Obligations.DngPairs : Prop :=
  ((∀ (m : Master) (off : Fin 8388608) (v : Word) (s : State),
      m.isVf = false → s.pwr.por = false → isDngAt off.val = true →
      ∃ t, exec (.dngFirstHalf m off v) s = .next t ∧ t.pair m.idx = some ⟨off.val, v, s.tick⟩ ∧ (∀ j, j ≠ m.idx → t.pair j = s.pair j) ∧
        (s.pair m.idx = none → t = { s with glb := { s.glb with dng := t.glb.dng } }) ∧
        (∀ p, s.pair m.idx = some p → s.failed t m .pair true p.off ∧ State.regsBut ((lastErrAt p.off).toList.map Prod.fst) s t ∧
          t = { s with regs := t.regs, glb := { s.glb with dng := t.glb.dng, errs := t.glb.errs } })) ∧
    (∀ (m : Master) (p : DngPair) (s : State), s.pwr.por = false → s.pair m.idx = some p →
      ∃ t, exec (.dngPairTimeout m) s = .next t ∧ t.pair m.idx = none ∧ (∀ j, j ≠ m.idx → t.pair j = s.pair j) ∧ s.failed t m .pair true p.off ∧
        State.regsBut ((lastErrAt p.off).toList.map Prod.fst) s t ∧
        t = { s with regs := t.regs, glb := { s.glb with dng := t.glb.dng, errs := t.glb.errs } })) ∧
  (∀ (m : Master) (off : Fin 8388608) (v : Word) (s : State), m.isVf = false → s.pwr.por = false → off.val < 0x120000 →
      (∀ p, s.pair m.idx = some p → p.off = off.val → v = ~~~ p.value →
        exec (.dngComplement m off v) s = .next ((s.setPair m.idx none).regWrite m off.val p.value)) ∧
      (∀ p, s.pair m.idx = some p → p.off = off.val → v ≠ ~~~ p.value →
        ∃ t, exec (.dngComplement m off v) s = .next t ∧ t.pair m.idx = none ∧ s.failed t m .pair true off.val ∧
          State.regsBut ((lastErrAt off.val).toList.map Prod.fst) s t ∧ t = { s with regs := t.regs, glb := { s.glb with dng := t.glb.dng, errs := t.glb.errs } }) ∧
      (s.pair m.idx = none →
        ∃ t, exec (.dngComplement m off v) s = .next t ∧ s.failed t m .pair true (0x800000 + off.val) ∧ t = { s with glb := { s.glb with errs := t.glb.errs } }))

/-- R455: a read at A + 0x80_0000 returns the complement of the register at A if that register is DNG, and 0 otherwise, and arms or completes no pair. -/
def Obligations.ComplementReadReturnsComplement : Prop :=
  ∀ (m : Master) (off : Fin 8388608) (s : State), off.val < 0x120000 → s.checkRead m off.val = none →
    ∃ t, exec (.dngComplementRead m off) s = .next t ∧ t.answerOf m.idx = (if isDngAt off.val then ~~~ (s.value m.idx off.val) else 0) ∧
      (∀ j, j ≠ m.idx → t.answerOf j = s.answerOf j) ∧ t = { s with resp := t.resp }

/-- R444, R445: a transaction of the management SPI performs its register access as master 23 and returns its code; a bad CRC, a misaligned address, a DWRITE into the complement aperture and an unknown opcode return their codes with no effect. -/
def Obligations.ManagementSpiTransactions : Prop :=
  (∀ (a : Fin 16777216) (d : Word) (crc : Byte) (s : State), s.pwr.por = false →
    (crc8 (0x02 :: beBytes 3 a.val ++ beBytes 4 d.toNat) = crc.toNat → a.val % 4 = 0 →
      ∃ t, exec (.mspiWrite a d crc) s = .next t ∧
        t = { s.busWrite .mspi a.val d with mem := { (s.busWrite .mspi a.val d).mem with mspi := t.mem.mspi } } ∧
        t.mem.mspi = [BitVec.ofNat 8 (if (t.err 23).count = (s.err 23).count then 0 else (t.err 23).code)]) ∧
    (crc8 (0x02 :: beBytes 3 a.val ++ beBytes 4 d.toNat) ≠ crc.toNat → exec (.mspiWrite a d crc) s = .next { s with mem := { s.mem with mspi := [9] } }) ∧
    (crc8 (0x02 :: beBytes 3 a.val ++ beBytes 4 d.toNat) = crc.toNat → a.val % 4 ≠ 0 →
      exec (.mspiWrite a d crc) s = .next { s with mem := { s.mem with mspi := [12] } })) ∧
  (∀ (a : Fin 16777216) (d : Word) (crc : Byte) (s : State), s.pwr.por = false → crc8 (0x12 :: beBytes 3 a.val ++ beBytes 4 d.toNat) = crc.toNat → a.val % 4 = 0 →
    (0x800000 ≤ a.val → exec (.mspiDwrite a d crc) s = .next { s with mem := { s.mem with mspi := [1] } }) ∧
    (a.val < 0x800000 → ∃ t, exec (.mspiDwrite a d crc) s = .next t ∧
      (let u := if isDngAt a.val then (s.busWrite .mspi a.val d).busWrite .mspi (a.val + 0x800000) (~~~ d) else s.busWrite .mspi a.val d
       t = { u with mem := { u.mem with mspi := t.mem.mspi } }) ∧
      t.mem.mspi = [BitVec.ofNat 8 (if (t.err 23).count = (s.err 23).count then 0 else (t.err 23).code)])) ∧
  (∀ (a : Fin 16777216) (crc : Byte) (s : State), s.pwr.por = false → crc8 (0x0B :: beBytes 3 a.val) = crc.toNat → a.val % 4 = 0 →
    ∃ t l, exec (.mspiRead a crc) s = .next t ∧ t = { s.busRead .mspi a.val with mem := { (s.busRead .mspi a.val).mem with mspi := t.mem.mspi } } ∧
      l = BitVec.ofNat 8 (if (t.err 23).count = (s.err 23).count then 0 else (t.err 23).code) :: beBytes 4 (t.answerOf 23).toNat ∧
      t.mem.mspi = l ++ [BitVec.ofNat 8 (crc8 l)]) ∧
  (∀ (s : State), s.pwr.por = false →
    exec (.mspiPing [5]) s = .next { s with mem := { s.mem with mspi :=
      [BitVec.ofNat 8 (b2n (s.powered 0) + 2 * b2n (s.bit 0x100004 31) + 4 * b2n s.apll0Locked + 8 * b2n (s.bit 0x010008 0))] } }) ∧
  (∀ (op : Byte) (l : List Byte) (s : State), s.pwr.por = false → op ∉ [0x02, 0x12, 0x0B, 0x05] →
    exec (.mspiPing (op :: l)) s = .next { s with mem := { s.mem with mspi := [15] } })

/-! ### Snapshot and commit -/

/-- R23, R24, R460: a permitted write of 1 requests a snapshot; the latch copies every present time base's value, bound and provenance and the sequence of the last applied commit, and GLB_SNAP_SEQ advances by 1 however many writes requested it. -/
def Obligations.SnapshotLatchesOneTick : Prop :=
  (∀ (m : Master) (v : Word) (s : State), s.checkWrite m 0x000020 v = none →
    (v = 1 → exec (.glbSnapCtlWrite m v) s = .next { s with glb := { s.glb with snapReq := true } }) ∧
    (v ≠ 1 → ∃ t, exec (.glbSnapCtlWrite m v) s = .next t ∧ s.failed t m .range true 0x000020 ∧ s.keepsBut [.errs] t)) ∧
  (∀ (s : State), s.glb.snapReq = true → ∃ t, exec .snapshotLatch s = .next t ∧ t.glb.snapReq = false ∧
    t.rd 0x000024 = s.rd 0x000024 + 1 ∧ t.rd 0x000028 = s.rd 0x000048 ∧
    t.rd 0x030008 = BitVec.ofNat 32 s.tick ∧ t.rd 0x03000C = BitVec.ofNat 32 (s.tick / 2 ^ 32) ∧
    (∀ n : Fin 64, s.plt.plot.tbPresent n = true →
      t.rd (tbReg n 0xA0) = BitVec.ofNat 32 (s.tbs[n].value % 2 ^ 56 / 2 ^ 24) ∧ t.rd (tbReg n 0xA4) = BitVec.ofNat 32 (s.tbs[n].value % secU / 2 ^ 56) ∧
      t.rd (tbReg n 0xA8) = BitVec.ofNat 32 (s.tbs[n].value / secU) ∧ t.rd (tbReg n 0xB8) = BitVec.ofNat 32 (s.bound n) ∧
      t.rd (tbReg n 0xBC) = s.prov n) ∧
    (∀ n : Fin 64, s.plt.plot.tbPresent n = false → ∀ o, o < 0x100 → t.rd (tbReg n o) = s.rd (tbReg n o)) ∧
    s.keepsBut [.regs, .mem, .snapReq] t ∧ t.mem = { s.mem with rings := t.mem.rings }) ∧
  (∀ (s : State), s.glb.snapReq = false → exec .snapshotLatch s = .next s)

/-- R461, R26, R27: a W3 write is checked for its order, then for a pending commit, then for its instant, and reports the first failure; one that passes arms the commit at the instant of the master's held words and consumes them. R463: a cancel removes a pending commit and leaves every staged value and valid bit, and fails with ERR_STATE and changes nothing where none is pending; a commit that fails at its tick sets LAST_CODE and writes the offset of the staging register that caused it into GLB_COMMIT_FAIL, and applies nothing. -/
def Obligations.CommitCommands : Prop :=
  (∀ (m : Master) (v : Word) (s : State), s.checkWrite m 0x00003C v = none →
      let inst := timeOf (s.hget m.idx 0x000030) (s.hget m.idx 0x000034) (s.hget m.idx 0x000038) v
      let ordered := s.marked m.idx 0x000030 = true ∧ s.marked m.idx 0x000034 = true ∧ s.marked m.idx 0x000038 = true
      let timely := s.tbs[0].value ≤ inst ∧ inst ≤ s.tbs[0].value + 3600 * secU
      ∃ t, exec (.glbCommitTimeW3Write m v) s = .next t ∧
        (¬ ordered → s.failed t m .seq true 0x00003C ∧ s.keepsBut [.errs] t) ∧
        (ordered → s.glb.commitAt.isSome = true → s.failed t m .busy true 0x00003C ∧ s.keepsBut [.errs] t) ∧
        (ordered → s.glb.commitAt = none → ¬ timely → s.failed t m .time true 0x00003C ∧ s.keepsBut [.errs] t) ∧
        (ordered → s.glb.commitAt = none → timely →
          t.glb.commitAt = some inst ∧ t.bit 0x000044 31 = true ∧
          t.marked m.idx 0x000030 = false ∧ t.marked m.idx 0x000034 = false ∧ t.marked m.idx 0x000038 = false ∧
          State.regsBut [0x000044] s t ∧ s.keepsBut [.regs, .held, .marks, .commitAt] t)) ∧
  ((∀ (m : Master) (s : State), s.checkWrite m 0x000040 1 = none →
      ∃ t, exec (.commitCancel m) s = .next t ∧
        (s.glb.commitAt.isSome = true → t.glb.commitAt = none ∧ t.bit 0x000044 31 = false ∧ State.regsBut [0x000044] s t ∧ s.keepsBut [.regs, .commitAt] t) ∧
        (s.glb.commitAt = none → s.failed t m .state true 0x000040 ∧ s.keepsBut [.errs] t)) ∧
    (∀ (s : State) (i r : Nat) (e : Err), s.glb.commitAt = some i → i ≤ max s.tb0 s.tb0Next → s.commitErr = some (r, e) →
      ∃ t, exec .commitApply s = .next t ∧ t.glb.commitAt = none ∧ t.bit 0x000044 31 = false ∧ t.fld 0x000044 8 8 = e.code ∧
        t.rd 0x00004C = BitVec.ofNat 32 r ∧ s.raised t 0x00000C 2 ∧ State.regsBut [0x00000C, 0x000044, 0x00004C] s t ∧ s.keepsBut [.regs, .commitAt, .irq] t))

/-- R28, R88, R290, R361: a commit that comes to its tick with every staged value permitted applies all of them at once: increments, owners, rate limits and masks, and clears their valid bits; the commit sequence advances by 1. Before its instant it waits. -/
def Obligations.CommitAppliesAllStaged : Prop :=
  (∀ (s : State) (i : Nat), s.glb.commitAt = some i → i ≤ max s.tb0 s.tb0Next → s.commitErr = none →
    ∃ t, exec .commitApply s = .next t ∧ t.glb.commitAt = none ∧ t.bit 0x000044 31 = false ∧ t.fld 0x000044 8 8 = 0 ∧
      t.rd 0x000048 = s.rd 0x000048 + 1 ∧ s.raised t 0x00000C 1 ∧
      (∀ n : Fin 64, t.fld (tbReg n 0xCC) 0 2 = 0 ∧ (s.bit (tbReg n 0xCC) 0 = true → t.tbs[n].inc = s.stagedInc n) ∧
        (s.bit (tbReg n 0xCC) 0 = false → t.tbs[n].inc = s.tbs[n].inc) ∧
        (s.bit (tbReg n 0xCC) 1 = true → t.bit (tbReg n 0x18) 0 = s.bit (tbReg n 0xC8) 0) ∧
        (s.bit (tbReg n 0xCC) 1 = false → t.bit (tbReg n 0x18) 0 = s.bit (tbReg n 0x18) 0)) ∧
      (∀ k, k < 2 → t.bit 0x090020 k = false ∧
        t.rd (0x090010 + 4 * k) = if s.bit 0x090020 k then s.rd (0x090018 + 4 * k) else s.rd (0x090010 + 4 * k)) ∧
      (∀ b : Fin 4, t.bit (btbReg b 0x18) 0 = false ∧
        t.rd (btbReg b 0x10) = if s.bit (btbReg b 0x18) 0 then s.rd (btbReg b 0x14) else s.rd (btbReg b 0x10)) ∧
      t.plt = s.plt ∧ t.key = s.key ∧ t.otp = s.otp ∧ t.mem.sram = s.mem.sram ∧ t.ports = s.ports ∧ t.pending = s.pending ∧ t.tick = s.tick) ∧
  (∀ (s : State) (i : Nat), s.glb.commitAt = some i → max s.tb0 s.tb0Next < i → exec .commitApply s = .next s)

/-! ### Mailboxes and counters -/

/-- R464: a command of a mailbox sets GO and BUSY and prepares its response of Table 17.8: ECHO the complement of ARG0, FW_INFO the firmware's words, DIE_TEMP the extremes of the sensors, CORE_STAT the restarts of a core or ERR_RANGE, SELFTEST four words. R464, R467, R468: a running mailbox command completes: RSP and CODE are written, GO and BUSY clear and MBXm_DONE is raised; an entry of ring 4 is made at a multiple of RING_MS, with the sequence and the tick of its latch. R459: unmasking a vector fires it if its condition rose while it was masked, and otherwise only unmasks it. -/
def Obligations.MailboxesCountersAndVectors : Prop :=
  (∀ (m : Master) (b : Fin 2) (op : Nat) (c : Instr) (s : State),
      (op, c) ∈ [(1, .mailboxEcho m b), (2, .mailboxFwInfo m b), (3, .mailboxDieTemp m b), (4, .mailboxCoreStat m b), (5, .mailboxSelftest m b)] →
      s.checkWrite m (mbxReg b 0) (BitVec.ofNat 32 (2 ^ 31 + op)) = none →
      (s.mbxBusy b = true → ∃ t, exec c s = .next t ∧ s.failed t m .busy true (mbxReg b 0) ∧ s.keepsBut [.errs] t) ∧
      (s.mbxBusy b = false → ∃ t r, exec c s = .next t ∧ Sparse.get (fun _ => none) t.glb.mbx b.val = some r ∧ r.rsp.length = 4 ∧
        t.bit (mbxReg b 4) 31 = true ∧ t.bit (mbxReg b 0) 31 = true ∧ t.fld (mbxReg b 0) 0 8 = op ∧
        (op = 1 → r.code = 0 ∧ r.rsp[0]? = some (~~~ (s.rd (mbxReg b 8)))) ∧
        (op = 2 → r.code = 0 ∧ r.rsp = [Config.fwInfo 0, Config.fwInfo 1, Config.fwInfo 2, Config.fwInfo 3]) ∧
        (op = 3 → r.code = 0 ∧ ∀ x l, s.pwr.temps = x :: l → r.rsp[0]? = some (centi (l.foldl max x)) ∧ r.rsp[1]? = some (centi (l.foldl min x))) ∧
        (op = 4 → (s.rd (mbxReg b 8)).toNat ≤ 3 → r.code = 0 ∧ r.rsp[0]? = some (BitVec.ofNat 32 (Sparse.get (fun _ => 0) s.flt.restarts (s.rd (mbxReg b 8)).toNat))) ∧
        (op = 4 → 3 < (s.rd (mbxReg b 8)).toNat → r.code = 1) ∧ (op = 5 → r.code = 0) ∧
        State.regsBut [mbxReg b 0, mbxReg b 4] s t ∧ s.keepsBut [.regs, .fv, .mbx, .irq] t)) ∧
  ((∀ (b : Fin 2) (s : State) (r : MbxResult), Sparse.get (fun _ => none) s.glb.mbx b.val = some r → r.rsp.length = 4 → r.code < 256 →
      ∃ t, exec (.mailboxComplete b) s = .next t ∧ (∀ i, i < 4 → some (t.rd (mbxReg b (0x18 + 4 * i))) = r.rsp[i]?) ∧
        t.bit (mbxReg b 4) 31 = false ∧ t.fld (mbxReg b 4) 0 8 = r.code ∧ t.bit (mbxReg b 0) 31 = false ∧ t.fld (mbxReg b 0) 0 8 = s.fld (mbxReg b 0) 0 8 ∧
        s.raised t 0x00000C (2 ^ (2 + b.val)) ∧ Sparse.get (fun _ => none) t.glb.mbx b.val = none ∧
        State.regsBut [0x00000C, mbxReg b 0, mbxReg b 4, mbxReg b 0x18, mbxReg b 0x1C, mbxReg b 0x20, mbxReg b 0x24] s t ∧ s.keepsBut [.regs, .mbx, .irq] t) ∧
    (∀ (s : State), s.ringOn 4 = true → s.pd1 = true → s.tick % (s.fld 0x110000 0 16 * 1250000) = 0 →
      ∃ t e, exec .pmcRingEntry s = .next t ∧ t.mem.rings[2].ready = s.mem.rings[2].ready ++ [e] ∧ e.length = 256 ∧
        leAt e 0 4 = s.glb.pmcSeq.toNat ∧ leAt e 8 8 = s.tick % 2 ^ 64 ∧ t.glb.pmcSeq = s.glb.pmcSeq + 1 ∧
        t.mem = { s.mem with rings := t.mem.rings } ∧ s.keepsBut [.mem, .pmcSeq] t) ∧
    (∀ (s : State), (s.ringOn 4 = false ∨ s.pd1 = false ∨ s.tick % (s.fld 0x110000 0 16 * 1250000) ≠ 0) → exec .pmcRingEntry s = .next s)) ∧
  (∀ (v : Fin 32) (s : State), ∃ t, exec (.msixVectorUnmask v) s = .next t ∧ v.val ∉ t.glb.irq.masked ∧ v.val ∉ t.glb.irq.waiting ∧
      (∀ x, x ≠ v.val → ((x ∈ t.glb.irq.masked ↔ x ∈ s.glb.irq.masked) ∧ (x ∈ t.glb.irq.waiting ↔ x ∈ s.glb.irq.waiting))) ∧
      (∀ x, Sparse.get (fun _ => 0) t.glb.irq.fired x =
        Sparse.get (fun _ => 0) s.glb.irq.fired x + if x = v.val ∧ v.val ∈ s.glb.irq.waiting then 1 else 0) ∧ s.keepsBut [.irq] t)

/-! ### Time bases -/

/-- R64 to R67, R88: a LO write is held for its master; a HI write by the host owner combines it with the held half and requests the 64-bit increment for the next tick, and consumes it; the staging pair stages the value and sets its valid bit. A HI write without a held half, a value outside the window, and a writer who is not the owner fail with their codes and consume nothing. R67, R68, R69, R88: the PF and the management SPI may request or stage another owner, where the plot gives a DPLL for it; the change cancels a pending step and a slew, keeps the increment and sets OWNER_CHANGED, and CANCELLED only where it cancelled something. Writing 0 to a valid bit discards the staged value. -/
def Obligations.IncrementsAndOwnership : Prop :=
  ((∀ (m : Master) (n : Fin 64) (v : Word) (s : State) (c : Instr) (o : Nat), (c, o) ∈ [(.tbIncLoWrite m n v, 0x20), (.tbStgIncLoWrite m n v, 0xC0)] →
      s.checkWrite m (tbReg n o) v = none →
      ∃ t, exec c s = .next t ∧
        (s.plt.plot.tbSameRate n = true → s.refuses t m .plot (tbReg n o)) ∧
        (s.plt.plot.tbSameRate n = false → t.hget m.idx (tbReg n o) = v ∧ t.marked m.idx (tbReg n o) = true ∧
          (∀ j p, p < 2 ^ 24 → (j, p) ≠ (m.idx, tbReg n o) → t.hget j p = s.hget j p ∧ t.marked j p = s.marked j p) ∧ s.keepsBut [.held, .marks] t)) ∧
    (∀ (m : Master) (n : Fin 64) (v : Word) (s : State), s.checkWrite m (tbReg n 0x24) v = none → s.plt.plot.tbSameRate n = false →
      let x := v.toNat * 2 ^ 32 + (s.hget m.idx (tbReg n 0x20)).toNat
      let inWindow := 0x00CC985F06F69447 ≤ x ∧ x ≤ 0x00CD013A92A30553
      ∃ t, exec (.tbIncHiWrite m n v) s = .next t ∧
        (s.marked m.idx (tbReg n 0x20) = false → s.refuses t m .seq (tbReg n 0x24)) ∧
        (s.marked m.idx (tbReg n 0x20) = true → ¬ inWindow → s.refuses t m .range (tbReg n 0x24)) ∧
        (s.marked m.idx (tbReg n 0x20) = true → inWindow → s.incLimits n 0x20 x = true →
          (s.actsAsOwner m n = false → s.rejectsOwner t m n (tbReg n 0x24)) ∧
          (s.actsAsOwner m n = true → s.tbFenced n = false →
            t.tbs[n] = { s.tbs[n] with incWrite := some (x, true) } ∧ s.onlyTb t n ∧ t.marked m.idx (tbReg n 0x20) = false ∧ s.keepsBut [.tbs, .marks] t))) ∧
    (∀ (m : Master) (n : Fin 64) (v : Word) (s : State), s.checkWrite m (tbReg n 0xC4) v = none → s.plt.plot.tbSameRate n = false →
      let x := v.toNat * 2 ^ 32 + (s.hget m.idx (tbReg n 0xC0)).toNat
      s.marked m.idx (tbReg n 0xC0) = true → 0x00CC985F06F69447 ≤ x → x ≤ 0x00CD013A92A30553 → s.incLimits n 0xC0 x = true →
      ∃ t, exec (.tbStgIncHiWrite m n v) s = .next t ∧ t.rd (tbReg n 0xC4) = v ∧ t.rd (tbReg n 0xC0) = s.hget m.idx (tbReg n 0xC0) ∧
        t.bit (tbReg n 0xCC) 0 = true ∧ t.bit (tbReg n 0xCC) 1 = s.bit (tbReg n 0xCC) 1 ∧ t.marked m.idx (tbReg n 0xC0) = false ∧
        State.regsBut [tbReg n 0xC0, tbReg n 0xC4, tbReg n 0xCC] s t ∧ s.keepsBut [.regs, .marks] t)) ∧
  ((∀ (m : Master) (n : Fin 64) (v : Word) (s : State), s.checkWrite m (tbReg n 0x18) v = none →
      ∃ t, exec (.tbOwnerWrite m n v) s = .next t ∧
        (m.host = false → s.tbHost n ≠ decide (fget v 0 1 = 1) → s.refuses t m .perm (tbReg n 0x18)) ∧
        (m.host = false → s.tbHost n = decide (fget v 0 1 = 1) → t.tbs = s.tbs ∧ t.fld (tbReg n 0x18) 4 1 = fget v 4 1 ∧ t.tbHost n = s.tbHost n ∧
          State.onlyRegs [tbReg n 0x18] s t) ∧
        (m.host = true → fget v 0 1 = 0 → s.tbFenced n = false → s.plt.plot.tbDpll n = none → s.refuses t m .plot (tbReg n 0x18)) ∧
        (m.host = true → (fget v 0 1 = 1 ∨ s.plt.plot.tbDpll n ≠ none) → (s.tbFenced n = false ∨ s.tbHost n = decide (fget v 0 1 = 1)) →
          t.tbs[n] = { s.tbs[n] with ownWrite := some (decide (fget v 0 1 = 1)) } ∧ s.onlyTb t n ∧ t.fld (tbReg n 0x18) 4 1 = fget v 4 1 ∧
          t.tbHost n = s.tbHost n ∧ State.regsBut [tbReg n 0x18] s t ∧ s.keepsBut [.regs, .tbs, .irq] t)) ∧
    (∀ (n : Fin 64) (h : Bool) (s : State), s.tbs[n].ownWrite = some h → s.tbHost n ≠ h →
      ∃ t, exec (.ownerChange n) s = .next t ∧ t.tbHost n = h ∧
        t.tbs[n] = { s.tbs[n] with ownWrite := none, step := none, slew := none } ∧ s.onlyTb t n ∧
        s.raised t (tbReg n 0x3C) (if s.tbs[n].step.isSome || s.tbs[n].slew.isSome then 0x18 else 0x10) ∧ s.keepsBut [.regs, .tbs, .bnd, .dplls, .irq] t) ∧
    (∀ (m : Master) (n : Fin 64) (v : Word) (s : State), s.checkWrite m (tbReg n 0xC8) v = none → m.host = true →
      ∃ t, exec (.tbStgCtlWrite m n v) s = .next t ∧
        (fget v 0 1 = 0 → s.plt.plot.tbDpll n = none → s.refuses t m .plot (tbReg n 0xC8)) ∧
        ((fget v 0 1 = 1 ∨ s.plt.plot.tbDpll n ≠ none) → t.fld (tbReg n 0xC8) 0 1 = fget v 0 1 ∧ t.bit (tbReg n 0xCC) 1 = true ∧
          t.bit (tbReg n 0xCC) 0 = s.bit (tbReg n 0xCC) 0 ∧ State.regsBut [tbReg n 0xC8, tbReg n 0xCC] s t ∧ s.keepsBut [.regs] t)) ∧
    (∀ (m : Master) (x : StgTarget) (v : Word) (s : State), s.checkWrite m (stgValidReg x) v = none →
      ∃ t, exec (.stgValidDiscard m x v) s = .next t ∧ (∀ i, i < 32 → (t.rd (stgValidReg x)).getLsbD i = ((s.rd (stgValidReg x)).getLsbD i && v.getLsbD i)) ∧
        State.regsBut [stgValidReg x] s t ∧ s.keepsBut [.regs] t))

/-- R71, R72, R75, R76, R27: a command of the host owner arms a step or a slew with the registers' values as copied at its decode, or cancels one; BUSY comes before TIME, and a command of another master fails with ERR_OWNER and sets OWNER_REJECT. R62, R72, R73, R76: a step whose instant TB0 comes to moves the value once, or fails with STEP_FAILED and ERR_RANGE outside the seconds field; a slew begins and ends on its ticks, adding its offset on each; the addition past 2⁴⁸ s wraps the value. -/
def Obligations.StepsAndSlews : Prop :=
  ((∀ (m : Master) (n : Fin 64) (back : Bool) (s : State), s.checkWrite m (tbReg n 0x38) (BitVec.ofNat 32 (1 + 8 * b2n back)) = none →
      ∃ t, exec (.armStep m n back) s = .next t ∧ (s.actsAsOwner m n = false → s.rejectsOwner t m n (tbReg n 0x38)) ∧
        (s.actsAsOwner m n = true → s.tbFenced n = false →
          (s.tbs[n].step.isSome = true → s.refuses t m .busy (tbReg n 0x38)) ∧
          (s.tbs[n].step = none → ¬ s.timely (s.timeAt (tbReg n 0x50)) → s.refuses t m .time (tbReg n 0x38)) ∧
          (s.tbs[n].step = none → s.timely (s.timeAt (tbReg n 0x50)) →
            t.tbs[n] = { s.tbs[n] with step := some ⟨s.timeAt (tbReg n 0x40), back, s.timeAt (tbReg n 0x50)⟩ } ∧ s.onlyTb t n ∧ s.keepsBut [.tbs] t))) ∧
    (∀ (m : Master) (n : Fin 64) (s : State), s.checkWrite m (tbReg n 0x38) 2 = none → s.actsAsOwner m n = true → s.tbFenced n = false →
      ∃ t, exec (.cancelStep m n) s = .next t ∧ (s.tbs[n].step = none → s.refuses t m .state (tbReg n 0x38)) ∧
        (s.tbs[n].step.isSome = true → t.tbs[n] = { s.tbs[n] with step := none } ∧ s.onlyTb t n ∧ s.raised t (tbReg n 0x3C) 8 ∧
          State.regsBut [tbReg n 0x3C] s t ∧ s.keepsBut [.regs, .tbs, .irq] t)) ∧
    (∀ (m : Master) (n : Fin 64) (s : State), s.checkWrite m (tbReg n 0x38) 3 = none → s.actsAsOwner m n = true → s.tbFenced n = false →
      let ok := (s.slewOffReg n).natAbs ≤ 0x0000346DC5D63886 ∧ 1 ≤ s.slewCntReg n
      ∃ t, exec (.armSlew m n) s = .next t ∧ (¬ ok → s.refuses t m .range (tbReg n 0x38)) ∧
        (ok → s.tbs[n].slew.isSome = true → s.refuses t m .busy (tbReg n 0x38)) ∧
        (ok → s.tbs[n].slew = none → ¬ s.timely (s.timeAt (tbReg n 0x60)) → s.refuses t m .time (tbReg n 0x38)) ∧
        (ok → s.tbs[n].slew = none → s.timely (s.timeAt (tbReg n 0x60)) →
          t.tbs[n] = { s.tbs[n] with slew := some ⟨s.slewOffReg n, s.slewCntReg n, s.timeAt (tbReg n 0x60), false, false⟩ } ∧ s.onlyTb t n ∧ s.keepsBut [.tbs] t)) ∧
    (∀ (m : Master) (n : Fin 64) (s : State), s.checkWrite m (tbReg n 0x38) 4 = none → s.actsAsOwner m n = true → s.tbFenced n = false →
      ∃ t, exec (.cancelSlew m n) s = .next t ∧ (s.tbs[n].slew = none → s.refuses t m .state (tbReg n 0x38)) ∧
        (∀ w, s.tbs[n].slew = some w → t.tbs[n] = { s.tbs[n] with slew := some { w with cancel := true } } ∧ s.onlyTb t n ∧ s.keepsBut [.tbs] t))) ∧
  ((∀ (n : Fin 64) (a : StepArm) (s : State), s.tbs[n].step = some a → a.inst ≤ s.tb0Comes → s.tbs[n].value < timeMod → s.leapless n →
      let x : Int := s.tbs[n].value + (if a.back then -(a.mag : Int) else a.mag)
      ∃ t, exec (.stepApply n) s = .next t ∧ t.tbs[n].step = none ∧ t.tbs[n].slew = s.tbs[n].slew ∧ t.tbs[n].inc = s.tbs[n].inc ∧ s.onlyTb t n ∧
        (0 ≤ x → x < timeMod → (t.tbs[n].value : Int) = x ∧ s.raised t (tbReg n 0x3C) 1) ∧
        (x < 0 ∨ (timeMod : Int) ≤ x → t.tbs[n].value = s.tbs[n].value ∧ s.raised t (tbReg n 0x3C) 2 ∧ t.fld (tbReg n 0x1C) 24 8 = 1) ∧
        s.keepsBut [.regs, .tbs, .bnd, .dplls, .irq] t) ∧
    (∀ (n : Fin 64) (a : StepArm) (s : State), s.tbs[n].step = some a → s.tb0Comes < a.inst → exec (.stepApply n) s = .next s) ∧
    (∀ (n : Fin 64) (w : SlewArm) (s : State), s.tbs[n].slew = some w → w.running = false → w.cancel = false → w.inst ≤ s.tb0Comes → s.leapless n →
      0 ≤ (s.tbs[n].value : Int) + w.off → (s.tbs[n].value : Int) + w.off < timeMod →
      ∃ t, exec (.slewStart n) s = .next t ∧ (t.tbs[n].value : Int) = s.tbs[n].value + w.off ∧ t.tbs[n].step = s.tbs[n].step ∧ t.tbs[n].inc = s.tbs[n].inc ∧
        (1 < w.left → t.tbs[n].slew = some { w with left := w.left - 1, running := true } ∧ t.rd (tbReg n 0x3C) = s.rd (tbReg n 0x3C)) ∧
        (w.left ≤ 1 → t.tbs[n].slew = none ∧ s.raised t (tbReg n 0x3C) 4) ∧
        s.onlyTb t n ∧ State.regsBut [tbReg n 0x3C] s t ∧ s.keepsBut [.regs, .tbs, .irq] t) ∧
    (∀ (n : Fin 64) (w : SlewArm) (s : State), s.tbs[n].slew = some w → w.running = true → w.cancel = false → w.left ≤ 1 → s.leapless n →
      0 ≤ (s.tbs[n].value : Int) + w.off → (s.tbs[n].value : Int) + w.off < timeMod →
      ∃ t, exec (.slewEnd n) s = .next t ∧ (t.tbs[n].value : Int) = s.tbs[n].value + w.off ∧ t.tbs[n].slew = none ∧ t.tbs[n].step = s.tbs[n].step ∧
        s.raised t (tbReg n 0x3C) 4 ∧ s.onlyTb t n ∧ State.regsBut [tbReg n 0x3C] s t ∧ s.keepsBut [.regs, .tbs, .irq] t) ∧
    (∀ (n : Fin 64) (s : State), timeMod ≤ s.tbs[n].value + s.tbEffInc n → s.leapless n →
      ∃ t, exec (.secWrap n) s = .next t ∧ t.tbs[n].value = (s.tbs[n].value + s.tbEffInc n) % timeMod ∧ t.tbs[n].step = s.tbs[n].step ∧
        t.tbs[n].slew = s.tbs[n].slew ∧ s.raised t (tbReg n 0x3C) 0x20 ∧ s.onlyTb t n ∧ State.regsBut [tbReg n 0x3C] s t ∧ s.keepsBut [.regs, .tbs, .irq] t))

/-- R80 to R84: a leap is armed for a UTC midnight between 1 s and 366 days ahead by the source that SRC names; an insertion takes back 1 s, sets LEAP_ACTIVE and adds 1 to TAI_UTC, and ends when the value comes to L again; a deletion adds 1 s and subtracts 1. -/
def Obligations.LeapSeconds : Prop :=
  (∀ (m : Master) (n : Fin 64) (v : Word) (s : State), s.checkWrite m (tbReg n 0x78) v = none →
    ∃ t, exec (.leapCtlWrite m n v) s = .next t ∧ (s.plt.plot.tbScale n ≠ 1 → s.refuses t m .plot (tbReg n 0x78)) ∧
      (s.plt.plot.tbScale n = 1 → fget v 0 2 ≠ s.fld (tbReg n 0x78) 0 2 → (fget v 4 1 = s.fld (tbReg n 0x78) 4 1 ∨ m.host = true) →
        (leapSource m (fget v 4 1) = false → s.refuses t m .owner (tbReg n 0x78)) ∧
        (leapSource m (fget v 4 1) = true → (s.fld (tbReg n 0x78) 0 2 = 0 ∨ s.tbs[n].value + secU < s.tbs[n].leapAt * secU) →
          (fget v 0 2 = 0 ∨ s.leapAtReg n % 86400 = 0 ∧ s.tbs[n].value + secU < s.leapAtReg n * secU ∧ s.leapAtReg n * secU ≤ s.tbs[n].value + 366 * 86400 * secU) →
          t.fld (tbReg n 0x78) 0 2 = fget v 0 2 ∧ t.fld (tbReg n 0x78) 4 1 = fget v 4 1 ∧ t.fld (tbReg n 0x78) 16 16 = s.fld (tbReg n 0x78) 16 16 ∧
          t.tbs[n] = { s.tbs[n] with leapAt := if fget v 0 2 = 0 then s.tbs[n].leapAt else s.leapAtReg n } ∧ s.onlyTb t n ∧
          State.regsBut [tbReg n 0x78] s t ∧ s.keepsBut [.regs, .tbs] t))) ∧
  (∀ (m : Master) (n : Fin 64) (hi : Bool) (v : Word) (s : State),
    let off := tbReg n (if hi then 0x84 else 0x80)
    s.checkWrite m off v = none →
    ∃ t, exec (.leapAtWrite m n hi v) s = .next t ∧ (s.plt.plot.tbScale n ≠ 1 → s.refuses t m .plot off) ∧
      (s.plt.plot.tbScale n = 1 → leapSource m (s.fld (tbReg n 0x78) 4 1) = false → s.refuses t m .owner off) ∧
      (s.plt.plot.tbScale n = 1 → leapSource m (s.fld (tbReg n 0x78) 4 1) = true →
        t.fld off 0 (if hi then 16 else 32) = fget v 0 (if hi then 16 else 32) ∧ State.onlyRegs [off] s t)) ∧
  (∀ (n : Fin 64) (s : State), s.plt.plot.tbScale n = 1 → s.tbs[n].value + s.tbEffInc n + secU < timeMod →
    let sum := s.tbs[n].value + s.tbEffInc n
    (s.fld (tbReg n 0x78) 0 2 = 1 → s.bit (tbReg n 0x1C) 7 = false → s.tbs[n].leapAt * secU ≤ sum → secU ≤ sum →
      ∃ t, exec (.leapInsert n) s = .next t ∧ t.tbs[n].value + secU = sum ∧ t.bit (tbReg n 0x1C) 7 = true ∧ t.fld (tbReg n 0x78) 0 2 = 1 ∧
        t.fld (tbReg n 0x78) 16 16 = (s.fld (tbReg n 0x78) 16 16 + 1) % 65536 ∧ s.raised t (tbReg n 0x3C) 0x40 ∧
        s.onlyTb t n ∧ State.regsBut [tbReg n 0x1C, tbReg n 0x3C, tbReg n 0x78] s t ∧ s.keepsBut [.regs, .tbs, .irq] t) ∧
    (s.fld (tbReg n 0x78) 0 2 = 1 → s.bit (tbReg n 0x1C) 7 = true → s.tbs[n].leapAt * secU ≤ sum →
      ∃ t, exec (.leapSecondEnd n) s = .next t ∧ t.tbs[n].value = sum ∧ t.bit (tbReg n 0x1C) 7 = false ∧ t.fld (tbReg n 0x78) 0 2 = 0 ∧
        t.fld (tbReg n 0x78) 16 16 = s.fld (tbReg n 0x78) 16 16 ∧
        s.onlyTb t n ∧ State.regsBut [tbReg n 0x1C, tbReg n 0x78] s t ∧ s.keepsBut [.regs, .tbs] t) ∧
    (s.fld (tbReg n 0x78) 0 2 = 2 → s.bit (tbReg n 0x1C) 7 = false → s.tbs[n].leapAt * secU ≤ sum + secU →
      ∃ t, exec (.leapDelete n) s = .next t ∧ t.tbs[n].value = sum + secU ∧ t.fld (tbReg n 0x78) 0 2 = 0 ∧
        t.fld (tbReg n 0x78) 16 16 = (s.fld (tbReg n 0x78) 16 16 + 65535) % 65536 ∧ s.raised t (tbReg n 0x3C) 0x40 ∧
        s.onlyTb t n ∧ State.regsBut [tbReg n 0x3C, tbReg n 0x78] s t ∧ s.keepsBut [.regs, .tbs, .irq] t))

/-! ### TDC channels -/

/-- R91, R96, R107 to R109: the owner of a channel arms it with the epoch of its registers, disarms it for the next tick and flushes its FIFO; TDC_FIFO_LO pops the oldest entry and latches its upper half, and pops nothing from an empty FIFO; TDC_TICK_LO latches the upper half of the tick counter. R101 to R106, R108: a window opens when its instant has come, takes its start at the epoch or at the first edge of its input, stamps at most 16 stops in it, and pushes its records whole on its close, its timeout or its disarm, or drops them whole where the FIFO has no room. -/
def Obligations.TdcCommandsAndWindows : Prop :=
  ((∀ (m : Master) (n : Fin 24) (s : State), s.checkWrite m (tdcReg n 4) 1 = none →
      ∃ t, exec (.tdcArm m n) s = .next t ∧ (s.tdcOwns m n = false → s.refuses t m .perm (tdcReg n 4)) ∧
        (s.tdcOwns m n = true → s.tdcArmed n = true → s.refuses t m .busy (tdcReg n 4)) ∧
        (s.tdcOwns m n = true → s.tdcArmErr n = none → t.tdcArmed n = true ∧ t.tdc.ch[n].epoch = s.timeAt (tdcReg n 0x20) ∧
          t.tdc.ch[n].armTick = s.tick ∧ t.tdc.ch[n].start = none ∧ t.tdc.ch[n].stops = [] ∧ t.tdc.ch[n].disarm = none ∧ t.tdc.ch[n].fifo = s.tdc.ch[n].fifo ∧
          s.onlyCh t n ∧ State.regsBut [tdcReg n 8] s t ∧ s.keepsBut [.regs, .tdc] t)) ∧
    (∀ (m : Master) (n : Fin 24) (s : State), s.checkWrite m (tdcReg n 4) 2 = none → s.tdcOwns m n = true →
      ∃ t, exec (.tdcDisarm m n) s = .next t ∧ (s.tdcArmed n = false → t = s) ∧
        (s.tdcArmed n = true → s.tdc.ch[n].disarm = none → t.tdc.ch[n] = { s.tdc.ch[n] with disarm := some s.tick } ∧ s.onlyCh t n ∧ s.keepsBut [.tdc] t)) ∧
    (∀ (m : Master) (n : Fin 24) (s : State), s.checkWrite m (tdcReg n 4) 3 = none → s.tdcOwns m n = true →
      ∃ t, exec (.tdcFlush m n) s = .next t ∧ t.tdc.ch[n] = { s.tdc.ch[n] with fifo := [] } ∧ t.fld (tdcReg n 8) 8 7 = 0 ∧ s.onlyCh t n ∧
        State.regsBut [tdcReg n 8] s t ∧ s.keepsBut [.regs, .tdc, .irq] t) ∧
    (∀ (m : Master) (n : Fin 24) (s : State), s.tdcReadErr m n 0x30 = none →
      ∃ t, exec (.tdcFifoLoRead m n) s = .next t ∧ (s.tdc.ch[n].fifo = [] → t.answerOf m.idx = 0 ∧ s.keepsBut [.resp] t) ∧
        (∀ w l, s.tdc.ch[n].fifo = w :: l → t.answerOf m.idx = BitVec.ofNat 32 w.toNat ∧ t.hget m.idx (tdcReg n 0x34) = BitVec.ofNat 32 (w.toNat / 2 ^ 32) ∧
          t.tdc.ch[n] = { s.tdc.ch[n] with fifo := l } ∧ t.fld (tdcReg n 8) 8 7 = l.length % 128 ∧ s.onlyCh t n ∧
          State.regsBut [tdcReg n 8] s t ∧ s.keepsBut [.regs, .tdc, .held, .resp, .irq] t)) ∧
    (∀ (m : Master) (s : State), s.checkRead m 0x030000 = none →
      ∃ t, exec (.tdcTickLoRead m) s = .next t ∧ t.answerOf m.idx = BitVec.ofNat 32 s.tick ∧ t.hget m.idx 0x030004 = BitVec.ofNat 32 (s.tick / 2 ^ 32) ∧
        s.keepsBut [.held, .resp] t)) ∧
  ((∀ (n : Fin 24) (s : State), s.tdcArmed n = true → s.tdcIsOpen n = false → s.tdc.ch[n].disarm = none → s.tdc.ch[n].deadEnd ≤ s.tick →
      s.tdc.ch[n].armTick < s.tick → (s.tdcKind n ≠ 0 ∨ s.tdc.ch[n].epoch ≤ (s.tdcTb n).value + s.nsAt (tdcReg n 0xC)) →
      ∃ t, exec (.tdcWindowOpen n) s = .next t ∧ t.tdcIsOpen n = true ∧
        t.tdc.ch[n] = { s.tdc.ch[n] with openTick := s.tick, start := none, stops := [], ovf := false } ∧ s.onlyCh t n ∧
        State.regsBut [tdcReg n 8] s t ∧ s.keepsBut [.regs, .tdc] t) ∧
    (∀ (n : Fin 24) (s : State), s.tdcIsOpen n = true → s.tdcKind n = 0 → s.tdc.ch[n].start = none → s.tdc.ch[n].epoch ≤ (s.tdcTb n).value →
      (s.tdcTb n).prev < (s.tdcTb n).value →
      let tap := 512 * (s.tdc.ch[n].epoch - (s.tdcTb n).prev) / ((s.tdcTb n).value - (s.tdcTb n).prev)
      let busy := if s.tdcLocked n then 0 else 0x10
      ∃ t, exec (.tdcEpochStart n) s = .next t ∧
        ((s.tdcTb n).stepped = true → t.tdc.ch[n].start = some ⟨s.tick, 0, 8 + busy⟩) ∧
        ((s.tdcTb n).stepped = false → tap < 512 → t.tdc.ch[n].start = some ⟨s.tick - 1, tap, busy⟩) ∧
        ((s.tdcTb n).stepped = false → 512 ≤ tap → t.tdc.ch[n].start = some ⟨s.tick, 0, busy⟩) ∧ s.onlyCh t n ∧ s.keepsBut [.tdc] t) ∧
    (∀ (i : Fin 24) (tap : Fin 512) (fall sat : Bool) (s : State), s.tdcTakes i fall = true → s.fld (tdcReg i 0) 12 16 = 0 →
      (s.tdcStartInput i ≠ some i.val ∨ s.tdc.ch[i].start.isSome = true) →
      let e : Edge := ⟨s.tick, if sat then 511 else tap.val, (if fall then 0x20 else 0) + (if s.tdcLocked i then 0 else 0x10) + (if sat then 8 else 0)⟩
      ∃ t, exec (.tdcEdge i tap fall sat) s = .next t ∧ t.tdc.ch[i].divCnt = 0 ∧ s.keepsBut [.tdc, .regs] t ∧ State.regsBut [tdcReg i 0x3C] s t ∧
        (s.tdcArmed i = true → s.tdcIsOpen i = true → (∀ st, s.tdc.ch[i].start = some st → e.tick < st.tick + (s.rd (tdcReg i 0x10)).toNat) →
          (∀ x, s.tdc.ch[i].lastStop = some x → x.tick * 512 + x.tap + 1024 ≤ e.tick * 512 + e.tap) →
          (s.tdc.ch[i].stops.length < 16 → t.tdc.ch[i].stops = s.tdc.ch[i].stops ++ [e] ∧ t.tdc.ch[i].lastStop = some e ∧ t.rd (tdcReg i 0x3C) = s.rd (tdcReg i 0x3C)) ∧
          (16 ≤ s.tdc.ch[i].stops.length → t.tdc.ch[i].stops = s.tdc.ch[i].stops ∧ t.tdc.ch[i].ovf = true ∧
            (t.rd (tdcReg i 0x3C)).toNat = min ((s.rd (tdcReg i 0x3C)).toNat + 1) 0xFFFFFFFF)) ∧
        (s.tdcArmed i = false → t.tdc.ch[i].stops = s.tdc.ch[i].stops ∧ (t.rd (tdcReg i 0x3C)).toNat = min ((s.rd (tdcReg i 0x3C)).toNat + 1) 0xFFFFFFFF) ∧
        (∀ n : Fin 24, n ≠ i → s.tdcIsOpen n = true → s.tdcStartInput n = some i.val → s.tdc.ch[n].start = none → s.tdcTakes n fall = true →
          t.tdc.ch[n].start = some { e with flags := (if fall then 0x20 else 0) + (if s.tdcLocked n then 0 else 0x10) + (if sat then 8 else 0) })) ∧
    (∀ (n : Fin 24) (s : State) (c : Instr) (st : Edge) (stop : Bool), s.tdcIsOpen n = true →
      (c = .tdcWindowClose n ∧ s.tdc.ch[n].disarm = none ∧ s.tdc.ch[n].start = some st ∧ st.tick + (s.rd (tdcReg n 0x10)).toNat ≤ s.tick ∧ stop = false ∨
       c = .tdcWindowClose n ∧ (∃ d, s.tdc.ch[n].disarm = some d ∧ d < s.tick) ∧ st = s.tdc.ch[n].start.getD ⟨s.tick, 0, 0x40⟩ ∧ stop = true ∨
       c = .tdcWindowTimeout n ∧ s.tdcKind n ≠ 0 ∧ s.tdc.ch[n].start = none ∧ s.tdc.ch[n].openTick + (s.rd (tdcReg n 0x14)).toNat ≤ s.tick ∧
         st = ⟨s.tick, 0, 0x40⟩ ∧ stop = false) →
      ∃ t recs, exec c s = .next t ∧ recs = windowRecords s.tdc.ch[n] st ∧
        recs.head? = some (Edge.word { st with flags := st.flags + 0x80 + (if s.tdc.ch[n].ovf then 4 else 0) }) ∧ recs.length = 1 + s.tdc.ch[n].stops.length ∧
        (s.tdc.ch[n].fifo.length + recs.length ≤ 64 → t.tdc.ch[n].fifo = s.tdc.ch[n].fifo ++ recs ∧ t.fld (tdcReg n 8) 8 7 = s.tdc.ch[n].fifo.length + recs.length ∧
          t.rd (tdcReg n 0x38) = s.rd (tdcReg n 0x38)) ∧
        (64 < s.tdc.ch[n].fifo.length + recs.length → t.tdc.ch[n].fifo = s.tdc.ch[n].fifo ∧ (t.rd (tdcReg n 0x38)).toNat = min ((s.rd (tdcReg n 0x38)).toNat + 1) 0xFFFFFFFF) ∧
        t.tdcIsOpen n = false ∧ t.tdc.ch[n].start = none ∧ t.tdc.ch[n].stops = [] ∧ t.tdc.ch[n].deadEnd = s.tick + 16 ∧
        t.tdcArmed n = (!(stop || s.tdcMode n = 0) && s.tdcArmed n) ∧ s.onlyCh t n ∧
        State.regsBut [tdcReg n 8, tdcReg n 0x38, tdcReg n 0x3C] s t ∧ s.keepsBut [.regs, .tdc, .irq] t))

/-! ### Delay lines, references and selectors -/

/-- R93, R94, R110, R111: a lock loss sets the line's CAL_LOST flag and clears its LOCKED bit; the return within 10 ms is a CORRECTED event and a later one only ends the fault; a longer loss is a fault event of the line; a lane window stamps the next powered clock of its rotation or marks it invalid. -/
def Obligations.DelayLineLockAndLaneWindows : Prop :=
  (∀ (n : Fin 24) (s : State), s.tdc.ch[n].lostAt = none →
    ∃ t, exec (.tdcLockLost n) s = .next t ∧ t.tdcLocked n = false ∧ s.raised t 0x030014 (2 ^ n.val) ∧
      t.tdc.ch[n] = { s.tdc.ch[n] with lostAt := some s.tick } ∧ s.onlyCh t n ∧ (∀ j : Fin 24, j ≠ n → t.tdcLocked j = s.tdcLocked j) ∧
      s.keepsBut [.regs, .tdc, .bnd, .irq] t) ∧
  (∀ (n : Fin 24) (s : State), 
    ∃ t, exec (.tdcLockRegained n) s = .next t ∧ t.tdcLocked n = true ∧
      (s.tdc.ch[n].lostAt = none → t.tdc.ch[n] = s.tdc.ch[n] ∧ State.regsBut [0x030010] s t ∧ s.keepsBut [.regs, .tdc] t) ∧
      (∀ x, s.tdc.ch[n].lostAt = some x → x + 10 * ticksPerMs < s.tick → t.tdc.ch[n] = { s.tdc.ch[n] with lostAt := none } ∧
        t.srcLive (0x0400 + n.val) = false ∧ t.flt.hist = s.flt.hist ∧ State.regsBut [0x030010] s t ∧ s.keepsBut [.regs, .tdc, .flt] t) ∧
      (∀ x, s.tdc.ch[n].lostAt = some x → s.tick ≤ x + 10 * ticksPerMs → s.srcLive (0x0400 + n.val) = false → s.plainSource (0x0400 + n.val) .corrected →
        t.tdc.ch[n] = { s.tdc.ch[n] with lostAt := none } ∧ t.srcLive (0x0400 + n.val) = false ∧ (∃ r, s.recorded t (0x0400 + n.val) r ∧ fget r[0] 22 2 = 0) ∧
        s.keepsBut [.regs, .tdc, .flt, .mem, .pmc, .irq] t)) ∧
  (∀ (n : Fin 24) (x : Nat) (s : State), s.tdc.ch[n].lostAt = some x →
    ∃ t, exec (.tdcLockLossLong n) s = .next t ∧ (s.tick ≤ x + 10 * ticksPerMs → t = s) ∧
      (x + 10 * ticksPerMs < s.tick → s.srcLive (0x0400 + n.val) = false → t.srcLive (0x0400 + n.val) = true ∧ ∃ r, s.recorded t (0x0400 + n.val) r)) ∧
  (∀ (g : Fin 5) (edge : Option (Nat × Fin 512)) (n : Fin 24) (s : State), n.val = 19 + g.val → s.clockOn g s.tdc.ch[n].nextClk = true → s.tdc.ch[n].nextClk < laneClocks g →
    ∃ t, exec (.lanePhaseWindow g edge) s = .next t ∧ t.tdc.ch[n].nextClk = (s.tdc.ch[n].nextClk + 1) % laneClocks g ∧
      Sparse.get (fun _ => none) t.tdc.ch[n].laneStamp s.tdc.ch[n].nextClk =
        edge.map (fun e => (Edge.mk (s.tick + e.1) e.2.val (s.tdc.ch[n].nextClk * 0x20 + (if s.tdcLocked n then 0 else 0x10))).word) ∧
      (∀ c, c ≠ s.tdc.ch[n].nextClk → Sparse.get (fun _ => none) t.tdc.ch[n].laneStamp c = Sparse.get (fun _ => none) s.tdc.ch[n].laneStamp c) ∧
      s.onlyCh t n ∧ s.keepsBut [.regs, .tdc, .bnd, .irq] t)

/-- R112 to R115, R119, R148: a phase sample is kept less REFn_PH_COMP, sets or clears DISC, and counts as an arrival; at each TB0 second every slot's valid phase enters the comparison; TDC_PAIR_PH_LO and REFn_MEAS_FF latch the words beside them for the reading master. -/
def Obligations.PhaseSamplesAndPairs : Prop :=
  (∀ (k : Fin 24) (phase : Int) (touched : Bool) (s : State), s.refState k ≠ 0 →
    let m := monitorMask (s.plt.plot.refSource k)
    let p := phase - psPhase (s.refs[k].compPend.getD s.refs[k].comp)
    ∃ t, exec (.refPhaseSample k phase touched) s = .next t ∧ t.refs[k].phase = some p ∧ t.refs[k].phaseTick = s.tick ∧ t.refs[k].touched = touched ∧
      t.refs[k].comp = s.refs[k].compPend.getD s.refs[k].comp ∧ t.refs[k].compPend = none ∧ t.refs[k].lastMsg = some s.tick ∧
      (m.testBit 2 = true → (t.live k).testBit 2 = s.discontinuous k p) ∧ (m.testBit 0 = true → (t.live k).testBit 0 = false) ∧
      (∀ j : Fin 24, j ≠ k → t.refs[j] = s.refs[j]) ∧ s.loopFrame [refReg k 4, refReg k 8] t) ∧
  (∀ s : State, secOf s.tb0 ≠ s.tdc.pairE →
    ∃ t, exec .pairComparison s = .next t ∧ t.tdc.pairE = secOf s.tb0 ∧ t.tdc.ch = s.tdc.ch ∧
      (∀ k : Fin 24, t.refs[k] = { s.refs[k] with secPh := (s.validAtE k :: s.refs[k].secPh).take 1001 }) ∧ s.keepsBut [.refs, .tdc] t) ∧
  (∀ (m : Master) (i j : Fin 24) (s : State), s.checkRead m 0x030024 = none → fget (s.hget m.idx 0x030020) 0 5 = i.val → fget (s.hget m.idx 0x030020) 8 5 = j.val →
    let τ := [1, 10, 100, 1000].getD (fget (s.hget m.idx 0x030020) 16 2) 0
    ∃ t, exec (.tdcPairPhLoRead m) s = .next t ∧ t.hget m.idx 0x030034 = BitVec.ofNat 32 s.tdc.pairE ∧
      (s.pairD i j 0 = none → t.answerOf m.idx = 0 ∧ t.hget m.idx 0x030028 = 0 ∧ fget (t.hget m.idx 0x030030) 0 1 = 0) ∧
      (∀ d, s.pairD i j 0 = some d → fget (t.hget m.idx 0x030030) 0 1 = 1 ∧ fget (t.hget m.idx 0x030030) 1 1 = b2n (s.pairValid i j τ) ∧
        (fget (t.hget m.idx 0x030030) 2 1 = 0 → t.answerOf m.idx = BitVec.ofInt 32 (d / (2 ^ 40 : Nat)) ∧ t.hget m.idx 0x030028 = BitVec.ofInt 32 (d / (2 ^ 40 : Nat) / (2 ^ 32 : Nat))) ∧
        (∀ e, s.pairValid i j τ = true → s.pairD i j τ = some e → t.hget m.idx 0x03002C = sat32 (divAway ((d - e) * 1000000) (2 ^ 56 * τ)))) ∧
      s.keepsBut [.held, .resp] t) ∧
  (∀ (m : Master) (k : Fin 24) (s : State), s.checkRead m (refReg k 0x60) = none →
    ∃ t, exec (.refMeasFfRead m k) s = .next t ∧ t.answerOf m.idx = s.rd (refReg k 0x60) ∧
      (∀ i, i < 6 → t.hget m.idx (refReg k (0x64 + 4 * i)) = s.rd (refReg k (0x64 + 4 * i))) ∧ s.keepsBut [.held, .resp] t)

/-- R131, R132 and Table 5.4: EN moves an UNUSED slot to QUALIFYING with ACT live, its clearing returns any slot to UNUSED with no live bit; HOST_DISQ sets and clears monitor 11; an expired timer qualifies the slot only with no hard bit live, and DEG_CLEAR without a soft bit ends DEGRADED. -/
def Obligations.QualificationOfSlots : Prop :=
  (∀ (m : Master) (k : Fin 24) (v : Word) (s : State), s.checkWrite m (refReg k 0) v = none → s.bit (refReg k 0) 0 = false → fget v 0 1 = 1 →
    ∃ t, exec (.refEnable m k v) s = .next t ∧ (s.nomOk k = false → s.refuses t m .state (refReg k 0)) ∧
      (s.nomOk k = true → s.refState k = 0 → t.refState k = 1 ∧ t.bit (refReg k 0) 0 = true ∧ t.bit (refReg k 4) 28 = false ∧
        (t.live k).testBit 0 = (monitorMask (s.plt.plot.refSource k)).testBit 0 ∧ t.refs[k].timer = none ∧ t.refs[k].lastMsg = none ∧
        (∀ j : Fin 24, j ≠ k → t.refs[j] = s.refs[j]) ∧ s.loopFrame [refReg k 0, refReg k 4, refReg k 8] t)) ∧
  (∀ (m : Master) (k : Fin 24) (v : Word) (s : State), s.checkWrite m (refReg k 0) v = none → s.bit (refReg k 0) 0 = true → fget v 0 1 = 0 →
    ∃ t, exec (.refDisable m k v) s = .next t ∧ t.refState k = 0 ∧ t.live k = 0 ∧ t.bit (refReg k 0) 0 = false ∧
      (s.refState k ≠ 0 → s.raised t (refReg k 8) 0x1000) ∧
      t.refs[k] = { s.refs[k] with timer := none, softClear := none, glitchEnd := none, identifying := false } ∧
      (∀ j : Fin 24, j ≠ k → t.refs[j] = s.refs[j]) ∧ s.loopFrame [refReg k 0, refReg k 4, refReg k 8] t) ∧
  (∀ (m : Master) (k : Fin 24) (v : Word) (s : State), s.checkWrite m (refReg k 0) v = none → (s.bit (refReg k 0) 0 = true ↔ fget v 0 1 = 1) →
    s.refState k ≠ 0 →
    let on := if fget v 1 1 = 1 then 0x800 else 0
    ∃ t, exec (.hostDisqWrite m k v) s = .next t ∧ t.bit (refReg k 0) 1 = decide (fget v 1 1 = 1) ∧
      t.refState k = settled (s.refState k) ((s.live k &&& 0x7FF) ||| (on &&& monitorMask (s.plt.plot.refSource k)) |||
        (if (monitorMask (s.plt.plot.refSource k)).testBit 11 then 0 else s.live k &&& 0x800)) ∧
      ((monitorMask (s.plt.plot.refSource k)).testBit 11 = true → (t.live k).testBit 11 = decide (fget v 1 1 = 1)) ∧
      (∀ j : Fin 24, j ≠ k → t.refs[j] = s.refs[j]) ∧ s.loopFrame [refReg k 0, refReg k 4, refReg k 8] t) ∧
  (∀ (k : Fin 24) (x : Nat) (s : State), s.refState k = 1 → s.refs[k].timer = some x →
    ∃ t, exec (.qualTimerExpire k) s = .next t ∧ (s.live k &&& hardMask ≠ 0 ∨ s.tick < x → t = s) ∧
      (s.live k &&& hardMask = 0 → x ≤ s.tick → t.refState k = (if s.live k &&& softMask = 0 then 2 else 3) ∧ t.bit (refReg k 4) 28 = false ∧
        t.live k = s.live k ∧ s.raised t (refReg k 8) 0x1000 ∧ t.refs[k] = { s.refs[k] with timer := none, softClear := none } ∧
        (∀ j : Fin 24, j ≠ k → t.refs[j] = s.refs[j]) ∧ s.loopFrame [refReg k 4, refReg k 8] t)) ∧
  (∀ (k : Fin 24) (x : Nat) (s : State), s.refState k = 3 → s.refs[k].softClear = some x →
    ∃ t, exec (.degClearExpire k) s = .next t ∧ (s.live k &&& softMask ≠ 0 ∨ s.tick < x + s.refSecs k 0x48 → t = s) ∧
      (s.live k &&& softMask = 0 → x + s.refSecs k 0x48 ≤ s.tick → t.refState k = 2 ∧ t.live k = s.live k ∧ s.raised t (refReg k 8) 0x1000 ∧
        t.refs[k] = { s.refs[k] with softClear := none } ∧ (∀ j : Fin 24, j ≠ k → t.refs[j] = s.refs[j]) ∧ s.loopFrame [refReg k 4, refReg k 8] t))

/-- R121 to R128: the monitors set and clear their bits as Table 5.3 says: the activity deadline, the glitch and its hold of 100 ms, the rate search within one part in a thousand, the frequency limits with the 0.8 rule for the soft bit, the packet limits, and the ensemble verdict. -/
def Obligations.ReferenceMonitors : Prop :=
  (∀ (k : Fin 24) (x : Nat) (s : State), s.refState k ≠ 0 → s.actDeadline k = some x →
    ∃ t, exec (.actDeadline k) s = .next t ∧ (s.tick < x → t = s) ∧ (x ≤ s.tick → s.monitors t k 1 0)) ∧
  (∀ (k : Fin 24) (s : State), s.refState k ≠ 0 →
    ∃ t, exec (.glitchDetected k) s = .next t ∧ t.refs[k].glitches = s.refs[k].glitches + 1 ∧
      t.refs[k].glitchEnd = some (s.tick + 100 * ticksPerMs) ∧ s.monitors t k 2 0) ∧
  (∀ (k : Fin 24) (x : Nat) (s : State), s.refState k ≠ 0 → (monitorMask (s.plt.plot.refSource k)).testBit 1 = true → s.refs[k].glitchEnd = some x →
    ∃ t, exec (.glitchHoldExpire k) s = .next t ∧ (s.tick < x → t = s) ∧
      (x ≤ s.tick → (t.live k).testBit 1 = false ∧ t.refs[k].glitchEnd = none ∧ (∀ j : Fin 24, j ≠ k → t.refs[j] = s.refs[j]) ∧
        s.loopFrame [refReg k 4, refReg k 8] t)) ∧
  (∀ (k : Fin 24) (f : Nat) (s : State), s.refState k ≠ 0 → isClkin (s.plt.plot.refSource k) = true → s.refs[k].identifying = true →
    let near := fun (r : Nat) => ((r : Int) - f).natAbs * 1000 ≤ f
    ∃ t, exec (.rateIdentified k f) s = .next t ∧ ((∀ r ∈ s.refRates k, ¬ near r) → t = s) ∧
      (∀ i r, (s.refRates k)[i]? = some r → near r → (∀ (j : Nat) (q : Nat), j < i → (s.refRates k)[j]? = some q → ¬ near q) →
        t.refs[k].rate = r ∧ t.fld (refReg k 4) 24 3 = i ∧ (s.refState k ≠ 4 → t.refs[k].identifying = false) ∧
        t.refState k = settled (s.refState k) (s.live k &&& 0xFF7) ∧ (s.refState k ≠ 4 → t.live k = s.live k &&& 0xFF7) ∧
        (∀ j : Fin 24, j ≠ k → t.refs[j] = s.refs[j]) ∧ s.loopFrame [refReg k 4, refReg k 8] t)) ∧
  (∀ (k : Fin 24) (y : Int) (s : State), s.refState k ≠ 0 → monitorMask (s.plt.plot.refSource k) ≠ 0 →
    let soft := (s.rd (refReg k 0x1C)).toNat
    let hard := (s.rd (refReg k 0x20)).toNat
    ∃ t, exec (.freqMonitorEval k y) s = .next t ∧ t.rd (refReg k 0x60) = sat32 (divAway y 1000) ∧
      (t.live k).testBit 4 = decide (hard * 1000 < y.natAbs) ∧ (soft * 1000 < y.natAbs → (t.live k).testBit 5 = true) ∧
      (y.natAbs * 10 ≤ 8 * soft * 1000 → (t.live k).testBit 5 = false) ∧
      (8 * soft * 1000 < y.natAbs * 10 → y.natAbs ≤ soft * 1000 → (t.live k).testBit 5 = (s.live k).testBit 5) ∧
      (hard * 1000 < y.natAbs → s.refState k = 2 ∨ s.refState k = 3 → t.refState k = 4) ∧
      (∀ j : Fin 24, j ≠ k → t.refs[j] = s.refs[j]) ∧
      s.loopFrame ([refReg k 4, refReg k 8] ++ (List.range 7).map (fun i => refReg k (0x60 + 4 * i))) t) ∧
  (∀ (k : Fin 24) (s : State), s.refState k ≠ 0 → isPtp (s.plt.plot.refSource k) = true →
    let w := (s.rd (refReg k 0x4C)).toNat * ticksPerS
    let sy := s.refs[k].syncs.filter (fun (p : Nat × Nat × Int) => s.tick ≤ p.1 + w)
    let rs := s.refs[k].resps.filter (fun (p : Nat × Int) => s.tick ≤ p.1 + w)
    let near := fun (l : List Int) => (l.filter (fun d => decide (d ≤ minInt l + (s.rd (refReg k 0x50)).toNat * 1000))).length
    let missing := (sy.map (fun (p : Nat × Nat × Int) => p.2.1)).sum
    let expected := sy.length + missing
    let total := sy.length + rs.length
    let hits := near (sy.map (fun (p : Nat × Nat × Int) => p.2.2)) + near (rs.map Prod.snd)
    0 < total →
    ∃ t, exec (.packetMonitorEval k) s = .next t ∧ t.refs[k].loss = perMille missing expected ∧ t.refs[k].fpp = perMille hits total ∧
      (t.live k).testBit 8 = (decide (s.fld (refReg k 0x54) 16 16 * expected < missing * 1000) || decide (hits * 1000 < s.fld (refReg k 0x58) 16 16 * total)) ∧
      (s.fld (refReg k 0x54) 0 16 * expected < missing * 1000 ∨ hits * 1000 < s.fld (refReg k 0x58) 0 16 * total → (t.live k).testBit 9 = true) ∧
      (∀ j : Fin 24, j ≠ k → t.refs[j] = s.refs[j]) ∧ s.loopFrame [refReg k 4, refReg k 8] t) ∧
  (∀ s : State, ∃ t, exec .ensembleVerdict s = .next t ∧
    (∀ k : Fin 24, s.refState k ≠ 0 →
      let τ := [1, 10, 100, 1000].getD (s.fld (refReg k 0x28) 0 2) 0
      let fOver := fun lim => match s.ensFreq2 k with | some v => decide (lim * 2 * 2 ^ 56 * τ < v.natAbs * 1000) | none => false
      let pOver := fun lim => match s.ensPhase2 k with | some v => decide (lim * 2 * 2 ^ 56 < v.natAbs) | none => false
      t.bit (refReg k 4) 27 = ((s.ensFreq2 k).isNone && (s.ensPhase2 k).isNone) ∧
      ((monitorMask (s.plt.plot.refSource k)).testBit 6 = true → (t.live k).testBit 6 = (fOver (s.rd (refReg k 0x30)).toNat || pOver (s.rd (refReg k 0x38)).toNat)) ∧
      ((monitorMask (s.plt.plot.refSource k)).testBit 7 = true → (fOver (s.rd (refReg k 0x2C)).toNat || pOver (s.rd (refReg k 0x34)).toNat) = true → (t.live k).testBit 7 = true)) ∧
    s.loopFrame ((List.range 24).flatMap fun k => [refReg k 4, refReg k 8]) t)

/-- R127, R134, R135, R138: a new Q stands in REFn_QUAL at once; a worse one enters a selector's key at once, a better one begins its hold and enters when SELd_QHOLD has run; class 7 makes DNU live; 5 s without an ESMC PDU is QL-FAILED. -/
def Obligations.AdvertisedQualityAndHold : Prop :=
  (∀ (k : Fin 24) (q : AdvQuality) (s : State),
    let n := (qualityOf q).1
    ∃ t, exec (.advertisedQualityChange k q) s = .next t ∧ t.refQ k = n ∧ t.fld (refReg k 0xC) 16 8 = (qualityOf q).2 ∧
      (n ≠ s.refQ k → s.refState k ≠ 0 → (monitorMask (s.plt.plot.refSource k)).testBit 10 = true → (t.live k).testBit 10 = decide (n / 256 = 7)) ∧
      (n ≠ s.refQ k → ∀ d : Fin 16, (s.effQ d k < n → t.effQ d k = n) ∧ (n ≤ s.effQ d k → t.effQ d k = s.effQ d k) ∧
        (n < s.effQ d k → Sparse.get (fun _ => none) t.sels[d].holdFrom k = some s.tick)) ∧
      (∀ j : Fin 24, j ≠ k → t.refs[j] = s.refs[j]) ∧ s.loopFrame [refReg k 4, refReg k 8, refReg k 0xC] t) ∧
  (∀ (k : Fin 24) (s : State), isSyncE (s.plt.plot.refSource k) = true →
    ∃ t, exec (.esmcAbsenceTimeout k) s = .next t ∧ (s.tick < s.refs[k].lastEsmc + 5 * ticksPerS → t = s) ∧
      (s.refs[k].lastEsmc + 5 * ticksPerS ≤ s.tick → t.refQ k = 0x7FE ∧
        (s.refQ k ≠ 0x7FE → s.refState k ≠ 0 → (t.live k).testBit 10 = true) ∧
        (∀ j : Fin 24, j ≠ k → t.refs[j] = s.refs[j]) ∧ s.loopFrame [refReg k 4, refReg k 8, refReg k 0xC] t)) ∧
  (∀ (d : Fin 16) (k : Fin 24) (x : Nat) (s : State), Sparse.get (fun _ => none) s.sels[d].holdFrom k = some x →
    let due := x + (s.rd (selReg d 0xC)).toNat * ticksPerMs
    ∃ t, exec (.qholdExpire d k) s = .next t ∧ (s.tick < due → t = s) ∧
      (due ≤ s.tick → t.effQ d k = s.refQ k ∧ Sparse.get (fun _ => none) t.sels[d].holdFrom k = none ∧ t.ranked d ∧
        (∀ j : Fin 24, j ≠ k → t.effQ d j = s.effQ d j) ∧ t.refs = s.refs ∧ s.loopFrame [] t))

/-- R136, R137, R139, R140, R142: writes of REFn_PRIO, SELd_CTL and SELd_CAND set their fields and evaluate the selector, whose choice is the ranking's; SELd_CAND refuses slots that are unused or of a kind the selector does not accept; the end of a pull raises SWITCH_DONE. -/
def Obligations.SelectorWritesAndChoice : Prop :=
  (∀ (m : Master) (k : Fin 24) (v : Word) (s : State), s.checkWrite m (refReg k 0x10) v = none →
    ∃ t, exec (.refPrioWrite m k v) s = .next t ∧ t.fld (refReg k 0x10) 0 8 = fget v 0 8 ∧ (∀ d : Fin 16, s.bit (selReg d 4) k = true → t.ranked d) ∧
      t.refs = s.refs ∧ s.loopFrame [refReg k 0x10] t) ∧
  (∀ (m : Master) (d : Fin 16) (v : Word) (s : State), s.checkWrite m (selReg d 0) v = none →
    ∃ t, exec (.selCtlWrite m d v) s = .next t ∧ t.fld (selReg d 0) 0 2 = fget v 0 2 ∧ t.fld (selReg d 0) 8 5 = fget v 8 5 ∧ t.bit (selReg d 0) 4 = decide (fget v 4 1 = 1) ∧
      t.ranked d ∧ t.refs = s.refs ∧ s.loopFrame [] t) ∧
  (∀ (m : Master) (d : Fin 16) (v : Word) (s : State), s.checkWrite m (selReg d 4) v = none →
    ∃ t, exec (.selCandWrite m d v) s = .next t ∧
      ((∃ k : Fin 24, fget v k 1 = 1 ∧ s.plt.plot.refSource k = 0) → s.refuses t m .plot (selReg d 4)) ∧
      ((∀ k : Fin 24, fget v k 1 = 1 → s.plt.plot.refSource k ≠ 0) → (s.loopTb d).isSome = true → (∃ k : Fin 24, fget v k 1 = 1 ∧ s.timeKind k = false) →
        s.refuses t m .range (selReg d 4)) ∧
      ((∀ k : Fin 24, fget v k 1 = 1 → s.plt.plot.refSource k ≠ 0 ∧ (s.loopTb d = none ∨ s.timeKind k = true)) →
        t.fld (selReg d 4) 0 24 = fget v 0 24 ∧ t.ranked d ∧ t.refs = s.refs ∧ s.loopFrame [] t)) ∧
  (∀ (d : Fin 16) (s : State), s.switching d = true →
    ∃ t, exec (.switchComplete d) s = .next t ∧ (s.pullReach d < s.sels[d].remain.natAbs → t = s) ∧
      (s.sels[d].remain.natAbs ≤ s.pullReach d → t.sels[d].remain = 0 ∧ t.rd (selReg d 0x18) = 0 ∧ t.switching d = false ∧ s.raised t (selReg d 0x14) 4 ∧
        State.regsBut [selReg d 0x10, selReg d 0x14, selReg d 0x18] s t ∧ s.keepsBut [.regs, .sels, .irq] t))

/-- R119, R138, R145, R148: REFn_PH_COMP takes magnitudes up to 100,000,000 ps and waits for the next sample; SELd_QHOLD is stored; REFn_NOM is written only while the slot is off and has RATE_LIST 0, as one value from the writing master's held half, from 1,000,000 to 10^15 µHz. -/
def Obligations.ReferenceValuesWritten : Prop :=
  (∀ (m : Master) (k : Fin 24) (v : Word) (s : State), s.checkWrite m (refReg k 0x3C) v = none →
    ∃ t, exec (.refPhCompWrite m k v) s = .next t ∧ (100000000 < v.toInt.natAbs → s.refuses t m .range (refReg k 0x3C)) ∧
      (v.toInt.natAbs ≤ 100000000 → t.rd (refReg k 0x3C) = v ∧ t.refs[k] = { s.refs[k] with compPend := some v.toInt } ∧
        (∀ j : Fin 24, j ≠ k → t.refs[j] = s.refs[j]) ∧ State.regsBut [refReg k 0x3C] s t ∧ s.keepsBut [.regs, .refs, .irq] t)) ∧
  (∀ (m : Master) (d : Fin 16) (v : Word) (s : State), s.checkWrite m (selReg d 0xC) v = none →
    ∃ t, exec (.selQholdWrite m d v) s = .next t ∧ t.rd (selReg d 0xC) = v ∧ State.onlyRegs [selReg d 0xC] s t) ∧
  (∀ (m : Master) (k : Fin 24) (v : Word) (s : State), s.checkWrite m (refReg k 0x14) v = none →
    ∃ t, exec (.refNomLoWrite m k v) s = .next t ∧ (s.nomLocked k = true → s.refuses t m .state (refReg k 0x14)) ∧
      (s.nomLocked k = false → t.hget m.idx (refReg k 0x14) = v ∧ t.marked m.idx (refReg k 0x14) = true ∧ s.keepsBut [.held, .marks] t)) ∧
  (∀ (m : Master) (k : Fin 24) (v : Word) (s : State), s.checkWrite m (refReg k 0x18) v = none →
    let x := v.toNat * 2 ^ 32 + (s.hget m.idx (refReg k 0x14)).toNat
    ∃ t, exec (.refNomHiWrite m k v) s = .next t ∧ (s.nomLocked k = true → s.refuses t m .state (refReg k 0x18)) ∧
      (s.nomLocked k = false → s.marked m.idx (refReg k 0x14) = false → s.refuses t m .seq (refReg k 0x18)) ∧
      (s.nomLocked k = false → s.marked m.idx (refReg k 0x14) = true → x < 1000000 ∨ 1000000000000000 < x → s.refuses t m .range (refReg k 0x18)) ∧
      (s.nomLocked k = false → s.marked m.idx (refReg k 0x14) = true → 1000000 ≤ x → x ≤ 1000000000000000 →
        t.refNom k = x ∧ t.marked m.idx (refReg k 0x14) = false ∧ State.regsBut [refReg k 0x14, refReg k 0x18] s t ∧ s.keepsBut [.regs, .marks] t))

/-! ### Servo loops and ledgers -/

/-- R150, R151, R158, R159, R160: an update on a phase sample leaves a control value inside DPLLd_PULL that moved by no more than DPLLd_FRATE lets it, and on a TIME loop an untouched, continuous sample moves the verified point; a loop whose core is down does nothing; lock criteria held for DPLLd_LOCK_TIME lock the loop. R163, R169, R170: the flywheel is entered and left with its event as it becomes and stops being usable; a fit in LOCKED publishes the model and its VALID bit; a cycle slip of 50 ns or more clears VALID, sets SLIP and ends a flywheel. -/
def Obligations.LoopsAndHoldover : Prop :=
  ((∀ (d : Fin 16) (fe : Int) (s : State), s.flt.coresDown.contains (Config.dpllCore d).val = true → exec (.dpllUpdate d fe) s = .next s) ∧
    (∀ (d : Fin 16) (fe : Int) (k : Fin 24) (s : State), s.flt.coresDown.contains (Config.dpllCore d).val = false →
      s.dpllState d = 2 ∨ s.dpllState d = 3 → s.selected d = some k →
      (s.loopTb d = none ∧ s.refs[k].phase.isSome = true) ∨ (∃ n, s.loopTb d = some n ∧ (s.phaseVs k n).isSome = true ∧ s.tbs[n].step = none) →
      ∃ t, exec (.dpllUpdate d fe) s = .next t ∧ (t.cv d).natAbs ≤ s.pullLim d ∧
        ((s.cv d).natAbs ≤ s.pullLim d → (t.cv d - s.cv d).natAbs ≤ s.frateLim d (s.tick - s.dplls[d].lastUpd)) ∧ t.dplls[d].lastUpd = s.tick ∧
        (s.dpllState d = 2 → t.dpllState d = 2) ∧
        (∀ n, s.loopTb d = some n → s.refs[k].touched = false → s.refs[k].cont = true → t.bnd[n].tv = s.refs[k].phaseTick ∧ t.bnd[n].stale = false) ∧
        State.loopRegs [] s t ∧ s.keepsBut [.regs, .tbs, .bnd, .sels, .dplls, .out, .fv, .irq] t) ∧
    (∀ (d : Fin 16) (x : Nat) (s : State), s.dpllState d = 2 → s.dplls[d].lockSince = some x →
      let due := x + (s.rd (dpllReg d 0x34)).toNat * ticksPerS
      ∃ t, exec (.dpllLockAchieved d) s = .next t ∧ (s.tick < due → t = s) ∧
        (due ≤ s.tick → t.dpllState d = 3 ∧ s.raised t (dpllReg d 0xC) 1 ∧ t.dplls[d] = { s.dplls[d] with lockSince := none, lastVer := s.tick } ∧
          (∀ k, s.selected d = some k → t.fld (dpllReg d 8) 17 5 = min (s.fld (dpllReg d 4) 0 5) (s.bwCeiling d k)) ∧
          State.regsBut [dpllReg d 8, dpllReg d 0xC] s t ∧ s.keepsBut [.regs, .dplls, .irq] t))) ∧
  ((∀ (d : Fin 16) (s : State), s.dpllState d = 4 → s.fld (dpllReg d 8) 26 2 = 1 →
      ∃ t, exec (.flywheelEngage d) s = .next t ∧ (s.fwUsable d = false → t = s) ∧
        (s.fwUsable d = true → t.onFlywheel d = true ∧ s.raised t (dpllReg d 0xC) 0x10 ∧
          State.regsBut [dpllReg d 8, dpllReg d 0xC] s t ∧ s.keepsBut [.regs, .irq] t)) ∧
    (∀ (d : Fin 16) (s : State), s.onFlywheel d = true →
      ∃ t, exec (.flywheelLost d) s = .next t ∧ (s.fwUsable d = true → t = s) ∧
        (s.fwUsable d = false → t.dpllState d = 4 ∧ t.fld (dpllReg d 8) 26 2 = 1 ∧ t.cv d = s.cv d ∧ s.raised t (dpllReg d 0xC) 0x20 ∧
          State.regsBut [dpllReg d 8, dpllReg d 0xC] s t ∧ s.keepsBut [.regs, .irq] t)) ∧
    (∀ (d : Fin 16) (x y dd : Int) (uy ud res span : Nat) (s : State), s.dpllState d = 3 →
      ∃ t, exec (.modelFit d x y dd uy ud res span) s = .next t ∧ t.rd (dpllReg d 0x60) = sat32 x ∧ t.rd (dpllReg d 0x64) = sat32 y ∧
        t.rd (dpllReg d 0x68) = sat32 dd ∧ t.rd (dpllReg d 0x6C) = sat32 uy ∧ t.rd (dpllReg d 0x70) = sat32 ud ∧
        (t.rd (dpllReg d 0x74)).toNat = min res 0xFFFFFFFF ∧ (t.rd (dpllReg d 0x78)).toNat = min span 0xFFFFFFFF ∧
        t.bit (dpllReg d 0x5C) 0 = (decide ((s.rd (dpllReg d 0x54)).toNat ≤ span) && decide (res ≤ (s.rd (dpllReg d 0x58)).toNat)) ∧
        State.regsBut ([dpllReg d 0x5C] ++ (List.range 7).map (fun i => dpllReg d (0x60 + 4 * i))) s t ∧ s.keepsBut [.regs, .dplls] t) ∧
    (∀ (ps : Nat) (s : State),
      ∃ t, exec (.atomPpsCheck ps) s = .next t ∧ (ps < 50000 → t = s) ∧
        (50000 ≤ ps → (∀ d : Fin 16, (s.loopTb d).isSome = true → t.bit (dpllReg d 0x5C) 0 = false ∧ t.bit (dpllReg d 0x5C) 2 = true ∧ t.rd (dpllReg d 0x78) = 0 ∧
            (s.onFlywheel d = true → t.dpllState d = 4 ∧ t.fld (dpllReg d 8) 26 2 = 1 ∧ s.raised t (dpllReg d 0xC) 0x20)) ∧
          State.loopRegs [] s t ∧ s.keepsBut [.regs, .irq] t)))

/-- R149, R153, R154, R173 and Table 6.4: DPLLd_CTL.APLL takes an APLL for a FREQ loop, which enters FREE, and releases it; DPLLd_BW belongs to the side that PARAM_OWNER names; the oscillator classes and floors are the operator's; the UART registers queue and pop bytes of the module. -/
def Obligations.LoopSettingsAndUart : Prop :=
  (∀ (m : Master) (d : Fin 16) (v : Word) (s : State), s.checkWrite m (dpllReg d 0) v = none → m.host = true →
    let a := fget v 9 3
    ∃ t, exec (.dpllApllWrite m d v) s = .next t ∧
      (a ≠ 0 → (s.loopTb d).isSome = true → s.refuses t m .plot (dpllReg d 0)) ∧
      (a ≠ 0 → s.loopTb d = none → s.plt.plot.apllFreq a = 0 → s.refuses t m .plot (dpllReg d 0)) ∧
      (a ≠ 0 → s.loopTb d = none → s.plt.plot.apllFreq a ≠ 0 → a ≠ s.fld (dpllReg d 0) 9 3 → s.steeredByOther d a = true → s.refuses t m .state (dpllReg d 0)) ∧
      (∀ k : Fin 4, a = k.val + 1 → s.loopTb d = none → s.plt.plot.apllFreq a ≠ 0 → s.fld (dpllReg d 0) 9 3 = 0 → s.steeredByOther d a = false →
        t.fld (dpllReg d 0) 9 3 = a ∧ t.dpllState d = 1 ∧ t.dplls[d].integ = 0 ∧ t.bit (apllReg k 4) 30 = true ∧ t.fld (apllReg k 4) 26 4 = d.val ∧
        s.keepsBut [.regs, .out, .dplls, .irq] t) ∧
      (∀ k : Fin 4, a = 0 → s.loopTb d = none → s.fld (dpllReg d 0) 9 3 = k.val + 1 → s.plt.plot.apllFreq (k.val + 1) ≠ 0 →
        t.dpllState d = 0 ∧ t.bit (apllReg k 4) 30 = false ∧ s.keepsBut [.regs, .out, .dplls, .irq] t)) ∧
  (∀ (m : Master) (d : Fin 16) (v : Word) (s : State), s.checkWrite m (dpllReg d 4) v = none →
    let owner := if s.bit (dpllReg d 0) 0 then m.isCore else m.host
    ∃ t, exec (.dpllBwWrite m d v) s = .next t ∧ (owner = false → s.refuses t m .owner (dpllReg d 4)) ∧
      (owner = true → fget v 8 5 < fget v 0 5 → s.refuses t m .range (dpllReg d 4)) ∧
      (owner = true → fget v 0 5 ≤ fget v 8 5 → t.fld (dpllReg d 4) 0 5 = fget v 0 5 ∧ t.fld (dpllReg d 4) 8 5 = fget v 8 5 ∧ State.onlyRegs [dpllReg d 4] s t)) ∧
  (∀ (m : Master) (v : Word) (s : State), s.checkWrite m 0x051000 v = none →
    ∃ t, exec (.dpllFwClassWrite m v) s = .next t ∧ ((∃ d : Fin 16, s.dpllState d = 4) → s.refuses t m .busy 0x051000) ∧
      ((∀ d : Fin 16, s.dpllState d ≠ 4) → t.fld 0x051000 0 2 = fget v 0 2 ∧ t.fld 0x051000 4 2 = fget v 4 2 ∧ State.onlyRegs [0x051000] s t)) ∧
  (∀ (m : Master) (i : Fin 4) (v : Word) (s : State), s.checkWrite m (0x051004 + 4 * i.val) v = none →
    let least := if i.val % 2 = 0 then classFloorY (s.fwClass (decide (2 ≤ i.val))) else classFloorD (s.fwClass (decide (2 ≤ i.val)))
    ∃ t, exec (.dpllFwFloorWrite m i v) s = .next t ∧ (v.toNat < least → s.refuses t m .range (0x051004 + 4 * i.val)) ∧
      (least ≤ v.toNat → t.rd (0x051004 + 4 * i.val) = v ∧ t.fwFloor i.val = v.toNat ∧ State.onlyRegs [0x051004 + 4 * i.val] s t)) ∧
  (∀ (m : Master) (v : Word) (s : State), s.checkWrite m 0x051024 v = none →
    ∃ t, exec (.atomUartTxWrite m v) s = .next t ∧ (64 ≤ s.uart.tx.length → s.refuses t m .busy 0x051024) ∧
      (s.uart.tx.length < 64 → t.uart = { s.uart with tx := s.uart.tx ++ [v.setWidth 8] } ∧ t.fld 0x05102C 0 7 = 63 - s.uart.tx.length ∧
        State.regsBut [0x05102C] s t ∧ s.keepsBut [.regs, .uart] t)) ∧
  (∀ (m : Master) (s : State), s.checkRead m 0x051028 = none →
    ∃ t, exec (.atomUartRxRead m) s = .next t ∧ (s.uart.rx = [] → t.answerOf m.idx = 0 ∧ s.keepsBut [.resp] t) ∧
      (∀ b l, s.uart.rx = b :: l → t.answerOf m.idx = BitVec.ofNat 32 (256 + b.toNat) ∧ t.uart = { s.uart with rx := l } ∧ s.keepsBut [.resp, .uart] t)) ∧
  (∀ (b : Byte) (s : State),
    ∃ t, exec (.atomUartRxByte b) s = .next t ∧ (s.uart.rx.length < 64 → t.uart = { s.uart with rx := s.uart.rx ++ [b] } ∧ s.keepsBut [.uart] t) ∧
      (64 ≤ s.uart.rx.length → t.fld 0x05102C 16 16 = min (s.fld 0x05102C 16 16 + 1) 0xFFFF ∧ State.regsBut [0x05102C] s t ∧ s.keepsBut [.regs] t))

/-- R174, R177 to R182, R188, R200: a refresh on its tick applies the falls, grows HOLD and starts a new base; adders that disagree make the time base untraceable for reason 6; a stale slot is marked; EXTRA rises on the next tick or waits; a calibration record acts at once where it is not in use and is split into a raise and a waiting fall where it is; BNDn_C_REF latches its group. -/
def Obligations.LedgerCommands : Prop :=
  (∀ s : State, s.tick % ticksPerMs ≠ 0 ∨ s.refreshAt = s.tick → exec (.ledgerRefresh none) s = .next s) ∧
  (∀ s : State, s.tick % ticksPerMs = 0 → s.refreshAt ≠ s.tick → (∀ n : Fin 64, s.plt.plot.tbPresent n = true → s.bnd[n].why = 0) →
    ∃ t, exec (.ledgerRefresh none) s = .next t ∧ t.refreshAt = s.tick ∧ s.keepsBut [.regs, .bnd, .refreshAt, .irq] t ∧
      (∀ n : Fin 64, s.plt.plot.tbPresent n = false → t.bnd[n] = s.bnd[n]) ∧
      (∀ n : Fin 64, s.plt.plot.tbPresent n = true →
        t.bnd[n].comps = s.bnd[n].comps.fallen s.bnd[n].falls ∧ t.bnd[n].falls = {} ∧ t.bnd[n].baseTick = s.tick ∧ t.bnd[n].slope = (s.slopesNow n).1 ∧
        t.bnd[n].hold = (match s.bnd[n].falls.hold, s.growth n with
          | some v, _ => v
          | none, some c => s.bnd[n].hold + growMs c s.bnd[n].tv s.tick
          | none, none => s.bnd[n].hold) ∧
        t.bnd[n].base = max t.bnd[n].sum t.bnd[n].floor * 10 ^ 7 ∧ t.bnd[n].why = 0)) ∧
  (∀ (n : Fin 64) (s : State), s.tick % ticksPerMs ≠ 0 → s.plt.plot.tbPresent n = true → s.srcLive (0x0600 + n.val) = false →
    s.plt.plot.reactFor (0x0600 + n.val) = none → s.flt.reacts = [] →
    ∃ t r, exec (.ledgerRefresh (some n)) s = .next t ∧ t.untraceable n = true ∧ (s.tbLoop n = none → t.bnd[n].why = 6) ∧ t.bit (bndReg n 8) 5 = true ∧
      s.recorded t (0x0600 + n.val) r ∧ fget r[0] 22 2 = 1) ∧
  (∀ (d : Fin 16) (k : Fin 24) (n : Fin 64) (s : State), s.loopTb d = some n → s.selected d = some k → s.dpllState d = 2 ∨ s.dpllState d = 3 → s.bnd[n].stale = false →
    let due := max s.dplls[d].lastVer s.bnd[n].tv + 3 * s.sampleTicks k s.solTicks
    ∃ t, exec (.sampleStale d) s = .next t ∧ (s.tick < due → t = s) ∧
      (due ≤ s.tick → t.bnd[n] = { s.bnd[n] with stale := true } ∧ (∀ j : Fin 64, j ≠ n → t.bnd[j] = s.bnd[j]) ∧ s.raised t (bndReg n 8) 8 ∧
        State.regsBut [bndReg n 8] s t ∧ s.keepsBut [.regs, .bnd, .irq] t)) ∧
  (∀ (m : Master) (n : Fin 64) (v : Word) (s : State), s.checkWrite m (bndReg n 0xC) v = none →
    let now := max s.bnd[n].comps.extra (s.bnd[n].extraRise.getD 0)
    ∃ t, exec (.bndExtraWrite m n v) s = .next t ∧ t.rd (bndReg n 0xC) = v ∧
      (now ≤ v.toNat → t.bnd[n] = { s.bnd[n] with extraRise := some v.toNat, extraWait := none }) ∧
      (v.toNat < now → t.bnd[n] = { s.bnd[n] with extraWait := some v.toNat }) ∧
      (∀ j : Fin 64, j ≠ n → t.bnd[j] = s.bnd[j]) ∧ State.regsBut [bndReg n 0xC] s t ∧ s.keepsBut [.regs, .bnd, .irq] t) ∧
  (∀ (m : Master) (k : Fin 32) (o : Fin 4) (v : Word) (s : State), s.checkWrite m (calReg k (4 * o.val)) v = none →
    let w := recOf (if o.val = 0 then v else s.rd (calReg k 0)) (if o.val = 1 then v else s.rd (calReg k 4)) (if o.val = 2 then v else s.rd (calReg k 8))
    let f := s.cals[k].inForce
    let up : CalRec := { f with uncStamp := max f.uncStamp w.uncStamp, uncPath := max f.uncPath w.uncPath }
    ∃ t, exec (.bndCalRecordWrite m k o v) s = .next t ∧
      (w.kind ≠ 0 → w.uncStamp ≠ 0 → s.refuses t m .range (calReg k (4 * o.val))) ∧
      ((w.kind = 0 ∨ w.uncStamp = 0) → w.valid = true →
        (∃ j : Fin 32, j ≠ k ∧ (s.recWritten j).valid = true ∧ (s.recWritten j).kind = w.kind ∧ (s.recWritten j).index = w.index) →
        s.refuses t m .state (calReg k (4 * o.val))) ∧
      ((w.kind = 0 ∨ w.uncStamp = 0) →
        (w.valid = false ∨ ∀ j : Fin 32, j ≠ k → (s.recWritten j).valid = false ∨ (s.recWritten j).kind ≠ w.kind ∨ (s.recWritten j).index ≠ w.index) →
        t.recWritten k = w ∧ (∀ j : Fin 32, j ≠ k → t.cals[j] = s.cals[j]) ∧ State.regsBut [calReg k 0, calReg k (4 * o.val)] s t ∧ s.keepsBut [.regs, .cals, .irq] t ∧
        (o.val = 3 → t.cals[k] = s.cals[k] ∧ t.rd (calReg k 12) = v) ∧
        (o.val ≠ 3 → s.targetUsed w.kind w.index = false → s.cals[k].rise = none → s.targetUsed f.kind f.index = false → t.cals[k] = ⟨w, none, none⟩ ∧ t.bit (calReg k 0) 30 = false) ∧
        (o.val ≠ 3 → s.targetUsed w.kind w.index = true → s.cals[k].rise = none → f.kind = w.kind → f.index = w.index → f.valid = true → w.valid = true →
          t.cals[k] = ⟨f, if up = f then none else some up, if up = w then none else some w⟩ ∧ t.bit (calReg k 0) 30 = decide (up ≠ w)))) ∧
  (∀ (m : Master) (n : Fin 64) (s : State), s.checkRead m (bndReg n 0x10) = none → s.plt.plot.tbPresent n = true →
    ∃ t, exec (.bndCRefRead m n) s = .next t ∧ t.answerOf m.idx = psReg s.bnd[n].comps.ref ∧ t.hget m.idx (bndReg n 0x14) = psReg s.bnd[n].comps.meas ∧
      t.hget m.idx (bndReg n 0x18) = psReg s.bnd[n].comps.servo ∧ t.hget m.idx (bndReg n 0x20) = psReg s.bnd[n].comps.path ∧
      t.hget m.idx (bndReg n 0x24) = psReg s.bnd[n].comps.quant ∧ t.hget m.idx (bndReg n 0x2C) = psReg s.bnd[n].comps.extra ∧
      t.hget m.idx (bndReg n 0x30) = BitVec.ofNat 32 (s.bound n) ∧ t.hget m.idx (bndReg n 0x3C) = s.bnd[n].raiseSeq ∧
      t.hget m.idx (bndReg n 0x40) = BitVec.ofNat 32 s.bnd[n].tv ∧ t.hget m.idx (bndReg n 0x44) = BitVec.ofNat 32 (s.bnd[n].tv / 2 ^ 32) ∧
      s.keepsBut [.held, .resp] t)

/-! ### GNSS baseband -/

/-- R202, R204, R206, R207, R215, R216, R221, R228: enables start and stop chains, absent ones refused with ERR_PLOT and changed settings or CLEAR_DB of a running block with ERR_STATE; MODE and surveys follow Table 8.5; the OSNMA root is written in order; a front-end transfer runs for its bits and BUSY; reads latch the words beside them. -/
def Obligations.GnssSettingsAndReads : Prop :=
  (∀ (m : Master) (v : Word) (s : State), s.checkWrite m 0x070000 v = none → s.chainOn 0 = false → s.chainOn 1 = false → fget v 4 1 = 0 →
    ∃ t, exec (.gnssChainEnable m v) s = .next t ∧ ((∃ x : Fin 2, fget v x 1 = 1 ∧ s.plt.plot.chain x = false) → s.refuses t m .plot 0x070000) ∧
      ((∀ x : Fin 2, fget v x 1 = 1 → s.plt.plot.chain x = true) →
        (∀ x : Fin 2, t.chainOn x = decide (fget v x 1 = 1) ∧ (fget v x 1 = 0 → t.gnss.chains[x] = s.gnss.chains[x]) ∧
          (fget v x 1 = 1 → t.gnss.chains[x].enabledAt = s.tick ∧ t.gnss.chains[x].startKind = s.startKind x ∧ t.gnss.chains[x].last = none)) ∧
        t.gnss.db = s.gnss.db ∧ State.regsBut [0x070000] s t ∧ s.keepsBut [.regs, .gnss, .irq] t)) ∧
  (∀ (m : Master) (x : Fin 2) (v : Word) (s : State), s.checkWrite m 0x070000 v = none → s.chainOn x = true → fget v x 1 = 0 →
    (fget v (otherChain x) 1 = 1 ↔ s.chainOn (otherChain x) = true) → (s.chainOn (otherChain x) = true → s.plt.plot.chain (otherChain x) = true) → 
    let same := fget v 24 2 = s.fld 0x070000 24 2 ∧ fget v 8 9 = s.fld 0x070000 8 9 ∧ fget v 2 2 = s.fld 0x070000 2 2 ∧ fget v 4 1 = 0
    ∃ t, exec (.gnssChainDisable m v) s = .next t ∧ (¬ same → s.refuses t m .state 0x070000) ∧
      (same → t.chainOn x = false ∧ t.gnss.chains[x].startKind = 0 ∧ t.gnss.chains[x].last = none ∧ t.gnss.chains[x].valid = none ∧
        t.fld (gnssReg x 4) 30 2 = 0 ∧ t.rd (gnssReg x 0x1C) = 0xFFFFFFFF ∧ t.gnss.chains[otherChain x] = s.gnss.chains[otherChain x] ∧ t.gnss.db = s.gnss.db ∧
        State.regsBut [0x070000, gnssReg x 4, gnssReg x 0x1C, gnssReg x 0x2C] s t ∧ s.keepsBut [.regs, .gnss, .irq] t)) ∧
  (∀ (m : Master) (v : Word) (s : State), s.checkWrite m 0x070000 v = none → fget v 4 1 = 1 → (∀ x : Fin 2, fget v x 1 = 1 → s.plt.plot.chain x = true) →
    ∃ t, exec (.gnssClearDb m v) s = .next t ∧ (s.chainOn 0 = true ∨ s.chainOn 1 = true → s.refuses t m .state 0x070000) ∧
      (s.chainOn 0 = false → s.chainOn 1 = false → t.gnss.db = [] ∧ t.gnss.fixAt = none ∧ (∀ x : Fin 2, fget v x 1 = 1 → t.gnss.chains[x].startKind = 3) ∧
        State.regsBut [0x070000] s t ∧ s.keepsBut [.regs, .gnss, .irq] t)) ∧
  (∀ (m : Master) (x : Fin 2) (v : Word) (s : State), s.checkWrite m (gnssReg x 0) v = none →
    (s.chainOn x = true → fget v 24 3 = s.fld (gnssReg x 0) 24 3 ∧ fget v 22 2 = s.fld (gnssReg x 0) 22 2) →
    let mode := fget v 30 2
    ∃ t, exec (.gnssModeWrite m x v) s = .next t ∧ (mode = 2 → s.gnssMode x ≠ 2 → s.rd (gnssReg x 0x4C) = 0 → s.refuses t m .state (gnssReg x 0)) ∧
      (mode ≠ 2 ∨ s.gnssMode x = 2 ∨ s.rd (gnssReg x 0x4C) ≠ 0 → t.gnssMode x = mode ∧ t.fld (gnssReg x 0) 30 2 = mode ∧
        (mode = 1 → s.gnssMode x ≠ 1 → t.rd (gnssReg x 0x58) = s.rd (gnssReg x 0x50) ∧ t.gnss.chains[x] = { s.gnss.chains[x] with surveyFrom := s.tick }) ∧
        (mode ≠ 1 ∨ s.gnssMode x = 1 → t.gnss = s.gnss) ∧ State.regsBut [gnssReg x 0, gnssReg x 4, gnssReg x 0x58] s t ∧ s.keepsBut [.regs, .gnss, .irq] t)) ∧
  (∀ (x : Fin 2) (px py pz : Int) (sig3 : Nat) (s : State), s.gnssMode x = 1 → s.surveyLeft x = 0 →
    ∃ t, exec (.surveyDone x px py pz sig3) s = .next t ∧ ((s.rd (gnssReg x 0x54)).toNat < sig3 → t = s) ∧
      (sig3 ≤ (s.rd (gnssReg x 0x54)).toNat → t.gnssMode x = 2 ∧ t.rd (gnssReg x 0x40) = BitVec.ofInt 32 px ∧ t.rd (gnssReg x 0x44) = BitVec.ofInt 32 py ∧
        t.rd (gnssReg x 0x48) = BitVec.ofInt 32 pz ∧ (t.rd (gnssReg x 0x4C)).toNat = max sig3 5 ∧ s.raised t (gnssReg x 8) 0x10 ∧
        State.regsBut [gnssReg x 4, gnssReg x 8, gnssReg x 0x40, gnssReg x 0x44, gnssReg x 0x48, gnssReg x 0x4C, gnssReg x 0x58] s t ∧ s.keepsBut [.regs, .irq] t)) ∧
  (∀ (x : Fin 2) (s : State), s.gnssMode x = 1 →
    let due := s.gnss.chains[x].surveyFrom + 2 * (s.rd (gnssReg x 0x50)).toNat * ticksPerS
    ∃ t, exec (.surveyFail x) s = .next t ∧ (s.tick < due → t = s) ∧
      (due ≤ s.tick → t.gnssMode x = 0 ∧ s.raised t (gnssReg x 8) 0x20 ∧ State.regsBut [gnssReg x 4, gnssReg x 8, gnssReg x 0x58] s t ∧ s.keepsBut [.regs, .irq] t)) ∧
  (∀ (m : Master) (i : Fin 8) (v : Word) (s : State), s.checkWrite m (0x070010 + 4 * i.val) v = none →
    ∃ t, exec (.osnmaRootWrite m i v) s = .next t ∧ (i.val ≠ 0 → i.val ≠ s.gnss.rootNext → s.refuses t m .seq (0x070010 + 4 * i.val)) ∧
      (i.val = 0 ∨ i.val = s.gnss.rootNext → t.rd (0x070010 + 4 * i.val) = v ∧ t.gnss.rootNext = (i.val + 1) % 8 ∧
        t.bit 0x070004 2 = (if i.val = 0 then false else if i.val = 7 then true else s.bit 0x070004 2) ∧
        State.regsBut [0x070004, 0x070010 + 4 * i.val] s t ∧ s.keepsBut [.regs, .gnss] t)) ∧
  (∀ (m : Master) (x : Fin 2) (v : Word) (s : State), s.checkWrite m (gnssReg x 0x94) v = none →
    ∃ t, exec (.fespiDataWrite m x v) s = .next t ∧ (s.bit (gnssReg x 0x90) 31 = true → s.refuses t m .busy (gnssReg x 0x94)) ∧
      (s.bit (gnssReg x 0x90) 31 = false → t.bit (gnssReg x 0x90) 31 = true ∧
        t.gnss.chains[x] = { s.gnss.chains[x] with fespi := some (s.tick + s.fld (gnssReg x 0x90) 0 6 * 10 * (s.fld (gnssReg x 0x90) 8 8 + 1), v) } ∧
        State.regsBut [gnssReg x 0x90] s t ∧ s.keepsBut [.regs, .gnss] t)) ∧
  (∀ (x : Fin 2) (v w : Word) (e : Nat) (s : State), s.gnss.chains[x].fespi = some (e, w) →
    ∃ t, exec (.fespiTransferDone x v) s = .next t ∧ (s.tick < e → t = s) ∧
      (e ≤ s.tick → t.bit (gnssReg x 0x90) 31 = false ∧ (t.rd (gnssReg x 0x94)).toNat = v.toNat % 2 ^ s.fld (gnssReg x 0x90) 0 6 ∧
        t.gnss.chains[x] = { s.gnss.chains[x] with fespi := none } ∧ State.regsBut [gnssReg x 0x90, gnssReg x 0x94] s t ∧ s.keepsBut [.regs, .gnss] t)) ∧
  (∀ (m : Master) (x : Fin 2) (s : State), s.checkRead m (gnssReg x 0xC) = none →
    ∃ t, exec (.gnssOffW0Read m x) s = .next t ∧ t.answerOf m.idx = s.rd (gnssReg x 0xC) ∧
      (∀ i, i < 14 → t.hget m.idx (gnssReg x (4 + 4 * i)) = s.rd (gnssReg x (4 + 4 * i))) ∧ s.keepsBut [.held, .resp] t) ∧
  (∀ (m : Master) (s : State), s.checkRead m 0x070044 = none →
    ∃ t, exec (.gnssSvStatRead m) s = .next t ∧ (s.svOf m = none → t.answerOf m.idx = 0 ∧ t.hget m.idx 0x070048 = 0) ∧
      (∀ x f a, s.svOf m = some (x, f, a) → fget (t.answerOf m.idx) 31 1 = 1 ∧ fget (t.answerOf m.idx) 30 1 = b2n ((s.usedSats x f).contains a) ∧
        fget (t.answerOf m.idx) 24 1 = b2n a.excluded ∧ (a.elev ≤ 90 → fget (t.answerOf m.idx) 16 8 = a.elev)) ∧ s.keepsBut [.held, .resp] t)

/-- R213, R217, R220, R222, R224, R226: a solution is published with its offset, verdict and score; FAIL or too few satellites leave SOL_MODE 0, and FAIL sets class 7 and gives no phase sample; bands are jammed by noise rise or occupancy and readmitted after 10 s; a leap announcement is accepted from two systems or by OSNMA, written to the UTC time bases, and withdrawn. -/
def Obligations.GnssSolutionsAndIntegrity : Prop :=
  (∀ (x : Fin 2) (f : Fix) (s : State), s.chainOn x = false ∨ s.gnssFenced = true → exec (.gnssSolution x f) s = .next s) ∧
  (∀ (x : Fin 2) (f : Fix) (s : State), s.chainOn x = true → s.gnssFenced = false →
    let thr := (s.rd (gnssReg x 0x78)).toNat
    let need := max (s.fld (gnssReg x 0) 16 6) (if s.gnssMode x = 2 then 2 else 5)
    ∃ t, exec (.gnssSolution x f) s = .next t ∧ t.gnss.chains[x].last = some f ∧
      t.rd (gnssReg x 0xC) = BitVec.ofNat 32 (f.offset.natAbs % 2 ^ 56 / 2 ^ 24) ∧ t.rd (gnssReg x 0x10) = BitVec.ofNat 32 (nsOf f.offset.natAbs) ∧
      t.rd (gnssReg x 0x14) = BitVec.ofNat 32 (secOf f.offset.natAbs) ∧ t.bit (gnssReg x 4) 26 = decide (f.offset < 0) ∧
      t.fld (gnssReg x 4) 28 2 = (if thr ≤ t.fld (gnssReg x 0x2C) 16 8 ∨ s.gnss.chains[x].fail = true then 2 else if thr / 2 ≤ t.fld (gnssReg x 0x2C) 16 8 then 1 else 0) ∧
      (t.fld (gnssReg x 4) 28 2 = 2 ∨ (s.usedSats x f).length < need ∨ f.raim = true → t.fld (gnssReg x 4) 30 2 = 0 ∧ t.rd (gnssReg x 0x1C) = 0xFFFFFFFF) ∧
      (t.fld (gnssReg x 4) 30 2 ≠ 0 → ∃ u, t.gnss.chains[x].valid = some (f.offset, u, f.epoch) ∧ u < 1000000000 ∧ t.rd (gnssReg x 0x1C) = BitVec.ofNat 32 (min (divUp u 250) 0xFFFFFFFE)) ∧
      (∀ k, s.gnssSlot x = some k → t.fld (gnssReg x 4) 28 2 = 2 → t.refQ k / 256 = 7 ∧ t.refs[k].phase = s.refs[k].phase) ∧
      (∀ o, o < 0x040000 ∨ 0x071000 ≤ o → t.rd o = s.rd o) ∧ s.keepsBut [.regs, .tbs, .bnd, .cals, .refs, .sels, .dplls, .gnss, .irq] t) ∧
  (∀ (x : Fin 2) (k : Fin 3) (noise : Int) (occ : Nat) (s : State), s.chainOn x = true → s.bit (gnssReg x 0) (24 + k) = true → s.gnss.chains[x].bands[k].jamFrom = none →
    ∃ t, exec (.gnssJamMeasure x k noise occ) s = .next t ∧ t.gnss.chains[x].bands[k].noise = (noise :: s.gnss.chains[x].bands[k].noise).take 10 ∧
      (occ < 200 ∨ 500 < occ ∨ (∃ b, t.gnss.chains[x].bands[k].base = some b ∧ 10 * ((s.rd (gnssReg x 0x7C)).toNat : Int) < 10 * noise - b) →
        t.gnss.chains[x].bands[k].jamFrom = some s.tick ∧ t.bit (gnssReg x 4) (21 + k) = true ∧ s.raised t (gnssReg x 8) 0x40) ∧
      (200 ≤ occ → occ ≤ 500 → (∀ b, t.gnss.chains[x].bands[k].base = some b → 10 * noise - b ≤ 10 * ((s.rd (gnssReg x 0x7C)).toNat : Int)) →
        t.gnss.chains[x].bands[k].jamFrom = none ∧ t.rd (gnssReg x 8) = s.rd (gnssReg x 8)) ∧
      State.regsBut [gnssReg x 4, gnssReg x 8, gnssReg x 0x30] s t ∧ s.keepsBut [.regs, .gnss, .irq] t) ∧
  (∀ (x : Fin 2) (k : Fin 3) (s : State), s.gnss.chains[x].bands[k].jamFrom.isSome = true →
    ∃ t, exec (.gnssJamReadmit x k) s = .next t ∧ (s.tick < s.gnss.chains[x].bands[k].lastJam + 10 * ticksPerS → t = s) ∧
      (s.gnss.chains[x].bands[k].lastJam + 10 * ticksPerS ≤ s.tick → t.gnss.chains[x].bands[k] = { s.gnss.chains[x].bands[k] with jamFrom := none } ∧
        t.bit (gnssReg x 4) (21 + k) = false ∧ State.regsBut [gnssReg x 4] s t ∧ s.keepsBut [.regs, .gnss] t)) ∧
  (∀ (x : Fin 2) (b : Nat) (s : State), s.gnss.chains[x].fail = true → s.gnss.chains[x].lowFrom = some b →
    let due := b + (s.rd (gnssReg x 0x8C)).toNat * ticksPerS
    ∃ t, exec (.integFailClear x) s = .next t ∧ (s.tick < due → t = s) ∧
      (due ≤ s.tick → t.gnss.chains[x] = { s.gnss.chains[x] with fail := false } ∧ t.fld (gnssReg x 4) 28 2 = 0 ∧
        State.regsBut [gnssReg x 4] s t ∧ s.keepsBut [.regs, .gnss] t)) ∧
  (∀ (typ l votes : Nat) (auth : Bool) (taiUtc : Nat) (s : State), 1 ≤ typ → typ ≤ 2 → l < 2 ^ 48 → votes < 256 → taiUtc < 256 →
    ∃ t, exec (.gnssLeapAccept typ l votes auth taiUtc) s = .next t ∧
      ((∃ n ∈ s.leapTargets, s.taiUtc n ≠ taiUtc) → t.bit 0x070008 2 = true) ∧
      (votes < 2 → auth = false → t.tbs = s.tbs ∧ State.regsBut [0x070008] s t ∧ s.keepsBut [.regs, .irq] t) ∧
      (2 ≤ votes ∨ auth = true → t.fld 0x070034 16 2 = typ ∧ t.fld 0x070034 8 8 = votes ∧ t.fld 0x070034 0 8 = taiUtc ∧ t.leapSec = l ∧ t.bit 0x070008 0 = true ∧
        (∀ n, n ∉ s.leapTargets → t.tbs[n] = s.tbs[n]) ∧
        (∀ n ∈ s.leapTargets, s.fld (tbReg n 0x78) 0 2 = 0 → l % 86400 = 0 → s.tbs[n].value + secU < l * secU → l * secU ≤ s.tbs[n].value + 366 * 86400 * secU →
          s.checkWrite (.core 0) (tbReg n 0x80) (BitVec.ofNat 32 l) = none → s.checkWrite (.core 0) (tbReg n 0x84) (BitVec.ofNat 32 (l / 2 ^ 32)) = none →
          s.checkWrite (.core 0) (tbReg n 0x78) (fset (s.rd (tbReg n 0x78)) 0 2 typ) = none →
          t.fld (tbReg n 0x78) 0 2 = typ ∧ t.tbs[n].leapAt = l))) ∧
  (∀ s : State, s.fld 0x070034 16 2 ≠ 0 →
    ∃ t, exec .gnssLeapWithdrawn s = .next t ∧ t.fld 0x070034 16 2 = 0 ∧ s.raised t 0x070008 2 ∧
      (∀ n ∈ s.leapTargets, s.fld (tbReg n 0x78) 0 2 ≠ 0 → s.tbs[n].value + secU < s.leapSec * secU → s.tbs[n].value + secU < s.tbs[n].leapAt * secU →
        s.checkWrite (.core 0) (tbReg n 0x78) (fset (s.rd (tbReg n 0x78)) 0 2 0) = none → t.fld (tbReg n 0x78) 0 2 = 0))

/-! ### Ports -/

/-- R232, R239, R242, R262: a frame with a good FCS on a port that carries frames is counted and, for an entry with an engine and a token, stamped and queued with its request; a bad one is only counted; a second copy on a pair is dropped; in TEST a PTP event message is logged; PAUSE and PFC act while PAUSE_HONOR is 1. -/
def Obligations.ReceivedFrames : Prop :=
  (∀ (p : Fin 16) (tap : Fin 512) (f : Frame) (s : State),
    ∃ t, exec (.frameReceive p tap f) s = .next t ∧
      ((s.portCarries p = false ∨ s.complexFenced (complexOf p) = true) → t = s) ∧
      (s.portCarries p = true → s.complexFenced (complexOf p) = false →
        ((f.fcsOk = false ∨ 2048 < f.length ∨ 64 < f.options) → t.rd (portReg p 0x134) = BitVec.ofNat 32 (min ((s.rd (portReg p 0x134)).toNat + 1) 0xFFFFFFFF) ∧
          State.regsBut [portReg p 0x134] s t ∧ s.keepsBut [.regs, .pmc] t) ∧
        (f.fcsOk = true → f.length ≤ 2048 → f.options ≤ 64 →
          let at' := if s.portRefined p then tap.val else 0
          t.rd (portReg p 0x104) = s.rd (portReg p 0x104) + 1 ∧ s.keepsBut (loopParts ++ [.ports, .svc, .pmc]) t ∧
          State.loopRegs ([0x80, 0x104, 0x130, 0x138].map (fun o => portReg p o) ++ (List.range 24).flatMap (fun k => [refReg k 4, refReg k 8, refReg k 0xC])) s t ∧
          (f.carried = .ntp ∨ f.carried = .lease → (s.pairSee p f).1 = true →
            t.rd (portReg p 0x138) = BitVec.ofNat 32 (min ((s.rd (portReg p 0x138)).toNat + 1) 0xFFFFFFFF) ∧ t.svc = s.svc ∧ s.keepsBut [.regs, .ports, .pmc] t) ∧
          (s.portState p = 5 → f.carried = .ptp → ptpType f.msg ≤ 3 → s.ports[p].calLog.length < 64 →
            t.ports[p].calLog = s.ports[p].calLog ++ [⟨true, ptpSeq f.msg, s.stampIn (s.stampTb p) at'⟩]) ∧
          (s.serving = true → f.carried = .ntp → (s.pairSee p f).1 = false → s.matchEntry p f = none →
            t.rd (portReg p 0x130) = BitVec.ofNat 32 (min ((s.rd (portReg p 0x130)).toNat + 1) 0xFFFFFFFF) ∧ t.svc = s.svc) ∧
          (∀ i c, s.serving = true → f.carried = .ntp → (s.pairSee p f).1 = false → s.matchEntry p f = some i → s.dispatchTo 1 = some c →
            (s.svc.jobs.filter (fun j => j.rx.cluster = c && classOf (s.plt.plot.svcKind j.rx.entry) = 1)).length < 512 →
            s.cellsUsed (complexOf p) + cells f.length ≤ s.cellsOf (complexOf p) → (s.admits p 1 f).1 = true →
            ∃ j, t.svc.jobs = s.svc.jobs ++ [j] ∧ j.fetch = none ∧ j.rx.frame = f ∧ j.rx.port = p.val ∧ j.rx.entry = i ∧ j.rx.cluster = c ∧ j.rx.tick = s.tick ∧
              j.rx.time = s.entTime i (s.stampIn (s.entTb i) at'))))) ∧
  (∀ (p : Fin 16) (queue : Option (Fin 8)) (quanta : Nat) (s : State),
    ∃ t, exec (.pauseFrameReceive p queue quanta) s = .next t ∧ ((s.portCarries p = false ∨ s.bit (portReg p 0) 11 = false) → t = s) ∧
      (s.portCarries p = true → s.bit (portReg p 0) 11 = true →
        let e := s.nowQ + quanta * 64 * byteQuanta (s.plt.plot.portMode p)
        t.ports = s.ports.set p (match queue with
          | none => { s.ports[p] with pauseEnd := e }
          | some k => { s.ports[p] with pfcEnd := Sparse.set (fun _ => 0) s.ports[p].pfcEnd k.val e }) ∧ s.keepsBut [.ports] t))

/-- R245, R247, R248, R250, R251: at its commit point a held frame that passes the checks is committed, and one that fails is charged to the counter of the check; an aborted frame is counted; past REGEN_MAX neither is built again; a departure is counted and frees the slot; a frame without a reservation leaves only when it may start. -/
def Obligations.ScheduledDepartures : Prop :=
  (∀ (p : Fin 16) (s : State), s.ports[p].held.filter (fun h => s.atCommit p h) = [] → exec (.commitPointCheck p) s = .next s) ∧
  (∀ (p : Fin 16) (h : Held) (s : State), s.ports[p].held.filter (fun h => s.atCommit p h) = [h] →
    ∃ t, exec (.commitPointCheck p) s = .next t ∧
      (s.releaseErr p h = none →
        t.ports[p].held = s.ports[p].held.map (fun x => if x = h then { x with committed := some ⟨s.watchInc (tbIx h.tb), s.armedBy (tbIx h.tb) (qTick h.depart)⟩ } else x) ∧
        State.regsBut [portReg p 8] s t ∧ (∀ q : Fin 16, q ≠ p → t.ports[q] = s.ports[q]) ∧ s.keepsBut [.regs, .ports] t) ∧
      (∀ e, s.releaseErr p h = some e → s.fld (portReg p 0) 13 3 ≤ h.rebuilds →
        t.ports[p].held = s.ports[p].held.filter (fun x => !decide (x = h)) ∧ s.raised t (portReg p 0xC) 0x10 ∧
        t.rd (portReg p (0x108 + 4 * e)) = BitVec.ofNat 32 (min ((s.rd (portReg p (0x108 + 4 * e))).toNat + 1) 0xFFFFFFFF) ∧
        t.rd (portReg p 0x128) = BitVec.ofNat 32 (min ((s.rd (portReg p 0x128)).toNat + 1) 0xFFFFFFFF) ∧
        State.regsBut [portReg p 8, portReg p 0xC, portReg p (0x108 + 4 * e), portReg p 0x128] s t ∧
        (∀ q : Fin 16, q ≠ p → t.ports[q] = s.ports[q]) ∧ s.keepsBut [.regs, .ports, .svc, .pmc, .irq] t)) ∧
  (∀ (p : Fin 16) (h : Held) (k : Committed) (s : State), s.ports[p].held = [h] → h.committed = some k → s.nowQ < h.depart →
    ∃ t, exec (.frameAbort p) s = .next t ∧ (s.mustAbort p h k = false → t = s) ∧
      (s.mustAbort p h k = true → s.fld (portReg p 0) 13 3 ≤ h.rebuilds →
        t.ports[p].held = [] ∧ s.raised t (portReg p 0xC) 0x10 ∧
        t.rd (portReg p 0x124) = BitVec.ofNat 32 (min ((s.rd (portReg p 0x124)).toNat + 1) 0xFFFFFFFF) ∧
        t.rd (portReg p 0x128) = BitVec.ofNat 32 (min ((s.rd (portReg p 0x128)).toNat + 1) 0xFFFFFFFF) ∧
        State.regsBut [portReg p 8, portReg p 0xC, portReg p 0x124, portReg p 0x128] s t ∧ s.keepsBut [.regs, .ports, .svc, .pmc, .irq] t)) ∧
  (∀ (p : Fin 16) (h : Held) (s : State), s.ports[p].held.filter (fun h => s.atDepart h) = [h] →
    ∃ t, exec (.frameDeparture p) s = .next t ∧ t.rd (portReg p 0x100) = s.rd (portReg p 0x100) + 1 ∧
      t.ports[p] = { s.ports[p] with held := s.ports[p].held.filter (fun x => !decide (x = h)), sent := some ⟨h.depart, h.msg, h.udp, true, h.trailer⟩ } ∧
      (t.ent h.entry).tx = (s.ent h.entry).tx + 1 ∧ State.regsBut [portReg p 8, portReg p 0x100] s t ∧
      (∀ q : Fin 16, q ≠ p → t.ports[q] = s.ports[q]) ∧ s.keepsBut [.regs, .ports, .svc, .pmc] t) ∧
  (∀ (p : Fin 16) (s : State),
    ∃ t, exec (.unreservedTransmit p) s = .next t ∧ (s.ports[p].waiting.filter (fun w => s.mayStart p w) = [] → t = s) ∧
      (∀ w, s.ports[p].waiting.filter (fun w => s.mayStart p w) = [w] → w.after = .nothing →
        let d := s.nowQ + 8 * byteQuanta (s.plt.plot.portMode p)
        t.ports[p] = { s.ports[p] with waiting := s.ports[p].waiting.erase w, wireEnd := d + (w.length + 12) * byteQuanta (s.plt.plot.portMode p), sent := some ⟨d, w.msg, 0, false, none⟩ } ∧
        (t.ent w.entry).tx = (s.ent w.entry).tx + 1 ∧ (∀ q : Fin 16, q ≠ p → t.ports[q] = s.ports[q]) ∧ s.keepsBut [.ports, .svc] t))

/-- R241, R258, R259 and Table 9.10: the port commands, the link, the timers, the idle time and a wake match take a port from state to state as the table says, each change setting STATE_CHG, and a command in another state fails with ERR_STATE, or SLEEP of a port not declared dormant with ERR_PLOT. -/
def Obligations.PortStates : Prop :=
  (∀ (m : Master) (p : Fin 16) (s : State), s.checkWrite m (portReg p 4) 1 = none →
    ∃ t, exec (.testEnter m p) s = .next t ∧ (s.portState p ≠ 4 → s.refuses t m .state (portReg p 4)) ∧
      (s.portState p = 4 → t.portState p = 5 ∧ s.raised t (portReg p 0xC) 8 ∧ State.onlyPort p [portReg p 8, portReg p 0xC, 0x100008] s t)) ∧
  (∀ (m : Master) (p : Fin 16) (s : State), s.checkWrite m (portReg p 4) 2 = none →
    ∃ t, exec (.testExit m p) s = .next t ∧ (s.portState p ≠ 5 → s.refuses t m .state (portReg p 4)) ∧
      (s.portState p = 5 → t.ports[p].calRun = none ∧
        (s.ports[p].retrain = false → t.ports[p].testExit = some s.tick ∧ s.keepsBut [.ports] t) ∧
        (s.ports[p].retrain = true → s.portLink p = true → t.portState p = 2 ∧ t.portLink p = false ∧ t.ports[p].retrain = false) ∧
        State.onlyPort p [portReg p 8, portReg p 0xC, 0x100008] s t)) ∧
  (∀ (m : Master) (p : Fin 16) (s : State), s.checkWrite m (portReg p 4) 3 = none →
    ∃ t, exec (.portSleep m p) s = .next t ∧ (s.portState p ≤ 1 → s.refuses t m .state (portReg p 4)) ∧
      (2 ≤ s.portState p → s.plt.plot.portDormant p = false → s.refuses t m .plot (portReg p 4)) ∧
      (2 ≤ s.portState p → s.plt.plot.portDormant p = true → t.portState p = 1 ∧ t.portLink p = false ∧ t.bit (portReg p 0xC) 3 = true ∧
        t.ports[p].served = false ∧ State.onlyPort p [portReg p 8, portReg p 0xC, 0x100008] s t)) ∧
  (∀ (m : Master) (p : Fin 16) (s : State), s.checkWrite m (portReg p 4) 4 = none →
    ∃ t, exec (.portWake m p) s = .next t ∧ (s.portState p ≠ 1 → s.refuses t m .state (portReg p 4)) ∧
      (s.portState p = 1 → t.portState p = 2 ∧ s.raised t (portReg p 0xC) 8 ∧ State.onlyPort p [portReg p 8, portReg p 0xC, 0x100008] s t)) ∧
  (∀ (p : Fin 16) (s : State),
    let able := s.portState p = 2 ∧ s.portLink p = false ∧ s.complexFenced (complexOf p) = false ∧ s.plt.plot.portMode p ≠ 0
    ∃ t, exec (.portLinkUp p) s = .next t ∧ (¬ able → t = s) ∧
      (able → t.portState p = (if s.ports[p].served then 6 else 3) ∧ t.portLink p = true ∧ t.bit (portReg p 0xC) 0 = true ∧ t.bit (portReg p 0xC) 3 = true ∧
        t.ports[p].timer = some (s.tick + (s.rd (portReg p (if s.ports[p].served then 0x2C else 0x28))).toNat * ticksPerMs) ∧
        State.regsBut ([portReg p 8, portReg p 0xC, 0x100008] ++ (List.range 32).map (fun c => calReg c 0)) s t ∧
        (∀ q : Fin 16, q ≠ p → t.ports[q] = s.ports[q]) ∧ s.keepsBut [.regs, .ports, .cals, .irq] t)) ∧
  (∀ (p : Fin 16) (s : State),
    ∃ t, exec (.portLinkDown p) s = .next t ∧ (s.portLink p = false → t = s) ∧
      (s.portLink p = true → t.portLink p = false ∧ t.bit (portReg p 0xC) 1 = true ∧ t.portState p = (if s.portState p ≤ 1 then s.portState p else 2) ∧
        State.onlyPort p [portReg p 8, portReg p 0xC, 0x100008] s t)) ∧
  (∀ (p : Fin 16) (d : Nat) (s : State),
    let v := s.ports[p].serviceAt.getD (nextCycle (s.rd (portReg p 0x4C)).toNat s.ports[p].operBase s.tbs[s.stampTb p].value)
    (s.portState p = 3 ∨ s.portState p = 6) ∧ s.ports[p].timer = some d ∨ s.portState p = 5 ∧ s.ports[p].testExit.map (· + ticksPerMs) = some d →
    ∃ t, exec (.portStartTimerExpire p) s = .next t ∧ (s.tick < d → t = s) ∧
      (d ≤ s.tick → s.tbs[s.stampTb p].value < v → t.ports[p] = { s.ports[p] with serviceAt := some v } ∧ s.keepsBut [.ports] t) ∧
      (d ≤ s.tick → v ≤ s.tbs[s.stampTb p].value → t.portState p = 4 ∧ s.raised t (portReg p 0xC) 8 ∧ t.ports[p].served = true) ∧
      State.onlyPort p [portReg p 8, portReg p 0xC, 0x100008] s t) ∧
  (∀ (p : Fin 16) (s : State),
    let n := (s.rd (portReg p 0x30)).toNat
    let idle := s.portState p = 4 ∧ n ≠ 0 ∧ s.plt.plot.portDormant p = true ∧ s.ports[p].lastService + n * ticksPerS ≤ s.tick ∧ s.ports[p].held = []
    ∃ t, exec (.portDormIdleExpire p) s = .next t ∧ (¬ idle → t = s) ∧
      (idle → t.portState p = 1 ∧ t.portLink p = false ∧ t.ports[p].served = false ∧ State.onlyPort p [portReg p 8, portReg p 0xC, 0x100008] s t)) ∧
  (∀ (p : Fin 16) (f : Frame) (s : State),
    ∃ t, exec (.wakePatternMatch p f) s = .next t ∧ (s.portState p ≠ 1 ∨ s.wakes p f = false → t = s) ∧
      (s.portState p = 1 → s.wakes p f = true → t.portState p = 2 ∧ t.bit (portReg p 0xC) 2 = true ∧ t.bit (portReg p 0xC) 3 = true ∧ t.svc = s.svc ∧
        State.onlyPort p [portReg p 8, portReg p 0xC, 0x100008] s t))

/-- R244: PORTn_DEP_LEAD reads 1,200 ns after reset; a master that may write it sets it to any value from 1,200 to 100,000 ns that the plot's limits admit, and to nothing else; a lower or higher value fails with ERR_RANGE. -/
def Obligations.DepartureLeadRange : Prop :=
  (∀ p : Fin 16, State.reset.rd (portReg p 0x24) = 1200) ∧
  (∀ (m : Master) (p : Fin 16) (off : Fin 16777216) (v : Word) (s : State),
    off.val = portReg p 0x24 → s.pair m.idx = none → (∃ good, s.checkWrite m off.val good = none) →
    ∃ t, exec (.registerWrite m off v) s = .next t ∧
      (1200 ≤ v.toNat ∧ v.toNat ≤ 100000 → s.plt.plot.inLimits off.val v.toNat = true → t.rd off.val = v ∧ State.onlyRegs [off.val] s t) ∧
      (v.toNat < 1200 ∨ 100000 < v.toNat → s.refuses t m .range off.val))

/-- R241, R242, R257, R262, R289: GCL_ARM copies the admin list and fixes the first of its cycle starts from the instant on, GCL_CANCEL takes the swap back, and the swap makes the list operative; the calibration commands, their frames, log and adjustments; the life of pair entries; the refill of the token buckets. -/
def Obligations.GateListsCalibrationPairs : Prop :=
  (∀ (m : Master) (p : Fin 16) (s : State), s.checkWrite m (portReg p 4) 5 = none →
    let at' := s.timeAt (portReg p 0x50)
    let cyc := (s.rd (portReg p 0x44)).toNat
    ∃ t, exec (.gclArm m p) s = .next t ∧ (s.ports[p].gcl ≠ none → s.refuses t m .busy (portReg p 4)) ∧
      (s.ports[p].gcl = none → badInstant s.tbs[s.stampTb p].value at' = true → s.refuses t m .time (portReg p 4)) ∧
      (s.ports[p].gcl = none → badInstant s.tbs[s.stampTb p].value at' = false → 0 < cyc →
        t.bit (portReg p 8) 26 = true ∧ State.regsBut [portReg p 8] s t ∧ s.keepsBut [.regs, .ports] t ∧
        ∃ v, at' ≤ v ∧ v < at' + cyc * 2 ^ 56 ∧ ((cyc * 2 ^ 56 : Nat) : Int) ∣ (v : Int) - (s.timeAt (portReg p 0x60) : Int) ∧
          t.ports = s.ports.set p { s.ports[p] with gcl := some ⟨(List.range (s.rd (portReg p 0x48)).toNat).map (fun k => s.rd (portReg p (0x400 + 4 * k))), cyc, s.timeAt (portReg p 0x60), v⟩ })) ∧
  (∀ (m : Master) (p : Fin 16) (s : State), s.checkWrite m (portReg p 4) 6 = none →
    ∃ t, exec (.gclCancel m p) s = .next t ∧ (s.ports[p].gcl = none → s.refuses t m .state (portReg p 4)) ∧
      (s.ports[p].gcl ≠ none → t.ports = s.ports.set p { s.ports[p] with gcl := none } ∧ t.bit (portReg p 8) 26 = false ∧
        State.regsBut [portReg p 8] s t ∧ s.keepsBut [.regs, .ports] t)) ∧
  (∀ (p : Fin 16) (s : State),
    ∃ t, exec (.gclSwap p) s = .next t ∧ (s.ports[p].gcl = none → t = s) ∧
      (∀ g, s.ports[p].gcl = some g → s.tbs[s.stampTb p].value < g.swapAt → t = s) ∧
      (∀ g, s.ports[p].gcl = some g → g.swapAt ≤ s.tbs[s.stampTb p].value → g.gates.length ≤ 256 →
        (∀ (k : Nat) (w : Word), g.gates[k]? = some w → t.rd (portReg p (0x800 + 4 * k)) = w) ∧ t.rd (portReg p 0x4C) = BitVec.ofNat 32 g.cycle ∧
        t.fld (portReg p 0x40) 16 9 = g.gates.length ∧ t.bit (portReg p 8) 26 = false ∧ s.raised t (portReg p 0xC) 0x20 ∧
        t.ports = s.ports.set p { s.ports[p] with gcl := none, operBase := g.base } ∧
        State.regsBut ([portReg p 8, portReg p 0xC, portReg p 0x40, portReg p 0x4C] ++ (List.range g.gates.length).map (fun k => portReg p (0x800 + 4 * k))) s t ∧
        s.keepsBut [.regs, .ports, .irq] t)) ∧
  (∀ (m : Master) (p : Fin 16) (s : State), s.checkWrite m (portReg p 4) 7 = none →
    ∃ t, exec (.calSend m p) s = .next t ∧ (s.portState p ≠ 5 → s.refuses t m .state (portReg p 4)) ∧
      (s.portState p = 5 → t.ports = s.ports.set p { s.ports[p] with calRun := some (s.fld (portReg p 0x80) 16 16, s.tick, 0) } ∧ s.keepsBut [.ports] t)) ∧
  (∀ (p : Fin 16) (left due seq : Nat) (s : State), s.ports[p].calRun = some (left, due, seq) → s.portState p = 5 →
    ∃ t, exec (.calFrameTransmit p) s = .next t ∧ (s.tick < due → t = s) ∧
      (due ≤ s.tick → (∃ w, t.ports[p].waiting = s.ports[p].waiting ++ [w] ∧ w.after = .calLog (seq % 65536) ∧ ptpType w.msg = 1 ∧ ptpSeq w.msg = seq % 65536) ∧
        (left ≤ 1 → t.ports[p].calRun = none ∧ s.raised t (portReg p 0xC) 0x80) ∧
        (1 < left → t.ports[p].calRun = some (left - 1, due + ticksPerMs, seq + 1) ∧ s.keepsBut [.ports] t) ∧ State.onlyPort p [portReg p 0xC] s t)) ∧
  (∀ (m : Master) (p : Fin 16) (s : State), s.checkRead m (portReg p 0x84) = none → s.plt.plot.portPresent p = true →
    ∃ t, exec (.portCalTagRead m p) s = .next t ∧ (s.ports[p].calLog = [] → t.answerOf m.idx = 0 ∧ s.keepsBut [.resp] t) ∧
      (∀ e l, s.ports[p].calLog = e :: l → t.answerOf m.idx = BitVec.ofNat 32 (0x80000000 + (if e.rx then 0x40000000 else 0) + e.seq % 65536) ∧
        (∀ i w, (timeWords e.stamp)[i]? = some w → t.hget m.idx (portReg p (0x88 + 4 * i)) = w) ∧
        t.ports = s.ports.set p { s.ports[p] with calLog := l } ∧ t.fld (portReg p 0x80) 0 7 = l.length % 128 ∧ t.bit (portReg p 0x80) 7 = false ∧
        State.regsBut [portReg p 0x80] s t ∧ s.keepsBut [.regs, .held, .resp, .ports] t)) ∧
  (∀ (m : Master) (p : Fin 16) (i : Fin 3) (v : Word) (s : State), s.checkWrite m (portReg p (0x18 + 4 * i.val)) v = none →
    let off := portReg p (0x18 + 4 * i.val)
    let lim := if i = 2 then 10000000 else 1000000
    let open' := s.portState p = 1 ∨ s.portState p = 2 ∨ s.portState p = 5
    ∃ t, exec (.portCalAdjWrite m p i v) s = .next t ∧ (lim < v.toInt.natAbs → s.refuses t m .range off) ∧
      (v.toInt.natAbs ≤ lim → ¬ open' → s.refuses t m .state off) ∧
      (v.toInt.natAbs ≤ lim → open' → t.rd off = v ∧ State.regsBut [off] s t ∧ s.keepsBut [.regs, .ports] t ∧
        (t.ports = if s.portState p = 5 ∧ s.rd off ≠ v then s.ports.set p { s.ports[p] with retrain := true } else s.ports))) ∧
  (∀ (p : Fin 16) (s : State),
    let home := s.pairHome p
    let gone := fun (e : PairEntry) => decide (e.tick + (s.rd (portReg e.lane 0x38)).toNat * ticksPerMs ≤ s.tick)
    ∃ t, exec (.pairEntryExpire p) s = .next t ∧ t.ports = s.ports.set home { s.ports[home] with pairs := s.ports[home].pairs.filter (fun e => !gone e) } ∧
      ((∀ e ∈ s.ports[home].pairs, gone e = true → e.both = true) → s.keepsBut [.ports] t) ∧
      (∀ e o, s.ports[home].pairs.filter gone = [e] → e.both = false → s.portPartner e.lane = some o →
        t.rd (portReg o 0x13C) = BitVec.ofNat 32 (min ((s.rd (portReg o 0x13C)).toNat + 1) 0xFFFFFFFF) ∧ s.raised t (portReg o 0xC) 0x40 ∧
        State.regsBut [portReg o 0xC, portReg o 0x13C] s t) ∧
      s.keepsBut [.regs, .ports, .pmc, .irq] t) ∧
  (∀ s : State, ∃ t, exec .tokenRefill s = .next t ∧ s.keepsBut [.svc] t ∧ t.svc = { s.svc with buckets := t.svc.buckets, base := t.svc.base } ∧
    (∀ k, 1 ≤ k / 2 ^ 18 % 4 → k / 2 ^ 18 % 4 ≤ 2 → ∀ n x, Sparse.get (fun _ => none) s.svc.buckets k = some (n, x) →
      let rate := s.fld (0x09000C + 4 * (k / 2 ^ 18 % 4)) 16 16
      let full := s.fld (0x09000C + 4 * (k / 2 ^ 18 % 4)) 8 8 * 1250000000
      Sparse.get (fun _ => none) t.svc.buckets k = some (if full ≤ n then n else min (n + rate * (s.tick - x)) full, s.tick)) ∧
    (∀ k, k / 2 ^ 18 % 4 = 0 ∨ k / 2 ^ 18 % 4 = 3 → Sparse.get (fun _ => none) t.svc.buckets k = Sparse.get (fun _ => none) s.svc.buckets k) ∧
    (∀ k, 1 ≤ k → k ≤ 2 → ∀ n x, s.svc.base[k]? = some (n, x) →
      let rate := s.fld (0x09000C + 4 * k) 16 16
      let full := s.fld (0x09000C + 4 * k) 8 8 * 1250000000
      t.svc.base[k]? = some (if full ≤ n then n else min (n + rate * (s.tick - x)) full, s.tick)))

/-! ### The time service -/

/-- R266 to R271, R277, R280, R285 to R287: an engine takes the oldest request of its kind and answers it: an NTP response is scheduled with the origin, receive and transmit times of R271; a Delay_Resp, a two-step Pdelay_Resp and a grant leave without a reservation; a request that is unsupported or has no slot is counted; a negotiation grants or denies; a fetched blob lets the requests that waited for it go on or drops them. -/
def Obligations.ResponsesOfTheEngines : Prop :=
  (∀ (pcs : Pcs) (build : Nat) (s : State), s.takeJob (fun rx => rx.frame.carried = .ntp) = none → exec (.ntpRequest pcs build) s = .next s) ∧
  (∀ (pcs : Pcs) (build : Nat) (j : Job) (s s1 : State), s.takeJob (fun rx => rx.frame.carried = .ntp) = some (j, s1) → s.portPartner (laneIx j.rx.port) = none →
    let p := laneIx j.rx.port
    let m := j.rx.frame.msg
    let usable := beNat (slice m 0 1) % 8 = 3 ∧ (beNat (slice m 0 1) / 8 % 8 = 3 ∨ beNat (slice m 0 1) / 8 % 8 = 4) ∧ j.rx.frame.interleaved = false
    ∃ t, exec (.ntpRequest pcs build) s = .next t ∧ t.svc.jobs = s.svc.jobs.erase j ∧
      ((s1.setPcs p pcs).canReserve j (.ntp j.rx) = false → j.fetched = false →
        t.rd (portReg p 0x12C) = BitVec.ofNat 32 (min ((s.rd (portReg p 0x12C)).toNat + 1) 0xFFFFFFFF) ∧ t.ports[p].held = s.ports[p].held ∧
        State.regsBut [portReg p 0x12C] s t ∧ s.keepsBut [.regs, .ports, .svc, .pmc] t) ∧
      ((s1.setPcs p pcs).canReserve j (.ntp j.rx) = true → m.length = 48 → ¬ usable →
        (t.ent j.rx.entry).unsup = (s.ent j.rx.entry).unsup + 1 ∧ t.ports[p].held = s.ports[p].held ∧ s.keepsBut [.ports, .svc] t) ∧
      ((s1.setPcs p pcs).canReserve j (.ntp j.rx) = true → m.length = 48 → usable → (s.ent j.rx.entry).auth ≠ 2 →
        (∃ h, t.ports[p].held = s.ports[p].held ++ [h] ∧ h.work = .ntp j.rx ∧ h.committed = none ∧ h.ready = s.tick + build ∧
          beNat (slice h.msg 0 1) % 8 = 4 ∧ beNat (slice h.msg 0 1) / 8 % 8 = beNat (slice m 0 1) / 8 % 8 ∧ slice h.msg 24 8 = slice m 40 8 ∧
          slice h.msg 32 8 = ntpStamp j.rx.time ∧ slice h.msg 40 8 = ntpStamp (s.entAt j.rx.entry h.depart)) ∧
        State.regsBut [portReg p 8, 0x090008] s t ∧ s.keepsBut [.regs, .ports, .svc, .irq] t)) ∧
  (∀ (build : Nat) (s : State), s.takeJob (isPtpType 1) = none → exec (.delayReqReceive build) s = .next s) ∧
  (∀ (build : Nat) (j : Job) (s s0 : State), s.takeJob (isPtpType 1) = some (j, s0) → (s.ent j.rx.entry).auth = 0 → 44 ≤ j.rx.frame.msg.length →
    let p := laneIx j.rx.port
    ∃ t, exec (.delayReqReceive build) s = .next t ∧ t.svc.jobs = s.svc.jobs.erase j ∧ State.regsBut [0x090024] s t ∧ s.keepsBut [.regs, .ports, .svc] t ∧
      ((s.ent j.rx.entry).p2p = true → (t.ent j.rx.entry).unsup = (s.ent j.rx.entry).unsup + 1 ∧ t.ports = s.ports) ∧
      ((s.ent j.rx.entry).p2p = false → (s0.sessionSeen j.rx).delayGranted j.rx = false → t.ports = s.ports) ∧
      ((s.ent j.rx.entry).p2p = false → (s0.sessionSeen j.rx).delayGranted j.rx = true →
        ∃ w, t.ports[p].waiting = s.ports[p].waiting ++ [w] ∧ w.ready = s.tick + build ∧ ptpType w.msg = 9 ∧ ptpSeq w.msg = ptpSeq j.rx.frame.msg ∧
          slice w.msg 34 10 = ptpStamp j.rx.time ∧ slice w.msg 44 10 = slice j.rx.frame.msg 20 10)) ∧
  (∀ (pcs : Pcs) (build : Nat) (s : State), s.takeJob (isPtpType 2) = none → exec (.pdelayReqReceive pcs build) s = .next s) ∧
  (∀ (pcs : Pcs) (build : Nat) (j : Job) (s s0 : State), s.takeJob (isPtpType 2) = some (j, s0) → (s.ent j.rx.entry).auth = 0 → 44 ≤ j.rx.frame.msg.length →
    let p := laneIx j.rx.port
    ∃ t, exec (.pdelayReqReceive pcs build) s = .next t ∧ t.svc.jobs = s.svc.jobs.erase j ∧
      ((s.ent j.rx.entry).p2p = false → (t.ent j.rx.entry).unsup = (s.ent j.rx.entry).unsup + 1) ∧
      ((s.ent j.rx.entry).p2p = true → s.plt.plot.twoStep j.rx.entry = true → State.regsBut [0x090024] s t ∧ s.keepsBut [.regs, .ports, .svc] t ∧
        ∃ w, t.ports[p].waiting = s.ports[p].waiting ++ [w] ∧ w.after = .pdelayFollowUp j.rx ∧ ptpType w.msg = 3 ∧ ptpSeq w.msg = ptpSeq j.rx.frame.msg ∧
          slice w.msg 34 10 = ptpStamp j.rx.time ∧ slice w.msg 44 10 = slice j.rx.frame.msg 20 10)) ∧
  (∀ (build : Nat) (j : Job) (body : List Byte) (k : Fin 3) (s s0 : State),
    s.takeJob (fun rx => isPtpType 12 rx && (msgTlvs rx.frame.msg).any (fun x => x.1 = 4)) = some (j, s0) → (s.ent j.rx.entry).auth = 0 → 44 ≤ j.rx.frame.msg.length →
    msgTlvs j.rx.frame.msg = [(4, body)] → 6 ≤ body.length → grantKind (beNat (slice body 0 1) / 16) = some k →
    let p := laneIx j.rx.port
    let l := signed 8 (beNat (slice body 1 1))
    let d := min (max (beNat (slice body 2 4)) 10) 1000
    let refused := (s0.admits p 2 j.rx.frame).1 = false ∨ l < (s.ent j.rx.entry).minLog k
    ∃ t, exec (.requestUnicastTransmission build) s = .next t ∧ t.svc.jobs = s.svc.jobs.erase j ∧
      (refused → (t.ent j.rx.entry).grantDeny = (s.ent j.rx.entry).grantDeny + 1 ∧
        ∃ w, t.ports[p].waiting = s.ports[p].waiting ++ [w] ∧ ptpType w.msg = 12 ∧ beNat (slice w.msg 44 2) = 5 ∧ beNat (slice w.msg 50 4) = 0) ∧
      (¬ refused → k = 0 → ∀ i, (∃ x, s.sessionOf j.rx = some (i, x)) ∨ s.sessionOf j.rx = none ∧ s.freeSlot j.rx = some i →
        (∃ y, t.session i = some y ∧ y.isOf j.rx = true ∧ y.annExp = j.rx.sec0 + d + 1 ∧ y.annLog = l) ∧ (t.ent j.rx.entry).grantDeny = (s.ent j.rx.entry).grantDeny ∧
        ∃ w, t.ports[p].waiting = s.ports[p].waiting ++ [w] ∧ ptpType w.msg = 12 ∧ beNat (slice w.msg 44 2) = 5 ∧ beNat (slice w.msg 50 4) = d) ∧
      (¬ refused → s.sessionOf j.rx = none → s.freeSlot j.rx = none → k = 0 →
        (t.ent j.rx.entry).grantDeny = (s.ent j.rx.entry).grantDeny + 1 ∧ s.raised t 0x090008 8 ∧
        t.rd 0x090028 = BitVec.ofNat 32 (min ((s.rd 0x090028).toNat + 1) 0xFFFFFFFF)) ∧
      State.regsBut [0x090008, 0x090024, 0x090028] s t ∧ s.keepsBut [.regs, .ports, .svc, .pmc, .irq] t) ∧
  (∀ (build : Nat) (j : Job) (body : List Byte) (k : Fin 3) (i : Nat) (x : Session) (s s0 : State),
    s.takeJob (fun rx => isPtpType 12 rx && (msgTlvs rx.frame.msg).any (fun x => x.1 = 6)) = some (j, s0) → (s.ent j.rx.entry).auth = 0 → 44 ≤ j.rx.frame.msg.length →
    msgTlvs j.rx.frame.msg = [(6, body)] → 1 ≤ body.length → grantKind (beNat (slice body 0 1) / 16) = some k → s.sessionOf j.rx = some (i, x) →
    let p := laneIx j.rx.port
    ∃ t, exec (.cancelUnicastTransmission build) s = .next t ∧ t.svc.jobs = s.svc.jobs.erase j ∧
      (∀ y, t.session i = some y → ∀ g, y.exp g = if g = k then 0 else x.exp g) ∧ ((∀ g, g ≠ k → x.exp g = 0) → t.session i = none) ∧
      (∃ w, t.ports[p].waiting = s.ports[p].waiting ++ [w] ∧ ptpType w.msg = 12 ∧ beNat (slice w.msg 44 2) = 7) ∧
      State.regsBut [0x090024] s t ∧ s.keepsBut [.regs, .ports, .svc] t) ∧
  (∀ (a b : List Byte) (s : State), s.svc.fetching = [] → exec (.blobFetchDone a b) s = .next s) ∧
  (∀ (a b : List Byte) (n : KeyName) (l : List KeyName) (s : State), s.svc.fetching = n :: l →
    let best := bestCopy (s.checkCopy a (some n)) (s.checkCopy b (some n))
    ∃ t, exec (.blobFetchDone a b) s = .next t ∧ t.svc.fetching = l ∧
      (∀ c inB, best.1 = some (c, inB) → (∀ j ∈ s.svc.jobs, j.fetch = some n → j.woke = true) →
        t.svc.jobs = s.svc.jobs.map (fun j => if j.fetch = some n then { j with fetch := none, fetched := true } else j) ∧
        (∃ x, t.key.cache.getLast? = some x ∧ x.name = n ∧ x.key = c.key ∧ x.lineage = s.lineage n) ∧ s.keepsBut [.svc, .key, .fv] t) ∧
      (best.1 = none → t.svc.jobs = s.svc.jobs.filter (fun j => !decide (j.fetch = some n)) ∧ t.fld 0x0A0004 8 8 = best.2.code ∧ s.raised t 0x0A0008 0x20 ∧
        t.rd 0x0A00E0 = BitVec.ofNat 32 (min ((s.rd 0x0A00E0).toNat + 1) 0xFFFFFFFF) ∧
        State.regsBut [0x0A0004, 0x0A0008, 0x0A00E0] s t ∧ s.keepsBut [.regs, .svc, .pmc, .irq] t))

/-- R250, R252, R280, R287, R288, R293: a two-step Sync to a port or to a session slot leaves at its nominal instant with the next sequenceId and a Follow_Up behind it; Pdelay_Req, ESMC PDUs and the messages of a reference slot; a grant that TB0 has outrun lapses, and a slot without a grant is free; a Delay_Resp gives the mean path delay of its slot. -/
def Obligations.MessagesOnTheirOwnInstants : Prop :=
  (∀ (i : Nat) (p : Fin 16) (ann : Bool) (pcs : Pcs) (build : Nat) (s : State),
    let l := (s.ent i).logSync
    let v := s.tbs[s.entTb i].value
    let seq := Sparse.get (fun _ => 0) s.ports[p].seqIds (4 * i)
    let due := dueIndex l 0 v (Sparse.get (fun _ => 0) s.ports[p].lastIndex (4 * i))
    ∃ t, exec (.multicastMessageSend i p ann pcs build) s = .next t ∧ (s.mcastOk i p = false → t = s) ∧
      (s.mcastOk i p = true → ann = false → nearEnough v (nominalOf l 0 due.1) = false → due.2 = false →
        t.ports[p].waiting = s.ports[p].waiting ∧ t.ports[p].held = s.ports[p].held ∧ s.keepsBut [.ports] t) ∧
      (∀ c, s.mcastOk i p = true → ann = false → nearEnough v (nominalOf l 0 due.1) = true → due.2 = false → s.dispatchTo 2 = some c →
        s.plt.plot.twoStep i = true → (s.ent i).auth = 0 →
        Sparse.get (fun _ => 0) t.ports[p].seqIds (4 * i) = (seq + 1) % 65536 ∧ Sparse.get (fun _ => 0) t.ports[p].lastIndex (4 * i) = due.1 ∧
        (∃ w, t.ports[p].waiting = s.ports[p].waiting ++ [w] ∧ ptpType w.msg = 0 ∧ ptpSeq w.msg = seq % 65536 ∧ w.after = .followUp i none seq) ∧ s.keepsBut [.ports] t)) ∧
  (∀ (i c : Nat) (p : Fin 16) (pcs : Pcs) (build : Nat) (s : State), s.mcastOk i p = true → s.dispatchTo 2 = some c → (s.ent i).auth = 0 → s.portPartner p = none →
    let l := (s.ent i).logAnn
    let v := s.tbs[s.entTb i].value
    let seq := Sparse.get (fun _ => 0) s.ports[p].seqIds (4 * i + 1)
    let due := dueIndex l 0 v (Sparse.get (fun _ => 0) s.ports[p].lastIndex (4 * i + 1))
    nearEnough v (nominalOf l 0 due.1) = true → due.2 = false →
    ∃ t, exec (.multicastMessageSend i p true pcs build) s = .next t ∧ Sparse.get (fun _ => 0) t.ports[p].seqIds (4 * i + 1) = (seq + 1) % 65536 ∧
      ((∃ h, t.ports[p].held = s.ports[p].held ++ [h] ∧ h.work = .announce i p none (nominalOf l 0 due.1) seq ∧ ptpType h.msg = 11 ∧ ptpSeq h.msg = seq % 65536 ∧
          slice h.msg 34 10 = ptpStamp (s.entAt i h.depart) ∧ t.rd (portReg p 0x12C) = s.rd (portReg p 0x12C)) ∨
        t.ports[p].held = s.ports[p].held ∧ t.rd (portReg p 0x12C) = BitVec.ofNat 32 (min ((s.rd (portReg p 0x12C)).toNat + 1) 0xFFFFFFFF)) ∧
      State.regsBut [portReg p 8, portReg p 0x12C] s t ∧ s.keepsBut [.regs, .ports, .svc, .pmc] t) ∧
  (∀ (j : Nat) (ann : Bool) (pcs : Pcs) (build : Nat) (s : State), s.session j = none → exec (.unicastMessageSend j ann pcs build) s = .next s) ∧
  (∀ (j : Nat) (x : Session) (pcs : Pcs) (build : Nat) (s : State), s.session j = some x →
    let p := laneIx x.port
    let v := s.tbs[s.entTb x.entry].value
    let due := dueIndex x.syncLog j v x.syncIdx
    ∃ t, exec (.unicastMessageSend j false pcs build) s = .next t ∧ (x.syncExp = 0 ∨ s.portCarries p = false → t = s) ∧
      (∀ c, x.syncExp ≠ 0 → s.portCarries p = true → nearEnough v (nominalOf x.syncLog j due.1) = true → due.2 = false → s.dispatchTo 2 = some c →
        s.plt.plot.twoStep x.entry = true → (s.ent x.entry).auth = 0 →
        t.session j = some { x with syncIdx := due.1, syncSeq := (x.syncSeq + 1) % 65536 } ∧
        (∃ w, t.ports[p].waiting = s.ports[p].waiting ++ [w] ∧ ptpType w.msg = 0 ∧ ptpSeq w.msg = x.syncSeq % 65536 ∧ w.after = .followUp x.entry (some j) x.syncSeq) ∧
        State.regsBut [0x090024] s t ∧ s.keepsBut [.regs, .ports, .svc] t)) ∧
  (∀ (i : Nat) (p : Fin 16) (build : Nat) (s : State),
    let seq := Sparse.get (fun _ => 0) s.ports[p].seqIds (4 * i + 2)
    ∃ t, exec (.pdelayReqSend i p build) s = .next t ∧ (s.mcastOk i p = false ∨ (s.ent i).p2p = false → t = s) ∧
      (∀ c, s.mcastOk i p = true → (s.ent i).p2p = true → s.dispatchTo 2 = some c → (s.ent i).auth = 0 →
        t.ports[p].pdelaySeq = some seq ∧ t.ports[p].asCapable = (s.ports[p].asCapable && s.ports[p].pdelaySeq.isNone) ∧
        (∃ w, t.ports[p].waiting = s.ports[p].waiting ++ [w] ∧ ptpType w.msg = 2 ∧ ptpSeq w.msg = seq % 65536 ∧ w.ready = s.tick + build) ∧
        (∀ q : Fin 16, q ≠ p → t.ports[q] = s.ports[q]) ∧ s.keepsBut [.ports] t)) ∧
  (∀ (i : Nat) (p : Fin 16) (build : Nat) (s : State),
    let able := i < s.plt.plot.svcCount ∧ s.plt.plot.svcKind i = 6 ∧ (s.plt.plot.svcPorts i).testBit p = true ∧ s.portCarries p = true
    let last := Sparse.get (fun _ => 0) (s.ent i).esmcAt p.val
    ∃ t, exec (.esmcPduSend i p build) s = .next t ∧ (¬ able → t = s) ∧
      ((s.ent i).esmcDue.contains p.val = false → last ≠ 0 → s.tick < last + ticksPerS → t = s) ∧
      (∀ c, able → s.dispatchTo 3 = some c → (s.ent i).esmcDue.contains p.val = true ∨ last = 0 ∨ last + ticksPerS ≤ s.tick →
        (∃ w, t.ports[p].waiting = s.ports[p].waiting ++ [w] ∧ slice w.msg 0 4 = [0x0A, 0x00, 0x19, 0xA7] ∧
          slice w.msg 13 1 = [BitVec.ofNat 8 (if s.complexFenced (complexOf p) || !s.serving then 0xF else fget (s.ent i).cfg 20 4)]) ∧
        (t.ent i).esmcDue.contains p.val = false ∧ (∀ q : Fin 16, q ≠ p → t.ports[q] = s.ports[q]) ∧ s.keepsBut [.ports, .svc] t)) ∧
  (∀ (j : Nat) (s : State), s.session j = none → exec (.grantLapse j) s = .next s) ∧
  (∀ (j : Nat) (x : Session) (s : State), s.session j = some x →
    ∃ t, exec (.grantLapse j) s = .next t ∧ ((∀ k, s.lapsed x k = false) → t = s) ∧
      (∀ y, t.session j = some y → ∀ k, y.exp k = if s.lapsed x k then 0 else x.exp k) ∧
      ((∃ k, s.lapsed x k = true) → (∀ k, s.lapsed x k = true ∨ x.exp k = 0) → t.session j = none) ∧
      (∀ i, i ≠ j → t.session i = s.session i) ∧ State.regsBut [0x090024] s t ∧ s.keepsBut [.regs, .svc] t) ∧
  (∀ s : State, s.svc.refRx = [] → exec .ptpReferenceMessage s = .next s) ∧
  (∀ (rx : Rx) (l : List Rx) (k : Fin 24) (s : State), s.svc.refRx = rx :: l → s.ptpSlots rx.port = [k] → fget s.svc.prefs[k].cfg 24 1 = 0 →
    let q := s.svc.prefs[k]
    let m := rx.frame.msg
    ∃ t, exec .ptpReferenceMessage s = .next t ∧ t.svc.refRx = l ∧
      ((s.prefOk k rx).1 = false → t.svc.prefs = s.svc.prefs ∧ s.keepsBut [.svc] t) ∧
      ((s.prefOk k rx).1 = true → ptpType m = 0 → (ptpFlags m).testBit 9 = true →
        t.svc.prefs[k].sync = some (ptpSeq m, (rx.time : Int), corrU (ptpCorr m), seqGap s.refs[k].seqId (ptpSeq m)) ∧ t.refs[k].seqId = some (ptpSeq m)) ∧
      (∀ t2 c gap, (s.prefOk k rx).1 = true → ptpType m = 8 → q.sync = some (ptpSeq m, t2, c, gap) →
        t.svc.prefs[k].sync = none ∧ t.svc.prefs[k].t1 = ptpBody m + c + corrU (ptpCorr m) ∧ t.svc.prefs[k].t2 = t2) ∧
      (∀ t3, (s.prefOk k rx).1 = true → ptpType m = 9 → q.t3 = some t3 → ptpSeq m = q.reqSeq → slice m 44 10 = portPid rx.port →
        t.svc.prefs[k].path = some ((q.t2 - q.t1 + (ptpBody m - corrU (ptpCorr m) - t3)) / 2) ∧ t.svc.prefs[k].t3 = none ∧ s.keepsBut [.refs, .svc] t)) ∧
  (∀ (k : Fin 24) (build : Nat) (s : State),
    let p := laneIx (s.plt.plot.refPort k)
    let seq := Sparse.get (fun _ => 0) s.ports[p].seqIds (2000 + k.val)
    ∃ t, exec (.referenceDelayReqSend k build) s = .next t ∧ (s.prefLive k = false → t = s) ∧
      (∀ c, s.prefLive k = true → s.dispatchTo 2 = some c →
        (∃ w, t.ports[p].waiting = s.ports[p].waiting ++ [w] ∧ ptpType w.msg = 1 ∧ ptpSeq w.msg = seq % 65536 ∧ w.after = .delayReq k seq) ∧
        Sparse.get (fun _ => 0) t.ports[p].seqIds (2000 + k.val) = (seq + 1) % 65536 ∧
        (∀ q : Fin 16, q ≠ p → t.ports[q] = s.ports[q]) ∧ s.keepsBut [.ports] t)) ∧
  (∀ (k : Fin 24) (build : Nat) (s : State),
    let p := laneIx (s.plt.plot.refPort k)
    ∃ t, exec (.upstreamUnicastRequest k build) s = .next t ∧ (s.prefLive k = false ∨ fget s.svc.prefs[k].cfg 25 1 = 0 → t = s) ∧
      (∀ c, s.prefLive k = true → fget s.svc.prefs[k].cfg 25 1 = 1 → s.dispatchTo 2 = some c →
        (∃ w, t.ports[p].waiting = s.ports[p].waiting ++ [w] ∧ ptpType w.msg = 12 ∧ slice w.msg 34 10 = beBytes 10 s.svc.prefs[k].master.toNat) ∧
        (∀ q : Fin 16, q ≠ p → t.ports[q] = s.ports[q]) ∧ s.keepsBut [.ports, .fv] t))

/-- R279, R290, R293 to R298: the settings of the selected entry and reference slot with the checks of Table 10.3 and Table 10.20, rate limits that take effect on the next tick or with a commit, the latching reads, and the governor, which wakes a sleeping cluster of a class whose forecast is too high and moves CORE_CLK by at most 25 MHz, and a cluster's wake and sleep. -/
def Obligations.ServiceSettingsAndGovernor : Prop :=
  (∀ (m : Master) (v : Word) (s : State), s.checkWrite m 0x090084 v = none →
    let i := s.entSel m.idx
    let k := s.plt.plot.svcKind i
    let u := fget v 8 7
    let bad := k = 3 ∧ fget v 27 1 = 0 ∨ (k = 2 ∨ k = 4) ∧ fget v 27 1 = 1 ∨ (k = 2 ∨ k = 3) ∧ fget v 26 1 = 1 ∨ k = 4 ∧ fget v 26 1 = 0 ∨
      u ≠ 0x7F ∧ ¬ (u < 64 ∧ s.plt.plot.tbPresent u = true ∧ s.plt.plot.tbScale u = 1)
    ∃ t, exec (.svcEntCfgWrite m v) s = .next t ∧ (bad → s.refuses t m .plot 0x090084) ∧
      (¬ bad → (t.ent i).cfg = v ∧ (∀ j, j ≠ i → t.ent j = s.ent j) ∧ s.keepsBut [.svc] t ∧
        (k = 6 → fget (s.ent i).cfg 20 4 ≠ fget v 20 4 → (t.ent i).esmcDue = (List.range 16).filter (fun p => (s.plt.plot.svcPorts i).testBit p)) ∧
        (k ≠ 6 ∨ fget (s.ent i).cfg 20 4 = fget v 20 4 → t.ent i = { s.ent i with cfg := v }))) ∧
  (∀ (m : Master) (i : Fin 2) (v : Word) (s : State), s.checkWrite m (0x090010 + 4 * i.val) v = none →
    ∃ t, exec (.svcRlWrite m i v) s = .next t ∧ t.svc = { s.svc with rlNext := s.svc.rlNext ++ [(i.val, v)] } ∧ s.keepsBut [.svc] t) ∧
  (∀ (m : Master) (i : Fin 2) (v : Word) (s : State), s.checkWrite m (0x090018 + 4 * i.val) v = none →
    ∃ t, exec (.svcStgRlWrite m i v) s = .next t ∧ t.fld (0x090018 + 4 * i.val) 8 24 = fget v 8 24 ∧ t.bit 0x090020 i.val = true ∧
      t.bit 0x090020 (1 - i.val) = s.bit 0x090020 (1 - i.val) ∧ State.regsBut [0x090018 + 4 * i.val, 0x090020] s t ∧ s.keepsBut [.regs, .irq] t) ∧
  (∀ (m : Master) (v : Word) (s : State), s.checkWrite m 0x0900C4 v = none →
    let k := s.prefSel m.idx
    let prof := fget v 28 4
    let dom := fget v 16 8
    let fits := prof = 1 ∧ dom ≤ 127 ∨ prof = 5 ∧ dom ≤ 127 ∨ prof = 2 ∧ 24 ≤ dom ∧ dom ≤ 43 ∨ prof = 3 ∧ 44 ≤ dom ∧ dom ≤ 63
    ∃ t, exec (.svcPrefCfgWrite m v) s = .next t ∧ (¬ fits → s.refuses t m .range 0x0900C4) ∧
      (fits → isPtp (s.plt.plot.refSource k) = false → s.refuses t m .plot 0x0900C4) ∧
      (fits → isPtp (s.plt.plot.refSource k) = true → s.bit (refReg k 0) 31 = true → s.refuses t m .state 0x0900C4) ∧
      (fits → isPtp (s.plt.plot.refSource k) = true → s.bit (refReg k 0) 31 = false →
        t.svc = { s.svc with prefs := s.svc.prefs.set k { s.svc.prefs[k] with cfg := v } } ∧ s.keepsBut [.svc] t)) ∧
  (∀ (m : Master) (s : State), s.checkRead m 0x090040 = none →
    let l := beWords 16 (sessionBytes (s.session (s.sessSel m.idx)))
    ∃ t, exec (.svcSessD0Read m) s = .next t ∧ some (t.answerOf m.idx) = l[0]? ∧ (∀ (i : Nat) (w : Word), l[i]? = some w → t.hget m.idx (0x090040 + 4 * i) = w) ∧
      s.keepsBut [.held, .resp] t) ∧
  (∀ (m : Master) (c : Fin 4) (s : State), s.checkRead m (clusReg c 0x10) = none →
    let k := s.svc.clus[c]
    let l := cycWords k.srv ++ cycWords k.dsc ++ cycWords k.idl ++ cycWords k.stl
    ∃ t, exec (.svcCycSrvLoRead m c) s = .next t ∧ some (t.answerOf m.idx) = l[0]? ∧ (∀ (i : Nat) (w : Word), l[i]? = some w → t.hget m.idx (clusReg c (0x10 + 4 * i)) = w) ∧
      s.keepsBut [.held, .resp] t) ∧
  (∀ s : State,
    let s1 := { s with svc := { s.svc with past := (s.svc.load :: s.svc.past).take 9, load := [0, 0, 0], govAt := some s.tick } }
    ∃ t, exec .governorEval s = .next t ∧ (s.governDue = false → t = s) ∧
      (s.governDue = true → t.svc.past = s1.svc.past ∧ t.svc.load = [0, 0, 0] ∧ t.svc.govAt = some s.tick ∧
        (∀ cls c, cls ∈ s1.overHi s.sysMhz → (s1.clustersIn [0]).find? (fun c => s1.enginesOf c cls ≠ 0) = some c →
          t.clusState c = 1 ∧ t.rd (clusReg c 0x30) = s.rd (clusReg c 0x30) + 1) ∧
        (s.sysLocked = false → t.sysMhz = s.sysMhz) ∧ t.sysMhz ≤ s.sysMhz + 25 ∧ s.sysMhz ≤ t.sysMhz + 25 ∧
        State.regsBut ([0x090008, 0x0B0064, 0x0F0004, 0x100008] ++ (List.range 4).flatMap (fun c => [clusReg c 0, clusReg c 0x30])) s t ∧
        s.keepsBut [.regs, .svc, .pmc, .irq] t)) ∧
  (∀ (c : Fin 4) (s : State),
    ∃ t, exec (.clusterWakeDone c) s = .next t ∧ (s.clusState c ≠ 1 → t = s) ∧
      (s.clusState c = 1 → t.clusState c = 2 ∧ s.raised t 0x090008 1 ∧ t.svc.clus[c].wakeBy = none ∧ (∀ d : Fin 4, d ≠ c → t.svc.clus[d] = s.svc.clus[d]) ∧
        State.regsBut [0x090008, clusReg c 0] s t ∧ s.keepsBut [.regs, .svc, .irq] t)) ∧
  (∀ (c : Fin 4) (x : Nat) (s : State), s.svc.clus[c].lowFrom = some x →
    let able := s.clusState c = 2 ∧ x + s.fld 0x090000 0 8 * ticksPerMs ≤ s.tick ∧ s.clusIdle c = true ∧ s.plt.plot.minAwake < (s.clustersIn [2]).length ∧
      s.sysMhz = s.plt.plot.sysMin ∧ s.plt.plot.pdMode (3 + c) = 2
    ∃ t, exec (.clusterSleep c) s = .next t ∧ (¬ able → t = s) ∧
      (able → t.clusState c = 0 ∧ s.raised t 0x090008 1 ∧ t.svc.clus[c].lowFrom = none ∧
        State.regsBut [0x090008, clusReg c 0, 0x100008] s t ∧ s.keepsBut [.regs, .svc, .irq] t))

/-! ### Keys and fuses -/

/-- R302 to R307, R301: the staging buffer belongs to the master that writes it first, a COMMIT is checked in the order of R304 and replaces key, attributes and generation on one tick or empties the buffer and names the first failure; ABORT and 100 ms without a write empty it; ERASE is queued for the next tick; remasking changes every mask and no key; a failed reseed clears DRBG_OK and pauses nothing but what needs it. -/
def Obligations.StagingCommitAndMasks : Prop :=
  (∀ (m : Master) (i : Fin 10) (v : Word) (s : State),
    let off := 0x0A0000 + (match i.val with | 0 => 0x14 | 1 => 0x18 | j => 0x20 + 4 * (j - 2))
    let g := s.key.stg
    let other := g.owner ≠ none ∧ g.owner ≠ some m.idx
    s.checkWrite m off v = none →
    ∃ t, exec (.keyStagingWrite m i v) s = .next t ∧ (other → s.refuses t m .busy off) ∧
      (¬ other → i.val = 1 → fget v 0 16 = 0 → s.refuses t m .range off) ∧
      (¬ other → i.val ≠ 1 ∨ fget v 0 16 ≠ 0 → t.key.stg.owner = some m.idx ∧ t.key.stg.last = s.tick ∧
        t.key.stg.attr = (if i.val = 0 then some v else g.attr) ∧ t.key.stg.gen = (if i.val = 1 then some (fget v 0 16) else g.gen) ∧
        t.key.stg.vals = (if 2 ≤ i.val then g.vals.set (i.val - 2) (some v) else g.vals) ∧ t.key = { s.key with stg := t.key.stg } ∧ s.keepsBut [.key] t)) ∧
  (∀ s : State,
    let due := s.key.stg.owner ≠ none ∧ s.key.stg.last + 100 * ticksPerMs ≤ s.tick
    ∃ t, exec .keyStagingTimeout s = .next t ∧ (¬ due → t = s) ∧
      (due → t.key = { s.key with stg := {} } ∧ s.raised t 0x0A0008 0x80 ∧ State.regsBut [0x0A0008] s t ∧ s.keepsBut [.regs, .key, .irq] t)) ∧
  (∀ (m : Master) (s : State), s.checkWrite m 0x0A000C 1 = none →
    let g := s.key.stg
    let n := s.keySel
    let old := s.slotOf n
    let other := g.owner ≠ none ∧ g.owner ≠ some m.idx
    let full := g.attr ≠ none ∧ g.gen ≠ none ∧ g.vals.all Option.isSome = true
    let closed := s.otp.lifecycle = .blank ∨ s.otp.lifecycle = .retired
    let stops := fun (t : State) (e : Err) => t.key = { s.key with stg := {} } ∧ s.failed t m e true 0x0A000C ∧ t.fld 0x0A0004 8 8 = e.code ∧
      State.regsBut [0x0A0004] s t ∧ s.keepsBut [.regs, .key, .errs] t
    ∃ t, exec (.keyCommit m) s = .next t ∧ (other → s.refuses t m .busy 0x0A000C) ∧ (¬ other → closed → stops t .lifecycle) ∧
      (¬ other → ¬ closed → ¬ full → stops t .seq) ∧
      (∀ a k, ¬ other → ¬ closed → full → g.attr = some a → g.gen = some k →
        let mine := attrLets m a = true ∧ (old.occupied = true → attrWorld old.attr = attrWorld a)
        (attrOk a = false ∨ k = 0 → stops t .range) ∧ (attrOk a = true → k ≠ 0 → ¬ mine → stops t .perm) ∧
        (attrOk a = true → k ≠ 0 → mine → k ≤ old.gen → stops t .keygen) ∧
        (attrOk a = true → mine → old.gen < k →
          (t.slotOf n).occupied = true ∧ (t.slotOf n).attr = a ∧ (t.slotOf n).gen = k ∧ (t.slotOf n).key = stgKey g.vals ∧
          (∀ j, j % 256 ≠ n % 256 → t.slotOf j = s.slotOf j) ∧ t.key.stg = {} ∧ (old.occupied = true → t.key.purgeBy ≠ none) ∧ t.rd 0x0A000C = 1 ∧
          s.raised t 0x0A0008 1 ∧ State.regsBut [0x0A0008, 0x0A000C] s t ∧ s.keepsBut [.regs, .key, .fv, .irq] t))) ∧
  (∀ (m : Master) (s : State), s.checkWrite m 0x0A000C 2 = none →
    let other := s.key.stg.owner ≠ none ∧ s.key.stg.owner ≠ some m.idx
    ∃ t, exec (.keyAbort m) s = .next t ∧ (other → s.refuses t m .busy 0x0A000C) ∧
      (¬ other → t.key = { s.key with stg := {} } ∧ t.rd 0x0A000C = 2 ∧ State.regsBut [0x0A000C] s t ∧ s.keepsBut [.regs, .key] t)) ∧
  (∀ (m : Master) (s : State), s.checkWrite m 0x0A000C 5 = none →
    ∃ t, exec (.keyErase m) s = .next t ∧ (s.mayCommand m s.keySel = false → s.refuses t m .perm 0x0A000C) ∧
      (s.mayCommand m s.keySel = true → t.key = { s.key with erase := s.key.erase ++ [s.keySel] } ∧ t.rd 0x0A000C = 5 ∧
        State.regsBut [0x0A000C] s t ∧ s.keepsBut [.regs, .key] t)) ∧
  (∀ s : State,
    let due := s.bit 0x0A0004 23 = true ∧ s.key.maskAt + s.fld 0x0A0000 0 7 * ticksPerMs ≤ s.tick
    ∃ t, exec .keyRemask s = .next t ∧ (¬ due → t = s) ∧
      (due → t.key.maskAt = s.tick ∧
        (∀ i, (t.slotOf i).key = (s.slotOf i).key ∧ (t.slotOf i).occupied = (s.slotOf i).occupied ∧ (t.slotOf i).attr = (s.slotOf i).attr ∧
          (t.slotOf i).gen = (s.slotOf i).gen ∧ ((s.slotOf i).occupied = true → ∃ f, s.fv ≤ f ∧ f < t.fv ∧ (t.slotOf i).mask = Config.freeValue 256 f)) ∧
        t.key.cache.map (fun l => (l.name, l.lineage, l.key)) = s.key.cache.map (fun l => (l.name, l.lineage, l.key)) ∧
        (∀ l ∈ t.key.cache, ∃ f, s.fv ≤ f ∧ f < t.fv ∧ l.mask = Config.freeValue 256 f) ∧ s.keepsBut [.key, .fv] t)) ∧
  (∀ (ok : Bool) (s : State),
    ∃ t, exec (.drbgReseed ok) s = .next t ∧ t.bit 0x0A0004 23 = ok ∧ t.key = { s.key with seedAt := s.tick } ∧
      (ok = true → t.srcLive 0x0800 = false ∧ t.flt.hist = s.flt.hist ∧ State.regsBut [0x0A0004] s t ∧ s.keepsBut [.regs, .key, .flt] t) ∧
      (ok = false → s.srcLive 0x0800 = false → s.plt.plot.reactFor 0x0800 = none → s.raised t 0x0A0008 0x40 ∧ t.srcLive 0x0800 = true ∧
        (∃ r, s.recorded t 0x0800 r ∧ fget r[0] 22 2 = 1) ∧ s.keepsBut [.regs, .key, .flt, .mem, .pmc, .irq] t))

/-- R309, R316, R317: an invalidation raises the generation of the key once, and that of its descendants, and makes a purge due; a generation of 0xFFFF cannot rise; work that read the old key and still runs after 2 µs is dropped; the purge removes every line whose lineage is not live and counts it; an epoch must be greater than the current one and takes effect on the next tick; a service's root must hold a key of the right purpose. -/
def Obligations.GenerationsAndEpochs : Prop :=
  (∀ (m : Master) (s : State), s.checkWrite m 0x0A000C 3 = none →
    let n := s.keySel
    ∃ t, exec (.keyInvalidate m) s = .next t ∧ (s.mayCommand m n = false → s.refuses t m .perm 0x0A000C) ∧
      (s.mayCommand m n = true → (s.slotOf n).gen = 0xFFFF → s.refuses t m .keygen 0x0A000C) ∧
      (s.mayCommand m n = true → (s.slotOf n).gen < 0xFFFF →
        (s.key.rose.contains (.slot n) = false → (t.slotOf n).gen = (s.slotOf n).gen + 1) ∧ (s.key.rose.contains (.slot n) = true → (t.slotOf n).gen = (s.slotOf n).gen) ∧
        (t.slotOf n).key = (s.slotOf n).key ∧ (t.slotOf n).occupied = (s.slotOf n).occupied ∧ (∀ j, j % 256 ≠ n % 256 → t.slotOf j = s.slotOf j) ∧
        (∀ c, c ∈ s.children (.slot n) → s.key.rose.contains c = false →
          Sparse.get (fun _ => 0) t.key.gens c.code = (Sparse.get (fun _ => 0) s.key.gens c.code + 1) % 65536) ∧
        t.key.purgeBy ≠ none ∧ s.raised t 0x0A0008 2 ∧ t.rd 0x0A000C = 3 ∧ State.regsBut [0x0A0008, 0x0A000C] s t ∧ s.keepsBut [.regs, .key, .irq] t)) ∧
  (∀ (m : Master) (s : State), s.checkWrite m 0x0A000C 4 = none →
    let n := s.derName
    ∃ t, exec (.keyInvalidateDer m) s = .next t ∧ (n.kind = 0 → s.refuses t m .range 0x0A000C) ∧
      (n.kind ≠ 0 → s.mayCommand m (s.rootOf n) = false → s.refuses t m .perm 0x0A000C) ∧
      (n.kind ≠ 0 → s.mayCommand m (s.rootOf n) = true → Sparse.get (fun _ => 0) s.key.gens n.code = 0xFFFF → s.refuses t m .keygen 0x0A000C) ∧
      (n.kind ≠ 0 → s.mayCommand m (s.rootOf n) = true → Sparse.get (fun _ => 0) s.key.gens n.code < 0xFFFF →
        (s.key.rose.contains n = false → Sparse.get (fun _ => 0) t.key.gens n.code = Sparse.get (fun _ => 0) s.key.gens n.code + 1) ∧
        t.key.slots = s.key.slots ∧ t.key.purgeBy ≠ none ∧ s.raised t 0x0A0008 2 ∧ t.rd 0x0A000C = 4 ∧
        State.regsBut [0x0A0008, 0x0A000C] s t ∧ s.keepsBut [.regs, .key, .irq] t)) ∧
  (∀ (p : Fin 16) (s : State),
    ∃ t, exec (.keygenOperationAbort p) s = .next t ∧ (s.ports[p].held.filter (fun h => s.keyAborted h.key h.ready) = [] → t = s) ∧
      (∀ h, s.ports[p].held.filter (fun h => s.keyAborted h.key h.ready) = [h] →
        t.ports = s.ports.set p { s.ports[p] with held := s.ports[p].held.filter (fun x => !decide (x = h)) } ∧ State.regsBut [portReg p 8] s t ∧
        t.svc = { s.svc with clus := t.svc.clus } ∧ s.keepsBut [.regs, .ports, .svc] t)) ∧
  (∀ s : State,
    ∃ t, exec .purgeComplete s = .next t ∧ (s.key.purgeBy = none → t = s) ∧
      (s.key.purgeBy ≠ none → t.key = { s.key with cache := s.key.cache.filter (fun l => decide (l.lineage = s.lineage l.name)), purgeBy := none } ∧
        t.rd 0x0A00E4 = s.rd 0x0A00E4 + BitVec.ofNat 32 (s.key.cache.length - t.key.cache.length) ∧ s.raised t 0x0A0008 4 ∧
        State.regsBut [0x0A0008, 0x0A00E4] s t ∧ s.keepsBut [.regs, .key, .pmc, .irq] t)) ∧
  (∀ (m : Master) (r : Fin 2) (v : Word) (s : State), s.checkWrite m (0x0A0054 + 8 * r.val) v = none →
    let off := 0x0A0054 + 8 * r.val
    ∃ t, exec (.keyEpochWrite m r v) s = .next t ∧ (fget v 0 24 ≤ s.svcEpoch r → s.refuses t m .seq off) ∧
      (s.svcEpoch r < fget v 0 24 → t.key = { s.key with epochNext := s.key.epochNext ++ [(r.val, fget v 0 24)] } ∧ s.keepsBut [.key] t)) ∧
  (∀ (m : Master) (r : Fin 2) (v : Word) (s : State), s.checkWrite m (0x0A0050 + 8 * r.val) v = none →
    let off := 0x0A0050 + 8 * r.val
    let q := s.slotOf (fget v 0 8)
    let fits := q.occupied = true ∧ (attrPurpose q.attr = 1 ∨ r = 0 ∧ attrPurpose q.attr = 3 ∨ r = 1 ∧ attrPurpose q.attr = 2)
    ∃ t, exec (.keySvcCfgWrite m r v) s = .next t ∧ (¬ fits → s.refuses t m .state off) ∧
      (fits → t.fld off 0 8 = fget v 0 8 ∧ t.fld off 28 4 = fget v 28 4 ∧ State.regsBut [off] s t ∧ s.keepsBut [.regs, .irq] t))

/-- R313 to R315, R318, R319: an export is checked and streams the blob, and its end updates the directory; an import fills the slot from the better copy that passes, or names the failure; a scan rebuilds the directory; the OTP commands are checked, one burns at a time, and the completed burn changes its fuse or moves the life cycle on. -/
def Obligations.BlobsAndFuses : Prop :=
  (∀ (m : Master) (s : State), s.checkWrite m 0x0A000C 6 = none →
    let n := s.derName
    let root := s.rootOf n
    let rec' := (s.rd 0x0A007C).toNat
    let wrap := s.fld 0x0A0080 0 8
    let mine := s.mayCommand m root = true
    let fits := rec' < (s.rd 0x0A0078).toNat
    let allowed := fget (s.slotOf root).attr 15 1 = 1 ∧ s.wrapOk wrap = true
    ∃ t, exec (.keyExport m) s = .next t ∧ (¬ mine → s.refuses t m .perm 0x0A000C) ∧ (mine → s.fld 0x0A0070 0 8 ≠ 0 → s.refuses t m .align 0x0A000C) ∧
      (mine → s.fld 0x0A0070 0 8 = 0 → ¬ fits → s.refuses t m .range 0x0A000C) ∧ (mine → s.fld 0x0A0070 0 8 = 0 → fits → ¬ allowed → s.refuses t m .perm 0x0A000C) ∧
      (mine → s.fld 0x0A0070 0 8 = 0 → fits → allowed → s.derive n = none → s.refuses t m .nokey 0x0A000C) ∧
      (∀ key s1, mine → s.fld 0x0A0070 0 8 = 0 → fits → allowed → s.derive n = some (key, s1) →
        ∃ d b, t.key.ops = s.key.ops ++ [.exporting d b] ∧ d.name = n ∧ d.record = rec' ∧
          slice b 0 4 = [0x59, 0x4B, 0x42, 0x4C] ∧ b.drop (b.length - 4) = leBytes 4 (crc32c (b.take (b.length - 4))) ∧ t.key.dir = s.key.dir ∧ t.rd 0x0A000C = 6 ∧ State.regsBut [0x0A000C] s t ∧ s.keepsBut [.regs, .key, .fv] t)) ∧
  (∀ (ok : Bool) (d : DirEntry) (b : List Byte) (s : State), s.key.ops = [.exporting d b] →
    ∃ t, exec (.exportComplete ok) s = .next t ∧ t.key.ops = [] ∧ s.raised t 0x0A0008 (if ok then 8 else 0x10) ∧
      t.key.dir = (if ok then s.key.dir.filter (fun x => !decide (x.name = d.name) && x.record ≠ d.record) ++ [d] else s.key.dir) ∧
      State.regsBut [0x0A0008] s t ∧ s.keepsBut [.regs, .key, .irq] t) ∧
  (∀ (m : Master) (s : State), s.checkWrite m 0x0A000C 7 = none →
    let mine := s.mayCommand m s.keySel = true
    let fits := (s.rd 0x0A007C).toNat < (s.rd 0x0A0078).toNat
    ∃ t, exec (.keyImportSlot m) s = .next t ∧ (¬ mine → s.refuses t m .perm 0x0A000C) ∧ (mine → s.fld 0x0A0070 0 8 ≠ 0 → s.refuses t m .align 0x0A000C) ∧
      (mine → s.fld 0x0A0070 0 8 = 0 → ¬ fits → s.refuses t m .range 0x0A000C) ∧
      (mine → s.fld 0x0A0070 0 8 = 0 → fits → t.key = { s.key with ops := s.key.ops ++ [.importing s.keySel (s.rd 0x0A007C).toNat m.idx] } ∧
        t.rd 0x0A000C = 7 ∧ State.regsBut [0x0A000C] s t ∧ s.keepsBut [.regs, .key] t)) ∧
  (∀ (a b : List Byte) (n r : Nat) (m : Master) (s : State), s.key.ops = [.importing n r m.idx] → masterAt m.idx = m → s.otp.lifecycle ≠ .blank → s.otp.lifecycle ≠ .retired →
    let best := bestCopy (s.checkCopy a (some (.slot n))) (s.checkCopy b (some (.slot n)))
    let fails := fun (t : State) (e : Err) => t.fld 0x0A0004 8 8 = e.code ∧ s.raised t 0x0A0008 0x20 ∧ t.key = { s.key with ops := [] } ∧
      t.rd 0x0A00E0 = BitVec.ofNat 32 (min ((s.rd 0x0A00E0).toNat + 1) 0xFFFFFFFF) ∧ State.regsBut [0x0A0004, 0x0A0008, 0x0A00E0] s t ∧ s.keepsBut [.regs, .key, .pmc, .irq] t
    ∃ t, exec (.importComplete a b) s = .next t ∧ t.key.ops = [] ∧ (best.1 = none → fails t best.2) ∧
      (∀ c inB e, best.1 = some (c, inB) → s.fillErr m n c.attr c.lineage.ownGen = some e → fails t e) ∧
      (∀ c inB, best.1 = some (c, inB) → s.fillErr m n c.attr c.lineage.ownGen = none →
        (t.slotOf n).occupied = true ∧ (t.slotOf n).attr = c.attr ∧ (t.slotOf n).gen = c.lineage.ownGen ∧ (t.slotOf n).key = c.key ∧ s.raised t 0x0A0008 1 ∧
        State.regsBut [0x0A0008] s t ∧ s.keepsBut [.regs, .key, .fv, .irq] t)) ∧
  (∀ (m : Master) (s : State), s.checkWrite m 0x0A000C 8 = none →
    ∃ t, exec (.keyScan m) s = .next t ∧ (s.key.stg.owner ≠ none → s.refuses t m .busy 0x0A000C) ∧
      (s.key.stg.owner = none → s.fld 0x0A0070 0 8 ≠ 0 → s.refuses t m .align 0x0A000C) ∧
      (s.key.stg.owner = none → s.fld 0x0A0070 0 8 = 0 → t.key = { s.key with ops := s.key.ops ++ [.scanning] } ∧ t.rd 0x0A000C = 8 ∧
        State.regsBut [0x0A000C] s t ∧ s.keepsBut [.regs, .key] t)) ∧
  (∀ (records : List (List Byte × List Byte)) (s : State),
    ∃ t, exec (.scanComplete records) s = .next t ∧ (s.key.ops.contains .scanning = false → t = s) ∧
      (s.key.ops.contains .scanning = true → t.key.ops.contains .scanning = false ∧ t.key.dir.length ≤ min records.length (s.rd 0x0A0078).toNat ∧
        (∀ d ∈ t.key.dir, ∃ r c inB, records[d.record]? = some r ∧ (bestCopy (s.checkCopy r.1 none) (s.checkCopy r.2 none)).1 = some (c, inB) ∧
          d = ⟨c.name, d.record, c.lineage, c.blobGen, inB⟩) ∧ t.key.slots = s.key.slots ∧ s.keepsBut [.key] t)) ∧
  (∀ (c : Instr) (m : Master) (off : Nat) (v : Word) (e : Option Err) (op : OtpOp) (s : State),
    (c, off, v, e, op) ∈ ([(.fuseOpk0 m, 0x0A0094, 1, s.fuseErr false, .fuse0 s.otpHash), (.fuseOpk1 m, 0x0A0094, 2, s.fuseErr true, .fuse1 s.otpHash),
      (.revokeOpk0 m, 0x0A0094, 3, s.revokeErr false, .revoke0), (.revokeOpk1 m, 0x0A0094, 4, s.revokeErr true, .revoke1)] : List (Instr × Nat × Word × Option Err × OtpOp)) ∨
      (∃ g : Fin 8, c = .lcAdvance m g ∧ off = 0x0A0090 ∧ v = BitVec.ofNat 32 g.val ∧ e = s.lcErr g.val ∧ op = .advance) →
    s.checkWrite m off v = none →
    ∃ t, exec c s = .next t ∧ (s.key.otpOp ≠ none → s.refuses t m .busy off) ∧ (∀ x, s.key.otpOp = none → e = some x → s.refuses t m x off) ∧
      (s.key.otpOp = none → e = none → t.key = { s.key with otpOp := some op } ∧ t.rd off = v ∧ State.regsBut [off] s t ∧ s.keepsBut [.regs, .key] t)) ∧
  (∀ s : State, s.key.otpOp = none → exec .otpBurnDone s = .next s) ∧
  (∀ (op : OtpOp) (s : State), s.key.otpOp = some op →
    ∃ t, exec .otpBurnDone s = .next t ∧ t.key.otpOp = none ∧
      (∀ h, op = .fuse0 h → t.otp = { s.otp with opk0 := h } ∧ s.keepsBut [.key, .otp] t) ∧ (∀ h, op = .fuse1 h → t.otp = { s.otp with opk1 := h } ∧ s.keepsBut [.key, .otp] t) ∧
      (op = .revoke0 → t.otp = { s.otp with revoked0 := true } ∧ s.keepsBut [.key, .otp] t) ∧ (op = .revoke1 → t.otp = { s.otp with revoked1 := true } ∧ s.keepsBut [.key, .otp] t) ∧
      (op = .advance → t.otp = { s.otp with lifecycle := s.otp.lifecycle.next } ∧
        (s.otp.lifecycle.code < 3 → s.raised t 0x0A0008 0x100 ∧ State.regsBut [0x0A0008] s t ∧ s.keepsBut [.regs, .key, .otp, .irq] t) ∧
        (s.otp.lifecycle = .deployed → t.bit 0x0A0008 8 = true ∧ (∀ i, (t.slotOf i).occupied = false) ∧ t.key.cache = [] ∧ t.key.dir = [] ∧ t.svc.jobs = [] ∧ t.svc.sess = [] ∧
          t.bit 0x010008 4 = true)) ∧
      (∀ k, op = .rollback k → k < 128 → t.fld 0x010048 0 7 = max (s.fld 0x010048 0 7) k ∧ State.regsBut [0x010048] s t ∧ s.keepsBut [.regs, .key] t))

/-! ### Outputs, synthesisers and cues -/

/-- R321, R323, R324, R336, R338 to R340: a loss of lock of APLL0 is a FATAL event with a curtain; that of an APLL gives its enabled outputs their curtain behaviour, and its return releases them; the slave time base of an APLL; SYSPLL's bypass at 625 MHz and its return; the spread-spectrum setting. -/
def Obligations.SynthesisersAndLocks : Prop :=
  (∀ s : State,
    ∃ t, exec .apll0LockLost s = .next t ∧ (s.apll0Locked = false → t = s) ∧
      (s.apll0Locked = true → t.apll0Locked = false ∧ t.bit 0x0B0068 0 = true ∧
        (s.srcLive 0x0100 = false → t.srcLive 0x0100 = true ∧ t.curtain = true ∧ t.bit 0x0E000C 31 = true ∧ (∃ r, s.recorded t 0x0100 r ∧ fget r[0] 22 2 = 2) ∧
          ∀ n : Fin 64, s.plt.plot.tbPresent n = true → t.untraceable n = true))) ∧
  (∀ (k : Fin 4) (s : State),
    ∃ t, exec (.apllLockLost k) s = .next t ∧ (s.bit (apllReg k 4) 31 = false → t = s) ∧
      (s.bit (apllReg k 4) 31 = true → t.bit (apllReg k 4) 31 = false ∧ t.fld (apllReg k 4) 0 16 = min (s.fld (apllReg k 4) 0 16 + 1) 0xFFFF ∧
        t.bit 0x0B0068 (3 + k.val) = true ∧ t.srcLive (0x0D01 + k.val) = true ∧
        (∀ j : Fin 12, s.outPll j = k.val → s.plt.plot.outMode j ≠ 0 → t.bit (outReg j 4) 26 = true ∧ t.bit (outReg j 8) 4 = true ∧
          (s.outState j ≠ 0 → t.bit (outReg j 4) 27 = true ∧ (s.outSquelch j = true → t.out.outs[j].low = true))))) ∧
  (∀ (k : Fin 4) (s : State),
    ∃ t, exec (.apllRelocked k) s = .next t ∧ (s.bit (apllReg k 4) 31 = true → t = s) ∧
      (s.bit (apllReg k 4) 31 = false → t.bit (apllReg k 4) 31 = true ∧ t.srcLive (0x0D01 + k.val) = false ∧
        (∀ j : Fin 12, s.outPll j = k.val → t.bit (outReg j 4) 26 = false ∧
          (s.muted = false → s.bit (outReg j 0) 0 = false → s.bit (outReg j 4) 27 = true → t.bit (outReg j 4) 27 = false ∧
            t.outState j = (if s.alignable j then 2 else 1) ∧ (s.plt.plot.outCurtain j = 1 → t.out.outs[j].low = true ∧ t.out.outs[j].restartFrom = some s.tick))) ∧
        (∀ j : Fin 12, s.outPll j ≠ k.val → t.out.outs[j] = s.out.outs[j]) ∧
        State.regsBut (apllReg k 4 :: (List.range 12).flatMap (fun j => [outReg j 4, outReg j 0x2C])) s t ∧ s.keepsBut [.regs, .out, .flt] t)) ∧
  (∀ (m : Master) (k : Fin 4) (v : Word) (s : State), s.checkWrite m (apllReg k 0) v = none →
    let off := apllReg k 0
    let steered := s.bit (apllReg k 4) 30 = true
    let fits := s.plt.plot.tbPresent (fget v 0 6) = true ∧ s.plt.plot.apllFreq (k.val + 1) ≠ 0
    ∃ t, exec (.apllTbWrite m k v) s = .next t ∧ (steered → s.refuses t m .state off) ∧ (¬ steered → ¬ fits → s.refuses t m .plot off) ∧
      (¬ steered → fits → t.rd off = v ∧ t.bit (apllReg k 4) 25 = true ∧
        State.regsBut ([off, apllReg k 4] ++ (List.range 12).flatMap (fun j => [outReg j 4, outReg j 8, outReg j 0x2C])) s t ∧ s.keepsBut [.regs, .irq] t)) ∧
  (∀ (k : Fin 4) (n : Fin 64) (s : State), s.fld (apllReg k 0) 0 6 = n.val →
    ∃ t, exec (.apllRateMoveDone k) s = .next t ∧ (s.bit (apllReg k 4) 25 = false → t = s) ∧
      (s.bit (apllReg k 4) 25 = true → t.bit (apllReg k 4) 25 = false ∧
        t.out.aplls[k] = (if s.bit (apllReg k 4) 30 then s.out.aplls[k] else { s.out.aplls[k] with rate := s.tbEffInc n }) ∧
        (∀ j : Fin 4, j ≠ k → t.out.aplls[j] = s.out.aplls[j]) ∧
        State.regsBut (apllReg k 4 :: (List.range 12).flatMap (fun j => [outReg j 4, outReg j 8, outReg j 0x2C])) s t ∧ s.keepsBut [.regs, .out, .irq] t)) ∧
  (∀ s : State,
    ∃ t, exec .syspllLockLost s = .next t ∧ (s.sysLocked = false → t = s) ∧
      (s.sysLocked = true → t.sysLocked = false ∧ t.bit 0x0B0064 30 = true ∧ t.sysMhz = 625 ∧ t.bit 0x0B0068 1 = true ∧ t.srcLive 0x0C00 = true ∧
        (s.srcLive 0x0C00 = false → s.plt.plot.reactFor 0x0C00 = none → (∃ r, s.recorded t 0x0C00 r ∧ fget r[0] 22 2 = 1) ∧
          s.keepsBut [.regs, .flt, .mem, .pmc, .irq] t))) ∧
  (∀ s : State,
    ∃ t, exec .syspllRelocked s = .next t ∧ (s.sysLocked = true → t = s) ∧
      (s.sysLocked = false → t.sysLocked = true ∧ t.bit 0x0B0064 30 = false ∧ t.sysMhz = max 750 s.plt.plot.sysMin ∧ s.raised t 0x0B0068 4 ∧
        t.srcLive 0x0C00 = false ∧ State.regsBut [0x0B0064, 0x0B0068] s t ∧ s.keepsBut [.regs, .flt, .irq] t)) ∧
  (∀ (m : Master) (v : Word) (s : State), s.checkWrite m 0x0B0060 v = none →
    let mode := fget v 0 2
    let depth := fget v 4 4
    let fits := mode = 0 ∨ mode = 1 ∧ 1 ≤ depth ∧ depth ≤ 10 ∨ mode = 2 ∧ 1 ≤ depth ∧ depth ≤ 5
    ∃ t, exec (.sscWrite m v) s = .next t ∧ (¬ fits → s.refuses t m .range 0x0B0060) ∧
      (fits → t.fld 0x0B0060 0 2 = mode ∧ t.fld 0x0B0060 4 4 = depth ∧ t.out = { s.out with ssc := BitVec.ofNat 32 (fget v 0 8) } ∧
        State.regsBut [0x0B0060] s t ∧ s.keepsBut [.regs, .out, .irq] t))

/-- R326 to R329, R331, R332, R339, R340 and Table 12.2: the aligner's compare moves an output between ALIGNING and ALIGNED at 1.0 ns and 1.6 ns, an aligned output's DLL control stays in its range (which value it takes is free), a restart waits for the grid, and the writes of OUTk_PH_OFS, OUTk_PULSE_W and MUTE and the end of a glide do what the rules say. -/
def Obligations.AlignersAndOutputs : Prop :=
  (∀ (k : Fin 12) (e : Int) (s : State),
    let u := s.outSettle k
    let now := u.outState k
    ∃ t, exec (.alignerCompare k e) s = .next t ∧ (u.bit (outReg k 4) 27 = true ∨ now = 0 → t = u) ∧
      (u.bit (outReg k 4) 27 = false → now ≠ 0 → t.rd (outReg k 0x20) = sat32 e ∧ t.out.outs[k].pulseW = (s.rd (outReg k 0x14)).toNat ∧
        (t.out.outs[k].phOfs - s.out.outs[k].phOfs).natAbs ≤ 5000 ∧
        ((s.rd (outReg k 0xC)).toInt = s.out.outs[k].phOfs → t.out.outs[k].phOfs = s.out.outs[k].phOfs) ∧
        (now = 2 → t.outState k = (if e.natAbs ≤ 1000 then 3 else 2) ∧ (e.natAbs ≤ 1000 → t.bit (outReg k 8) 0 = true)) ∧
        (now = 3 → 1600 < e.natAbs → t.outState k = 2 ∧ t.bit (outReg k 8) 1 = true ∧ (s.bit (outReg k 0) 1 = true → t.out.outs[k].low = true ∧ t.out.outs[k].restartFrom = some s.tick)) ∧
        (now = 3 → e.natAbs ≤ 1600 → t.outState k = 3 ∧ (t.rd (outReg k 0x24)).toInt.natAbs ≤ 8000)) ∧
      (∀ j : Fin 12, j ≠ k → t.out.outs[j] = s.out.outs[j]) ∧ t.out.aplls = s.out.aplls ∧ t.out.cues = s.out.cues ∧
      State.regsBut [outReg k 4, outReg k 8, outReg k 0x20, outReg k 0x24, outReg k 0x2C] s t ∧ s.keepsBut [.regs, .out, .fv, .irq] t) ∧
  (∀ (k : Fin 12) (x : Nat) (s : State), s.out.outs[k].restartFrom = some x →
    let able := x + 10 * ticksPerUs ≤ s.tick ∧ s.gridDue k = true ∧ s.bit (outReg k 4) 27 = false ∧ s.muted = false ∧ s.bit (apllReg (s.outPll k) 4) 31 = true
    ∃ t, exec (.outputRestart k) s = .next t ∧ (¬ able → t = s) ∧
      (able → t.out = { s.out with outs := s.out.outs.set k { s.out.outs[k] with low := false, restartFrom := none, pulseW := (s.rd (outReg k 0x14)).toNat } } ∧
        s.keepsBut [.out] t)) ∧
  (∀ (m : Master) (k : Fin 12) (v : Word) (s : State), s.checkWrite m (outReg k 0xC) v = none →
    ∃ t, exec (.outPhOfsWrite m k v) s = .next t ∧ (8000 < v.toInt.natAbs → s.refuses t m .range (outReg k 0xC)) ∧
      (v.toInt.natAbs ≤ 8000 → t.rd (outReg k 0xC) = v ∧ State.regsBut [outReg k 0xC] s t ∧ s.keepsBut [.regs] t)) ∧
  (∀ (m : Master) (k : Fin 12) (v : Word) (s : State), s.checkWrite m (outReg k 0x14) v = none →
    let f := s.plt.plot.outFreq k
    let off := outReg k 0x14
    let fits := v = 0 ∨ 100 ≤ v.toNat ∧ (v.toNat + 100) * f ≤ 10 ^ 15
    ∃ t, exec (.outPulseWWrite m k v) s = .next t ∧ (1000000000 < f → s.refuses t m .state off) ∧ (f ≤ 1000000000 → ¬ fits → s.refuses t m .range off) ∧
      (f ≤ 1000000000 → fits → t.rd off = v ∧ State.regsBut [off] s t ∧ s.keepsBut [.regs] t)) ∧
  (∀ (m : Master) (k : Fin 12) (v : Word) (s : State), s.checkWrite m (outReg k 0) v = none →
    let was := s.bit (outReg k 0) 0
    ∃ t, exec (.outMuteWrite m k v) s = .next t ∧ t.bit (outReg k 0) 0 = decide (fget v 0 1 = 1) ∧ t.bit (outReg k 0) 1 = decide (fget v 1 1 = 1) ∧
      (was = false → fget v 0 1 = 1 → s.outState k ≠ 0 → t.bit (outReg k 4) 27 = true ∧ t.out.outs[k].low = true ∧ t.out.outs[k].restartFrom = none ∧ t.out.outs[k].glide = none) ∧
      (was = true → fget v 0 1 = 0 → s.muted = false → s.bit (outReg k 4) 26 = false → s.bit (outReg k 4) 27 = true →
        t.bit (outReg k 4) 27 = false ∧ t.outState k = (if s.alignable k then 2 else 1) ∧ t.out.outs[k].low = true ∧ t.out.outs[k].restartFrom = some s.tick ∧
          t.out.outs[k].freq = s.plt.plot.outFreq k) ∧
      (∀ j : Fin 12, j ≠ k → t.out.outs[j] = s.out.outs[j]) ∧ t.out.aplls = s.out.aplls ∧ t.out.cues = s.out.cues ∧
      State.regsBut [outReg k 0, outReg k 4, outReg k 8, outReg k 0x2C] s t ∧ s.keepsBut [.regs, .out, .irq] t) ∧
  (∀ (k : Fin 12) (g : Glide) (s : State), s.out.outs[k].glide = some g →
    ∃ t, exec (.glideDone k) s = .next t ∧ (s.tick < g.start + g.ms * ticksPerMs → t = s) ∧
      (g.start + g.ms * ticksPerMs ≤ s.tick → t.out = { s.out with outs := s.out.outs.set k { s.out.outs[k] with glide := none, freq := g.toF } } ∧
        t.bit (outReg k 4) 28 = false ∧ t.bit (outReg k 8) 2 = true ∧ State.regsBut [outReg k 4, outReg k 8, outReg k 0x2C] s t ∧ s.keepsBut [.regs, .out, .irq] t))

/-- R342 to R347 and Table 12.7: who may command a cue, the checks of ARM, what it copies; an instant that the time base reaches by its own advance fires once or is suppressed, one it was carried past is skipped and counted, the last one disarms with DONE, and a DISARM acts from the tick after its decode; a pulse ends after its width. -/
def Obligations.Cues : Prop :=
  (∀ (m : Master) (c : Fin 16) (s : State),
    let fails := fun (t : State) (e : Err) => s.failed t m e true (cueAddr m c 4) ∧ t.fld (cueReg c 8) 8 8 = e.code ∧ State.regsBut [cueReg c 8] s t ∧ s.keepsBut [.regs, .errs] t
    let p := s.cuePeriod c
    let w := (s.rd (cueReg c 0x2C)).toNat
    let inst := s.timeAt (cueReg c 0x10)
    let n := (s.rd (cueReg c 0x28)).toNat
    let bad := p ≠ 0 ∧ (p < 100 * 2 ^ 16 ∨ 1000 * 1000000000 * 2 ^ 16 < p ∨ p < (w + 2) * 2 ^ 16) ∨ w < 2 ∨ 1000000000 < w
    ∃ t, exec (.cueArm m c) s = .next t ∧ (s.pwr.por = false → s.cuePerm m c false = false → fails t .perm) ∧
      (s.cueCheck m c 4 1 false = none → bad → fails t .range) ∧
      (s.cueCheck m c 4 1 false = none → ¬ bad → s.out.cues[c].arm ≠ none → fails t .busy) ∧
      (∀ k : Fin 64, s.plt.plot.cueTb c % 64 = k.val → s.cueCheck m c 4 1 false = none → ¬ bad → s.out.cues[c].arm = none →
        (inst ≤ s.tbs[k].value ∨ s.tbs[k].value + horizon < inst → fails t .time) ∧
        (s.tbs[k].value < inst → inst ≤ s.tbs[k].value + horizon →
          t.out.cues[c].arm = some ⟨inst, p * 2 ^ 40, n, w, 0, s.tick, none⟩ ∧ t.bit (cueReg c 8) 31 = true ∧
          t.rd (cueReg c 0x30) = (if p = 0 then 1 else if n = 0 then 0xFFFFFFFF else BitVec.ofNat 32 n) ∧ t.out.outs = s.out.outs ∧ t.out.aplls = s.out.aplls ∧
          (∀ j : Fin 16, j ≠ c → t.out.cues[j] = s.out.cues[j]) ∧ State.regsBut [cueReg c 8, cueReg c 0x30] s t ∧ s.keepsBut [.regs, .out] t))) ∧
  (∀ (m : Master) (c : Fin 16) (s : State), s.cueCheck m c 4 2 true = none →
    ∃ t, exec (.cueDisarm m c) s = .next t ∧ s.keepsBut [.out] t ∧
      t.out = { s.out with cues := s.out.cues.set c { s.out.cues[c] with arm := s.out.cues[c].arm.map fun a => { a with disarm := if a.disarm.isSome then a.disarm else some s.tick } } }) ∧
  (∀ (c : Fin 16) (s : State), s.out.cues[c].arm = none → exec (.cueFire c) s = .next s) ∧
  (∀ (c : Fin 16) (a : CueArm) (n : Fin 64) (s : State), s.out.cues[c].arm = some a → s.plt.plot.cueTb c % 64 = n.val →
    let x := s.tbs[n]
    let inst := a.first + a.next * a.period
    let cut := ∃ d, a.disarm = some d ∧ d < s.tick
    let due := a.armTick < s.tick ∧ inst ≤ x.value
    let own := x.prev < inst ∧ inst ≤ x.plain
    let quiet := s.muted = true ∨ s.tbFenced n = true
    let last := a.period = 0 ∨ a.count ≠ 0 ∧ a.count ≤ a.next + 1
    let moved := fun (t : State) => (last → t.out.cues[c].arm = none ∧ t.bit (cueReg c 0xC) 1 = true ∧ t.bit (cueReg c 8) 31 = false) ∧
      (¬ last → t.out.cues[c].arm = some { a with next := a.next + 1 } ∧ t.rd (cueReg c 0x30) = cueLeft a (a.next + 1))
    ∃ t, exec (.cueFire c) s = .next t ∧
      (cut → t.out.cues[c].arm = none ∧ t.bit (cueReg c 8) 31 = false ∧ t.rd (cueReg c 0x30) = 0 ∧ s.raised t (cueReg c 0xC) 0x10 ∧ t.rd (cueReg c 0x38) = s.rd (cueReg c 0x38)) ∧
      (¬ cut → ¬ due → t = s) ∧
      (¬ cut → due → own → ¬ quiet → t.rd (cueReg c 0x34) = s.rd (cueReg c 0x34) + 1 ∧ t.bit (cueReg c 0xC) 0 = true ∧ t.bit (cueReg c 8) 30 = true ∧
        t.out.cues[c].endTick = some (s.tick + (a.width * 5 + 3) / 4) ∧ moved t) ∧
      (¬ cut → due → own → quiet → t.rd (cueReg c 0x38) = BitVec.ofNat 32 (min ((s.rd (cueReg c 0x38)).toNat + 1) 0xFFFFFFFF) ∧ t.bit (cueReg c 0xC) 3 = true ∧
        t.rd (cueReg c 0x34) = s.rd (cueReg c 0x34) ∧ moved t) ∧
      (¬ cut → due → ¬ own → t.bit (cueReg c 0xC) 2 = true ∧ t.rd (cueReg c 0x34) = s.rd (cueReg c 0x34) ∧
        (∀ b, t.out.cues[c].arm = some b → a.next < b.next → x.value < b.first + b.next * b.period)) ∧
      (∀ j : Fin 16, j ≠ c → t.out.cues[j] = s.out.cues[j]) ∧ t.out.outs = s.out.outs ∧ t.out.aplls = s.out.aplls ∧
      State.regsBut [cueReg c 8, cueReg c 0xC, cueReg c 0x30, cueReg c 0x34, cueReg c 0x38] s t ∧ s.keepsBut [.regs, .out, .irq] t) ∧
  (∀ (c : Fin 16) (s : State),
    ∃ t, exec (.cuePulseEnd c) s = .next t ∧ (s.out.cues[c].endTick = none → t = s) ∧ (∀ e, s.out.cues[c].endTick = some e → s.tick < e → t = s) ∧
      (∀ e, s.out.cues[c].endTick = some e → e ≤ s.tick → t.out = { s.out with cues := s.out.cues.set c { s.out.cues[c] with endTick := none } } ∧
        t.bit (cueReg c 8) 30 = false ∧ State.regsBut [cueReg c 8] s t ∧ s.keepsBut [.regs, .out] t))

/-! ### Backplane time buses -/

/-- R351, R353, R357, R359 to R361, Table 13.4 and Table 13.5: once per frame edge of the grid a running master bus starts a frame with the index of its instant, at START's or the automatic start's multiframe instant it enters RUN, after a step it idles until a multiframe instant 10 µs on; at an edge a waiting pause and mask take effect and the last frame becomes the image; a slave bus follows its FS edges, and a wrong spacing or the clock's loss mutes it. -/
def Obligations.BusFrames : Prop :=
  let edge := fun (b : Fin 4) (s t : State) (time mfi : Nat) (idle : Bool) =>
    let x := s.btb.bus[b]
    let y := t.btb.bus[b]
    let left := match x.pauseNext with
      | some p => if p.2 ≤ s.tick then p.1 else (s.fld (btbReg b 0x1C) 16 16 - 1)
      | none => s.fld (btbReg b 0x1C) 16 16 - 1
    t.fld (btbReg b 8) 16 4 = mfi ∧ t.rd (btbReg b 0x28) = s.rd (btbReg b 0x28) + 1 ∧ y.edgeTick = s.tick ∧ y.image = x.frame.map (·.2) ∧
    (∀ i : Fin 4, t.rd (btbReg b (0x40 + 4 * i.val)) = (timeWords time).getD i.val 0) ∧ t.rd (btbReg b 0x50) = BitVec.ofNat 32 (s.bound (s.btbTb b)) ∧
    t.fld (btbReg b 0x1C) 16 16 = left % 2 ^ 16 ∧ t.btbPaused b = decide (left ≠ 0) ∧ (s.btbPaused b = true → left = 0 → t.bit (btbReg b 0xC) 1 = true) ∧
    (∀ m k, x.maskNext = some (m, k) → k ≤ s.tick → y.mask = m ∧ y.maskNext = none ∧ t.fld (btbReg b 8) 0 6 = (slotsOf m).length ∧ t.bit (btbReg b 0xC) 2 = true) ∧
    ((∀ m k, x.maskNext = some (m, k) → s.tick < k) → y.mask = x.mask) ∧
    y.frame.map (·.1) = slotsOf y.mask ∧
    (∀ p, p ∈ y.frame → (t.btbPaused b = true ∨ idle = true ∨ s.btbFenced b = true → p.2 = 0#64) ∧
      (t.btbPaused b = false → idle = false → s.btbFenced b = false →
        p.2 = withChk (p.2.toNat / 256) ∧ (p.2.getLsbD 63 = decide (s.muted = false ∧ s.plt.applying = false)) ∧ p.2.toNat / 2 ^ 59 % 16 = mfi ∧
        p.2.toNat / 2 ^ 23 % 2 ^ 32 = (if s.muted then 0xFFFFFFFF else s.bound (s.btbTb b)) ∧ p.2.getLsbD 58 = s.untraceable (s.btbTb b))) ∧
    (∀ c : Fin 4, c ≠ b → t.btb.bus[c] = s.btb.bus[c]) ∧ t.btb.common = s.btb.common ∧
    State.regsBut ([8, 0xC, 0x1C, 0x28, 0x40, 0x44, 0x48, 0x4C, 0x50].map (fun o => btbReg b o)) s t ∧ s.keepsBut [.regs, .btb, .pmc, .irq] t
  let only := fun (b : Fin 4) (s t : State) (l : List Nat) =>
    (∀ c : Fin 4, c ≠ b → t.btb.bus[c] = s.btb.bus[c]) ∧ t.btb.common = s.btb.common ∧ State.regsBut (l.map fun o => btbReg b o) s t ∧ s.keepsBut [.regs, .btb, .pmc, .irq] t
  (∀ (b : Fin 4) (c : Instr) (s : State), c = .btbFrameEdge b ∨ c = .btbAutoStart b ∨ c = .btbResyncResume b → (∀ a, a ∈ s.btb.bus[b].aux → a < 2 ^ 15) →
    let x := s.btb.bus[b]
    let time := s.btbGrid b
    let mfi := nsOf time / 125000 % 16
    let due := s.btbSlave b = false ∧ s.btbEdgeDue b = true ∧ x.edgeTick ≠ s.tick ∧ s.btbStepped b = false
    let ripe := fun (o : Option Nat) => mfi = 0 ∧ ∃ f, o = some f ∧ f + 10 * ticksPerUs ≤ s.tick
    ∃ t, exec c s = .next t ∧ (¬ due → t = s) ∧ (s.btbState b = 0 ∨ s.btbState b = 2 ∨ 4 ≤ s.btbState b → t = s) ∧
      (s.btbState b = 1 → ¬ ripe x.startFrom → t = s) ∧
      (due → s.btbState b = 1 → ripe x.startFrom → t.btbState b = 3 ∧ t.bit (btbReg b 0xC) 0 = true ∧ t.btb.bus[b].startFrom = none ∧ edge b s t time 0 false) ∧
      (due → s.btbState b = 3 → x.resync = none → t.btbState b = 3 ∧ edge b s t time mfi false) ∧
      (due → s.btbState b = 3 → x.resync ≠ none → ¬ ripe x.resync → t.btbState b = 3 ∧ t.btb.bus[b].resync = x.resync ∧ edge b s t time mfi true) ∧
      (due → s.btbState b = 3 → ripe x.resync → t.btbState b = 3 ∧ t.btb.bus[b].resync = none ∧ edge b s t time 0 false)) ∧
  (∀ (b : Fin 4) (periods ps : Nat) (s : State), (∀ a, a ∈ s.btb.bus[b].aux → a < 2 ^ 15) →
    let x := s.btb.bus[b]
    let st := s.btbState b
    ∃ t, exec (.btbFsEdge b periods ps) s = .next t ∧ (s.btbSlave b = false ∨ st < 2 ∨ 3 < st → t = s) ∧
      (s.btbSlave b = true → st = 2 → (x.good = none ∨ periods ≠ 2048) → t.btbState b = 2 ∧ t.btb.bus[b].good = some 0 ∧ only b s t []) ∧
      (∀ g, s.btbSlave b = true → st = 2 → x.good = some g → periods = 2048 → g + 1 < 8 → t.btbState b = 2 ∧ t.btb.bus[b].good = some (g + 1) ∧ only b s t []) ∧
      (∀ g, s.btbSlave b = true → st = 2 → x.good = some g → periods = 2048 → 7 ≤ g →
        t.btbState b = 3 ∧ t.bit (btbReg b 0xC) 0 = true ∧ edge b s t (s.btbStamp b ps) 0 false) ∧
      (s.btbSlave b = true → st = 3 → periods = 2048 → t.btbState b = 3 ∧ edge b s t (s.btbStamp b ps) ((s.fld (btbReg b 8) 16 4 + 1) % 16) false) ∧
      (s.btbSlave b = true → st = 3 → periods ≠ 2048 → t.btbState b = 4 ∧ t.btb.bus[b].frame = [] ∧ s.raised t (btbReg b 0xC) 0x10 ∧
        t.rd (btbReg b 0x34) = BitVec.ofNat 32 (min ((s.rd (btbReg b 0x34)).toNat + 1) 0xFFFFFFFF) ∧ only b s t [8, 0xC, 0x34])) ∧
  (∀ (b : Fin 4) (s : State),
    let st := s.btbState b
    ∃ t, exec (.btbClkLoss b) s = .next t ∧ (s.btbSlave b = false ∨ st < 2 ∨ 3 < st → t = s) ∧
      (s.btbSlave b = true → st = 2 → t.btbState b = 2 ∧ t.btb.bus[b].good = none ∧ only b s t []) ∧
      (s.btbSlave b = true → st = 3 → t.btbState b = 4 ∧ t.btb.bus[b].frame = [] ∧ s.raised t (btbReg b 0xC) 8 ∧
        t.rd (btbReg b 0x30) = BitVec.ofNat 32 (min ((s.rd (btbReg b 0x30)).toNat + 1) 0xFFFFFFFF) ∧ only b s t [8, 0xC, 0x30])) ∧
  (∀ (b : Fin 4) (s : State),
    ∃ t, exec (.btbClkReturn b) s = .next t ∧ (¬ (s.btbSlave b = true ∧ s.btbState b = 4) → t = s) ∧
      (s.btbSlave b = true → s.btbState b = 4 → t.btbState b = 2 ∧ t.btb.bus[b].good = none ∧ only b s t [8]))

/-- R356, R360 to R362, R365 and Table 13.4: which state accepts PAUSE, STOP and START and what each does; a written mask waits for the next edge and a staged one for a commit; the common start's five checks, its cancellation and its instant; and what the reads of the edge and of the image latch. -/
def Obligations.BusCommands : Prop :=
  let mine := fun (b : Fin 4) (s t : State) => (∀ c : Fin 4, c ≠ b → t.btb.bus[c] = s.btb.bus[c]) ∧ t.btb.common = s.btb.common
  (∀ (m : Master) (b : Fin 4) (s : State), s.checkWrite m (btbReg b 4) 1 = none →
    ∃ t, exec (.btbPause m b) s = .next t ∧ (s.btbState b ≠ 3 → s.refuses t m .state (btbReg b 4)) ∧
      (s.btbState b = 3 → t.btb.bus[b] = { s.btb.bus[b] with pauseNext := some (s.fld (btbReg b 0x1C) 0 16, s.tick + 1) } ∧ mine b s t ∧ s.keepsBut [.btb] t)) ∧
  (∀ (m : Master) (b : Fin 4) (s : State), s.checkWrite m (btbReg b 4) 2 = none →
    let st := s.btbState b
    let ok := st = 2 ∨ st = 3 ∨ st = 4 ∨ st = 1 ∧ s.btbSlave b = false
    ∃ t, exec (.btbStop m b) s = .next t ∧ (¬ ok → s.refuses t m .state (btbReg b 4)) ∧
      (ok → t.btbState b = 1 ∧ t.btbPaused b = false ∧ t.fld (btbReg b 0x1C) 16 16 = 0 ∧ t.btb.bus[b].startFrom = none ∧ t.btb.bus[b].frame = [] ∧
        t.btb.bus[b].mask = s.btb.bus[b].mask ∧ mine b s t ∧ State.regsBut [btbReg b 8, btbReg b 0x1C] s t ∧ s.keepsBut [.regs, .btb] t)) ∧
  (∀ (m : Master) (b : Fin 4) (s : State), s.checkWrite m (btbReg b 4) 3 = none →
    let listed := ∃ c, s.btb.common = some c ∧ c.buses.testBit b.val = true
    ∃ t, exec (.btbStart m b) s = .next t ∧ (listed → s.refuses t m .busy (btbReg b 4)) ∧ (¬ listed → s.btbState b ≠ 1 → s.refuses t m .state (btbReg b 4)) ∧
      (¬ listed → s.btbState b = 1 → s.btbSlave b = true → t.btbState b = 2 ∧ t.btb.bus[b].good = none ∧ mine b s t ∧ State.regsBut [btbReg b 8] s t ∧ s.keepsBut [.regs, .btb] t) ∧
      (¬ listed → s.btbState b = 1 → s.btbSlave b = false → t.btb.bus[b] = { s.btb.bus[b] with startFrom := some s.tick } ∧ mine b s t ∧ s.keepsBut [.btb] t)) ∧
  (∀ (m : Master) (b : Fin 4) (v : Word) (s : State), s.checkWrite m (btbReg b 0x10) v = none →
    ∃ t, exec (.btbMaskWrite m b v) s = .next t ∧ t.rd (btbReg b 0x10) = v ∧ t.btb.bus[b] = { s.btb.bus[b] with maskNext := some (v, s.tick + 1) } ∧ mine b s t ∧
      State.regsBut [btbReg b 0x10] s t ∧ s.keepsBut [.regs, .btb] t) ∧
  (∀ (m : Master) (b : Fin 4) (v : Word) (s : State), s.checkWrite m (btbReg b 0x14) v = none →
    ∃ t, exec (.btbStgMaskWrite m b v) s = .next t ∧ t.rd (btbReg b 0x14) = v ∧ t.bit (btbReg b 0x18) 0 = true ∧ State.regsBut [btbReg b 0x14, btbReg b 0x18] s t ∧ s.keepsBut [.regs] t) ∧
  (∀ (m : Master) (buses : Fin 16) (s : State), s.checkWrite m 0x0C1000 (BitVec.ofNat 32 (16 + buses.val)) = none →
    let listed := fun (b : Fin 4) => buses.val.testBit b.val = true
    let fit := ∀ b c, listed b → listed c → s.plt.plot.btbOn b = true ∧ s.btbSlave b = false ∧ s.btbTb b = s.btbTb c
    let inst := s.timeAt 0x0C1010
    ∃ t, exec (.btbCommonStartArm m buses) s = .next t ∧ (¬ fit → s.refuses t m .plot 0x0C1000) ∧
      (fit → (∃ b, listed b ∧ s.btbState b ≠ 1) → s.refuses t m .state 0x0C1000) ∧
      (fit → (∀ b, listed b → s.btbState b = 1) →
        (inst % multiU ≠ 0 → s.refuses t m .range 0x0C1000) ∧
        (∀ b, listed b ∨ buses = 0 ∧ b = 0 → inst % multiU = 0 →
          (inst < s.tbs[s.btbTb b].value ∨ s.tbs[s.btbTb b].value + 3600 * secU < inst → s.refuses t m .time 0x0C1000) ∧
          (s.tbs[s.btbTb b].value ≤ inst → inst ≤ s.tbs[s.btbTb b].value + 3600 * secU →
            (s.btb.common ≠ none → s.refuses t m .busy 0x0C1000) ∧
            (s.btb.common = none → t.btb.common = some ⟨buses.val, inst⟩ ∧ t.bit 0x0C1000 31 = true ∧ t.fld 0x0C1000 0 4 = buses.val ∧
              (∀ c : Fin 4, t.btb.bus[c] = s.btb.bus[c]) ∧ State.regsBut [0x0C1000] s t ∧ s.keepsBut [.regs, .btb, .irq] t))))) ∧
  (∀ (m : Master) (s : State), s.checkWrite m 0x0C1000 32 = none →
    ∃ t, exec (.btbCommonStartCancel m) s = .next t ∧ (s.btb.common = none → s.refuses t m .state 0x0C1000) ∧
      (s.btb.common ≠ none → t.btb = { s.btb with common := none } ∧ t.bit 0x0C1000 31 = false ∧ State.regsBut [0x0C1000] s t ∧ s.keepsBut [.regs, .btb] t)) ∧
  (∀ s : State, s.btb.common = none → exec .btbCommonStart s = .next s) ∧
  (∀ (k : CommonStart) (n : Fin 64) (s : State), s.btb.common = some k → (∀ b : Fin 4, k.buses.testBit b.val = true → s.btbTb b = n) → (∃ b : Fin 4, k.buses.testBit b.val = true) ∨ n = s.btbTb 0 →
    ∃ t, exec .btbCommonStart s = .next t ∧ (s.tbs[n].value < k.inst → t = s) ∧
      (k.inst ≤ s.tbs[n].value → t.btb.common = none ∧ t.bit 0x0C1000 31 = false ∧
        (∀ b : Fin 4, (k.buses.testBit b.val = true ∧ s.btbState b = 1 → t.btbState b = 3 ∧ t.fld (btbReg b 8) 16 4 = 0 ∧ t.bit (btbReg b 0xC) 0 = true ∧ t.btb.bus[b].startFrom = none ∧
            ∀ i : Fin 4, t.rd (btbReg b (0x40 + 4 * i.val)) = (timeWords k.inst).getD i.val 0) ∧
          (¬ (k.buses.testBit b.val = true ∧ s.btbState b = 1) → t.btb.bus[b] = s.btb.bus[b])) ∧
        State.regsBut (0x0C1000 :: (List.range 4).flatMap (fun b => [8, 0xC, 0x1C, 0x28, 0x40, 0x44, 0x48, 0x4C, 0x50].map (fun o => btbReg b o))) s t ∧
        s.keepsBut [.regs, .btb, .pmc, .irq] t)) ∧
  (∀ (m : Master) (b : Fin 4) (s : State), s.checkRead m (btbReg b 0x40) = none →
    ∃ t, exec (.btbEdgeW0Read m b) s = .next t ∧ t.answerOf m.idx = s.rd (btbReg b 0x40) ∧
      (∀ i : Fin 4, t.hget m.idx (btbReg b (0x44 + 4 * i.val)) = s.rd (btbReg b (0x44 + 4 * i.val))) ∧ s.keepsBut [.held, .resp] t) ∧
  (∀ (m : Master) (b : Fin 4) (s : State), s.checkRead m (btbReg b 0x100) = none →
    let word := fun (k : Nat) => (s.btb.bus[b].image.getD k 0#64).toNat
    ∃ t, exec (.btbImg0HiRead m b) s = .next t ∧ t.answerOf m.idx = BitVec.ofNat 32 (word 0 / 2 ^ 32) ∧
      (∀ k : Fin 32, t.hget m.idx (btbReg b (0x100 + 8 * k.val)) = BitVec.ofNat 32 (word k.val / 2 ^ 32) ∧ t.hget m.idx (btbReg b (0x104 + 8 * k.val)) = BitVec.ofNat 32 (word k.val)) ∧
      s.keepsBut [.held, .resp] t)

/-! ### Lead, understudy and witness -/

/-- R366, R368, R371, R375, R377 and Table 14.15: what a write of WNG_CTL checks, how pairing begins and ends, STEP_DOWN, the two modes of a path, its coming up and going down, and the heartbeats sent and compared bit for bit. -/
def Obligations.PairingAndHeartbeats : Prop :=
  (∀ (m : Master) (v : Word) (s : State), s.checkWrite m 0x0D0000 v = none →
    let on := fget v 0 1 = 1
    let calm := s.role = 0 ∨ s.role = 1
    let locked := fget v 0 2 ≠ s.fld 0x0D0000 0 2 ∧ ¬ calm
    let lacking := on ∧ s.paired = false ∧ (s.wingsSlot = none ∨ s.leaseEntry = none)
    ∃ t, exec (.pairEnWrite m v) s = .next t ∧ (locked → s.refuses t m .state 0x0D0000) ∧ (¬ locked → lacking → s.refuses t m .plot 0x0D0000) ∧
      (¬ locked → ¬ lacking → t.paired = decide on ∧ t.wngUnit = fget v 1 1 ∧ t.preferred = decide (fget v 2 1 = 1) ∧ s.keepsBut linkParts t ∧
        (on → s.paired = false → t.steppedDown ∧ t.wng.pairedAt = s.tick ∧ t.wng.witAt = s.tick ∧ t.wng.frame = none ∧ t.wng.heardAt = none) ∧
        (¬ on → s.paired = true → t.role = 0 ∧ t.partnerRole = 7 ∧ t.leaseHeld = false ∧ t.eligible = false ∧ t.wng.expiry = none ∧ t.wng.reqs = []) ∧
        (s.paired = decide on → t.role = s.role ∧ t.wng = s.wng))) ∧
  (∀ (m : Master) (s : State), s.checkWrite m 0x0D0004 1 = none →
    let may := s.leads = true ∧ s.bit 0x0D0008 22 = true
    ∃ t, exec (.stepDown m) s = .next t ∧ (¬ may → s.refuses t m .state 0x0D0004) ∧
      (may → t.steppedDown ∧ (s.leaseKey = none → t.wng.released = s.wng.released ∧ t.fv = s.fv) ∧
        (s.leaseKey ≠ none → t.wng.released = some (Config.freeValue 64 s.fv).toNat ∧ t.wng.acked = false) ∧ s.keepsBut linkParts t)) ∧
  (∀ (m : Master) (x : Fin 2) (s : State), s.checkWrite m 0x0D0004 (BitVec.ofNat 32 (2 + x.val)) = none →
    ∃ t, exec (.hbEnter m x) s = .next t ∧ (s.wng.paths[x].hb = true → t = s) ∧
      (s.wng.paths[x].hb = false → t.wng = { s.wng with paths := s.wng.paths.set x { s.wng.paths[x] with hb := true, hbNext := none } } ∧
        t.pathMode x = (if s.wng.paths[x].locked then 2 else 0) ∧ State.regsBut [0x0D0008] s t ∧ s.keepsBut [.regs, .wng] t)) ∧
  (∀ (m : Master) (x : Fin 2) (s : State), s.checkWrite m 0x0D0004 (BitVec.ofNat 32 (4 + x.val)) = none →
    let faulty := s.srcLive (0x1200 + 2 * x.val) = true ∨ s.srcLive (0x1201 + 2 * x.val) = true
    ∃ t, exec (.hbExit m x) s = .next t ∧ (faulty → s.refuses t m .state 0x0D0004) ∧
      (¬ faulty → t.wng = { s.wng with paths := s.wng.paths.set x { s.wng.paths[x] with hb := false, hbNext := none, aliveRx := none } } ∧
        t.pathMode x = (if s.wng.paths[x].locked then 1 else 0) ∧ State.regsBut [0x0D0008] s t ∧ s.keepsBut [.regs, .wng] t)) ∧
  (∀ (x : Fin 2) (s : State),
    ∃ t, exec (.wingsPathUp x) s = .next t ∧ t.wng = { s.wng with paths := s.wng.paths.set x { s.wng.paths[x] with locked := true, aliveRx := none, hbNext := none } } ∧
      t.pathMode x = (if s.wng.paths[x].hb then 2 else 1) ∧ t.pathMode (1 - x.val) = s.pathMode (1 - x.val) ∧ State.regsBut [0x0D0008] s t ∧ s.keepsBut [.regs, .wng] t) ∧
  (∀ (x : Fin 2) (s : State),
    ∃ t, exec (.wingsPathDown x) s = .next t ∧ (s.wng.paths[x].locked = false → t = s) ∧
      (s.wng.paths[x].locked = true → t.pathMode x = 0 ∧ t.wng.paths[x].locked = false ∧ t.wng.paths[x].exchAt = none ∧
        (∀ y : Fin 2, y ≠ x → t.wng.paths[y] = s.wng.paths[y]) ∧ s.raised t 0x0D000C 0x100 ∧ State.regsBut [0x0D0008, 0x0D000C] s t ∧ s.keepsBut [.regs, .wng, .irq] t)) ∧
  (∀ s : State,
    ∃ t, exec .wingsHbSend s = .next t ∧ t.wng = { s.wng with paths := t.wng.paths } ∧ s.keepsBut [.wng] t ∧
      ∀ x : Fin 2, let p := s.wng.paths[x]
        let due := s.paired = true ∧ s.pathMode x = 2 ∧ s.tick % ticksPerMs = 0 ∧ p.sentAt ≠ some s.tick
        let n := (p.hbTx + 1) % 2 ^ 32
        let alive := (p.aliveTx + 1) % 256
        (¬ due → t.wng.paths[x] = p) ∧
        (due → t.wng.paths[x] = { p with hbTx := n, aliveTx := alive, sentAt := some s.tick, sent := s.wngHeader x 3 s.wngUnit alive 64 ++ hbPayload n s.wngUnit })) ∧
  (∀ (x : Fin 2) (l : List Byte) (s : State),
    let p := s.wng.paths[x]
    let count := beNat (slice l 8 4)
    let alive := beNat (slice l 3 1)
    let e := p.hbNext.getD (count, alive)
    let good := l = s.wngHeader x 3 (1 - s.wngUnit) e.2 64 ++ hbPayload e.1 (1 - s.wngUnit)
    let next := s.wng.paths.set x { p with hbNext := some ((count + 1) % 2 ^ 32, (alive + 1) % 256) }
    ∃ t, exec (.wingsHbReceive x l) s = .next t ∧ (¬ (s.paired = true ∧ s.pathMode x = 2) → t = s) ∧
      (s.paired = true → s.pathMode x = 2 → good → t.wng = { s.wng with paths := next, heardAt := some s.tick, lost := false } ∧
        t.rd (pathReg x 0x18) = s.rd (pathReg x 0x18) + 1 ∧ State.regsBut [pathReg x 0x18] s t ∧ s.keepsBut [.regs, .wng, .pmc] t) ∧
      (s.paired = true → s.pathMode x = 2 → ¬ good → t.wng = { s.wng with paths := next } ∧ s.raised t 0x0D000C 0x200 ∧
        t.rd (pathReg x 0x14) = BitVec.ofNat 32 (min ((s.rd (pathReg x 0x14)).toNat + 1) 0xFFFFFFFF) ∧
        State.regsBut [pathReg x 0x14, 0x0D000C] s t ∧ s.keepsBut [.regs, .wng, .pmc, .irq] t))

/-- R372, R374 to R376, R378 to R380, R395 and Tables 14.2 to 14.6: a TIME frame and a checkpoint's chunks as they are sent; a received frame that fails its checks is only counted; a TIME frame is remembered, gives delay and offset, and makes a lead yield to a higher lease; a chunk enters its slot once, and the slot is COMPLETE when all chunks are held and IMAGE_CRC matches. -/
def Obligations.LinkFrames : Prop :=
  let framed := fun (x : Fin 2) (type len : Nat) (l : List Byte) (s t : State) =>
    (¬ (s.paired = true ∧ s.pathMode x = 1) → t = s) ∧
    (s.paired = true → s.pathMode x = 1 →
      (s.framing x type len l = .bad → t.rd (pathReg x 0xC) = BitVec.ofNat 32 (min ((s.rd (pathReg x 0xC)).toNat + 1) 0xFFFFFFFF) ∧
        State.regsBut [pathReg x 0xC] s t ∧ s.keepsBut [.regs, .pmc] t) ∧
      (s.framing x type len l = .stale → t.rd (pathReg x 0x10) = BitVec.ofNat 32 (min ((s.rd (pathReg x 0x10)).toNat + 1) 0xFFFFFFFF) ∧
        State.regsBut [pathReg x 0x10] s t ∧ s.keepsBut [.regs, .pmc] t) ∧
      (∀ p gap, s.framing x type len l = .ok p gap → t.rd (pathReg x 0x18) = s.rd (pathReg x 0x18) + 1 ∧ t.wng.paths[x].aliveRx = some (beNat (slice l 3 1)) ∧
        t.rd (pathReg x 0x10) = (if gap then BitVec.ofNat 32 (min ((s.rd (pathReg x 0x10)).toNat + 1) 0xFFFFFFFF) else s.rd (pathReg x 0x10))))
  (∀ (x : Fin 2) (type len : Nat) (l : List Byte) (s : State),
    s.framing x type len l ≠ .bad → l.length = 12 + len ∧ beNat (slice l 0 1) = type ∧ beNat (slice l 6 2) = s.pairId ∧ beNat (slice l 2 1) / 2 % 2 ≠ s.wngUnit ∧
      beNat (l.drop (8 + len)) = crc32c (l.take (8 + len))) ∧
  (∀ s : State,
    ∃ t, exec .wingsTimeSend s = .next t ∧ t.wng = { s.wng with paths := t.wng.paths } ∧ s.keepsBut [.wng] t ∧
      ∀ x : Fin 2, let p := s.wng.paths[x]
        let q := t.wng.paths[x]
        let due := s.paired = true ∧ s.pathMode x = 1 ∧ s.tick % ticksPerMs = 0 ∧ p.sentAt ≠ some s.tick
        let n := (p.tseq + 1) % 2 ^ 32
        let field := fun (o k : Nat) => slice q.sent (8 + o) k
        (¬ due → q = p) ∧
        (due → q.tseq = n ∧ q.aliveTx = (p.aliveTx + 1) % 256 ∧ q.sentAt = some s.tick ∧ q.txPrev = s.tb0 ∧ q.departs.head? = some (n, s.tb0) ∧
          q.latched = s.timeMasks ++ s.timeRecords ∧ q.sent.length = 2140 ∧ q.sent.take 8 = s.wngHeader x 1 s.wngUnit ((p.aliveTx + 1) % 256) 2128 ∧
          q.sent.drop 2136 = beBytes 4 (crc32c (q.sent.take 2136)) ∧
          field 0 2 = [BitVec.ofNat 8 s.role, BitVec.ofNat 8 s.timeFlags] ∧ field 2 2 = beBytes 2 s.wingsQ ∧ field 4 4 = beBytes 4 (s.rd 0x0D0010).toNat ∧
          field 8 4 = beBytes 4 (s.rd 0x0D0050).toNat ∧ field 12 4 = beBytes 4 (s.rd 0x0D0068).toNat ∧ field 16 4 = beBytes 4 n ∧ field 20 4 = beBytes 4 p.rxTseq ∧
          field 24 16 = time16 p.txPrev ∧ field 40 16 = time16 p.rxStamp ∧ field 72 8 = List.replicate 8 0#8 ∧
          (p.latched.length = 2064 → field 56 16 = p.latched.take 16 ∧ field 80 2048 = p.latched.drop 16))) ∧
  (∀ (x : Fin 2) (tap : Fin 512) (l : List Byte) (s : State),
    ∃ t, exec (.wingsTimeReceive x tap l) s = .next t ∧ framed x 1 2128 l s t ∧
      ∀ p gap, s.paired = true → s.pathMode x = 1 → s.framing x 1 2128 l = .ok p gap →
        let m := timeMsgIn p
        let stamp := s.stampIn 0 (if s.wingsRefined x then tap.val else 0)
        let own := (s.rd 0x0D0050).toNat
        let yields := s.leads = true ∧ (m.role = 3 ∨ m.role = 4) ∧ own < m.leaseNo.toNat
        let meets := s.leads = true ∧ m.role = 4 ∧ m.leaseNo.toNat = own
        t.wng.frame = some (m, x.val) ∧ t.wng.frameAt = some s.tick ∧ t.wng.heardAt = some s.tick ∧ t.wng.lost = false ∧
        t.wng.paths[x].rxTseq = m.tseq ∧ t.wng.paths[x].rxStamp = stamp ∧ t.wng.paths[x].arrivals.head? = some (m.tseq, stamp, s.tick) ∧
        t.partnerRole = m.role % 8 ∧ t.bit 0x0D0008 22 = m.flags.testBit 2 ∧ t.rd 0x0D0014 = m.health ∧ t.rd 0x0D006C = m.ckptAck ∧
        (∀ t2 k j t3, s.wng.paths[x].arrivals.head? = some ((m.tseq + 2 ^ 32 - 1) % 2 ^ 32, t2, k) → s.wng.paths[x].departs.find? (fun a => a.1 = m.rxTseq) = some (j, t3) →
          let d12 : Int := (t2 : Int) - m.txPrev
          let d34 : Int := (m.rxStamp : Int) - t3
          let asym : Int := signed 32 (s.rd (pathReg x 0)).toNat * ((2 ^ 56 : Nat) : Int) / 1000
          t.rd (pathReg x 4) = sat32 (psOf ((d12 + d34).tdiv 2)) ∧ t.rd (pathReg x 8) = sat32 (psOf ((d34 - d12).tdiv 2 + asym)) ∧ t.wng.paths[x].exchAt = some s.tick) ∧
        (yields → t.steppedDown ∧ t.bit 0x0D000C 2 = true) ∧ (meets → t.bit 0x0D000C 10 = true ∧ (s.wngUnit = 1 → t.steppedDown)) ∧
        (¬ yields → ¬ (meets ∧ s.wngUnit = 1) → (∀ seq k, s.wng.finalOut = some (seq, k) → s.role = 4 → m.ckptAck.toNat = seq → s.tick ≤ k + 20 * ticksPerMs →
          t.steppedDown ∧ t.bit 0x0D000C 11 = true) ∧ (s.wng.finalOut = none → t.role = s.role)) ∧
        s.keepsBut linkParts t) ∧
  (∀ s : State,
    let unit := (s.rd 0x0D0060).toNat * 1000000 * 2 ^ 56
    let due := s.leads = true ∧ s.wng.ckAt ≠ some s.tick ∧ s.tbs[0].prev / unit < s.tb0 / unit
    let seq := ((s.rd 0x0D0064).toNat + 1) % 2 ^ 32
    let mains := (List.finRange 2).filter (fun (x : Fin 2) => decide (s.pathMode x = 1))
    ∃ t, exec .checkpointTake s = .next t ∧ (¬ due → t = s) ∧
      (due → t.rd 0x0D0064 = s.rd 0x0D0064 + 1 ∧ t.wng.ckAt = some s.tick ∧ t.wng.finalOut = (if s.finalDue then some (seq, s.tick) else none) ∧
        leAt t.wng.image 0 4 = 0x4B504359 ∧ imgSeq t.wng.image = seq ∧ imgFinal t.wng.image = s.finalDue ∧ leAt t.wng.image 0x34 4 = (s.rd 0x0D0060).toNat ∧ imgCrcOk t.wng.image = true ∧
        t.wng.image.length = 0x1DD00 + 16 * min s.key.dir.length 8192 ∧
        (let n := divUp t.wng.image.length 1024
         t.wng.chunks.length = n * mains.length ∧
         ∀ i, i < n → ∀ j : Nat, j < mains.length → slice (t.wng.chunks.getD (i * mains.length + j) []) 8 1036 =
           beBytes 4 seq ++ [BitVec.ofNat 8 (seq % 2), 0#8] ++ beBytes 2 i ++ beBytes 2 n ++ [0#8, 0#8] ++ fitBytes 1024 (slice t.wng.image (1024 * i) 1024)) ∧
        State.regsBut [0x0D0064] s t ∧ s.keepsBut [.regs, .wng] t)) ∧
  (∀ (x : Fin 2) (l : List Byte) (s : State),
    ∃ t, exec (.checkpointChunkReceive x l) s = .next t ∧ framed x 2 1036 l s t ∧
      State.regsBut [pathReg x 0xC, pathReg x 0x10, pathReg x 0x18, 0x0D0008, 0x0D000C, 0x0D0068] s t ∧ s.keepsBut [.regs, .wng, .pmc, .irq] t ∧
      ∀ p gap, s.paired = true → s.pathMode x = 1 → s.framing x 2 1036 l = .ok p gap →
        let seq := beNat (slice p 0 4)
        let k := beNat (slice p 6 2)
        let n := beNat (slice p 8 2)
        let dropped := (s.bestSlot.isSome = true ∧ seq < (s.rd 0x0D0068).toNat) ∨ n = 0 ∨ 248 < n ∨ n ≤ k
        (dropped → t.wng.slots = s.wng.slots ∧ t.rd 0x0D0068 = s.rd 0x0D0068) ∧
        (¬ dropped → ∀ i : Fin 2, i.val = seq % 2 → (∀ j : Fin 2, j ≠ i → t.wng.slots[j] = s.wng.slots[j]) ∧
          let old := s.wng.slots[i]
          let c : CkSlot := if old.seq = some seq then old else { seq := some seq, count := n }
          let held := c.complete = true ∨ ∃ b, (k, b) ∈ c.chunks
          let filled : CkSlot := { c with chunks := Sparse.set (fun _ => []) c.chunks k (slice p 12 1024) }
          let whole := filled.chunks.length = c.count ∧ imgCrcOk filled.bytes = true
          (held → t.wng.slots[i] = c ∧ t.rd 0x0D0068 = s.rd 0x0D0068) ∧ (¬ held → ¬ whole → t.wng.slots[i] = filled ∧ t.rd 0x0D0068 = s.rd 0x0D0068) ∧
          (¬ held → whole → t.wng.slots[i] = { filled with complete := true, image := filled.bytes.take (imgLen filled.bytes), doneAt := s.tick } ∧
            t.rd 0x0D0068 = BitVec.ofNat 32 seq ∧ t.bit 0x0D0008 (17 - i.val) = true ∧ t.bit 0x0D000C 6 = true ∧
            (imgTbCrc filled.bytes ≠ s.tbSectCrc → t.bit 0x0D000C 7 = true))))

/-- R368, R381, R382, R384, R385, R387, R388, R395 and Table 14.2: the health word and ELIGIBLE, the requests and their nonces (a free value each), what a valid GRANT, REFUSE or RELEASE_ACK does, the lease's expiry, the witness's and the partner's silence, the hold-off timer, the release for a handback. -/
def Obligations.LeaseAndRoles : Prop :=
  let asked := fun (kind : Nat) (s t : State) =>
    (s.leaseKey = none → t.wng.reqs = s.wng.reqs ∧ t.ports = s.ports ∧ t.fv = s.fv) ∧
    (∀ key, s.leaseKey = some key → t.fv = s.fv + 1 ∧
      (let n := (Config.freeValue 64 s.fv).toNat
       t.wng.reqs = (s.wng.reqs.filter (fun q => match q.tick with | some k => decide (s.tick ≤ k + s.leaseMs * ticksPerMs) | none => true)) ++ [⟨n, kind, none⟩] ∧
       (s.leaseEntry ≠ none → s.dispatchTo 3 ≠ none → t.wng.lease.take 4 = beBytes 4 0x594C5331 ∧ slice t.wng.lease 4 2 = [1#8, 1#8] ∧ slice t.wng.lease 6 2 = beBytes 2 s.pairId ∧
         slice t.wng.lease 8 2 = [BitVec.ofNat 8 s.wngUnit, BitVec.ofNat 8 kind] ∧ slice t.wng.lease 12 4 = beBytes 4 (s.rd 0x0D0050).toNat ∧ slice t.wng.lease 16 8 = beBytes 8 n ∧
         slice t.wng.lease 24 4 = beBytes 4 s.leaseMs ∧ slice t.wng.lease 32 4 = beBytes 4 (s.rd 0x0D0010).toNat ∧ t.wng.lease.drop 40 = beBytes 32 (Config.hmac256 key (t.wng.lease.take 40)).toNat ∧
         ∀ p : Fin 16, p ∉ s.leasePorts → t.ports[p] = s.ports[p])))
  (∀ s : State,
    let req := (s.rd 0x0D0018).toNat
    let ok := s.health &&& req = req
    let falls := ¬ ok ∧ (s.role = 2 ∨ s.role = 3)
    ∃ t, exec .healthEval s = .next t ∧ (s.paired = false → t = s) ∧
      (s.paired = true → t.rd 0x0D0010 = BitVec.ofNat 32 s.health ∧ t.eligible = decide ok ∧ t.fld 0x0D0010 12 20 = 0 ∧
        t.bit 0x0D0010 1 = (s.apll0Locked && s.sysLocked) ∧ t.bit 0x0D0010 2 = (!s.liveSevere && !s.wng.fatal) ∧
        t.bit 0x0D0010 8 = decide ((signed 32 (s.rd 0x0D007C).toNat).natAbs ≤ (s.rd 0x0D0078).toNat * 1000) ∧
        (s.leads = true → t.bit 0x0D0010 6 = decide (s.rd 0x0D006C = s.rd 0x0D0064 ∨ s.rd 0x0D006C + 1 = s.rd 0x0D0064)) ∧
        (falls → t.steppedDown ∧ t.wng.holdFrom = none) ∧
        (¬ falls → t.role = s.role ∧ State.regsBut [0x0D0008, 0x0D0010] s t ∧ s.keepsBut [.regs, .wng] t ∧
          t.wng = { s.wng with holdFrom := if s.role = 1 ∧ s.preferred = true ∧ ok ∧ s.partnerRole = 4 then some (s.wng.holdFrom.getD s.tick) else none }) ∧
        s.keepsBut linkParts t)) ∧
  (∀ s : State,
    let due := s.leads = true ∧ ∃ k, s.wng.renewAt = some k ∧ k ≤ s.tick
    ∃ t, exec .leaseRenewSend s = .next t ∧ (¬ due → t = s) ∧
      (due → asked 0 s t ∧ t.wng.renewAt = some (s.tick + s.renewMs * ticksPerMs) ∧ s.keepsBut [.wng, .ports, .fv] t)) ∧
  (∀ s : State,
    let late := s.tick ≥ s.wng.pairedAt + (s.leaseMs + s.guardMs) * ticksPerMs
    let astray := ∃ m x, s.wng.frame = some (m, x) ∧ m.role ≠ 2 ∧ m.role ≠ 3 ∧ m.role ≠ 4 ∧ m.role ≠ 5
    let take := s.role = 1 ∧ s.eligible = true ∧ (if s.wng.heardAt = none ∧ s.preferred = false then late else s.silent = true ∨ astray)
    let back := s.role = 2 ∧ (∃ c, s.bestSlot = some c ∧ imgFinal c.image = true) ∧ ∃ m x, s.wng.frame = some (m, x) ∧ m.role = 1
    let due := ∀ k, s.wng.takeAt = some k → k ≤ s.tick
    ∃ t, exec .takeRequestSend s = .next t ∧ (¬ take → ¬ back → t.wng = { s.wng with takeAt := none } ∧ s.keepsBut [.wng] t) ∧
      ((take ∨ back) → ¬ due → t = s) ∧
      ((take ∨ back) → due → asked (if s.role = 1 then 1 else 2) s t ∧ t.wng.takeAt = some (s.tick + s.renewMs * ticksPerMs) ∧ s.keepsBut [.wng, .ports, .fv] t)) ∧
  (∀ (l : List Byte) (s : State),
    let valid := s.paired = true ∧ s.leaseValid 2 l = true
    ∃ t, exec (.leaseGrantReceive l) s = .next t ∧ (¬ valid ∨ s.leaseAnswered l = none → t = s) ∧
      (∀ q k, valid → s.leaseAnswered l = some q → q.tick = some k →
        let due := k + min (beNat (slice l 24 4)) s.leaseMs * ticksPerMs
        let held := t.rd 0x0D0050 = BitVec.ofNat 32 (beNat (slice l 12 4)) ∧ t.leaseHeld = true ∧ t.wng.expiry = some due
        let fixed := fun (handback : Bool) => ∃ k, t.wng.takeover = some k ∧ k.inst = stepInstant s.tb0 ∧ k.handback = handback ∧ k.image = s.bestSlot.map CkSlot.image ∧ k.frame = s.wng.frame
        t.witnessBlind = false ∧ t.wng.witAt = s.tick ∧
        (q.kind = 0 → s.leads = true → held ∧ t.role = 4) ∧ (q.kind = 1 → s.role = 1 → held ∧ t.role = 3 ∧ fixed false ∧ t.wng.takeAt = none) ∧
        (q.kind = 2 → s.role = 2 → held ∧ t.role = 2 ∧ fixed true ∧ t.wng.takeAt = none) ∧
        (¬ (q.kind = 0 ∧ s.leads = true ∨ q.kind = 1 ∧ s.role = 1 ∨ q.kind = 2 ∧ s.role = 2) → t.wng = { s.wng with witAt := s.tick } ∧ State.regsBut [0x0D0008] s t ∧ s.keepsBut [.regs, .wng] t) ∧
        s.keepsBut [.regs, .wng, .out, .btb, .irq] t)) ∧
  (∀ (l : List Byte) (s : State),
    let valid := s.paired = true ∧ s.leaseValid 3 l = true
    ∃ t, exec (.leaseRefuseReceive l) s = .next t ∧ (¬ valid ∨ s.leaseAnswered l = none → t = s) ∧
      (∀ q, valid → s.leaseAnswered l = some q → t.witnessBlind = false ∧ State.regsBut [0x0D0008] s t ∧ s.keepsBut [.regs, .wng] t ∧
        t.wng = { s.wng with witAt := s.tick, takeAt := if q.kind ≠ 0 ∧ s.wng.takeAt ≠ none then some (s.tick + beNat (slice l 28 4) * ticksPerMs) else s.wng.takeAt })) ∧
  (∀ (l : List Byte) (s : State),
    let valid := s.paired = true ∧ s.leaseValid 5 l = true ∧ s.wng.released = some (beNat (slice l 16 8))
    ∃ t, exec (.leaseReleaseAckReceive l) s = .next t ∧ (¬ valid → t = s) ∧ (valid → t.wng = { s.wng with acked := true } ∧ s.keepsBut [.wng] t)) ∧
  (∀ s : State,
    let past := ∃ k, s.wng.expiry = some k ∧ k < s.tick
    let blind := s.witnessBlind = true ∨ s.paired = true ∧ s.wng.witAt + 2 * s.renewMs * ticksPerMs ≤ s.tick
    let shown := (∃ k, s.wng.frameAt = some k ∧ s.tick < k + 3 * ticksPerMs) ∧ ∃ m x, s.wng.frame = some (m, x) ∧ m.flags.testBit 0 = false ∧ m.flags.testBit 1 = true
    ∃ t, exec .leaseExpire s = .next t ∧ (past → t.leaseHeld = false ∧ t.wng.expiry = none) ∧
      (past → s.role = 4 → t.bit 0x0D000C 5 = true ∧ (blind → shown → t.role = 5) ∧ (¬ (blind ∧ shown) → t.role = 6)) ∧
      (s.role = 5 → ¬ (s.witnessBlind = true ∧ shown) → t.role = 6) ∧ (s.role = 5 → s.witnessBlind = true → shown → t.role = 5) ∧
      (s.role ≠ 4 → s.role ≠ 5 → t.role = s.role) ∧ (¬ past → s.role ≠ 5 → t = s) ∧ s.keepsBut [.regs, .wng, .out, .btb, .irq] t) ∧
  (∀ s : State,
    let now := s.paired = true ∧ s.witnessBlind = false ∧ s.wng.witAt + 2 * s.renewMs * ticksPerMs ≤ s.tick
    ∃ t, exec .witnessBlind s = .next t ∧ (¬ now → t = s) ∧
      (now → t.witnessBlind = true ∧ s.raised t 0x0D000C 0x10 ∧ State.regsBut [0x0D0008, 0x0D000C] s t ∧ s.keepsBut [.regs, .irq] t)) ∧
  (∀ s : State,
    let now := s.paired = true ∧ s.wng.lost = false ∧ ∃ k, s.wng.heardAt = some k ∧ k + 3 * ticksPerMs ≤ s.tick
    ∃ t, exec .partnerLost s = .next t ∧ (¬ now → t = s) ∧
      (now → t.wng = { s.wng with lost := true } ∧ t.partnerRole = 7 ∧ t.bit 0x0D0008 22 = false ∧ s.raised t 0x0D000C 2 ∧
        State.regsBut [0x0D0008, 0x0D000C] s t ∧ s.keepsBut [.regs, .wng, .irq] t)) ∧
  (∀ s : State,
    let now := s.role = 1 ∧ ∃ k, s.wng.holdFrom = some k ∧ k + (s.rd 0x0D0070).toNat * ticksPerS ≤ s.tick
    ∃ t, exec .holdoffExpire s = .next t ∧ (¬ now → t = s) ∧
      (now → t.role = 2 ∧ t.wng = { s.wng with holdFrom := none } ∧ t.bit 0x0D000C 0 = true ∧ s.keepsBut (loopParts ++ [.wng, .pmc]) t ∧
        ∀ (d : Fin 16) (n : Fin 64), s.loopTb d = some n → s.plt.plot.tbPresent n = true → s.tbHost n = false → s.tbFenced n = false → t.dpllState d ≠ 0)) ∧
  (∀ s : State, s.wng.finalOut = none → exec .handbackRelease s = .next s) ∧
  (∀ (seq k : Nat) (s : State), s.wng.finalOut = some (seq, k) →
    let intime := s.tick ≤ k + 20 * ticksPerMs
    let acked := s.role = 4 ∧ (s.rd 0x0D006C).toNat = seq
    ∃ t, exec .handbackRelease s = .next t ∧ (acked → intime → t.steppedDown ∧ t.bit 0x0D000C 11 = true ∧ s.keepsBut linkParts t) ∧
      (¬ acked → intime → t = s) ∧ (¬ intime → t.wng = { s.wng with finalOut := none } ∧ s.keepsBut [.wng] t))

/-- R388, R389, R394 and R395: at the first tick at which TB0 reaches T_k, a unit in TAKING_OVER becomes LEAD, each time base that the checkpoint and the frame both have takes the value and increment of the takeover set and its owner from the checkpoint, without a checkpoint every time base stays untraceable; a unit in ALIGNING becomes LEAD with its time bases untouched; before T_k nothing happens, and in another role the takeover is only dropped. -/
def Obligations.TakeoverAndHandback : Prop :=
  (∀ s : State, (∀ k, s.wng.takeover = some k → s.tb0 < k.inst) → exec .takeoverTick s = .next s) ∧
  (∀ (k : Takeover) (s : State), s.wng.takeover = some k → k.inst ≤ s.tb0 →
    ∃ t, exec .takeoverTick s = .next t ∧ t.wng.takeover = none ∧ s.keepsBut (linkParts ++ [.key]) t ∧
      (k.handback = true → s.role = 2 → t.role = 4 ∧ t.bit 0x0D000C 0 = true ∧ ∀ n : Fin 64, t.tbs[n].value = s.tbs[n].value ∧ t.tbs[n].inc = s.tbs[n].inc ∧ t.tbHost n = s.tbHost n) ∧
      (k.handback = true ∧ s.role ≠ 2 ∨ k.handback = false ∧ s.role ≠ 3 → t.wng = { s.wng with takeover := none } ∧ s.keepsBut [.wng] t) ∧
      (k.handback = false → s.role = 3 → t.role = 4 ∧ t.bit 0x0D000C 3 = true ∧
        (k.image = none ∨ k.frame = none → (∀ n : Fin 64, t.tbs[n].value = s.tbs[n].value) ∧ ∀ n : Fin 64, s.plt.plot.tbPresent n = true → t.untraceable n = true) ∧
        (∀ i m x, k.image = some i → k.frame = some (m, x) → ∀ n : Fin 64,
          let lo := signed 32 (s.rd 0x0D007C).toNat
          let c := imgSections i
          let el := s.takeElapsed k
          (∀ b r, c.tbAt n = some b → m.record n = some r →
            let v := ((m.txPrev + el : Nat) : Int) + m.epoch n + r.ratio * el / ((2 ^ 64 : Nat) : Int)
            let inc0 := (nominalInc : Int) + (nominalInc : Int) * lo / ((10 ^ 15 : Nat) : Int)
            t.tbs[n].value = (v % (timeMod : Int)).toNat ∧ t.tbs[n].inc = (inc0 + inc0 * r.ratio / ((2 ^ 64 : Nat) : Int)).toNat ∧ t.tbHost n = b.owner ∧ t.tbs[n].slew = none ∧
            (k.tw + (s.rd 0x063000).toNat * ticksPerMs < s.tick ∨ r.bound = 0xFFFFFFFF → s.plt.plot.tbPresent n = true → t.untraceable n = true)) ∧
          (c.tbAt n = none ∨ m.record n = none → t.tbs[n].value = s.tbs[n].value ∧ t.tbHost n = s.tbHost n ∧ (s.plt.plot.tbPresent n = true → t.untraceable n = true)))))

/-! ### Faults -/

/-- R398, R399, R402 to R408, R413, R414, R416 to R418 and R504: what one sampled pair does: which samples declare an event; the record of an event; a masked event reacts to nothing; an unmasked one is counted, raised where it escalates, and takes the reaction of its class: none, a fence, a curtain, both, or the FATAL curtain; a cleared pair drops only the live bit; two events of a tick are recorded in the order of their sources. -/
def Obligations.FaultEvents : Prop :=
  let quiet := fun (s t : State) (x : Nat) (on : Bool) =>
    t.srcLive x = on ∧ (∀ y, y ≠ x → t.srcLive y = s.srcLive y) ∧ t.flt.hist = s.flt.hist ∧ t.flt.fences = s.flt.fences ∧ t.flt.curtains = s.flt.curtains ∧ s.keepsBut [.flt] t
  (∀ (x : PairSample) (s : State), srcKnown x.src = false → exec (.faultEvent [x]) s = .next s) ∧
  (∀ (x : PairSample) (s : State), srcKnown x.src = true → x.p = x.n →
    ¬ (Sparse.get (fun _ => 0) s.flt.eqAt x.src = s.tick ∧ s.tick ≠ 0) ∨ flag s.flt.broken x.src = true ∨ s.srcLive x.src = true →
    ∃ t, exec (.faultEvent [x]) s = .next t ∧ quiet s t x.src (s.srcLive x.src)) ∧
  (∀ (x : PairSample) (s : State), srcKnown x.src = true → x.p = true → x.n = false → s.srcLive x.src = true →
    ∃ t, exec (.faultEvent [x]) s = .next t ∧ quiet s t x.src true) ∧
  (∀ (x : PairSample) (s : State), srcKnown x.src = true → x.p = false → x.n = true → ∃ t, exec (.faultEvent [x]) s = .next t ∧ quiet s t x.src false) ∧
  (∀ (src : Nat) (s : State), srcKnown src = true → ∃ t, exec (.sourceLiveBitClear src) s = .next t ∧ quiet s t src false) ∧
  (∀ (x : PairSample) (s : State), srcKnown x.src = true → s.srcLive x.src = false →
    (x.p = true ∧ x.n = false) ∨ (x.p = x.n ∧ Sparse.get (fun _ => 0) s.flt.eqAt x.src = s.tick ∧ s.tick ≠ 0 ∧ flag s.flt.broken x.src = false) →
    let broken := decide (x.p = x.n)
    let own := s.eventClass x.src (defClass x.src)
    let unit := s.wiredUnit x.src x.syn
    let masked := unit.bind s.maskedBy
    let id := s.flt.nextId % 256
    let esc := (s.escalate x.src id).1
    let hit := if esc = none ∧ own = .uc then s.recoveryHit x.src unit else none
    let cls := if esc ≠ none then own.next else if hit ≠ none then FClass.fatal else own
    let entry := s.plt.plot.reactFor x.src
    let latch := match entry with | some q => q.latch | none => false
    let auto := (match entry with | some q => q.auto | none => false) && !latch
    let fencedBit := fun (u : Nat) (t : State) => match u / 256 with
      | 1 => t.bit 0x0E0028 (u % 256)
      | 2 => t.bit 0x0E0028 (4 + u % 256)
      | 3 => t.bit (0x0E002C + 4 * (u % 256 / 32)) (u % 32)
      | 4 => t.bit 0x0E0028 6
      | _ => t.bit 0x0E0028 (7 + u % 256)
    ∃ t r, exec (.faultEvent [x]) s = .next t ∧ s.recorded t x.src r ∧ s.keepsBut (linkParts ++ [.flt, .mem]) t ∧
      t.bit 0x0E0010 0 = true ∧ t.bit 0x0E0018 (x.src / 256) = true ∧ (broken = true → t.bit 0x0E0010 7 = true) ∧
      (32 ≤ s.flt.hist.length → t.rd 0x0E0080 = BitVec.ofNat 32 (min ((s.rd 0x0E0080).toNat + 1) 0xFFFFFFFF)) ∧
      fget r[0] 17 1 = b2n (!s.apll0Locked) ∧ fget r[0] 18 1 = b2n (s.flt.injected.contains x.src) ∧ fget r[0] 20 1 = b2n broken ∧ r[1] = x.syn ∧
      r[3] = BitVec.ofNat 32 s.tick ∧ r[4] = BitVec.ofNat 32 (s.tick / 2 ^ 32) ∧ r[5] = BitVec.ofNat 32 (secOf s.tb0) ∧ r[6] = BitVec.ofNat 32 (nsOf s.tb0) ∧ r[7] = 0 ∧
      (∀ c, masked = some c → fget r[0] 22 2 = own.code ∧ fget r[0] 21 1 = 1 ∧ fget r[2] 20 4 = 4 ∧ fget r[2] 24 8 = c % 256 ∧ t.flt.fences = s.flt.fences ∧
        t.flt.curtains = s.flt.curtains ∧ t.flt.reacts = s.flt.reacts ∧ t.curtain = s.curtain ∧ ∀ i : Fin 8, t.rd (0x0E0040 + 4 * i.val) = s.rd (0x0E0040 + 4 * i.val)) ∧
      (masked = none → fget r[0] 22 2 = cls.code ∧ fget r[0] 21 1 = 0 ∧ fget r[0] 19 1 = b2n (esc.or hit).isSome ∧ (∀ c, esc.or hit = some c → fget r[2] 24 8 = c % 256 ∧ t.bit 0x0E0010 5 = true) ∧
        (cls ≠ .corrected → s.bit 0x0E000C 27 = false → t.bit 0x0E000C 27 = true ∧ ∀ i : Fin 8, t.rd (0x0E0040 + 4 * i.val) = r[i]) ∧
        (cls = .corrected ∨ s.bit 0x0E000C 27 = true → ∀ i : Fin 8, t.rd (0x0E0040 + 4 * i.val) = s.rd (0x0E0040 + 4 * i.val)) ∧
        (cls = .corrected → fget r[2] 20 4 = 0 ∧ t.srcLive x.src = true ∧ t.flt.fences = s.flt.fences ∧ t.flt.curtains = s.flt.curtains ∧ t.flt.reacts = s.flt.reacts) ∧
        (cls = .fatal → fget r[2] 20 4 = 3 ∧ t.srcLive x.src = true ∧ t.flt.curtains = s.flt.curtains ++ [⟨x.src, true, true, none⟩] ∧ t.curtain = true ∧ t.bit 0x0E000C 31 = true ∧
          t.bit 0x0E0010 4 = true ∧ t.bit 0x0E0010 2 = true ∧ t.wng.fatal = true ∧ t.flt.fences = s.flt.fences ∧ t.flt.reacts = s.flt.reacts ++ [⟨id, true, 0, s.tick⟩] ∧
          (s.leads = true → t.steppedDown) ∧ (∀ n : Fin 64, s.plt.plot.tbPresent n = true → t.untraceable n = true)) ∧
        (∀ u, cls = .uc → s.reactionOf x.src = .fence → unit = some u → s.fenceTooMuch u = false →
          fget r[2] 20 4 = 1 ∧ fget r[2] 0 16 = u % 2 ^ 16 ∧ t.flt.fences = s.flt.fences ++ [⟨u, id, auto⟩] ∧ fencedBit u t = true ∧ t.bit 0x0E0010 1 = true ∧
          t.flt.curtains = s.flt.curtains ∧ t.flt.reacts = s.flt.reacts ++ [⟨id, false, u, s.tick⟩] ∧ t.srcLive x.src = !(resetGroup x.src && !broken && !x.holds) ∧
          (u / 256 = 1 → u % 256 < 4 → t.fld (clusReg (u % 256) 0) 30 2 = 3 ∧ ∀ j, j ∈ t.svc.jobs → j.rx.cluster ≠ u % 256) ∧
          (∀ n : Fin 64, u = 0x300 + n.val → s.plt.plot.tbPresent n = true → t.bnd[n].why = 3)) ∧
        (∀ u, cls = .uc → s.reactionOf x.src = .isolate ∨ (s.reactionOf x.src = .fence ∧ s.fenceTooMuch u = true) → unit = some u →
          fget r[2] 20 4 = 2 ∧ fget r[2] 0 16 = u % 2 ^ 16 ∧ t.flt.fences = s.flt.fences ++ [⟨u, id, auto⟩] ∧ fencedBit u t = true ∧
          t.flt.curtains = s.flt.curtains ++ [⟨x.src, latch, false, some u⟩] ∧ t.curtain = true ∧ t.flt.reacts = s.flt.reacts ++ [⟨id, true, u, s.tick⟩]) ∧
        (cls = .uc → s.reactionOf x.src = .curtain → fget r[2] 20 4 = 2 ∧ fget r[2] 0 16 = 0 ∧ t.flt.fences = s.flt.fences ∧ t.flt.curtains = s.flt.curtains ++ [⟨x.src, latch, false, none⟩] ∧
          t.curtain = true ∧ t.flt.reacts = s.flt.reacts ++ [⟨id, true, 0, s.tick⟩] ∧ t.bnd = s.bnd ∧ t.srcLive x.src = true) ∧
        (cls = .uc → s.reactionOf x.src = .log ∨ (unit = none ∧ s.reactionOf x.src ≠ .curtain) →
          fget r[2] 20 4 = (if x.src / 256 = 7 ∨ x.src / 256 = 0x12 ∨ x.src = 0x0B01 then 5 else 0) ∧ t.flt.fences = s.flt.fences ∧ t.flt.curtains = s.flt.curtains ∧
          t.flt.reacts = s.flt.reacts ∧ t.srcLive x.src = true ∧ (x.src / 256 = 7 → x.src % 256 ∈ t.flt.coresDown) ∧
          (∀ y : Fin 2, x.src / 256 = 0x12 → x.src % 256 / 2 = y.val → t.wng.paths[y].hb = true)))) ∧
  (∀ (x y : PairSample) (s : State), srcKnown x.src = true → srcKnown y.src = true → x.src < y.src → x.p = true → x.n = false → y.p = true → y.n = false →
    s.srcLive x.src = false → s.srcLive y.src = false → s.plainSource x.src (defClass x.src) → s.plainSource y.src (defClass y.src) →
    ∃ t, exec (.faultEvent [y, x]) s = .next t ∧ (t.flt.hist.drop (t.flt.hist.length - 2)).map (fun r => fget r[0] 0 16) = [x.src, y.src])

/-- R407, R409, R410, R412, R413, R417 to R419 and Table 15.7: the end of a core's restart, of a reaction in time and too late, of a curtain, of a fence with AUTO and of masking; UNFENCE, RELEASE and CLEAR_FIRST with their checks; a pop of the history; an injection drives its source's pair. -/
def Obligations.FaultCommands : Prop :=
  let freed := fun (f : Fence) (s t : State) =>
    t.flt.fences = s.flt.fences.filter (fun x => decide (x.unit ≠ f.unit)) ∧ t.flt.masks = s.flt.masks ++ [(f.unit, f.id, s.tick + 10 * ticksPerMs)] ∧ t.bit 0x0E0010 3 = true ∧
    t.flt.hist = s.flt.hist ∧ s.keepsBut (linkParts ++ [.flt, .gnss]) t ∧
    (f.unit / 256 = 1 → f.unit % 256 < 4 → t.clusterFenced (f.unit % 256) = false ∧ t.fld (clusReg (f.unit % 256) 0) 30 2 = 0) ∧
    (f.unit / 256 = 2 → f.unit % 256 < 2 → t.complexFenced (f.unit % 256) = false) ∧
    (∀ n : Fin 64, f.unit = 0x300 + n.val → t.tbFenced n = false) ∧
    (f.unit / 256 = 5 → f.unit % 256 < 4 → t.btbFenced (f.unit % 256) = false)
  (∀ (c : Fin 4) (s : State),
    let down := c.val ∈ s.flt.coresDown
    ∃ t, exec (.coreRestartDone c) s = .next t ∧ (¬ down → t = s) ∧
      (down → t.flt = { s.flt with coresDown := s.flt.coresDown.filter (fun x => x ≠ c.val), restarts := t.flt.restarts } ∧
        Sparse.get (fun _ => 0) t.flt.restarts c.val = Sparse.get (fun _ => 0) s.flt.restarts c.val + 1 ∧ s.keepsBut [.flt] t)) ∧
  (∀ (id : Byte) (ns : Nat) (s : State), s.flt.reacts.find? (fun r => r.id = id.toNat) = none → exec (.reactionDone id ns) s = .next s) ∧
  (∀ (id : Byte) (ns : Nat) (r : React) (s : State), s.flt.reacts.find? (fun r => r.id = id.toNat) = some r →
    let late := r.start + (if r.curtain then ticksPerUs else 10 * ticksPerUs) < s.tick
    let left := s.flt.reacts.filter (fun q => decide (q ≠ r))
    let v := BitVec.ofNat 32 (min ns 0xFFFFFFFF)
    let first := s.bit 0x0E000C 27 = true ∧ s.fld 0x0E0040 24 8 = id.toNat
    ∃ t, exec (.reactionDone id ns) s = .next t ∧
      (¬ late → t.flt = { s.flt with reacts := left, hist := s.flt.hist.map fun q => if fget q[0] 24 8 = id.toNat then q.set 7 v else q } ∧
        t.bit 0x0E000C 29 = !left.isEmpty ∧ t.rd 0x0E005C = (if first then v else s.rd 0x0E005C) ∧ State.regsBut [0x0E000C, 0x0E005C] s t ∧ s.keepsBut [.regs, .flt] t) ∧
      (late → s.srcLive 1 = false → ∃ q, s.recorded t 1 q ∧ fget q[0] 22 2 = 2 ∧ t.curtain = true ∧ t.bit 0x0E000C 31 = true)) ∧
  (∀ s : State,
    let ends := fun (c : Curtain) => !c.latch && s.quietFor [c.src] && (match c.unit with | some u => (s.unitFence u).isNone | none => true)
    let left := s.flt.curtains.filter (fun c => !ends c)
    ∃ t, exec .curtainAutoRelease s = .next t ∧ (s.flt.curtains.any ends = false → t = s) ∧
      (s.flt.curtains.any ends = true → t.flt = { s.flt with curtains := left } ∧ t.curtain = !left.isEmpty ∧ t.bit 0x0E000C 28 = !left.isEmpty ∧
        (left = [] → t.bit 0x0E0010 3 = true) ∧ t.bnd = s.bnd ∧ s.keepsBut [.regs, .flt, .out, .btb, .irq] t)) ∧
  (∀ s : State, s.flt.fences.filter (fun f => f.auto && s.quietFor (s.unitSources f.unit)) = [] → exec .autoUnfence s = .next s) ∧
  (∀ (f : Fence) (s : State), s.flt.fences.filter (fun f => f.auto && s.quietFor (s.unitSources f.unit)) = [f] → s.unitFence f.unit = some f →
    ∃ t, exec .autoUnfence s = .next t ∧ freed f s t ∧ t.flt.curtains = s.flt.curtains) ∧
  (∀ s : State, ∃ t, exec .maskWindowEnd s = .next t ∧ t.flt = { s.flt with masks := s.flt.masks.filter (fun m => decide (s.tick < m.2.2)) } ∧ s.keepsBut [.flt] t) ∧
  (∀ (m : Master) (s : State), s.checkWrite m 0x0E0004 1 = none →
    let a := s.fld 0x0E0008 0 16
    ∃ t, exec (.fltUnfence m) s = .next t ∧ (unitKnown a = false → s.refuses t m .range 0x0E0004) ∧
      (unitKnown a = true → s.unitLive a = true ∨ s.unitFence a = none → s.refuses t m .state 0x0E0004) ∧
      (∀ f, unitKnown a = true → s.unitLive a = false → s.unitFence a = some f → f.unit = a → freed f s t)) ∧
  (∀ (m : Master) (s : State), s.checkWrite m 0x0E0004 2 = none →
    let l := s.flt.curtains.filter (fun c => c.latch && !c.fatal)
    let bound := ∃ c, c ∈ l ∧ (s.srcLive c.src = true ∨ ∃ u, c.unit = some u ∧ s.unitFence u ≠ none)
    ∃ t, exec (.fltRelease m) s = .next t ∧ (l = [] ∨ bound → s.refuses t m .state 0x0E0004) ∧
      (l ≠ [] → ¬ bound →
        let left := s.flt.curtains.filter (fun c => !(c.latch && !c.fatal))
        t.flt = { s.flt with curtains := left } ∧ t.curtain = !left.isEmpty ∧ (left = [] → t.bit 0x0E0010 3 = true) ∧ t.bnd = s.bnd ∧ s.keepsBut [.regs, .flt, .out, .btb, .irq] t)) ∧
  (∀ (m : Master) (s : State), s.checkWrite m 0x0E0004 3 = none →
    let named := s.fld 0x0E0008 0 8 = s.fld 0x0E0040 24 8
    ∃ t, exec (.fltClearFirst m) s = .next t ∧ (s.bit 0x0E000C 27 = false → s.refuses t m .state 0x0E0004) ∧
      (s.bit 0x0E000C 27 = true → ¬ named → s.refuses t m .seq 0x0E0004) ∧
      (s.bit 0x0E000C 27 = true → named → t.bit 0x0E000C 27 = false ∧ (∀ i : Fin 8, t.rd (0x0E0040 + 4 * i.val) = 0) ∧
        State.regsBut (0x0E000C :: (List.range 8).map (fun i => 0x0E0040 + 4 * i)) s t ∧ s.keepsBut [.regs] t)) ∧
  (∀ (m : Master) (s : State), s.checkRead m 0x0E0060 = none →
    ∃ t, exec (.fltHistPopRead m) s = .next t ∧ (s.flt.hist = [] → t.answerOf m.idx = 0 ∧ s.keepsBut [.resp] t) ∧
      (∀ r l, s.flt.hist = r :: l → t.answerOf m.idx = r[0] ∧ t.flt = { s.flt with hist := l } ∧ t.fld 0x0E000C 0 6 = l.length % 64 ∧
        (∀ i : Fin 7, t.hget m.idx (0x0E0064 + 4 * i.val) = r[i.val + 1]) ∧ State.regsBut [0x0E000C] s t ∧ s.keepsBut [.regs, .held, .resp, .flt] t)) ∧
  (∀ (m : Master) (v : Word) (s : State), s.checkWrite m 0x0E0090 v = none →
    let x := fget v 0 16
    let mode := fget v 16 2
    ∃ t, exec (.fltInjWrite m v) s = .next t ∧ (s.otp.lifecycle ≠ .manufacture → s.refuses t m .lifecycle 0x0E0090) ∧
      (s.otp.lifecycle = .manufacture → srcKnown x = false → s.refuses t m .range 0x0E0090) ∧
      (s.otp.lifecycle = .manufacture → srcKnown x = true → t.rd 0x0E0090 = v ∧
        (mode = 0 → s.srcLive x = false → ∃ r, s.recorded t x r ∧ fget r[0] 18 1 = 1 ∧ r[1] = s.rd 0x0E0094) ∧
        (mode = 1 → t.srcLive x = false ∧ x ∉ t.flt.injected ∧ t.flt.hist = s.flt.hist ∧ State.regsBut [0x0E0090] s t ∧ s.keepsBut [.regs, .flt] t) ∧
        (2 ≤ mode → x ∈ t.flt.injected ∧ t.flt.hist = s.flt.hist ∧ Sparse.get (fun _ => 0) t.flt.eqAt x = s.tick + 1 ∧ State.regsBut [0x0E0090] s t ∧ s.keepsBut [.regs, .flt] t)))

/-! ### Memory, rings, flash and the host side -/

/-- R422 to R428: a refused access changes nothing but its response and the error record; a read answers the line, at the second or third try with a CORRECTED event; a line that fails three times answers an error, is counted, reported, and handled by its owner as Table 16.1 states; a write of a whole line stores and repairs it, one of part of a line stores only what it names; the scrubber goes on by 1,024 lines; retention. -/
def Obligations.SramLines : Prop :=
  let byte := fun (s : State) (a : Nat) => Sparse.get sramUnlisted s.mem.sram a
  let answer := fun (t : State) (init : Nat) => Sparse.get (fun _ => (false, [])) t.mem.resp init
  let refused := fun (s : State) (init line : Nat) => 1572864 ≤ line ∨ s.powered 9 = false ∨ s.plt.plot.bankUse (bankOf line) = 7 ∨
    (init ≠ 31 ∧ Config.bankUses init (s.plt.plot.bankUse (bankOf line)) = false)
  let turned := fun (s t : State) (init line : Nat) (write : Bool) => answer t init = (true, []) ∧ (∀ a, byte t a = byte s a) ∧
    t.err init = ⟨Err.decode.code, true, write, (s.err init).count + 1, BitVec.ofNat 32 (64 * line)⟩ ∧ (∀ j, j ≠ init → t.err j = s.err j) ∧ s.keepsBut [.mem, .errs] t
  let counted := fun (s t : State) (bank : Nat) (bad : Bool) =>
    (Sparse.get (fun _ => 0) t.mem.corr bank = Sparse.get (fun _ => 0) s.mem.corr bank + b2n (!bad)) ∧
    (Sparse.get (fun _ => 0) t.mem.uncorr bank = Sparse.get (fun _ => 0) s.mem.uncorr bank + b2n bad) ∧ t.bit 0x0F0008 (if bad then 2 else 1) = true
  let fixed := fun (s t : State) (init line : Nat) => counted s t (bankOf line) false ∧
    (s.srcLive (0x0900 + bankOf line) = false → ∃ r, s.recorded t (0x0900 + bankOf line) r ∧ r[1] = BitVec.ofNat 32 (init * 2 ^ 24 + line)) ∧
    (s.plainSource (0x0900 + bankOf line) .corrected → s.keepsBut [.regs, .mem, .flt, .pmc, .irq] t)
  let lost := fun (s t : State) (init line : Nat) (o : LineOwner) =>
    let own := if ownerUse o = some (s.plt.plot.bankUse (bankOf line)) then o else .none
    counted s t (bankOf line) true ∧ (∀ a, byte t a = byte s a) ∧ s.keepsBut (linkParts ++ [.mem, .flt, .key, .gnss]) t ∧
    (line ∈ t.mem.failed ↔ own ≠ .firmware false) ∧
    (s.srcLive (0x0A00 + bankOf line) = false → ∃ r, s.recorded t (0x0A00 + bankOf line) r ∧ r[1] = BitVec.ofNat 32 (init * 2 ^ 24 + line) ∧
      (own = .firmware true → (s.wiredUnit (0x0A00 + bankOf line) (BitVec.ofNat 32 (init * 2 ^ 24 + line))).bind s.maskedBy = none → fget r[0] 22 2 = 2 ∧ t.curtain = true)) ∧
    (∀ j, own = .session j → t.session j = none) ∧ (∀ k i, own = .cache k i → ∀ x, x ∈ t.key.cache → x.name ≠ keyNamed k i) ∧
    (∀ k i, own = .dir k i → ∀ d, d ∈ t.key.dir → d.name ≠ keyNamed k i) ∧ (∀ i, own = .ckpt i → t.wng.slots[i].complete = false) ∧
    (∀ c : Fin 3, own = .ring c → s.mem.rings[c].ready ≠ [] → t.rd (ringReg (2 + c.val) 0x18) = BitVec.ofNat 32 (min ((s.rd (ringReg (2 + c.val) 0x18)).toNat + 1) 0xFFFFFFFF))
  (∀ (init : Fin 32) (line : Nat) (fails : Fin 4) (o : LineOwner) (s : State),
    let bad := fails = 3 ∨ line ∈ s.mem.failed
    ∃ t, exec (.sramRead init line fails o) s = .next t ∧ (refused s init.val line → turned s t init.val line false) ∧
      (¬ refused s init.val line → (∀ a, byte t a = byte s a) ∧ t.bit 0x0F0004 31 = false ∧ t.mem.lastReq = s.tick ∧
        (¬ bad → answer t init.val = (false, (List.range 64).map (fun i => byte s (64 * line + i))) ∧ t.mem.failed = s.mem.failed ∧
          (fails = 0 → State.regsBut [0x0F0004, 0x100008] s t ∧ s.keepsBut [.regs, .mem, .irq] t) ∧ (fails ≠ 0 → fixed s t init.val line)) ∧
        (bad → answer t init.val = (true, []) ∧ lost s t init.val line o))) ∧
  (∀ (init : Fin 32) (line : Nat) (pos : Fin 64) (bytes : List Byte) (fails : Fin 4) (o : LineOwner) (s : State), bytes ≠ [] → pos.val + bytes.length ≤ 64 →
    let whole := bytes.length = 64
    let bad := fails = 3 ∨ line ∈ s.mem.failed
    let stored := fun (t : State) => (∀ i, i < bytes.length → byte t (64 * line + pos.val + i) = bytes.getD i 0) ∧
      ∀ a, (a < 64 * line + pos.val ∨ 64 * line + pos.val + bytes.length ≤ a) → byte t a = byte s a
    ∃ t, exec (.sramWrite init line pos bytes fails o) s = .next t ∧ (refused s init.val line → turned s t init.val line true) ∧
      (¬ refused s init.val line →
        (whole → stored t ∧ answer t init.val = (false, []) ∧ line ∉ t.mem.failed ∧ State.regsBut [0x0F0004, 0x100008] s t ∧ s.keepsBut [.regs, .mem, .irq] t) ∧
        (¬ whole → bad → answer t init.val = (true, []) ∧ lost s t init.val line o) ∧
        (¬ whole → ¬ bad → stored t ∧ answer t init.val = (false, []) ∧ (fails = 0 → State.regsBut [0x0F0004, 0x100008] s t ∧ s.keepsBut [.regs, .mem, .irq] t) ∧
          (fails ≠ 0 → fixed s t init.val line)))) ∧
  (∀ (bad : List (Fin 1024 × Fin 4 × LineOwner)) (s : State), s.powered 9 = false → exec (.scrubBurst bad) s = .next s) ∧
  (∀ s : State, s.powered 9 = true → (∀ l, l ∈ s.mem.failed → l < s.mem.scrubLine ∨ s.mem.scrubLine + 1024 ≤ l) →
    let ends := 1572864 ≤ s.mem.scrubLine + 1024
    (∃ t, exec (.scrubBurst []) s = .next t ∧ t.mem.lastReq = s.tick ∧ (∀ a, byte t a = byte s a) ∧
      (¬ ends → t.mem.scrubLine = s.mem.scrubLine + 1024 ∧ t.mem.lastPass = s.mem.lastPass ∧ State.regsBut [0x0F0004, 0x100008] s t ∧ s.keepsBut [.regs, .mem, .irq] t) ∧
      (ends → t.mem.scrubLine = 0 ∧ t.mem.lastPass = some (s.tick, s.mem.scrubBad) ∧ t.mem.scrubBad = false ∧ t.rd 0x0F0024 = s.rd 0x0F0024 + 1 ∧ t.bit 0x0F0008 0 = true ∧
        State.regsBut [0x0F0004, 0x0F0008, 0x0F0024, 0x100008] s t ∧ s.keepsBut [.regs, .mem, .pmc, .irq] t)) ∧
    (∀ (k : Fin 1024) (fails : Fin 4) (o : LineOwner), s.plt.plot.bankUse (bankOf (s.mem.scrubLine + k.val)) ≠ 7 → fails ≠ 0 → ¬ ends →
      ∃ t, exec (.scrubBurst [(k, fails, o)]) s = .next t ∧ t.mem.scrubLine = s.mem.scrubLine + 1024 ∧
        (fails ≠ 3 → fixed s t 31 (s.mem.scrubLine + k.val)) ∧ (fails = 3 → lost s t 31 (s.mem.scrubLine + k.val) o ∧ t.mem.scrubBad = true))) ∧
  (∀ s : State,
    let idle := s.powered 9 = true ∧ s.plt.plot.pdMode 9 = 2 ∧ (∀ c, c < 4 → s.clusState c ≠ 1 ∧ s.clusState c ≠ 2) ∧ s.mem.lastReq + s.fld 0x0F0000 0 16 * ticksPerUs ≤ s.tick
    ∃ t, exec .pd9RetentionEnter s = .next t ∧ (¬ idle → t = s) ∧
      (idle → t.bit 0x0F0004 31 = true ∧ State.regsBut [0x0F0004, 0x100008] s t ∧ s.keepsBut [.regs, .irq] t))

/-- R437, R438, R443, R446: a ring's entry is written before its index, or dropped and counted; CONS, CTL and the vector's spacing; a DMA channel stops and restarts; a flash transfer starts, ends, and moves its data through the FIFO; what a pop of an empty FIFO gives is a free value. -/
def Obligations.RingsDmaAndFlash : Prop :=
  (∀ (c : Fin 3) (s : State), s.mem.rings[c].ready = [] ∨ s.dmaStopped (2 + c.val) = true → exec (.ringEntryWrite c) s = .next s) ∧
  (∀ (c : Fin 3) (e : List Byte) (l : List (List Byte)) (s : State), s.mem.rings[c].ready = e :: l → s.dmaStopped (2 + c.val) = false →
    let n := 2 + c.val
    let prod := s.rd (ringReg n 0x10)
    let size := (s.rd (ringReg n 0xC)).toNat
    let width := [4096, 32, 256].getD c.val 0
    let dropped := s.linkUp = false ∨ s.mem.rings[c].halted = true ∨ (prod - s.rd (ringReg n 0x14)).toNat = size
    let irq := s.bit (ringReg n 0) 30 = true
    let spaced := ∀ k, s.mem.rings[c].firedAt = some k → k + s.fld (ringReg n 0) 0 16 * ticksPerUs ≤ s.tick
    ∃ t, exec (.ringEntryWrite c) s = .next t ∧ t.mem.rings[c].ready = l ∧ (∀ d : Fin 3, d ≠ c → t.mem.rings[d] = s.mem.rings[d]) ∧
      (dropped → t.rd (ringReg n 0x18) = BitVec.ofNat 32 (min ((s.rd (ringReg n 0x18)).toNat + 1) 0xFFFFFFFF) ∧ s.raised t 0x0F0008 (2 ^ (2 + n)) ∧ t.mem.toHost = s.mem.toHost ∧
        State.regsBut [ringReg n 0x18, 0x0F0008] s t ∧ s.keepsBut [.regs, .mem, .pmc, .irq] t) ∧
      (¬ dropped → t.rd (ringReg n 0x10) = prod + 1 ∧ State.regsBut [ringReg n 0x10] s t ∧ s.keepsBut [.regs, .mem, .irq] t ∧
        t.mem.toHost = [⟨s.ringBase n + prod.toNat % size * width, e⟩, ⟨s.ringBase n + size * width, leBytes 4 (prod + 1).toNat ++ [0#8, 0#8, 0#8, 0#8]⟩] ∧
        (irq → spaced → t.mem.rings[c].firedAt = some s.tick) ∧ (irq → ¬ spaced → t.mem.rings[c].owed = true ∧ t.mem.rings[c].firedAt = s.mem.rings[c].firedAt) ∧
        (¬ irq → t.mem.rings[c] = { s.mem.rings[c] with ready := l } ∧ t.glb.irq = s.glb.irq))) ∧
  (∀ (c : Fin 3) (s : State),
    let n := 2 + c.val
    let spaced := ∀ k, s.mem.rings[c].firedAt = some k → k + s.fld (ringReg n 0) 0 16 * ticksPerUs ≤ s.tick
    ∃ t, exec (.ringModUsExpire c) s = .next t ∧ (¬ (s.mem.rings[c].owed = true ∧ spaced) → t = s) ∧
      (s.mem.rings[c].owed = true → spaced → t.mem.rings[c].owed = false ∧ (s.bit (ringReg n 0) 30 = true → t.mem.rings[c].firedAt = some s.tick) ∧
        (∀ d : Fin 3, d ≠ c → t.mem.rings[d] = s.mem.rings[d]) ∧ s.keepsBut [.mem, .irq] t)) ∧
  (∀ (m : Master) (c : Fin 3) (v : Word) (s : State), s.checkWrite m (ringReg (2 + c.val) 0x14) v = none →
    let n := 2 + c.val
    let far := (s.rd (ringReg n 0xC)).toNat < (s.rd (ringReg n 0x10) - v).toNat
    ∃ t, exec (.ringConsWrite m c v) s = .next t ∧ (far → s.refuses t m .range (ringReg n 0x14)) ∧
      (¬ far → t.rd (ringReg n 0x14) = v ∧ State.regsBut [ringReg n 0x14] s t ∧ s.keepsBut [.regs, .irq] t)) ∧
  (∀ (m : Master) (c : Fin 3) (v : Word) (s : State), s.checkWrite m (ringReg (2 + c.val) 0) v = none →
    let n := 2 + c.val
    let on := fget v 31 1 = 1
    let skew := on ∧ s.fld (ringReg n 4) 0 12 ≠ 0
    ∃ t, exec (.ringEnWrite m c v) s = .next t ∧ (skew → s.refuses t m .align (ringReg n 0)) ∧
      (¬ skew → t.ringOn n = decide on ∧ t.bit (ringReg n 0) 30 = decide (fget v 30 1 = 1) ∧ t.fld (ringReg n 0) 0 16 = fget v 0 16 ∧
        (on → t.mem.rings[c] = { s.mem.rings[c] with halted := false } ∧ (t.glb.pmcSeq = if c = 2 ∧ s.ringOn n = false then 0 else s.glb.pmcSeq)) ∧
        (¬ on → t.mem.rings[c] = { s.mem.rings[c] with ready := [], owed := false } ∧ t.glb.pmcSeq = s.glb.pmcSeq) ∧
        (∀ d : Fin 3, d ≠ c → t.mem.rings[d] = s.mem.rings[d]) ∧ State.regsBut [ringReg n 0] s t ∧ s.keepsBut [.regs, .mem, .pmcSeq, .irq] t)) ∧
  (∀ (ch : Fin 5) (s : State),
    ∃ t, exec (.dmaCompletionError ch) s = .next t ∧ t.dmaStopped ch.val = true ∧ t.bit 0x0F0008 3 = true ∧
      Sparse.get (fun _ => none) t.mem.restart ch.val = some (s.tick + 100 * ticksPerUs) ∧ s.keepsBut (linkParts ++ [.mem, .flt, .plt, .key]) t ∧
      (s.srcLive 0x0B01 = false → ∃ r, s.recorded t 0x0B01 r ∧ r[1] = BitVec.ofNat 32 ch.val) ∧
      (ch = 0 → s.plt.fetch = some .pcie → t.plt.fetch = none ∧ t.plt.staging = [] ∧ t.fld 0x010008 8 8 = Err.state.code) ∧
      (∀ c : Fin 3, ch.val = 2 + c.val → s.mem.rings[c].ready ≠ [] →
        t.rd (ringReg ch.val 0x18) = BitVec.ofNat 32 (min ((s.rd (ringReg ch.val 0x18)).toNat + 1) 0xFFFFFFFF) ∧ t.bit 0x0F0008 (2 + ch.val) = true)) ∧
  (∀ (ch : Fin 5) (s : State),
    ∃ t, exec (.dmaChannelRestart ch) s = .next t ∧ (s.dmaStopped ch.val = false → t = s) ∧
      (s.dmaStopped ch.val = true → t.dmaStopped ch.val = false ∧ Sparse.get (fun _ => none) t.mem.restart ch.val = none ∧ State.regsBut [0x0F0004] s t ∧ s.keepsBut [.regs, .mem] t)) ∧
  (∀ (m : Master) (v : Word) (s : State), s.checkWrite m 0x0F0204 v = none →
    let bad := (fget v 9 4 ≠ 0 ∧ s.manufacture = false) ∨ fget v 22 2 = 3 ∨ fget v 13 2 = 3 ∨ 32 < fget v 16 6 ∨ 256 < fget v 0 9
    let busy := s.mem.qspi ≠ none ∨ s.pwr.boot = .reading ∨ s.plt.fetch = some .flash
    ∃ t, exec (.qspiCmdWrite m v) s = .next t ∧ (bad → s.refuses t m .range 0x0F0204) ∧ (¬ bad → busy → s.refuses t m .busy 0x0F0204) ∧
      (¬ bad → ¬ busy → t.mem = { s.mem with qspi := some ⟨v, s.rd 0x0F0208⟩, flashOut := [] } ∧ s.keepsBut [.mem] t)) ∧
  (∀ (data : List Byte) (s : State), s.mem.qspi = none → exec (.qspiTransferDone data) s = .next s) ∧
  (∀ (data : List Byte) (q : QspiOp) (s : State), s.mem.qspi = some q →
    let len := fget q.cmd 0 9
    let words := (len + 3) / 4
    ∃ t, exec (.qspiTransferDone data) s = .next t ∧ t.mem.qspi = none ∧ s.raised t 0x0F0008 0x80 ∧ State.regsBut [0x0F0008] s t ∧ s.keepsBut [.regs, .mem, .fv, .irq] t ∧
      (fget q.cmd 15 1 = 1 → t.mem = { s.mem with qspi := none, flashOut := s.mem.fifo.take words, fifo := s.mem.fifo.drop words } ∧ t.fv = s.fv) ∧
      (fget q.cmd 15 1 = 0 → t.mem = { s.mem with qspi := none, fifo := t.mem.fifo } ∧ s.mem.fifo <+: t.mem.fifo ∧ t.mem.fifo.length ≤ max 64 s.mem.fifo.length ∧
        ∀ i, 4 * (i + 1) ≤ min len data.length → s.mem.fifo.length + i < 64 → t.mem.fifo[s.mem.fifo.length + i]? = some (BitVec.ofNat 32 (beNat (slice data (4 * i) 4))))) ∧
  (∀ (m : Master) (v : Word) (s : State), s.checkWrite m 0x0F0210 v = none →
    ∃ t, exec (.qspiDataAccess m (some v)) s = .next t ∧ (64 ≤ s.mem.fifo.length → s.refuses t m .busy 0x0F0210) ∧
      (s.mem.fifo.length < 64 → t.mem = { s.mem with fifo := s.mem.fifo ++ [v] } ∧ s.keepsBut [.mem] t)) ∧
  (∀ (m : Master) (s : State), s.checkRead m 0x0F0210 = none →
    ∃ t, exec (.qspiDataAccess m none) s = .next t ∧
      (∀ w l, s.mem.fifo = w :: l → t.answerOf m.idx = w ∧ t.mem = { s.mem with fifo := l } ∧ s.keepsBut [.mem, .resp] t) ∧
      (s.mem.fifo = [] → t.answerOf m.idx = Config.freeValue 32 s.fv ∧ t.fv = s.fv + 1 ∧ s.keepsBut [.resp, .fv] t))

/-- R435 and Table 16.4: a reset of the host side ends every DMA operation, halts the enabled rings and clears the PF's latches; a VF's reset clears its latches and cancels its armed cues, counted; a return to D0 shows the link. -/
def Obligations.HostSideResets : Prop :=
  (∀ (kind : Fin 4) (s : State),
    ∃ t, exec (.pfHostReset kind) s = .next t ∧ s.keepsBut (linkParts ++ [.mem, .plt, .key, .held]) t ∧
      (∀ c : Fin 3, s.ringOn (2 + c.val) = true → t.mem.rings[c].halted = true) ∧ (s.plt.fetch = some .pcie → t.plt.fetch = none) ∧
      (∀ off d, off < 2 ^ 24 → findReg off = some d → d.readOnly = true → s.hget 0 off ≠ regReset off → t.hget 0 off = 0) ∧
      (∀ j off, j ≠ 0 → off < 2 ^ 24 → t.hget j off = s.hget j off) ∧
      t.linkUp = (if kind = 1 ∨ kind = 2 then false else s.linkUp) ∧ t.bit 0x0F0044 23 = (if kind = 3 then true else s.bit 0x0F0044 23)) ∧
  (∀ (v : Fin 16) (s : State),
    ∃ t, exec (.vfFlr v) s = .next t ∧
      (∀ off d, off < 2 ^ 24 → findReg off = some d → d.readOnly = true → s.hget (1 + v.val) off ≠ regReset off → t.hget (1 + v.val) off = 0) ∧
      (∀ j off, j ≠ 1 + v.val → off < 2 ^ 24 → t.hget j off = s.hget j off) ∧
      (∀ c : Fin 16, s.out.cues[c].arm ≠ none → s.plt.plot.cueOwner c = v.val → t.out.cues[c].arm = none ∧ t.bit (cueReg c 8) 31 = false ∧ s.raised t (cueReg c 0xC) 0x10 ∧
        t.rd (cueReg c 0x38) = BitVec.ofNat 32 (min ((s.rd (cueReg c 0x38)).toNat + 1) 0xFFFFFFFF)) ∧
      (∀ c : Fin 16, s.out.cues[c].arm = none ∨ s.plt.plot.cueOwner c ≠ v.val → t.out.cues[c] = s.out.cues[c]) ∧
      State.regsBut ((List.range 16).flatMap (fun c => [cueReg c 8, cueReg c 0xC, cueReg c 0x30, cueReg c 0x38])) s t ∧ s.keepsBut [.regs, .held, .out, .pmc, .irq] t) ∧
  (∀ (speed : Fin 8) (width : Fin 16) (vfEn : Fin 65536) (s : State),
    ∃ t, exec (.d0Return speed width vfEn) s = .next t ∧ t.linkUp = true ∧ t.fld 0x0F0044 28 3 = speed.val ∧ t.fld 0x0F0044 24 4 = width.val ∧ t.bit 0x0F0044 23 = false ∧
      t.fld 0x0F0044 0 16 = vfEn.val ∧ State.regsBut [0x0F0044] s t ∧ s.keepsBut [.regs] t)

/-! ### The stage plot -/

/-- R41 to R43, R51, R54, R443 and Tables 2.9 and 2.10: the checks and effects of the commands of PLT_CTL, the end of a fetch, what a verification leaves, and the arming of a re-plot from the words that its master holds. -/
def Obligations.PlotLoading : Prop :=
  let busy := fun (s : State) => s.plt.replotAt ≠ none ∨ s.stage ≠ 0 ∨ s.pwr.boot ≠ .none
  let begun := fun (s t : State) (src : FetchSrc) => t.stage = 1 ∧ t.plt = { s.plt with fetch := some src, staging := [] } ∧ State.regsBut [0x010008] s t ∧ s.keepsBut [.regs, .plt] t
  (∀ (m : Master) (s : State), s.checkWrite m 0x010000 1 = none →
    let skew := s.fld 0x010018 0 6 ≠ 0
    ∃ t, exec (.fetchPcie m) s = .next t ∧ (busy s → s.refuses t m .busy 0x010000) ∧ (¬ busy s → skew → s.refuses t m .align 0x010000) ∧
      (¬ busy s → ¬ skew → s.rd 0x010020 = 0 → s.refuses t m .range 0x010000) ∧ (¬ busy s → ¬ skew → s.rd 0x010020 ≠ 0 → begun s t .pcie)) ∧
  (∀ (m : Master) (s : State), s.checkWrite m 0x010000 2 = none →
    let used := busy s ∨ s.mem.qspi ≠ none
    let skew := (s.rd 0x010024).toNat % 64 ≠ 0
    ∃ t, exec (.fetchFlash m) s = .next t ∧ (used → s.refuses t m .busy 0x010000) ∧ (¬ used → skew → s.refuses t m .align 0x010000) ∧ (¬ used → ¬ skew → begun s t .flash)) ∧
  (∀ (m : Master) (s : State), s.checkWrite m 0x010000 4 = none →
    ∃ t, exec (.discardStaged m) s = .next t ∧ (s.stage ≠ 3 → s.refuses t m .state 0x010000) ∧
      (s.stage = 3 → t.stage = 0 ∧ t.fld 0x010008 5 2 = 0 ∧ t.plt = { s.plt with replotAt := none, staging := [] } ∧ State.regsBut [0x010008] s t ∧ s.keepsBut [.regs, .plt] t)) ∧
  (∀ (m : Master) (s : State), s.checkWrite m 0x010000 5 = none →
    let phase := s.otp.lifecycle = .provisioned ∨ s.otp.lifecycle = .deployed
    ∃ t, exec (.burnRollback m) s = .next t ∧ (¬ phase → s.refuses t m .lifecycle 0x010000) ∧ (phase → s.activeValid = false → s.refuses t m .state 0x010000) ∧
      (phase → s.activeValid = true → s.key.otpOp ≠ none → s.refuses t m .busy 0x010000) ∧
      (phase → s.activeValid = true → s.key.otpOp = none → t.key = { s.key with otpOp := some (.rollback (leAt s.plt.active 0x18 1)) } ∧ s.keepsBut [.key] t)) ∧
  (∀ (img : List Byte) (s : State), s.plt.fetch = none → exec (.fetchComplete img) s = .next s) ∧
  (∀ (img : List Byte) (src : FetchSrc) (s : State), s.plt.fetch = some src →
    let stopped := src = .pcie ∧ s.dmaStopped 0 = true
    ∃ t, exec (.fetchComplete img) s = .next t ∧ (stopped → t = s) ∧
      (¬ stopped → t.stage = 2 ∧ t.plt = { s.plt with fetch := none, staging := if src = .pcie then img.take (s.rd 0x010020).toNat else img } ∧
        State.regsBut [0x010008] s t ∧ s.keepsBut [.regs, .plt] t)) ∧
  (∀ s : State,
    ∃ t, exec .verifyDone s = .next t ∧ (s.stage ≠ 2 → t = s) ∧
      (∀ f, s.stage = 2 → s.verifyImage s.plt.staging = some f → t.stage = 0 ∧ t.rd 0x010010 = BitVec.ofNat 32 (f.sect * 2 ^ 16 + f.step * 2 ^ 8 + f.code.code) ∧
        t.rd 0x010014 = BitVec.ofNat 32 f.off ∧ t.fld 0x010008 8 8 = f.code.code ∧ t.plt = { s.plt with staging := [] } ∧ s.raised t 0x01000C 2 ∧
        State.regsBut [0x010008, 0x01000C, 0x010010, 0x010014] s t ∧ s.keepsBut [.regs, .plt, .irq] t) ∧
      (s.stage = 2 → s.verifyImage s.plt.staging = none → t.stage = 3 ∧ t.bit 0x010008 6 = (s.activeValid && sameReload s.plt.staging s.plt.active) ∧ s.raised t 0x01000C 1 ∧
        State.regsBut [0x010008, 0x01000C] s t ∧ s.keepsBut [.regs, .irq] t)) ∧
  (∀ (m : Master) (s : State), s.checkWrite m 0x010004 2 = none →
    let inst := s.htimeAt m.idx 0x010030
    let given := ∀ i : Fin 4, s.marked m.idx (0x010030 + 4 * i.val) = true
    let staged := s.stage = 3 ∧ s.bit 0x010008 6 = true
    ∃ t, exec (.replotArm m) s = .next t ∧ (s.plt.replotAt ≠ none → s.refuses t m .busy 0x010004) ∧ (s.plt.replotAt = none → ¬ staged → s.refuses t m .state 0x010004) ∧
      (s.plt.replotAt = none → staged → ¬ given → s.refuses t m .seq 0x010004) ∧ (s.plt.replotAt = none → staged → given → ¬ s.timely inst → s.refuses t m .time 0x010004) ∧
      (s.plt.replotAt = none → staged → given → s.timely inst → t.plt = { s.plt with replotAt := some inst } ∧ t.bit 0x010008 5 = true ∧ t.rd 0x010004 = 2 ∧
        (∀ i : Fin 4, t.marked m.idx (0x010030 + 4 * i.val) = false) ∧ State.regsBut [0x010004, 0x010008] s t ∧ s.keepsBut [.regs, .marks, .plt] t))

/-- R58: a fetch that fails, or that ABORT stops, returns STAGE_STATE to IDLE and records ERR_STATE, and the active image and the plot in force stay; ABORT stops a verification in the same way, and fails with ERR_STATE where nothing runs; an end of a fetch that does not run does nothing. -/
def Obligations.StoppedFetchReturnsToIdle : Prop :=
  let dropped := fun (s t : State) => t.stage = 0 ∧ t.fld 0x010008 8 8 = Err.state.code ∧ t.rd 0x010010 = BitVec.ofNat 32 Err.state.code ∧ t.rd 0x010014 = 0 ∧
    t.plt = { s.plt with fetch := none, staging := [] } ∧ State.regsBut [0x010008, 0x010010, 0x010014] s t ∧ s.keepsBut [.regs, .plt] t
  (∀ (m : Master) (s : State), s.checkWrite m 0x010000 3 = none →
    let running := s.stage = 1 ∨ s.stage = 2
    ∃ t, exec (.fetchAbort m) s = .next t ∧ (¬ running → s.refuses t m .state 0x010000) ∧ (running → dropped s t)) ∧
  (∀ s : State, ∃ t, exec .fetchFailed s = .next t ∧ (s.plt.fetch = none → t = s) ∧ (s.plt.fetch ≠ none → dropped s t))

/-- R44 to R49, R51 to R53, R55 and Table 2.7: a full apply mutes, stops the services, cancels a pending commit and puts every section in force while TB0 and every kept time base go on; its completion promotes the image; a re-plot is applied whole or not at all and touches no time base and no ledger; a start-up applies the first image that passes, or enters the dark plot. -/
def Obligations.PlotApplied : Prop :=
  let applyParts := linkParts ++ [.held, .marks, .plt, .tdc, .mem, .key, .gnss, .pwr, .commitAt]
  let applies := fun (s t : State) (img : List Byte) => t.stage = 4 ∧ t.plt.applying = true ∧ t.muted = true ∧ t.svc.jobs = [] ∧ t.svc.sess = [] ∧ s.keepsBut applyParts t ∧
    (s.pd1 = false → t.plt.plot = s.plt.plot ∧ t.tbs = s.tbs) ∧
    (s.pd1 = true → let new := imgPlot img
      t.plt.plot = new ∧ t.plt.inForce = true ∧ t.glb.commitAt = none ∧ (s.glb.commitAt ≠ none → t.fld 0x000044 8 8 = Err.state.code ∧ t.bit 0x00000C 1 = true) ∧
      t.btb.common = none ∧ (∀ n : Fin 64, t.rd (tbReg n 0xC8) = 0) ∧
      (∀ n : Fin 64, keptTb s.plt.plot new n = true → t.tbs[n].value = s.tbs[n].value ∧ t.tbHost n = new.tbOwner n) ∧
      (∀ n : Fin 64, keptTb s.plt.plot new n = false → new.tbPresent n = true →
        t.tbs[n].value = (((s.tb0 : Int) + new.tbEpoch n * secU) % (timeMod : Int)).toNat ∧ t.tbHost n = new.tbOwner n ∧ t.untraceable n = true))
  let dark := fun (s t : State) (ms : Nat) => s.keepsBut applyParts t ∧ t.fld 0x010008 0 7 = 0x10 ∧ t.plt.active = [] ∧ t.plt.staging = [] ∧ t.plt.plot = darkPlot ∧ t.pwr.boot = .none ∧ t.pwr.unplotted = false ∧
    t.plt.applying = false ∧ t.rd 0x10001C = BitVec.ofNat 32 ms
  let failed := fun (t : State) (f : PlotFail) => t.rd 0x010010 = BitVec.ofNat 32 (f.sect * 2 ^ 16 + f.step * 2 ^ 8 + f.code.code) ∧ t.rd 0x010014 = BitVec.ofNat 32 f.off ∧ t.bit 0x01000C 1 = true
  (∀ (m : Master) (s : State), s.checkWrite m 0x010004 1 = none →
    ∃ t, exec (.fullApply m) s = .next t ∧ (s.plt.replotAt ≠ none → s.refuses t m .busy 0x010004) ∧ (s.plt.replotAt = none → s.stage ≠ 3 → s.refuses t m .state 0x010004) ∧
      (s.plt.replotAt = none → s.stage = 3 → applies s t s.plt.staging ∧ t.plt.staging = s.plt.staging ∧ t.plt.active = s.plt.active)) ∧
  (∀ (ms : Nat) (s : State),
    let booting := s.pwr.boot ≠ .none
    let running := s.plt.applying = true ∧ s.pd1 = true
    let rest := if booting then s.plt.staging else []
    ∃ t, exec (.applyComplete ms) s = .next t ∧ (¬ running → t = s) ∧
      (running → t.plt = { s.plt with active := (if booting then s.plt.active else s.plt.staging), staging := rest, applying := false } ∧ t.activeValid = true ∧
        t.bit 0x010008 4 = false ∧ t.stage = (if rest = [] then 0 else 3) ∧ s.raised t 0x01000C 4 ∧ t.pwr.boot = .none ∧ t.pwr.unplotted = false ∧ t.pwr.wanted = [] ∧
        (booting → t.rd 0x10001C = BitVec.ofNat 32 ms) ∧ (¬ booting → t.rd 0x10001C = s.rd 0x10001C) ∧ s.keepsBut [.regs, .plt, .pwr, .out, .btb, .irq] t)) ∧
  (∀ s : State, (∀ k, s.plt.replotAt = some k → max s.tb0 s.tb0Next < k) → exec .replotApply s = .next s) ∧
  (∀ (k : Nat) (s : State), s.plt.replotAt = some k → k ≤ max s.tb0 s.tb0Next →
    ∃ t, exec .replotApply s = .next t ∧ t.bit 0x010008 5 = false ∧ t.plt.replotAt = none ∧
      (∀ sect, s.replotBar (imgPlot s.plt.staging) = some sect → t.plt = { s.plt with replotAt := none } ∧ t.rd 0x010010 = BitVec.ofNat 32 (sect * 2 ^ 16 + 0xF00 + Err.state.code) ∧
        s.raised t 0x01000C 0x20 ∧ t.stage = s.stage ∧ State.regsBut [0x010008, 0x01000C, 0x010010, 0x010014] s t ∧ s.keepsBut [.regs, .plt, .irq] t) ∧
      (s.replotBar (imgPlot s.plt.staging) = none →
        t.plt = { s.plt with plot := imgPlot s.plt.staging, active := s.plt.staging, staging := [], replotAt := none } ∧ t.stage = 0 ∧ t.rd 0x010044 = s.rd 0x010044 + 1 ∧
        s.raised t 0x01000C 0x10 ∧ s.keepsBut [.regs, .plt, .out, .mem, .key, .svc, .gnss, .wng, .pwr, .pmc, .irq] t)) ∧
  (∀ (a b : List Byte) (ms : Nat) (s : State),
    let reading := s.pwr.boot = .reading ∧ s.pwr.por = false
    ∃ t, exec (.bootImageVerified a b ms) s = .next t ∧ (¬ reading → t = s) ∧
      (reading → s.verifyImage a = none → applies s t a ∧ t.plt.active = a ∧ t.pwr.boot = .applying) ∧
      (∀ f, reading → s.verifyImage a = some f → s.verifyImage b = none → applies s t b ∧ t.plt.active = b ∧ t.pwr.boot = .applying ∧ failed t f) ∧
      (∀ f g, reading → s.verifyImage a = some f → s.verifyImage b = some g → dark s t ms ∧ failed t g)) ∧
  (∀ (ms : Nat) (s : State),
    ∃ t, exec (.warmResetReverifyDone ms) s = .next t ∧ (s.pwr.boot ≠ .reverifying → t = s) ∧
      (s.pwr.boot = .reverifying → s.verifyImage s.plt.active = none → applies s t s.plt.active ∧ t.plt.active = s.plt.active ∧ t.pwr.boot = .applying) ∧
      (∀ f, s.pwr.boot = .reverifying → s.verifyImage s.plt.active = some f → dark s t ms ∧ failed t f))

/-! ### Power and reset -/

/-- R401, R471, R472, R474 to R482, R491, R497 and Tables 18.3 and 18.4: what each reset keeps; a pulse of RESET_N below 1 µs is taken or not by a free value; the reset commands and their checks; the clocks' start, the first lock of APLL0, the domains, the firmware, the supplies and the temperature. -/
def Obligations.StartAndReset : Prop :=
  let cold := fun (s t : State) (src : Nat) (por : Bool) =>
    t = { State.reset with regs := t.regs, otp := t.otp, fv := t.fv, pending := s.pending, resp := s.resp, pwr := { State.reset.pwr with por := por } } ∧
    t.rd 0x100014 = BitVec.ofNat 32 (0x30 + src) ∧ (∀ o, o ≠ 0x010048 → o ≠ 0x100014 → t.rd o = regReset o) ∧
    (s.key.otpOp = none → t.otp = s.otp ∧ t.fld 0x010048 0 7 = s.fld 0x010048 0 7 ∧ t.fv = s.fv) ∧
    (∀ op, s.key.otpOp = some op → (t.otp = s.otp ∧ t.fld 0x010048 0 7 = s.fld 0x010048 0 7) ∨ (t.otp = (s.burn op).otp ∧ t.fld 0x010048 0 7 = (s.burn op).fld 0x010048 0 7))
  let warm := fun (s t : State) (src : Nat) =>
    (∀ p, p ∈ [.tick, .refreshAt, .pd1, .tbs, .bnd, .cals, .refs, .sels, .dplls, .uart, .tdc, .ports, .out, .svc, .btb, .mem, .key, .dng, .snapReq, .commitAt, .mbx, .pmc, .pmcSeq] →
      Part.same p State.reset t) ∧ Part.same .resp s t ∧ Part.same .pending s t ∧
    t.plt = { active := s.plt.active, staging := if s.stage = 3 then s.plt.staging else [] } ∧ t.pwr.boot = .reverifying ∧ t.glb.errs = s.glb.errs ∧
    t.flt.hist = s.flt.hist ∧ t.flt.srcSticky = s.flt.srcSticky ∧ t.flt.live = s.flt.live ∧ t.flt.nextId = s.flt.nextId ∧ (∀ c, c ∈ t.flt.curtains → c.fatal = false) ∧
    t.rd 0x100014 = BitVec.ofNat 32 (0x10 + src) ∧ t.fld 0x100018 16 16 = (s.fld 0x100018 16 16 + 1) % 2 ^ 16 ∧ t.role = (if s.paired then 1 else 0) ∧
    (s.key.otpOp = none → t.otp = s.otp ∧
      (∀ o, heldInPd0 o = true → o ∉ [0x010008, 0x100014, 0x100018, 0x0E000C] → t.rd o = s.rd o) ∧ (∀ o, heldInPd0 o = false → o ∉ [0x0B0000, 0x0D0008] → t.rd o = regReset o))
  let asked := fun (m : Master) (v : Word) (k : RstKind) (s t : State) =>
    let busy := s.key.otpOp ≠ none ∨ s.stage = 4
    (busy → s.refuses t m .busy 0x100010) ∧ (¬ busy → k = .service → s.bit 0x0E000C 31 = true → s.refuses t m .state 0x100010) ∧
    (¬ busy → ¬ (k = .service ∧ s.bit 0x0E000C 31 = true) → t.pwr = { s.pwr with rst := s.pwr.rst ++ [(k, s.tick + 10 * ticksPerUs)] } ∧ t.rd 0x100010 = v ∧
      State.regsBut [0x100010] s t ∧ s.keepsBut [.regs, .pwr] t)
  (∀ (aon : Bool) (s : State), ∃ t, exec (.porAssert aon) s = .next t ∧ cold s t (if aon then 2 else 1) true) ∧
  (∀ s : State, ∃ t, exec .powerLoss s = .next t ∧ cold s t 1 true) ∧
  (∀ s : State, ∃ t, exec .porRelease s = .next t ∧ t.pwr = { s.pwr with por := false } ∧ s.keepsBut [.pwr] t) ∧
  (∀ s : State, ∃ t, exec .resetNLong s = .next t ∧ (s.pwr.por = true → t = s) ∧ (s.pwr.por = false → cold s t 3 false)) ∧
  (∀ (ns : Fin 100000000) (s : State),
    let taken := Config.freeValue 1 s.fv = 1
    ∃ t, exec (.resetNPulse ns) s = .next t ∧ (s.pwr.por = true → t = s) ∧ (s.pwr.por = false → 1000 ≤ ns.val → warm s t 4) ∧
      (s.pwr.por = false → ns.val < 1000 → taken → warm s t 4) ∧ (s.pwr.por = false → ns.val < 1000 → ¬ taken → t = { s with fv := s.fv + 1 })) ∧
  (∀ (m : Master) (s : State), s.checkWrite m 0x100010 1 = none → ∃ t, exec (.pwrRstCmdWarm m) s = .next t ∧ asked m 1 .warm s t) ∧
  (∀ (m : Master) (s : State), s.checkWrite m 0x100010 2 = none → ∃ t, exec (.pwrRstCmdService m) s = .next t ∧ asked m 2 .service s t) ∧
  (∀ (m : Master) (s : State), s.checkWrite m 0x100010 3 = none → ∃ t, exec (.pwrRstCmdCold m) s = .next t ∧ asked m 3 .cold s t) ∧
  (∀ (k : RstKind) (x : Nat) (s : State), s.pd1 = false → s.pwr.por = false → s.pwr.rst = [(k, x)] →
    ∃ t, exec .tick s = .next t ∧ t.pwr.rst = [] ∧ t.fld 0x100014 4 2 = k.code ∧ t.fld 0x100014 0 4 = 5) ∧
  (∀ (rate : Fin 5) (s : State),
    let idle := s.pwr.por = true ∨ s.bit 0x100004 31 = true
    ∃ t, exec (.loClkDetected rate) s = .next t ∧ (idle → t = s) ∧
      (¬ idle → t.bit 0x100004 31 = true ∧ t.fld 0x100004 28 3 = rate.val ∧ t.fld 0x0B0000 5 3 = rate.val ∧ s.raised t 0x100008 2 ∧
        State.regsBut [0x100004, 0x0B0000, 0x100008] s t ∧ s.keepsBut [.regs, .irq] t)) ∧
  (∀ s : State,
    ∃ t, exec .loLost s = .next t ∧ (s.bit 0x100004 31 = false → t = s) ∧
      (s.bit 0x100004 31 = true → t.bit 0x100004 31 = false ∧ t.bit 0x100008 0 = true ∧ t.apll0Locked = false ∧
        (s.apll0Locked = true → s.srcLive 0x0100 = false → t.srcLive 0x0100 = true ∧ t.curtain = true ∧ t.bit 0x0E000C 31 = true))) ∧
  (∀ s : State,
    let idle := s.pwr.por = true ∨ s.bit 0x100004 31 = false ∨ s.apll0Locked = true
    ∃ t, exec .apll0Locked s = .next t ∧ (idle → t = s) ∧
      (¬ idle → t.apll0Locked = true ∧ t.srcLive 0x0100 = false ∧ t.pd1 = true ∧ (s.pd1 = true → s.keepsBut [.regs, .out, .flt, .irq] t) ∧
        (s.pd1 = false → t.tick = 0 ∧ t.refreshAt = 0 ∧ (s.plt.applying = false → t.tbHost 0 = true ∧ t.bnd[0] = {} ∧ t.tbs = s.tbs) ∧
          (s.plt.applying = true → t.plt.plot = imgPlot (if s.pwr.boot = .applying then s.plt.active else s.plt.staging))))) ∧
  (∀ s : State, s.pwr.wanted = [] → exec .domainPowerOn s = .next s) ∧
  (∀ (d : Nat) (l : List Nat) (s : State), s.pwr.wanted = d :: l →
    ∃ t, exec .domainPowerOn s = .next t ∧ t.powered d = true ∧ t.pwr.wanted = l.filter (· ≠ d) ∧ (∀ e, e ≠ d → t.powered e = s.powered e) ∧
      (t.domWord ≠ s.domWord → s.raised t 0x100008 4) ∧ State.regsBut [0x100008] s t ∧ s.keepsBut [.regs, .pwr, .irq] t) ∧
  (∀ s : State, ∃ t, exec .firmwareSelfCheckDone s = .next t ∧ (s.pd1 = false → t = s) ∧ (s.pd1 = true → t.pwr = { s.pwr with fwOk := true } ∧ s.keepsBut [.pwr] t)) ∧
  (∀ (d : Fin 12) (inside : Bool) (s : State),
    let x := 0x0300 + d.val
    ∃ t, exec (.supplyExcursion d inside) s = .next t ∧
      (inside = true → t.srcLive x = false ∧ (∀ y, y ≠ x → t.srcLive y = s.srcLive y) ∧ t.flt.hist = s.flt.hist ∧ s.keepsBut [.flt] t) ∧
      (inside = false → s.srcLive x = true → t = s) ∧
      (inside = false → s.srcLive x = false → t.srcLive x = true ∧ (∃ r, s.recorded t x r) ∧
        (d = 0 ∨ d = 1 ∨ d = 9 → (s.wiredUnit x 0).bind s.maskedBy = none → t.curtain = true ∧ t.bit 0x0E000C 31 = true))) ∧
  (∀ (a : Int) (l : List Int) (s : State),
    let hot := l.foldl max a
    ∃ t, exec (.thermalSensorRead (a :: l)) s = .next t ∧ t.pwr.temps = a :: l ∧
      t.srcLive 0x0201 = decide (115 ≤ hot) ∧ t.srcLive 0x0200 = (if 100 ≤ hot then true else if hot < 97 then false else s.srcLive 0x0200) ∧
      (115 ≤ hot → s.srcLive 0x0201 = false → t.curtain = true ∧ t.bit 0x0E000C 31 = true) ∧ (hot < 100 → t.flt.hist = s.flt.hist ∧ s.keepsBut [.pwr, .flt] t))
end

