-- ==== Sys2Proof/Laws/Sparse.lean ====
section
/-! SUPPORT. Sys2Proof/Laws/Sparse.lean: reading a table after a write, and that a write keeps the canonical form. -/
namespace Sys2Proof.Machine

variable {α : Type}

theorem Sparse.get_erase_self (d : Nat → α) (l : Sparse α) (k : Nat) :
    Sparse.get d (Sparse.erase l k) k = d k := by
  induction l with
  | nil => rfl
  | cons p t ih =>
    obtain ⟨a, b⟩ := p
    by_cases h : a = k
    · simp [Sparse.erase, h, ih]
    · simp [Sparse.erase, Sparse.get, h, ih]

theorem Sparse.get_erase_other (d : Nat → α) (l : Sparse α) {k j : Nat} (hj : j ≠ k) :
    Sparse.get d (Sparse.erase l k) j = Sparse.get d l j := by
  induction l with
  | nil => rfl
  | cons p t ih =>
    obtain ⟨a, b⟩ := p
    by_cases h : a = k
    · have : a ≠ j := fun e => hj (e ▸ h)
      simp [Sparse.erase, Sparse.get, h, ih]
      intro e; exact absurd e.symm hj
    · by_cases h2 : a = j <;> simp [Sparse.erase, Sparse.get, h, h2, ih]
      simp [← h2, h, Sparse.get]

theorem Sparse.get_insert_self (d : Nat → α) (l : Sparse α) (k : Nat) (v : α)
    (hk : Sparse.erase l k = l) : Sparse.get d (Sparse.insert l k v) k = v := by
  induction l with
  | nil => simp [Sparse.insert, Sparse.get]
  | cons p t ih =>
    obtain ⟨a, b⟩ := p
    by_cases h : a = k
    · have len : ∀ m : Sparse α, (Sparse.erase m k).length ≤ m.length := by
        intro m; induction m with
        | nil => exact Nat.le_refl _
        | cons q m ihm =>
          obtain ⟨c, e⟩ := q
          by_cases hc : c = k
          · simp only [Sparse.erase, hc, if_true, List.length_cons]; omega
          · simp only [Sparse.erase, hc, if_false, List.length_cons]; omega
      simp only [Sparse.erase, h, if_true] at hk
      have := congrArg List.length hk
      have l2 := len t
      simp only [List.length_cons] at this
      omega
    · simp only [Sparse.erase, h, if_false, List.cons.injEq, true_and] at hk
      by_cases h2 : k < a
      · simp [Sparse.insert, Sparse.get, h2]
      · simp [Sparse.insert, Sparse.get, h2, h, ih hk]

theorem Sparse.get_insert_other (d : Nat → α) (l : Sparse α) {k j : Nat} (v : α) (hj : j ≠ k) :
    Sparse.get d (Sparse.insert l k v) j = Sparse.get d l j := by
  have hk : ¬ k = j := fun e => hj e.symm
  induction l with
  | nil => simp [Sparse.insert, Sparse.get, hk]
  | cons p t ih =>
    obtain ⟨a, b⟩ := p
    by_cases h2 : k < a
    · simp [Sparse.insert, Sparse.get, h2, hk]
    · simp [Sparse.insert, Sparse.get, h2, ih]

theorem Sparse.erase_erase (l : Sparse α) (k : Nat) :
    Sparse.erase (Sparse.erase l k) k = Sparse.erase l k := by
  induction l with
  | nil => rfl
  | cons p t ih =>
    obtain ⟨a, b⟩ := p
    by_cases h : a = k <;> simp [Sparse.erase, h, ih]

/-- A read after a write to the same key gives the value written. -/
@[simp] theorem Sparse.get_set_self [DecidableEq α] (d : Nat → α) (l : Sparse α) (k : Nat) (v : α) :
    Sparse.get d (Sparse.set d l k v) k = v := by
  unfold Sparse.set
  split
  · next h => rw [Sparse.get_erase_self, h]
  · exact Sparse.get_insert_self d _ k v (Sparse.erase_erase l k)

/-- A write leaves every other key alone. -/
theorem Sparse.get_set_other [DecidableEq α] (d : Nat → α) (l : Sparse α) {k j : Nat} (v : α) (hj : j ≠ k) :
    Sparse.get d (Sparse.set d l k v) j = Sparse.get d l j := by
  unfold Sparse.set
  split
  · exact Sparse.get_erase_other d l hj
  · rw [Sparse.get_insert_other d _ v hj, Sparse.get_erase_other d l hj]

theorem Sparse.above_mono [DecidableEq α] (d : Nat → α) (l : Sparse α) {a : Option Nat} {x : Nat}
    (h : Sparse.above d (some x) l = true) (ha : ∀ y, a = some y → y ≤ x) : Sparse.above d a l = true := by
  cases l with
  | nil => rfl
  | cons p t =>
    obtain ⟨c, b⟩ := p
    simp only [Sparse.above, Bool.and_eq_true, decide_eq_true_eq] at h ⊢
    refine ⟨⟨?_, h.1.2⟩, h.2⟩
    cases a with
    | none => rfl
    | some y => have := ha y rfl; simp; omega

theorem Sparse.above_erase [DecidableEq α] (d : Nat → α) (l : Sparse α) (k : Nat) (a : Option Nat)
    (h : Sparse.above d a l = true) : Sparse.above d a (Sparse.erase l k) = true := by
  induction l generalizing a with
  | nil => rfl
  | cons p t ih =>
    obtain ⟨c, b⟩ := p
    have h' := h
    simp only [Sparse.above, Bool.and_eq_true] at h
    by_cases hc : c = k
    · simp only [Sparse.erase, hc, if_true]
      apply ih
      refine Sparse.above_mono d t h.2 ?_
      intro y hy; subst hy
      have := h.1.1; simp at this; omega
    · simp only [Sparse.erase, hc, if_false, Sparse.above, Bool.and_eq_true]
      exact ⟨h.1, ih _ h.2⟩

theorem Sparse.above_insert [DecidableEq α] (d : Nat → α) (l : Sparse α) (k : Nat) (v : α) (a : Option Nat)
    (h : Sparse.above d a l = true) (hk : Sparse.erase l k = l) (hv : v ≠ d k)
    (ha : ∀ y, a = some y → y < k) : Sparse.above d a (Sparse.insert l k v) = true := by
  induction l generalizing a with
  | nil =>
    simp only [Sparse.insert, Sparse.above, Bool.and_true, Bool.and_eq_true]
    refine ⟨?_, by simp [hv]⟩
    cases a with
    | none => rfl
    | some y => simp [ha y rfl]
  | cons p t ih =>
    obtain ⟨c, b⟩ := p
    have hck : c ≠ k := by
      intro e
      have len : ∀ m : Sparse α, (Sparse.erase m k).length ≤ m.length := by
        intro m; induction m with
        | nil => exact Nat.le_refl _
        | cons q m ihm =>
          obtain ⟨f, g⟩ := q
          by_cases hf : f = k
          · simp only [Sparse.erase, hf, if_true, List.length_cons]; omega
          · simp only [Sparse.erase, hf, if_false, List.length_cons]; omega
      simp only [Sparse.erase, e, if_true] at hk
      have h1 := congrArg List.length hk
      have l2 := len t
      simp only [List.length_cons] at h1
      omega
    simp only [Sparse.erase, hck, if_false, List.cons.injEq, true_and] at hk
    simp only [Sparse.above, Bool.and_eq_true] at h
    by_cases h2 : k < c
    · simp only [Sparse.insert, h2, if_true, Sparse.above, Bool.and_eq_true]
      refine ⟨⟨?_, by simp [hv]⟩, ⟨by simp, h.1.2⟩, h.2⟩
      cases a with
      | none => rfl
      | some y => simp [ha y rfl]
    · simp only [Sparse.insert, h2, if_false, Sparse.above, Bool.and_eq_true]
      refine ⟨h.1, ih _ h.2 hk ?_⟩
      intro y hy; cases hy; omega

/-- A write keeps the canonical form. -/
theorem Sparse.wf_set [DecidableEq α] (d : Nat → α) (l : Sparse α) (k : Nat) (v : α)
    (h : Sparse.wf d l = true) : Sparse.wf d (Sparse.set d l k v) = true := by
  unfold Sparse.set Sparse.wf at *
  split
  · exact Sparse.above_erase d l k none h
  · next hv =>
    exact Sparse.above_insert d _ k v none (Sparse.above_erase d l k none h) (Sparse.erase_erase l k) hv
      (by intro y hy; cases hy)

theorem Sparse.above_filter [DecidableEq α] (d : Nat → α) (p : Nat × α → Bool) (l : Sparse α) (a : Option Nat)
    (h : Sparse.above d a l = true) : Sparse.above d a (l.filter p) = true := by
  induction l generalizing a with
  | nil => rfl
  | cons x t ih =>
    obtain ⟨c, b⟩ := x
    have h' := h
    simp only [Sparse.above, Bool.and_eq_true] at h
    by_cases hp : p (c, b) = true
    · simp only [List.filter_cons, hp, if_true, Sparse.above, Bool.and_eq_true]
      exact ⟨h.1, ih _ h.2⟩
    · simp only [List.filter_cons, hp]
      apply ih
      refine Sparse.above_mono d t h.2 ?_
      intro y hy; subst hy
      have := h.1.1; simp at this; omega

/-- Leaving entries out keeps the canonical form. -/
theorem Sparse.wf_filter [DecidableEq α] (d : Nat → α) (p : Nat × α → Bool) (l : Sparse α) (h : Sparse.wf d l = true) :
    Sparse.wf d (l.filter p) = true := Sparse.above_filter d p l none h

end Sys2Proof.Machine
end

