-- ==== Sys2Proof/Laws/State.lean ====
section
/-! SUPPORT. Sys2Proof/Laws/State.lean: what each update of State does to each field of it, one lemma per field and update, true by definition, so that no later proof unfolds a record update. -/
namespace Sys2Proof.Machine

/-! ### State.wr -/

@[simp] theorem State.wr_regs (s : State) (o : Nat) (v : Word) : (s.wr o v).regs = Sparse.set regReset s.regs o v := rfl
@[simp] theorem State.wr_held (s : State) (o : Nat) (v : Word) : (s.wr o v).held = s.held := (fun x => (rfl : ({ s with regs := x } : State).held = s.held)) _
@[simp] theorem State.wr_marks (s : State) (o : Nat) (v : Word) : (s.wr o v).marks = s.marks := (fun x => (rfl : ({ s with regs := x } : State).marks = s.marks)) _
@[simp] theorem State.wr_resp (s : State) (o : Nat) (v : Word) : (s.wr o v).resp = s.resp := (fun x => (rfl : ({ s with regs := x } : State).resp = s.resp)) _
@[simp] theorem State.wr_tick (s : State) (o : Nat) (v : Word) : (s.wr o v).tick = s.tick := (fun x => (rfl : ({ s with regs := x } : State).tick = s.tick)) _
@[simp] theorem State.wr_refreshAt (s : State) (o : Nat) (v : Word) : (s.wr o v).refreshAt = s.refreshAt := (fun x => (rfl : ({ s with regs := x } : State).refreshAt = s.refreshAt)) _
@[simp] theorem State.wr_pd1 (s : State) (o : Nat) (v : Word) : (s.wr o v).pd1 = s.pd1 := (fun x => (rfl : ({ s with regs := x } : State).pd1 = s.pd1)) _
@[simp] theorem State.wr_glb (s : State) (o : Nat) (v : Word) : (s.wr o v).glb = s.glb := (fun x => (rfl : ({ s with regs := x } : State).glb = s.glb)) _
@[simp] theorem State.wr_plt (s : State) (o : Nat) (v : Word) : (s.wr o v).plt = s.plt := (fun x => (rfl : ({ s with regs := x } : State).plt = s.plt)) _
@[simp] theorem State.wr_tbs (s : State) (o : Nat) (v : Word) : (s.wr o v).tbs = s.tbs := (fun x => (rfl : ({ s with regs := x } : State).tbs = s.tbs)) _
@[simp] theorem State.wr_bnd (s : State) (o : Nat) (v : Word) : (s.wr o v).bnd = s.bnd := (fun x => (rfl : ({ s with regs := x } : State).bnd = s.bnd)) _
@[simp] theorem State.wr_cals (s : State) (o : Nat) (v : Word) : (s.wr o v).cals = s.cals := (fun x => (rfl : ({ s with regs := x } : State).cals = s.cals)) _
@[simp] theorem State.wr_refs (s : State) (o : Nat) (v : Word) : (s.wr o v).refs = s.refs := (fun x => (rfl : ({ s with regs := x } : State).refs = s.refs)) _
@[simp] theorem State.wr_sels (s : State) (o : Nat) (v : Word) : (s.wr o v).sels = s.sels := (fun x => (rfl : ({ s with regs := x } : State).sels = s.sels)) _
@[simp] theorem State.wr_dplls (s : State) (o : Nat) (v : Word) : (s.wr o v).dplls = s.dplls := (fun x => (rfl : ({ s with regs := x } : State).dplls = s.dplls)) _
@[simp] theorem State.wr_uart (s : State) (o : Nat) (v : Word) : (s.wr o v).uart = s.uart := (fun x => (rfl : ({ s with regs := x } : State).uart = s.uart)) _
@[simp] theorem State.wr_tdc (s : State) (o : Nat) (v : Word) : (s.wr o v).tdc = s.tdc := (fun x => (rfl : ({ s with regs := x } : State).tdc = s.tdc)) _
@[simp] theorem State.wr_ports (s : State) (o : Nat) (v : Word) : (s.wr o v).ports = s.ports := (fun x => (rfl : ({ s with regs := x } : State).ports = s.ports)) _
@[simp] theorem State.wr_out (s : State) (o : Nat) (v : Word) : (s.wr o v).out = s.out := (fun x => (rfl : ({ s with regs := x } : State).out = s.out)) _
@[simp] theorem State.wr_flt (s : State) (o : Nat) (v : Word) : (s.wr o v).flt = s.flt := (fun x => (rfl : ({ s with regs := x } : State).flt = s.flt)) _
@[simp] theorem State.wr_svc (s : State) (o : Nat) (v : Word) : (s.wr o v).svc = s.svc := (fun x => (rfl : ({ s with regs := x } : State).svc = s.svc)) _
@[simp] theorem State.wr_gnss (s : State) (o : Nat) (v : Word) : (s.wr o v).gnss = s.gnss := (fun x => (rfl : ({ s with regs := x } : State).gnss = s.gnss)) _
@[simp] theorem State.wr_btb (s : State) (o : Nat) (v : Word) : (s.wr o v).btb = s.btb := (fun x => (rfl : ({ s with regs := x } : State).btb = s.btb)) _
@[simp] theorem State.wr_wng (s : State) (o : Nat) (v : Word) : (s.wr o v).wng = s.wng := (fun x => (rfl : ({ s with regs := x } : State).wng = s.wng)) _
@[simp] theorem State.wr_mem (s : State) (o : Nat) (v : Word) : (s.wr o v).mem = s.mem := (fun x => (rfl : ({ s with regs := x } : State).mem = s.mem)) _
@[simp] theorem State.wr_key (s : State) (o : Nat) (v : Word) : (s.wr o v).key = s.key := (fun x => (rfl : ({ s with regs := x } : State).key = s.key)) _
@[simp] theorem State.wr_otp (s : State) (o : Nat) (v : Word) : (s.wr o v).otp = s.otp := (fun x => (rfl : ({ s with regs := x } : State).otp = s.otp)) _
@[simp] theorem State.wr_pwr (s : State) (o : Nat) (v : Word) : (s.wr o v).pwr = s.pwr := (fun x => (rfl : ({ s with regs := x } : State).pwr = s.pwr)) _
@[simp] theorem State.wr_fv (s : State) (o : Nat) (v : Word) : (s.wr o v).fv = s.fv := (fun x => (rfl : ({ s with regs := x } : State).fv = s.fv)) _
@[simp] theorem State.wr_pending (s : State) (o : Nat) (v : Word) : (s.wr o v).pending = s.pending := (fun x => (rfl : ({ s with regs := x } : State).pending = s.pending)) _
@[simp] theorem State.wr_hget (s : State) (o : Nat) (v : Word) (i j : Nat) : (s.wr o v).hget i j = s.hget i j := by unfold State.hget; rw [State.wr_held]
@[simp] theorem State.wr_marked (s : State) (o : Nat) (v : Word) (i j : Nat) : (s.wr o v).marked i j = s.marked i j := by unfold State.marked; rw [State.wr_marks]

/-! ### State.hset -/

@[simp] theorem State.hset_regs (s : State) (m o : Nat) (v : Word) : (s.hset m o v).regs = s.regs := (fun x => (rfl : ({ s with held := x } : State).regs = s.regs)) _
@[simp] theorem State.hset_held (s : State) (m o : Nat) (v : Word) : (s.hset m o v).held = Sparse.set (fun k => regReset (k % 2 ^ 24)) s.held (mkey m o) v := rfl
@[simp] theorem State.hset_marks (s : State) (m o : Nat) (v : Word) : (s.hset m o v).marks = s.marks := (fun x => (rfl : ({ s with held := x } : State).marks = s.marks)) _
@[simp] theorem State.hset_resp (s : State) (m o : Nat) (v : Word) : (s.hset m o v).resp = s.resp := (fun x => (rfl : ({ s with held := x } : State).resp = s.resp)) _
@[simp] theorem State.hset_tick (s : State) (m o : Nat) (v : Word) : (s.hset m o v).tick = s.tick := (fun x => (rfl : ({ s with held := x } : State).tick = s.tick)) _
@[simp] theorem State.hset_refreshAt (s : State) (m o : Nat) (v : Word) : (s.hset m o v).refreshAt = s.refreshAt := (fun x => (rfl : ({ s with held := x } : State).refreshAt = s.refreshAt)) _
@[simp] theorem State.hset_pd1 (s : State) (m o : Nat) (v : Word) : (s.hset m o v).pd1 = s.pd1 := (fun x => (rfl : ({ s with held := x } : State).pd1 = s.pd1)) _
@[simp] theorem State.hset_glb (s : State) (m o : Nat) (v : Word) : (s.hset m o v).glb = s.glb := (fun x => (rfl : ({ s with held := x } : State).glb = s.glb)) _
@[simp] theorem State.hset_plt (s : State) (m o : Nat) (v : Word) : (s.hset m o v).plt = s.plt := (fun x => (rfl : ({ s with held := x } : State).plt = s.plt)) _
@[simp] theorem State.hset_tbs (s : State) (m o : Nat) (v : Word) : (s.hset m o v).tbs = s.tbs := (fun x => (rfl : ({ s with held := x } : State).tbs = s.tbs)) _
@[simp] theorem State.hset_bnd (s : State) (m o : Nat) (v : Word) : (s.hset m o v).bnd = s.bnd := (fun x => (rfl : ({ s with held := x } : State).bnd = s.bnd)) _
@[simp] theorem State.hset_cals (s : State) (m o : Nat) (v : Word) : (s.hset m o v).cals = s.cals := (fun x => (rfl : ({ s with held := x } : State).cals = s.cals)) _
@[simp] theorem State.hset_refs (s : State) (m o : Nat) (v : Word) : (s.hset m o v).refs = s.refs := (fun x => (rfl : ({ s with held := x } : State).refs = s.refs)) _
@[simp] theorem State.hset_sels (s : State) (m o : Nat) (v : Word) : (s.hset m o v).sels = s.sels := (fun x => (rfl : ({ s with held := x } : State).sels = s.sels)) _
@[simp] theorem State.hset_dplls (s : State) (m o : Nat) (v : Word) : (s.hset m o v).dplls = s.dplls := (fun x => (rfl : ({ s with held := x } : State).dplls = s.dplls)) _
@[simp] theorem State.hset_uart (s : State) (m o : Nat) (v : Word) : (s.hset m o v).uart = s.uart := (fun x => (rfl : ({ s with held := x } : State).uart = s.uart)) _
@[simp] theorem State.hset_tdc (s : State) (m o : Nat) (v : Word) : (s.hset m o v).tdc = s.tdc := (fun x => (rfl : ({ s with held := x } : State).tdc = s.tdc)) _
@[simp] theorem State.hset_ports (s : State) (m o : Nat) (v : Word) : (s.hset m o v).ports = s.ports := (fun x => (rfl : ({ s with held := x } : State).ports = s.ports)) _
@[simp] theorem State.hset_out (s : State) (m o : Nat) (v : Word) : (s.hset m o v).out = s.out := (fun x => (rfl : ({ s with held := x } : State).out = s.out)) _
@[simp] theorem State.hset_flt (s : State) (m o : Nat) (v : Word) : (s.hset m o v).flt = s.flt := (fun x => (rfl : ({ s with held := x } : State).flt = s.flt)) _
@[simp] theorem State.hset_svc (s : State) (m o : Nat) (v : Word) : (s.hset m o v).svc = s.svc := (fun x => (rfl : ({ s with held := x } : State).svc = s.svc)) _
@[simp] theorem State.hset_gnss (s : State) (m o : Nat) (v : Word) : (s.hset m o v).gnss = s.gnss := (fun x => (rfl : ({ s with held := x } : State).gnss = s.gnss)) _
@[simp] theorem State.hset_btb (s : State) (m o : Nat) (v : Word) : (s.hset m o v).btb = s.btb := (fun x => (rfl : ({ s with held := x } : State).btb = s.btb)) _
@[simp] theorem State.hset_wng (s : State) (m o : Nat) (v : Word) : (s.hset m o v).wng = s.wng := (fun x => (rfl : ({ s with held := x } : State).wng = s.wng)) _
@[simp] theorem State.hset_mem (s : State) (m o : Nat) (v : Word) : (s.hset m o v).mem = s.mem := (fun x => (rfl : ({ s with held := x } : State).mem = s.mem)) _
@[simp] theorem State.hset_key (s : State) (m o : Nat) (v : Word) : (s.hset m o v).key = s.key := (fun x => (rfl : ({ s with held := x } : State).key = s.key)) _
@[simp] theorem State.hset_otp (s : State) (m o : Nat) (v : Word) : (s.hset m o v).otp = s.otp := (fun x => (rfl : ({ s with held := x } : State).otp = s.otp)) _
@[simp] theorem State.hset_pwr (s : State) (m o : Nat) (v : Word) : (s.hset m o v).pwr = s.pwr := (fun x => (rfl : ({ s with held := x } : State).pwr = s.pwr)) _
@[simp] theorem State.hset_fv (s : State) (m o : Nat) (v : Word) : (s.hset m o v).fv = s.fv := (fun x => (rfl : ({ s with held := x } : State).fv = s.fv)) _
@[simp] theorem State.hset_pending (s : State) (m o : Nat) (v : Word) : (s.hset m o v).pending = s.pending := (fun x => (rfl : ({ s with held := x } : State).pending = s.pending)) _
@[simp] theorem State.hset_rd (s : State) (m o : Nat) (v : Word) (i : Nat) : (s.hset m o v).rd i = s.rd i := by unfold State.rd; rw [State.hset_regs]
@[simp] theorem State.hset_marked (s : State) (m o : Nat) (v : Word) (i j : Nat) : (s.hset m o v).marked i j = s.marked i j := by unfold State.marked; rw [State.hset_marks]

/-! ### State.mark -/

@[simp] theorem State.mark_regs (s : State) (m o : Nat) (b : Bool) : (s.mark m o b).regs = s.regs := (fun x => (rfl : ({ s with marks := x } : State).regs = s.regs)) _
@[simp] theorem State.mark_held (s : State) (m o : Nat) (b : Bool) : (s.mark m o b).held = s.held := (fun x => (rfl : ({ s with marks := x } : State).held = s.held)) _
@[simp] theorem State.mark_marks (s : State) (m o : Nat) (b : Bool) : (s.mark m o b).marks = Sparse.set (fun _ => false) s.marks (mkey m o) b := rfl
@[simp] theorem State.mark_resp (s : State) (m o : Nat) (b : Bool) : (s.mark m o b).resp = s.resp := (fun x => (rfl : ({ s with marks := x } : State).resp = s.resp)) _
@[simp] theorem State.mark_tick (s : State) (m o : Nat) (b : Bool) : (s.mark m o b).tick = s.tick := (fun x => (rfl : ({ s with marks := x } : State).tick = s.tick)) _
@[simp] theorem State.mark_refreshAt (s : State) (m o : Nat) (b : Bool) : (s.mark m o b).refreshAt = s.refreshAt := (fun x => (rfl : ({ s with marks := x } : State).refreshAt = s.refreshAt)) _
@[simp] theorem State.mark_pd1 (s : State) (m o : Nat) (b : Bool) : (s.mark m o b).pd1 = s.pd1 := (fun x => (rfl : ({ s with marks := x } : State).pd1 = s.pd1)) _
@[simp] theorem State.mark_glb (s : State) (m o : Nat) (b : Bool) : (s.mark m o b).glb = s.glb := (fun x => (rfl : ({ s with marks := x } : State).glb = s.glb)) _
@[simp] theorem State.mark_plt (s : State) (m o : Nat) (b : Bool) : (s.mark m o b).plt = s.plt := (fun x => (rfl : ({ s with marks := x } : State).plt = s.plt)) _
@[simp] theorem State.mark_tbs (s : State) (m o : Nat) (b : Bool) : (s.mark m o b).tbs = s.tbs := (fun x => (rfl : ({ s with marks := x } : State).tbs = s.tbs)) _
@[simp] theorem State.mark_bnd (s : State) (m o : Nat) (b : Bool) : (s.mark m o b).bnd = s.bnd := (fun x => (rfl : ({ s with marks := x } : State).bnd = s.bnd)) _
@[simp] theorem State.mark_cals (s : State) (m o : Nat) (b : Bool) : (s.mark m o b).cals = s.cals := (fun x => (rfl : ({ s with marks := x } : State).cals = s.cals)) _
@[simp] theorem State.mark_refs (s : State) (m o : Nat) (b : Bool) : (s.mark m o b).refs = s.refs := (fun x => (rfl : ({ s with marks := x } : State).refs = s.refs)) _
@[simp] theorem State.mark_sels (s : State) (m o : Nat) (b : Bool) : (s.mark m o b).sels = s.sels := (fun x => (rfl : ({ s with marks := x } : State).sels = s.sels)) _
@[simp] theorem State.mark_dplls (s : State) (m o : Nat) (b : Bool) : (s.mark m o b).dplls = s.dplls := (fun x => (rfl : ({ s with marks := x } : State).dplls = s.dplls)) _
@[simp] theorem State.mark_uart (s : State) (m o : Nat) (b : Bool) : (s.mark m o b).uart = s.uart := (fun x => (rfl : ({ s with marks := x } : State).uart = s.uart)) _
@[simp] theorem State.mark_tdc (s : State) (m o : Nat) (b : Bool) : (s.mark m o b).tdc = s.tdc := (fun x => (rfl : ({ s with marks := x } : State).tdc = s.tdc)) _
@[simp] theorem State.mark_ports (s : State) (m o : Nat) (b : Bool) : (s.mark m o b).ports = s.ports := (fun x => (rfl : ({ s with marks := x } : State).ports = s.ports)) _
@[simp] theorem State.mark_out (s : State) (m o : Nat) (b : Bool) : (s.mark m o b).out = s.out := (fun x => (rfl : ({ s with marks := x } : State).out = s.out)) _
@[simp] theorem State.mark_flt (s : State) (m o : Nat) (b : Bool) : (s.mark m o b).flt = s.flt := (fun x => (rfl : ({ s with marks := x } : State).flt = s.flt)) _
@[simp] theorem State.mark_svc (s : State) (m o : Nat) (b : Bool) : (s.mark m o b).svc = s.svc := (fun x => (rfl : ({ s with marks := x } : State).svc = s.svc)) _
@[simp] theorem State.mark_gnss (s : State) (m o : Nat) (b : Bool) : (s.mark m o b).gnss = s.gnss := (fun x => (rfl : ({ s with marks := x } : State).gnss = s.gnss)) _
@[simp] theorem State.mark_btb (s : State) (m o : Nat) (b : Bool) : (s.mark m o b).btb = s.btb := (fun x => (rfl : ({ s with marks := x } : State).btb = s.btb)) _
@[simp] theorem State.mark_wng (s : State) (m o : Nat) (b : Bool) : (s.mark m o b).wng = s.wng := (fun x => (rfl : ({ s with marks := x } : State).wng = s.wng)) _
@[simp] theorem State.mark_mem (s : State) (m o : Nat) (b : Bool) : (s.mark m o b).mem = s.mem := (fun x => (rfl : ({ s with marks := x } : State).mem = s.mem)) _
@[simp] theorem State.mark_key (s : State) (m o : Nat) (b : Bool) : (s.mark m o b).key = s.key := (fun x => (rfl : ({ s with marks := x } : State).key = s.key)) _
@[simp] theorem State.mark_otp (s : State) (m o : Nat) (b : Bool) : (s.mark m o b).otp = s.otp := (fun x => (rfl : ({ s with marks := x } : State).otp = s.otp)) _
@[simp] theorem State.mark_pwr (s : State) (m o : Nat) (b : Bool) : (s.mark m o b).pwr = s.pwr := (fun x => (rfl : ({ s with marks := x } : State).pwr = s.pwr)) _
@[simp] theorem State.mark_fv (s : State) (m o : Nat) (b : Bool) : (s.mark m o b).fv = s.fv := (fun x => (rfl : ({ s with marks := x } : State).fv = s.fv)) _
@[simp] theorem State.mark_pending (s : State) (m o : Nat) (b : Bool) : (s.mark m o b).pending = s.pending := (fun x => (rfl : ({ s with marks := x } : State).pending = s.pending)) _
@[simp] theorem State.mark_rd (s : State) (m o : Nat) (b : Bool) (i : Nat) : (s.mark m o b).rd i = s.rd i := by unfold State.rd; rw [State.mark_regs]
@[simp] theorem State.mark_hget (s : State) (m o : Nat) (b : Bool) (i j : Nat) : (s.mark m o b).hget i j = s.hget i j := by unfold State.hget; rw [State.mark_held]

/-! ### State.answer -/

@[simp] theorem State.answer_regs (s : State) (m : Nat) (v : Word) : (s.answer m v).regs = s.regs := (fun x => (rfl : ({ s with resp := x } : State).regs = s.regs)) _
@[simp] theorem State.answer_held (s : State) (m : Nat) (v : Word) : (s.answer m v).held = s.held := (fun x => (rfl : ({ s with resp := x } : State).held = s.held)) _
@[simp] theorem State.answer_marks (s : State) (m : Nat) (v : Word) : (s.answer m v).marks = s.marks := (fun x => (rfl : ({ s with resp := x } : State).marks = s.marks)) _
@[simp] theorem State.answer_resp (s : State) (m : Nat) (v : Word) : (s.answer m v).resp = Sparse.set (fun _ => 0) s.resp m v := rfl
@[simp] theorem State.answer_tick (s : State) (m : Nat) (v : Word) : (s.answer m v).tick = s.tick := (fun x => (rfl : ({ s with resp := x } : State).tick = s.tick)) _
@[simp] theorem State.answer_refreshAt (s : State) (m : Nat) (v : Word) : (s.answer m v).refreshAt = s.refreshAt := (fun x => (rfl : ({ s with resp := x } : State).refreshAt = s.refreshAt)) _
@[simp] theorem State.answer_pd1 (s : State) (m : Nat) (v : Word) : (s.answer m v).pd1 = s.pd1 := (fun x => (rfl : ({ s with resp := x } : State).pd1 = s.pd1)) _
@[simp] theorem State.answer_glb (s : State) (m : Nat) (v : Word) : (s.answer m v).glb = s.glb := (fun x => (rfl : ({ s with resp := x } : State).glb = s.glb)) _
@[simp] theorem State.answer_plt (s : State) (m : Nat) (v : Word) : (s.answer m v).plt = s.plt := (fun x => (rfl : ({ s with resp := x } : State).plt = s.plt)) _
@[simp] theorem State.answer_tbs (s : State) (m : Nat) (v : Word) : (s.answer m v).tbs = s.tbs := (fun x => (rfl : ({ s with resp := x } : State).tbs = s.tbs)) _
@[simp] theorem State.answer_bnd (s : State) (m : Nat) (v : Word) : (s.answer m v).bnd = s.bnd := (fun x => (rfl : ({ s with resp := x } : State).bnd = s.bnd)) _
@[simp] theorem State.answer_cals (s : State) (m : Nat) (v : Word) : (s.answer m v).cals = s.cals := (fun x => (rfl : ({ s with resp := x } : State).cals = s.cals)) _
@[simp] theorem State.answer_refs (s : State) (m : Nat) (v : Word) : (s.answer m v).refs = s.refs := (fun x => (rfl : ({ s with resp := x } : State).refs = s.refs)) _
@[simp] theorem State.answer_sels (s : State) (m : Nat) (v : Word) : (s.answer m v).sels = s.sels := (fun x => (rfl : ({ s with resp := x } : State).sels = s.sels)) _
@[simp] theorem State.answer_dplls (s : State) (m : Nat) (v : Word) : (s.answer m v).dplls = s.dplls := (fun x => (rfl : ({ s with resp := x } : State).dplls = s.dplls)) _
@[simp] theorem State.answer_uart (s : State) (m : Nat) (v : Word) : (s.answer m v).uart = s.uart := (fun x => (rfl : ({ s with resp := x } : State).uart = s.uart)) _
@[simp] theorem State.answer_tdc (s : State) (m : Nat) (v : Word) : (s.answer m v).tdc = s.tdc := (fun x => (rfl : ({ s with resp := x } : State).tdc = s.tdc)) _
@[simp] theorem State.answer_ports (s : State) (m : Nat) (v : Word) : (s.answer m v).ports = s.ports := (fun x => (rfl : ({ s with resp := x } : State).ports = s.ports)) _
@[simp] theorem State.answer_out (s : State) (m : Nat) (v : Word) : (s.answer m v).out = s.out := (fun x => (rfl : ({ s with resp := x } : State).out = s.out)) _
@[simp] theorem State.answer_flt (s : State) (m : Nat) (v : Word) : (s.answer m v).flt = s.flt := (fun x => (rfl : ({ s with resp := x } : State).flt = s.flt)) _
@[simp] theorem State.answer_svc (s : State) (m : Nat) (v : Word) : (s.answer m v).svc = s.svc := (fun x => (rfl : ({ s with resp := x } : State).svc = s.svc)) _
@[simp] theorem State.answer_gnss (s : State) (m : Nat) (v : Word) : (s.answer m v).gnss = s.gnss := (fun x => (rfl : ({ s with resp := x } : State).gnss = s.gnss)) _
@[simp] theorem State.answer_btb (s : State) (m : Nat) (v : Word) : (s.answer m v).btb = s.btb := (fun x => (rfl : ({ s with resp := x } : State).btb = s.btb)) _
@[simp] theorem State.answer_wng (s : State) (m : Nat) (v : Word) : (s.answer m v).wng = s.wng := (fun x => (rfl : ({ s with resp := x } : State).wng = s.wng)) _
@[simp] theorem State.answer_mem (s : State) (m : Nat) (v : Word) : (s.answer m v).mem = s.mem := (fun x => (rfl : ({ s with resp := x } : State).mem = s.mem)) _
@[simp] theorem State.answer_key (s : State) (m : Nat) (v : Word) : (s.answer m v).key = s.key := (fun x => (rfl : ({ s with resp := x } : State).key = s.key)) _
@[simp] theorem State.answer_otp (s : State) (m : Nat) (v : Word) : (s.answer m v).otp = s.otp := (fun x => (rfl : ({ s with resp := x } : State).otp = s.otp)) _
@[simp] theorem State.answer_pwr (s : State) (m : Nat) (v : Word) : (s.answer m v).pwr = s.pwr := (fun x => (rfl : ({ s with resp := x } : State).pwr = s.pwr)) _
@[simp] theorem State.answer_fv (s : State) (m : Nat) (v : Word) : (s.answer m v).fv = s.fv := (fun x => (rfl : ({ s with resp := x } : State).fv = s.fv)) _
@[simp] theorem State.answer_pending (s : State) (m : Nat) (v : Word) : (s.answer m v).pending = s.pending := (fun x => (rfl : ({ s with resp := x } : State).pending = s.pending)) _
@[simp] theorem State.answer_rd (s : State) (m : Nat) (v : Word) (i : Nat) : (s.answer m v).rd i = s.rd i := by unfold State.rd; rw [State.answer_regs]
@[simp] theorem State.answer_hget (s : State) (m : Nat) (v : Word) (i j : Nat) : (s.answer m v).hget i j = s.hget i j := by unfold State.hget; rw [State.answer_held]
@[simp] theorem State.answer_marked (s : State) (m : Nat) (v : Word) (i j : Nat) : (s.answer m v).marked i j = s.marked i j := by unfold State.marked; rw [State.answer_marks]

/-! ### State.modGlb -/

@[simp] theorem State.modGlb_regs (s : State) (f : Glb → Glb) : (s.modGlb f).regs = s.regs := (fun x => (rfl : ({ s with glb := x } : State).regs = s.regs)) _
@[simp] theorem State.modGlb_held (s : State) (f : Glb → Glb) : (s.modGlb f).held = s.held := (fun x => (rfl : ({ s with glb := x } : State).held = s.held)) _
@[simp] theorem State.modGlb_marks (s : State) (f : Glb → Glb) : (s.modGlb f).marks = s.marks := (fun x => (rfl : ({ s with glb := x } : State).marks = s.marks)) _
@[simp] theorem State.modGlb_resp (s : State) (f : Glb → Glb) : (s.modGlb f).resp = s.resp := (fun x => (rfl : ({ s with glb := x } : State).resp = s.resp)) _
@[simp] theorem State.modGlb_tick (s : State) (f : Glb → Glb) : (s.modGlb f).tick = s.tick := (fun x => (rfl : ({ s with glb := x } : State).tick = s.tick)) _
@[simp] theorem State.modGlb_refreshAt (s : State) (f : Glb → Glb) : (s.modGlb f).refreshAt = s.refreshAt := (fun x => (rfl : ({ s with glb := x } : State).refreshAt = s.refreshAt)) _
@[simp] theorem State.modGlb_pd1 (s : State) (f : Glb → Glb) : (s.modGlb f).pd1 = s.pd1 := (fun x => (rfl : ({ s with glb := x } : State).pd1 = s.pd1)) _
@[simp] theorem State.modGlb_glb (s : State) (f : Glb → Glb) : (s.modGlb f).glb = f s.glb := rfl
@[simp] theorem State.modGlb_plt (s : State) (f : Glb → Glb) : (s.modGlb f).plt = s.plt := (fun x => (rfl : ({ s with glb := x } : State).plt = s.plt)) _
@[simp] theorem State.modGlb_tbs (s : State) (f : Glb → Glb) : (s.modGlb f).tbs = s.tbs := (fun x => (rfl : ({ s with glb := x } : State).tbs = s.tbs)) _
@[simp] theorem State.modGlb_bnd (s : State) (f : Glb → Glb) : (s.modGlb f).bnd = s.bnd := (fun x => (rfl : ({ s with glb := x } : State).bnd = s.bnd)) _
@[simp] theorem State.modGlb_cals (s : State) (f : Glb → Glb) : (s.modGlb f).cals = s.cals := (fun x => (rfl : ({ s with glb := x } : State).cals = s.cals)) _
@[simp] theorem State.modGlb_refs (s : State) (f : Glb → Glb) : (s.modGlb f).refs = s.refs := (fun x => (rfl : ({ s with glb := x } : State).refs = s.refs)) _
@[simp] theorem State.modGlb_sels (s : State) (f : Glb → Glb) : (s.modGlb f).sels = s.sels := (fun x => (rfl : ({ s with glb := x } : State).sels = s.sels)) _
@[simp] theorem State.modGlb_dplls (s : State) (f : Glb → Glb) : (s.modGlb f).dplls = s.dplls := (fun x => (rfl : ({ s with glb := x } : State).dplls = s.dplls)) _
@[simp] theorem State.modGlb_uart (s : State) (f : Glb → Glb) : (s.modGlb f).uart = s.uart := (fun x => (rfl : ({ s with glb := x } : State).uart = s.uart)) _
@[simp] theorem State.modGlb_tdc (s : State) (f : Glb → Glb) : (s.modGlb f).tdc = s.tdc := (fun x => (rfl : ({ s with glb := x } : State).tdc = s.tdc)) _
@[simp] theorem State.modGlb_ports (s : State) (f : Glb → Glb) : (s.modGlb f).ports = s.ports := (fun x => (rfl : ({ s with glb := x } : State).ports = s.ports)) _
@[simp] theorem State.modGlb_out (s : State) (f : Glb → Glb) : (s.modGlb f).out = s.out := (fun x => (rfl : ({ s with glb := x } : State).out = s.out)) _
@[simp] theorem State.modGlb_flt (s : State) (f : Glb → Glb) : (s.modGlb f).flt = s.flt := (fun x => (rfl : ({ s with glb := x } : State).flt = s.flt)) _
@[simp] theorem State.modGlb_svc (s : State) (f : Glb → Glb) : (s.modGlb f).svc = s.svc := (fun x => (rfl : ({ s with glb := x } : State).svc = s.svc)) _
@[simp] theorem State.modGlb_gnss (s : State) (f : Glb → Glb) : (s.modGlb f).gnss = s.gnss := (fun x => (rfl : ({ s with glb := x } : State).gnss = s.gnss)) _
@[simp] theorem State.modGlb_btb (s : State) (f : Glb → Glb) : (s.modGlb f).btb = s.btb := (fun x => (rfl : ({ s with glb := x } : State).btb = s.btb)) _
@[simp] theorem State.modGlb_wng (s : State) (f : Glb → Glb) : (s.modGlb f).wng = s.wng := (fun x => (rfl : ({ s with glb := x } : State).wng = s.wng)) _
@[simp] theorem State.modGlb_mem (s : State) (f : Glb → Glb) : (s.modGlb f).mem = s.mem := (fun x => (rfl : ({ s with glb := x } : State).mem = s.mem)) _
@[simp] theorem State.modGlb_key (s : State) (f : Glb → Glb) : (s.modGlb f).key = s.key := (fun x => (rfl : ({ s with glb := x } : State).key = s.key)) _
@[simp] theorem State.modGlb_otp (s : State) (f : Glb → Glb) : (s.modGlb f).otp = s.otp := (fun x => (rfl : ({ s with glb := x } : State).otp = s.otp)) _
@[simp] theorem State.modGlb_pwr (s : State) (f : Glb → Glb) : (s.modGlb f).pwr = s.pwr := (fun x => (rfl : ({ s with glb := x } : State).pwr = s.pwr)) _
@[simp] theorem State.modGlb_fv (s : State) (f : Glb → Glb) : (s.modGlb f).fv = s.fv := (fun x => (rfl : ({ s with glb := x } : State).fv = s.fv)) _
@[simp] theorem State.modGlb_pending (s : State) (f : Glb → Glb) : (s.modGlb f).pending = s.pending := (fun x => (rfl : ({ s with glb := x } : State).pending = s.pending)) _
@[simp] theorem State.modGlb_rd (s : State) (f : Glb → Glb) (i : Nat) : (s.modGlb f).rd i = s.rd i := by unfold State.rd; rw [State.modGlb_regs]
@[simp] theorem State.modGlb_hget (s : State) (f : Glb → Glb) (i j : Nat) : (s.modGlb f).hget i j = s.hget i j := by unfold State.hget; rw [State.modGlb_held]
@[simp] theorem State.modGlb_marked (s : State) (f : Glb → Glb) (i j : Nat) : (s.modGlb f).marked i j = s.marked i j := by unfold State.marked; rw [State.modGlb_marks]

/-! ### State.modPlt -/

@[simp] theorem State.modPlt_regs (s : State) (f : Plt → Plt) : (s.modPlt f).regs = s.regs := (fun x => (rfl : ({ s with plt := x } : State).regs = s.regs)) _
@[simp] theorem State.modPlt_held (s : State) (f : Plt → Plt) : (s.modPlt f).held = s.held := (fun x => (rfl : ({ s with plt := x } : State).held = s.held)) _
@[simp] theorem State.modPlt_marks (s : State) (f : Plt → Plt) : (s.modPlt f).marks = s.marks := (fun x => (rfl : ({ s with plt := x } : State).marks = s.marks)) _
@[simp] theorem State.modPlt_resp (s : State) (f : Plt → Plt) : (s.modPlt f).resp = s.resp := (fun x => (rfl : ({ s with plt := x } : State).resp = s.resp)) _
@[simp] theorem State.modPlt_tick (s : State) (f : Plt → Plt) : (s.modPlt f).tick = s.tick := (fun x => (rfl : ({ s with plt := x } : State).tick = s.tick)) _
@[simp] theorem State.modPlt_refreshAt (s : State) (f : Plt → Plt) : (s.modPlt f).refreshAt = s.refreshAt := (fun x => (rfl : ({ s with plt := x } : State).refreshAt = s.refreshAt)) _
@[simp] theorem State.modPlt_pd1 (s : State) (f : Plt → Plt) : (s.modPlt f).pd1 = s.pd1 := (fun x => (rfl : ({ s with plt := x } : State).pd1 = s.pd1)) _
@[simp] theorem State.modPlt_glb (s : State) (f : Plt → Plt) : (s.modPlt f).glb = s.glb := (fun x => (rfl : ({ s with plt := x } : State).glb = s.glb)) _
@[simp] theorem State.modPlt_plt (s : State) (f : Plt → Plt) : (s.modPlt f).plt = f s.plt := rfl
@[simp] theorem State.modPlt_tbs (s : State) (f : Plt → Plt) : (s.modPlt f).tbs = s.tbs := (fun x => (rfl : ({ s with plt := x } : State).tbs = s.tbs)) _
@[simp] theorem State.modPlt_bnd (s : State) (f : Plt → Plt) : (s.modPlt f).bnd = s.bnd := (fun x => (rfl : ({ s with plt := x } : State).bnd = s.bnd)) _
@[simp] theorem State.modPlt_cals (s : State) (f : Plt → Plt) : (s.modPlt f).cals = s.cals := (fun x => (rfl : ({ s with plt := x } : State).cals = s.cals)) _
@[simp] theorem State.modPlt_refs (s : State) (f : Plt → Plt) : (s.modPlt f).refs = s.refs := (fun x => (rfl : ({ s with plt := x } : State).refs = s.refs)) _
@[simp] theorem State.modPlt_sels (s : State) (f : Plt → Plt) : (s.modPlt f).sels = s.sels := (fun x => (rfl : ({ s with plt := x } : State).sels = s.sels)) _
@[simp] theorem State.modPlt_dplls (s : State) (f : Plt → Plt) : (s.modPlt f).dplls = s.dplls := (fun x => (rfl : ({ s with plt := x } : State).dplls = s.dplls)) _
@[simp] theorem State.modPlt_uart (s : State) (f : Plt → Plt) : (s.modPlt f).uart = s.uart := (fun x => (rfl : ({ s with plt := x } : State).uart = s.uart)) _
@[simp] theorem State.modPlt_tdc (s : State) (f : Plt → Plt) : (s.modPlt f).tdc = s.tdc := (fun x => (rfl : ({ s with plt := x } : State).tdc = s.tdc)) _
@[simp] theorem State.modPlt_ports (s : State) (f : Plt → Plt) : (s.modPlt f).ports = s.ports := (fun x => (rfl : ({ s with plt := x } : State).ports = s.ports)) _
@[simp] theorem State.modPlt_out (s : State) (f : Plt → Plt) : (s.modPlt f).out = s.out := (fun x => (rfl : ({ s with plt := x } : State).out = s.out)) _
@[simp] theorem State.modPlt_flt (s : State) (f : Plt → Plt) : (s.modPlt f).flt = s.flt := (fun x => (rfl : ({ s with plt := x } : State).flt = s.flt)) _
@[simp] theorem State.modPlt_svc (s : State) (f : Plt → Plt) : (s.modPlt f).svc = s.svc := (fun x => (rfl : ({ s with plt := x } : State).svc = s.svc)) _
@[simp] theorem State.modPlt_gnss (s : State) (f : Plt → Plt) : (s.modPlt f).gnss = s.gnss := (fun x => (rfl : ({ s with plt := x } : State).gnss = s.gnss)) _
@[simp] theorem State.modPlt_btb (s : State) (f : Plt → Plt) : (s.modPlt f).btb = s.btb := (fun x => (rfl : ({ s with plt := x } : State).btb = s.btb)) _
@[simp] theorem State.modPlt_wng (s : State) (f : Plt → Plt) : (s.modPlt f).wng = s.wng := (fun x => (rfl : ({ s with plt := x } : State).wng = s.wng)) _
@[simp] theorem State.modPlt_mem (s : State) (f : Plt → Plt) : (s.modPlt f).mem = s.mem := (fun x => (rfl : ({ s with plt := x } : State).mem = s.mem)) _
@[simp] theorem State.modPlt_key (s : State) (f : Plt → Plt) : (s.modPlt f).key = s.key := (fun x => (rfl : ({ s with plt := x } : State).key = s.key)) _
@[simp] theorem State.modPlt_otp (s : State) (f : Plt → Plt) : (s.modPlt f).otp = s.otp := (fun x => (rfl : ({ s with plt := x } : State).otp = s.otp)) _
@[simp] theorem State.modPlt_pwr (s : State) (f : Plt → Plt) : (s.modPlt f).pwr = s.pwr := (fun x => (rfl : ({ s with plt := x } : State).pwr = s.pwr)) _
@[simp] theorem State.modPlt_fv (s : State) (f : Plt → Plt) : (s.modPlt f).fv = s.fv := (fun x => (rfl : ({ s with plt := x } : State).fv = s.fv)) _
@[simp] theorem State.modPlt_pending (s : State) (f : Plt → Plt) : (s.modPlt f).pending = s.pending := (fun x => (rfl : ({ s with plt := x } : State).pending = s.pending)) _
@[simp] theorem State.modPlt_rd (s : State) (f : Plt → Plt) (i : Nat) : (s.modPlt f).rd i = s.rd i := by unfold State.rd; rw [State.modPlt_regs]
@[simp] theorem State.modPlt_hget (s : State) (f : Plt → Plt) (i j : Nat) : (s.modPlt f).hget i j = s.hget i j := by unfold State.hget; rw [State.modPlt_held]
@[simp] theorem State.modPlt_marked (s : State) (f : Plt → Plt) (i j : Nat) : (s.modPlt f).marked i j = s.marked i j := by unfold State.marked; rw [State.modPlt_marks]

/-! ### State.modTb -/

@[simp] theorem State.modTb_regs (s : State) (n : Fin 64) (f : Tb → Tb) : (s.modTb n f).regs = s.regs := (fun x => (rfl : ({ s with tbs := x } : State).regs = s.regs)) _
@[simp] theorem State.modTb_held (s : State) (n : Fin 64) (f : Tb → Tb) : (s.modTb n f).held = s.held := (fun x => (rfl : ({ s with tbs := x } : State).held = s.held)) _
@[simp] theorem State.modTb_marks (s : State) (n : Fin 64) (f : Tb → Tb) : (s.modTb n f).marks = s.marks := (fun x => (rfl : ({ s with tbs := x } : State).marks = s.marks)) _
@[simp] theorem State.modTb_resp (s : State) (n : Fin 64) (f : Tb → Tb) : (s.modTb n f).resp = s.resp := (fun x => (rfl : ({ s with tbs := x } : State).resp = s.resp)) _
@[simp] theorem State.modTb_tick (s : State) (n : Fin 64) (f : Tb → Tb) : (s.modTb n f).tick = s.tick := (fun x => (rfl : ({ s with tbs := x } : State).tick = s.tick)) _
@[simp] theorem State.modTb_refreshAt (s : State) (n : Fin 64) (f : Tb → Tb) : (s.modTb n f).refreshAt = s.refreshAt := (fun x => (rfl : ({ s with tbs := x } : State).refreshAt = s.refreshAt)) _
@[simp] theorem State.modTb_pd1 (s : State) (n : Fin 64) (f : Tb → Tb) : (s.modTb n f).pd1 = s.pd1 := (fun x => (rfl : ({ s with tbs := x } : State).pd1 = s.pd1)) _
@[simp] theorem State.modTb_glb (s : State) (n : Fin 64) (f : Tb → Tb) : (s.modTb n f).glb = s.glb := (fun x => (rfl : ({ s with tbs := x } : State).glb = s.glb)) _
@[simp] theorem State.modTb_plt (s : State) (n : Fin 64) (f : Tb → Tb) : (s.modTb n f).plt = s.plt := (fun x => (rfl : ({ s with tbs := x } : State).plt = s.plt)) _
@[simp] theorem State.modTb_tbs (s : State) (n : Fin 64) (f : Tb → Tb) : (s.modTb n f).tbs = s.tbs.set n (f s.tbs[n]) := rfl
@[simp] theorem State.modTb_bnd (s : State) (n : Fin 64) (f : Tb → Tb) : (s.modTb n f).bnd = s.bnd := (fun x => (rfl : ({ s with tbs := x } : State).bnd = s.bnd)) _
@[simp] theorem State.modTb_cals (s : State) (n : Fin 64) (f : Tb → Tb) : (s.modTb n f).cals = s.cals := (fun x => (rfl : ({ s with tbs := x } : State).cals = s.cals)) _
@[simp] theorem State.modTb_refs (s : State) (n : Fin 64) (f : Tb → Tb) : (s.modTb n f).refs = s.refs := (fun x => (rfl : ({ s with tbs := x } : State).refs = s.refs)) _
@[simp] theorem State.modTb_sels (s : State) (n : Fin 64) (f : Tb → Tb) : (s.modTb n f).sels = s.sels := (fun x => (rfl : ({ s with tbs := x } : State).sels = s.sels)) _
@[simp] theorem State.modTb_dplls (s : State) (n : Fin 64) (f : Tb → Tb) : (s.modTb n f).dplls = s.dplls := (fun x => (rfl : ({ s with tbs := x } : State).dplls = s.dplls)) _
@[simp] theorem State.modTb_uart (s : State) (n : Fin 64) (f : Tb → Tb) : (s.modTb n f).uart = s.uart := (fun x => (rfl : ({ s with tbs := x } : State).uart = s.uart)) _
@[simp] theorem State.modTb_tdc (s : State) (n : Fin 64) (f : Tb → Tb) : (s.modTb n f).tdc = s.tdc := (fun x => (rfl : ({ s with tbs := x } : State).tdc = s.tdc)) _
@[simp] theorem State.modTb_ports (s : State) (n : Fin 64) (f : Tb → Tb) : (s.modTb n f).ports = s.ports := (fun x => (rfl : ({ s with tbs := x } : State).ports = s.ports)) _
@[simp] theorem State.modTb_out (s : State) (n : Fin 64) (f : Tb → Tb) : (s.modTb n f).out = s.out := (fun x => (rfl : ({ s with tbs := x } : State).out = s.out)) _
@[simp] theorem State.modTb_flt (s : State) (n : Fin 64) (f : Tb → Tb) : (s.modTb n f).flt = s.flt := (fun x => (rfl : ({ s with tbs := x } : State).flt = s.flt)) _
@[simp] theorem State.modTb_svc (s : State) (n : Fin 64) (f : Tb → Tb) : (s.modTb n f).svc = s.svc := (fun x => (rfl : ({ s with tbs := x } : State).svc = s.svc)) _
@[simp] theorem State.modTb_gnss (s : State) (n : Fin 64) (f : Tb → Tb) : (s.modTb n f).gnss = s.gnss := (fun x => (rfl : ({ s with tbs := x } : State).gnss = s.gnss)) _
@[simp] theorem State.modTb_btb (s : State) (n : Fin 64) (f : Tb → Tb) : (s.modTb n f).btb = s.btb := (fun x => (rfl : ({ s with tbs := x } : State).btb = s.btb)) _
@[simp] theorem State.modTb_wng (s : State) (n : Fin 64) (f : Tb → Tb) : (s.modTb n f).wng = s.wng := (fun x => (rfl : ({ s with tbs := x } : State).wng = s.wng)) _
@[simp] theorem State.modTb_mem (s : State) (n : Fin 64) (f : Tb → Tb) : (s.modTb n f).mem = s.mem := (fun x => (rfl : ({ s with tbs := x } : State).mem = s.mem)) _
@[simp] theorem State.modTb_key (s : State) (n : Fin 64) (f : Tb → Tb) : (s.modTb n f).key = s.key := (fun x => (rfl : ({ s with tbs := x } : State).key = s.key)) _
@[simp] theorem State.modTb_otp (s : State) (n : Fin 64) (f : Tb → Tb) : (s.modTb n f).otp = s.otp := (fun x => (rfl : ({ s with tbs := x } : State).otp = s.otp)) _
@[simp] theorem State.modTb_pwr (s : State) (n : Fin 64) (f : Tb → Tb) : (s.modTb n f).pwr = s.pwr := (fun x => (rfl : ({ s with tbs := x } : State).pwr = s.pwr)) _
@[simp] theorem State.modTb_fv (s : State) (n : Fin 64) (f : Tb → Tb) : (s.modTb n f).fv = s.fv := (fun x => (rfl : ({ s with tbs := x } : State).fv = s.fv)) _
@[simp] theorem State.modTb_pending (s : State) (n : Fin 64) (f : Tb → Tb) : (s.modTb n f).pending = s.pending := (fun x => (rfl : ({ s with tbs := x } : State).pending = s.pending)) _
@[simp] theorem State.modTb_rd (s : State) (n : Fin 64) (f : Tb → Tb) (i : Nat) : (s.modTb n f).rd i = s.rd i := by unfold State.rd; rw [State.modTb_regs]
@[simp] theorem State.modTb_hget (s : State) (n : Fin 64) (f : Tb → Tb) (i j : Nat) : (s.modTb n f).hget i j = s.hget i j := by unfold State.hget; rw [State.modTb_held]
@[simp] theorem State.modTb_marked (s : State) (n : Fin 64) (f : Tb → Tb) (i j : Nat) : (s.modTb n f).marked i j = s.marked i j := by unfold State.marked; rw [State.modTb_marks]

/-! ### State.modBnd -/

@[simp] theorem State.modBnd_regs (s : State) (n : Fin 64) (f : Ledger → Ledger) : (s.modBnd n f).regs = s.regs := (fun x => (rfl : ({ s with bnd := x } : State).regs = s.regs)) _
@[simp] theorem State.modBnd_held (s : State) (n : Fin 64) (f : Ledger → Ledger) : (s.modBnd n f).held = s.held := (fun x => (rfl : ({ s with bnd := x } : State).held = s.held)) _
@[simp] theorem State.modBnd_marks (s : State) (n : Fin 64) (f : Ledger → Ledger) : (s.modBnd n f).marks = s.marks := (fun x => (rfl : ({ s with bnd := x } : State).marks = s.marks)) _
@[simp] theorem State.modBnd_resp (s : State) (n : Fin 64) (f : Ledger → Ledger) : (s.modBnd n f).resp = s.resp := (fun x => (rfl : ({ s with bnd := x } : State).resp = s.resp)) _
@[simp] theorem State.modBnd_tick (s : State) (n : Fin 64) (f : Ledger → Ledger) : (s.modBnd n f).tick = s.tick := (fun x => (rfl : ({ s with bnd := x } : State).tick = s.tick)) _
@[simp] theorem State.modBnd_refreshAt (s : State) (n : Fin 64) (f : Ledger → Ledger) : (s.modBnd n f).refreshAt = s.refreshAt := (fun x => (rfl : ({ s with bnd := x } : State).refreshAt = s.refreshAt)) _
@[simp] theorem State.modBnd_pd1 (s : State) (n : Fin 64) (f : Ledger → Ledger) : (s.modBnd n f).pd1 = s.pd1 := (fun x => (rfl : ({ s with bnd := x } : State).pd1 = s.pd1)) _
@[simp] theorem State.modBnd_glb (s : State) (n : Fin 64) (f : Ledger → Ledger) : (s.modBnd n f).glb = s.glb := (fun x => (rfl : ({ s with bnd := x } : State).glb = s.glb)) _
@[simp] theorem State.modBnd_plt (s : State) (n : Fin 64) (f : Ledger → Ledger) : (s.modBnd n f).plt = s.plt := (fun x => (rfl : ({ s with bnd := x } : State).plt = s.plt)) _
@[simp] theorem State.modBnd_tbs (s : State) (n : Fin 64) (f : Ledger → Ledger) : (s.modBnd n f).tbs = s.tbs := (fun x => (rfl : ({ s with bnd := x } : State).tbs = s.tbs)) _
@[simp] theorem State.modBnd_bnd (s : State) (n : Fin 64) (f : Ledger → Ledger) : (s.modBnd n f).bnd = s.bnd.set n (f s.bnd[n]) := rfl
@[simp] theorem State.modBnd_cals (s : State) (n : Fin 64) (f : Ledger → Ledger) : (s.modBnd n f).cals = s.cals := (fun x => (rfl : ({ s with bnd := x } : State).cals = s.cals)) _
@[simp] theorem State.modBnd_refs (s : State) (n : Fin 64) (f : Ledger → Ledger) : (s.modBnd n f).refs = s.refs := (fun x => (rfl : ({ s with bnd := x } : State).refs = s.refs)) _
@[simp] theorem State.modBnd_sels (s : State) (n : Fin 64) (f : Ledger → Ledger) : (s.modBnd n f).sels = s.sels := (fun x => (rfl : ({ s with bnd := x } : State).sels = s.sels)) _
@[simp] theorem State.modBnd_dplls (s : State) (n : Fin 64) (f : Ledger → Ledger) : (s.modBnd n f).dplls = s.dplls := (fun x => (rfl : ({ s with bnd := x } : State).dplls = s.dplls)) _
@[simp] theorem State.modBnd_uart (s : State) (n : Fin 64) (f : Ledger → Ledger) : (s.modBnd n f).uart = s.uart := (fun x => (rfl : ({ s with bnd := x } : State).uart = s.uart)) _
@[simp] theorem State.modBnd_tdc (s : State) (n : Fin 64) (f : Ledger → Ledger) : (s.modBnd n f).tdc = s.tdc := (fun x => (rfl : ({ s with bnd := x } : State).tdc = s.tdc)) _
@[simp] theorem State.modBnd_ports (s : State) (n : Fin 64) (f : Ledger → Ledger) : (s.modBnd n f).ports = s.ports := (fun x => (rfl : ({ s with bnd := x } : State).ports = s.ports)) _
@[simp] theorem State.modBnd_out (s : State) (n : Fin 64) (f : Ledger → Ledger) : (s.modBnd n f).out = s.out := (fun x => (rfl : ({ s with bnd := x } : State).out = s.out)) _
@[simp] theorem State.modBnd_flt (s : State) (n : Fin 64) (f : Ledger → Ledger) : (s.modBnd n f).flt = s.flt := (fun x => (rfl : ({ s with bnd := x } : State).flt = s.flt)) _
@[simp] theorem State.modBnd_svc (s : State) (n : Fin 64) (f : Ledger → Ledger) : (s.modBnd n f).svc = s.svc := (fun x => (rfl : ({ s with bnd := x } : State).svc = s.svc)) _
@[simp] theorem State.modBnd_gnss (s : State) (n : Fin 64) (f : Ledger → Ledger) : (s.modBnd n f).gnss = s.gnss := (fun x => (rfl : ({ s with bnd := x } : State).gnss = s.gnss)) _
@[simp] theorem State.modBnd_btb (s : State) (n : Fin 64) (f : Ledger → Ledger) : (s.modBnd n f).btb = s.btb := (fun x => (rfl : ({ s with bnd := x } : State).btb = s.btb)) _
@[simp] theorem State.modBnd_wng (s : State) (n : Fin 64) (f : Ledger → Ledger) : (s.modBnd n f).wng = s.wng := (fun x => (rfl : ({ s with bnd := x } : State).wng = s.wng)) _
@[simp] theorem State.modBnd_mem (s : State) (n : Fin 64) (f : Ledger → Ledger) : (s.modBnd n f).mem = s.mem := (fun x => (rfl : ({ s with bnd := x } : State).mem = s.mem)) _
@[simp] theorem State.modBnd_key (s : State) (n : Fin 64) (f : Ledger → Ledger) : (s.modBnd n f).key = s.key := (fun x => (rfl : ({ s with bnd := x } : State).key = s.key)) _
@[simp] theorem State.modBnd_otp (s : State) (n : Fin 64) (f : Ledger → Ledger) : (s.modBnd n f).otp = s.otp := (fun x => (rfl : ({ s with bnd := x } : State).otp = s.otp)) _
@[simp] theorem State.modBnd_pwr (s : State) (n : Fin 64) (f : Ledger → Ledger) : (s.modBnd n f).pwr = s.pwr := (fun x => (rfl : ({ s with bnd := x } : State).pwr = s.pwr)) _
@[simp] theorem State.modBnd_fv (s : State) (n : Fin 64) (f : Ledger → Ledger) : (s.modBnd n f).fv = s.fv := (fun x => (rfl : ({ s with bnd := x } : State).fv = s.fv)) _
@[simp] theorem State.modBnd_pending (s : State) (n : Fin 64) (f : Ledger → Ledger) : (s.modBnd n f).pending = s.pending := (fun x => (rfl : ({ s with bnd := x } : State).pending = s.pending)) _
@[simp] theorem State.modBnd_rd (s : State) (n : Fin 64) (f : Ledger → Ledger) (i : Nat) : (s.modBnd n f).rd i = s.rd i := by unfold State.rd; rw [State.modBnd_regs]
@[simp] theorem State.modBnd_hget (s : State) (n : Fin 64) (f : Ledger → Ledger) (i j : Nat) : (s.modBnd n f).hget i j = s.hget i j := by unfold State.hget; rw [State.modBnd_held]
@[simp] theorem State.modBnd_marked (s : State) (n : Fin 64) (f : Ledger → Ledger) (i j : Nat) : (s.modBnd n f).marked i j = s.marked i j := by unfold State.marked; rw [State.modBnd_marks]

/-! ### State.modCal -/

@[simp] theorem State.modCal_regs (s : State) (k : Fin 32) (f : Cal → Cal) : (s.modCal k f).regs = s.regs := (fun x => (rfl : ({ s with cals := x } : State).regs = s.regs)) _
@[simp] theorem State.modCal_held (s : State) (k : Fin 32) (f : Cal → Cal) : (s.modCal k f).held = s.held := (fun x => (rfl : ({ s with cals := x } : State).held = s.held)) _
@[simp] theorem State.modCal_marks (s : State) (k : Fin 32) (f : Cal → Cal) : (s.modCal k f).marks = s.marks := (fun x => (rfl : ({ s with cals := x } : State).marks = s.marks)) _
@[simp] theorem State.modCal_resp (s : State) (k : Fin 32) (f : Cal → Cal) : (s.modCal k f).resp = s.resp := (fun x => (rfl : ({ s with cals := x } : State).resp = s.resp)) _
@[simp] theorem State.modCal_tick (s : State) (k : Fin 32) (f : Cal → Cal) : (s.modCal k f).tick = s.tick := (fun x => (rfl : ({ s with cals := x } : State).tick = s.tick)) _
@[simp] theorem State.modCal_refreshAt (s : State) (k : Fin 32) (f : Cal → Cal) : (s.modCal k f).refreshAt = s.refreshAt := (fun x => (rfl : ({ s with cals := x } : State).refreshAt = s.refreshAt)) _
@[simp] theorem State.modCal_pd1 (s : State) (k : Fin 32) (f : Cal → Cal) : (s.modCal k f).pd1 = s.pd1 := (fun x => (rfl : ({ s with cals := x } : State).pd1 = s.pd1)) _
@[simp] theorem State.modCal_glb (s : State) (k : Fin 32) (f : Cal → Cal) : (s.modCal k f).glb = s.glb := (fun x => (rfl : ({ s with cals := x } : State).glb = s.glb)) _
@[simp] theorem State.modCal_plt (s : State) (k : Fin 32) (f : Cal → Cal) : (s.modCal k f).plt = s.plt := (fun x => (rfl : ({ s with cals := x } : State).plt = s.plt)) _
@[simp] theorem State.modCal_tbs (s : State) (k : Fin 32) (f : Cal → Cal) : (s.modCal k f).tbs = s.tbs := (fun x => (rfl : ({ s with cals := x } : State).tbs = s.tbs)) _
@[simp] theorem State.modCal_bnd (s : State) (k : Fin 32) (f : Cal → Cal) : (s.modCal k f).bnd = s.bnd := (fun x => (rfl : ({ s with cals := x } : State).bnd = s.bnd)) _
@[simp] theorem State.modCal_cals (s : State) (k : Fin 32) (f : Cal → Cal) : (s.modCal k f).cals = s.cals.set k (f s.cals[k]) := rfl
@[simp] theorem State.modCal_refs (s : State) (k : Fin 32) (f : Cal → Cal) : (s.modCal k f).refs = s.refs := (fun x => (rfl : ({ s with cals := x } : State).refs = s.refs)) _
@[simp] theorem State.modCal_sels (s : State) (k : Fin 32) (f : Cal → Cal) : (s.modCal k f).sels = s.sels := (fun x => (rfl : ({ s with cals := x } : State).sels = s.sels)) _
@[simp] theorem State.modCal_dplls (s : State) (k : Fin 32) (f : Cal → Cal) : (s.modCal k f).dplls = s.dplls := (fun x => (rfl : ({ s with cals := x } : State).dplls = s.dplls)) _
@[simp] theorem State.modCal_uart (s : State) (k : Fin 32) (f : Cal → Cal) : (s.modCal k f).uart = s.uart := (fun x => (rfl : ({ s with cals := x } : State).uart = s.uart)) _
@[simp] theorem State.modCal_tdc (s : State) (k : Fin 32) (f : Cal → Cal) : (s.modCal k f).tdc = s.tdc := (fun x => (rfl : ({ s with cals := x } : State).tdc = s.tdc)) _
@[simp] theorem State.modCal_ports (s : State) (k : Fin 32) (f : Cal → Cal) : (s.modCal k f).ports = s.ports := (fun x => (rfl : ({ s with cals := x } : State).ports = s.ports)) _
@[simp] theorem State.modCal_out (s : State) (k : Fin 32) (f : Cal → Cal) : (s.modCal k f).out = s.out := (fun x => (rfl : ({ s with cals := x } : State).out = s.out)) _
@[simp] theorem State.modCal_flt (s : State) (k : Fin 32) (f : Cal → Cal) : (s.modCal k f).flt = s.flt := (fun x => (rfl : ({ s with cals := x } : State).flt = s.flt)) _
@[simp] theorem State.modCal_svc (s : State) (k : Fin 32) (f : Cal → Cal) : (s.modCal k f).svc = s.svc := (fun x => (rfl : ({ s with cals := x } : State).svc = s.svc)) _
@[simp] theorem State.modCal_gnss (s : State) (k : Fin 32) (f : Cal → Cal) : (s.modCal k f).gnss = s.gnss := (fun x => (rfl : ({ s with cals := x } : State).gnss = s.gnss)) _
@[simp] theorem State.modCal_btb (s : State) (k : Fin 32) (f : Cal → Cal) : (s.modCal k f).btb = s.btb := (fun x => (rfl : ({ s with cals := x } : State).btb = s.btb)) _
@[simp] theorem State.modCal_wng (s : State) (k : Fin 32) (f : Cal → Cal) : (s.modCal k f).wng = s.wng := (fun x => (rfl : ({ s with cals := x } : State).wng = s.wng)) _
@[simp] theorem State.modCal_mem (s : State) (k : Fin 32) (f : Cal → Cal) : (s.modCal k f).mem = s.mem := (fun x => (rfl : ({ s with cals := x } : State).mem = s.mem)) _
@[simp] theorem State.modCal_key (s : State) (k : Fin 32) (f : Cal → Cal) : (s.modCal k f).key = s.key := (fun x => (rfl : ({ s with cals := x } : State).key = s.key)) _
@[simp] theorem State.modCal_otp (s : State) (k : Fin 32) (f : Cal → Cal) : (s.modCal k f).otp = s.otp := (fun x => (rfl : ({ s with cals := x } : State).otp = s.otp)) _
@[simp] theorem State.modCal_pwr (s : State) (k : Fin 32) (f : Cal → Cal) : (s.modCal k f).pwr = s.pwr := (fun x => (rfl : ({ s with cals := x } : State).pwr = s.pwr)) _
@[simp] theorem State.modCal_fv (s : State) (k : Fin 32) (f : Cal → Cal) : (s.modCal k f).fv = s.fv := (fun x => (rfl : ({ s with cals := x } : State).fv = s.fv)) _
@[simp] theorem State.modCal_pending (s : State) (k : Fin 32) (f : Cal → Cal) : (s.modCal k f).pending = s.pending := (fun x => (rfl : ({ s with cals := x } : State).pending = s.pending)) _
@[simp] theorem State.modCal_rd (s : State) (k : Fin 32) (f : Cal → Cal) (i : Nat) : (s.modCal k f).rd i = s.rd i := by unfold State.rd; rw [State.modCal_regs]
@[simp] theorem State.modCal_hget (s : State) (k : Fin 32) (f : Cal → Cal) (i j : Nat) : (s.modCal k f).hget i j = s.hget i j := by unfold State.hget; rw [State.modCal_held]
@[simp] theorem State.modCal_marked (s : State) (k : Fin 32) (f : Cal → Cal) (i j : Nat) : (s.modCal k f).marked i j = s.marked i j := by unfold State.marked; rw [State.modCal_marks]

/-! ### State.modRef -/

@[simp] theorem State.modRef_regs (s : State) (k : Fin 24) (f : Ref → Ref) : (s.modRef k f).regs = s.regs := (fun x => (rfl : ({ s with refs := x } : State).regs = s.regs)) _
@[simp] theorem State.modRef_held (s : State) (k : Fin 24) (f : Ref → Ref) : (s.modRef k f).held = s.held := (fun x => (rfl : ({ s with refs := x } : State).held = s.held)) _
@[simp] theorem State.modRef_marks (s : State) (k : Fin 24) (f : Ref → Ref) : (s.modRef k f).marks = s.marks := (fun x => (rfl : ({ s with refs := x } : State).marks = s.marks)) _
@[simp] theorem State.modRef_resp (s : State) (k : Fin 24) (f : Ref → Ref) : (s.modRef k f).resp = s.resp := (fun x => (rfl : ({ s with refs := x } : State).resp = s.resp)) _
@[simp] theorem State.modRef_tick (s : State) (k : Fin 24) (f : Ref → Ref) : (s.modRef k f).tick = s.tick := (fun x => (rfl : ({ s with refs := x } : State).tick = s.tick)) _
@[simp] theorem State.modRef_refreshAt (s : State) (k : Fin 24) (f : Ref → Ref) : (s.modRef k f).refreshAt = s.refreshAt := (fun x => (rfl : ({ s with refs := x } : State).refreshAt = s.refreshAt)) _
@[simp] theorem State.modRef_pd1 (s : State) (k : Fin 24) (f : Ref → Ref) : (s.modRef k f).pd1 = s.pd1 := (fun x => (rfl : ({ s with refs := x } : State).pd1 = s.pd1)) _
@[simp] theorem State.modRef_glb (s : State) (k : Fin 24) (f : Ref → Ref) : (s.modRef k f).glb = s.glb := (fun x => (rfl : ({ s with refs := x } : State).glb = s.glb)) _
@[simp] theorem State.modRef_plt (s : State) (k : Fin 24) (f : Ref → Ref) : (s.modRef k f).plt = s.plt := (fun x => (rfl : ({ s with refs := x } : State).plt = s.plt)) _
@[simp] theorem State.modRef_tbs (s : State) (k : Fin 24) (f : Ref → Ref) : (s.modRef k f).tbs = s.tbs := (fun x => (rfl : ({ s with refs := x } : State).tbs = s.tbs)) _
@[simp] theorem State.modRef_bnd (s : State) (k : Fin 24) (f : Ref → Ref) : (s.modRef k f).bnd = s.bnd := (fun x => (rfl : ({ s with refs := x } : State).bnd = s.bnd)) _
@[simp] theorem State.modRef_cals (s : State) (k : Fin 24) (f : Ref → Ref) : (s.modRef k f).cals = s.cals := (fun x => (rfl : ({ s with refs := x } : State).cals = s.cals)) _
@[simp] theorem State.modRef_refs (s : State) (k : Fin 24) (f : Ref → Ref) : (s.modRef k f).refs = s.refs.set k (f s.refs[k]) := rfl
@[simp] theorem State.modRef_sels (s : State) (k : Fin 24) (f : Ref → Ref) : (s.modRef k f).sels = s.sels := (fun x => (rfl : ({ s with refs := x } : State).sels = s.sels)) _
@[simp] theorem State.modRef_dplls (s : State) (k : Fin 24) (f : Ref → Ref) : (s.modRef k f).dplls = s.dplls := (fun x => (rfl : ({ s with refs := x } : State).dplls = s.dplls)) _
@[simp] theorem State.modRef_uart (s : State) (k : Fin 24) (f : Ref → Ref) : (s.modRef k f).uart = s.uart := (fun x => (rfl : ({ s with refs := x } : State).uart = s.uart)) _
@[simp] theorem State.modRef_tdc (s : State) (k : Fin 24) (f : Ref → Ref) : (s.modRef k f).tdc = s.tdc := (fun x => (rfl : ({ s with refs := x } : State).tdc = s.tdc)) _
@[simp] theorem State.modRef_ports (s : State) (k : Fin 24) (f : Ref → Ref) : (s.modRef k f).ports = s.ports := (fun x => (rfl : ({ s with refs := x } : State).ports = s.ports)) _
@[simp] theorem State.modRef_out (s : State) (k : Fin 24) (f : Ref → Ref) : (s.modRef k f).out = s.out := (fun x => (rfl : ({ s with refs := x } : State).out = s.out)) _
@[simp] theorem State.modRef_flt (s : State) (k : Fin 24) (f : Ref → Ref) : (s.modRef k f).flt = s.flt := (fun x => (rfl : ({ s with refs := x } : State).flt = s.flt)) _
@[simp] theorem State.modRef_svc (s : State) (k : Fin 24) (f : Ref → Ref) : (s.modRef k f).svc = s.svc := (fun x => (rfl : ({ s with refs := x } : State).svc = s.svc)) _
@[simp] theorem State.modRef_gnss (s : State) (k : Fin 24) (f : Ref → Ref) : (s.modRef k f).gnss = s.gnss := (fun x => (rfl : ({ s with refs := x } : State).gnss = s.gnss)) _
@[simp] theorem State.modRef_btb (s : State) (k : Fin 24) (f : Ref → Ref) : (s.modRef k f).btb = s.btb := (fun x => (rfl : ({ s with refs := x } : State).btb = s.btb)) _
@[simp] theorem State.modRef_wng (s : State) (k : Fin 24) (f : Ref → Ref) : (s.modRef k f).wng = s.wng := (fun x => (rfl : ({ s with refs := x } : State).wng = s.wng)) _
@[simp] theorem State.modRef_mem (s : State) (k : Fin 24) (f : Ref → Ref) : (s.modRef k f).mem = s.mem := (fun x => (rfl : ({ s with refs := x } : State).mem = s.mem)) _
@[simp] theorem State.modRef_key (s : State) (k : Fin 24) (f : Ref → Ref) : (s.modRef k f).key = s.key := (fun x => (rfl : ({ s with refs := x } : State).key = s.key)) _
@[simp] theorem State.modRef_otp (s : State) (k : Fin 24) (f : Ref → Ref) : (s.modRef k f).otp = s.otp := (fun x => (rfl : ({ s with refs := x } : State).otp = s.otp)) _
@[simp] theorem State.modRef_pwr (s : State) (k : Fin 24) (f : Ref → Ref) : (s.modRef k f).pwr = s.pwr := (fun x => (rfl : ({ s with refs := x } : State).pwr = s.pwr)) _
@[simp] theorem State.modRef_fv (s : State) (k : Fin 24) (f : Ref → Ref) : (s.modRef k f).fv = s.fv := (fun x => (rfl : ({ s with refs := x } : State).fv = s.fv)) _
@[simp] theorem State.modRef_pending (s : State) (k : Fin 24) (f : Ref → Ref) : (s.modRef k f).pending = s.pending := (fun x => (rfl : ({ s with refs := x } : State).pending = s.pending)) _
@[simp] theorem State.modRef_rd (s : State) (k : Fin 24) (f : Ref → Ref) (i : Nat) : (s.modRef k f).rd i = s.rd i := by unfold State.rd; rw [State.modRef_regs]
@[simp] theorem State.modRef_hget (s : State) (k : Fin 24) (f : Ref → Ref) (i j : Nat) : (s.modRef k f).hget i j = s.hget i j := by unfold State.hget; rw [State.modRef_held]
@[simp] theorem State.modRef_marked (s : State) (k : Fin 24) (f : Ref → Ref) (i j : Nat) : (s.modRef k f).marked i j = s.marked i j := by unfold State.marked; rw [State.modRef_marks]

/-! ### State.modSel -/

@[simp] theorem State.modSel_regs (s : State) (d : Fin 16) (f : Sel → Sel) : (s.modSel d f).regs = s.regs := (fun x => (rfl : ({ s with sels := x } : State).regs = s.regs)) _
@[simp] theorem State.modSel_held (s : State) (d : Fin 16) (f : Sel → Sel) : (s.modSel d f).held = s.held := (fun x => (rfl : ({ s with sels := x } : State).held = s.held)) _
@[simp] theorem State.modSel_marks (s : State) (d : Fin 16) (f : Sel → Sel) : (s.modSel d f).marks = s.marks := (fun x => (rfl : ({ s with sels := x } : State).marks = s.marks)) _
@[simp] theorem State.modSel_resp (s : State) (d : Fin 16) (f : Sel → Sel) : (s.modSel d f).resp = s.resp := (fun x => (rfl : ({ s with sels := x } : State).resp = s.resp)) _
@[simp] theorem State.modSel_tick (s : State) (d : Fin 16) (f : Sel → Sel) : (s.modSel d f).tick = s.tick := (fun x => (rfl : ({ s with sels := x } : State).tick = s.tick)) _
@[simp] theorem State.modSel_refreshAt (s : State) (d : Fin 16) (f : Sel → Sel) : (s.modSel d f).refreshAt = s.refreshAt := (fun x => (rfl : ({ s with sels := x } : State).refreshAt = s.refreshAt)) _
@[simp] theorem State.modSel_pd1 (s : State) (d : Fin 16) (f : Sel → Sel) : (s.modSel d f).pd1 = s.pd1 := (fun x => (rfl : ({ s with sels := x } : State).pd1 = s.pd1)) _
@[simp] theorem State.modSel_glb (s : State) (d : Fin 16) (f : Sel → Sel) : (s.modSel d f).glb = s.glb := (fun x => (rfl : ({ s with sels := x } : State).glb = s.glb)) _
@[simp] theorem State.modSel_plt (s : State) (d : Fin 16) (f : Sel → Sel) : (s.modSel d f).plt = s.plt := (fun x => (rfl : ({ s with sels := x } : State).plt = s.plt)) _
@[simp] theorem State.modSel_tbs (s : State) (d : Fin 16) (f : Sel → Sel) : (s.modSel d f).tbs = s.tbs := (fun x => (rfl : ({ s with sels := x } : State).tbs = s.tbs)) _
@[simp] theorem State.modSel_bnd (s : State) (d : Fin 16) (f : Sel → Sel) : (s.modSel d f).bnd = s.bnd := (fun x => (rfl : ({ s with sels := x } : State).bnd = s.bnd)) _
@[simp] theorem State.modSel_cals (s : State) (d : Fin 16) (f : Sel → Sel) : (s.modSel d f).cals = s.cals := (fun x => (rfl : ({ s with sels := x } : State).cals = s.cals)) _
@[simp] theorem State.modSel_refs (s : State) (d : Fin 16) (f : Sel → Sel) : (s.modSel d f).refs = s.refs := (fun x => (rfl : ({ s with sels := x } : State).refs = s.refs)) _
@[simp] theorem State.modSel_sels (s : State) (d : Fin 16) (f : Sel → Sel) : (s.modSel d f).sels = s.sels.set d (f s.sels[d]) := rfl
@[simp] theorem State.modSel_dplls (s : State) (d : Fin 16) (f : Sel → Sel) : (s.modSel d f).dplls = s.dplls := (fun x => (rfl : ({ s with sels := x } : State).dplls = s.dplls)) _
@[simp] theorem State.modSel_uart (s : State) (d : Fin 16) (f : Sel → Sel) : (s.modSel d f).uart = s.uart := (fun x => (rfl : ({ s with sels := x } : State).uart = s.uart)) _
@[simp] theorem State.modSel_tdc (s : State) (d : Fin 16) (f : Sel → Sel) : (s.modSel d f).tdc = s.tdc := (fun x => (rfl : ({ s with sels := x } : State).tdc = s.tdc)) _
@[simp] theorem State.modSel_ports (s : State) (d : Fin 16) (f : Sel → Sel) : (s.modSel d f).ports = s.ports := (fun x => (rfl : ({ s with sels := x } : State).ports = s.ports)) _
@[simp] theorem State.modSel_out (s : State) (d : Fin 16) (f : Sel → Sel) : (s.modSel d f).out = s.out := (fun x => (rfl : ({ s with sels := x } : State).out = s.out)) _
@[simp] theorem State.modSel_flt (s : State) (d : Fin 16) (f : Sel → Sel) : (s.modSel d f).flt = s.flt := (fun x => (rfl : ({ s with sels := x } : State).flt = s.flt)) _
@[simp] theorem State.modSel_svc (s : State) (d : Fin 16) (f : Sel → Sel) : (s.modSel d f).svc = s.svc := (fun x => (rfl : ({ s with sels := x } : State).svc = s.svc)) _
@[simp] theorem State.modSel_gnss (s : State) (d : Fin 16) (f : Sel → Sel) : (s.modSel d f).gnss = s.gnss := (fun x => (rfl : ({ s with sels := x } : State).gnss = s.gnss)) _
@[simp] theorem State.modSel_btb (s : State) (d : Fin 16) (f : Sel → Sel) : (s.modSel d f).btb = s.btb := (fun x => (rfl : ({ s with sels := x } : State).btb = s.btb)) _
@[simp] theorem State.modSel_wng (s : State) (d : Fin 16) (f : Sel → Sel) : (s.modSel d f).wng = s.wng := (fun x => (rfl : ({ s with sels := x } : State).wng = s.wng)) _
@[simp] theorem State.modSel_mem (s : State) (d : Fin 16) (f : Sel → Sel) : (s.modSel d f).mem = s.mem := (fun x => (rfl : ({ s with sels := x } : State).mem = s.mem)) _
@[simp] theorem State.modSel_key (s : State) (d : Fin 16) (f : Sel → Sel) : (s.modSel d f).key = s.key := (fun x => (rfl : ({ s with sels := x } : State).key = s.key)) _
@[simp] theorem State.modSel_otp (s : State) (d : Fin 16) (f : Sel → Sel) : (s.modSel d f).otp = s.otp := (fun x => (rfl : ({ s with sels := x } : State).otp = s.otp)) _
@[simp] theorem State.modSel_pwr (s : State) (d : Fin 16) (f : Sel → Sel) : (s.modSel d f).pwr = s.pwr := (fun x => (rfl : ({ s with sels := x } : State).pwr = s.pwr)) _
@[simp] theorem State.modSel_fv (s : State) (d : Fin 16) (f : Sel → Sel) : (s.modSel d f).fv = s.fv := (fun x => (rfl : ({ s with sels := x } : State).fv = s.fv)) _
@[simp] theorem State.modSel_pending (s : State) (d : Fin 16) (f : Sel → Sel) : (s.modSel d f).pending = s.pending := (fun x => (rfl : ({ s with sels := x } : State).pending = s.pending)) _
@[simp] theorem State.modSel_rd (s : State) (d : Fin 16) (f : Sel → Sel) (i : Nat) : (s.modSel d f).rd i = s.rd i := by unfold State.rd; rw [State.modSel_regs]
@[simp] theorem State.modSel_hget (s : State) (d : Fin 16) (f : Sel → Sel) (i j : Nat) : (s.modSel d f).hget i j = s.hget i j := by unfold State.hget; rw [State.modSel_held]
@[simp] theorem State.modSel_marked (s : State) (d : Fin 16) (f : Sel → Sel) (i j : Nat) : (s.modSel d f).marked i j = s.marked i j := by unfold State.marked; rw [State.modSel_marks]

/-! ### State.modDpll -/

@[simp] theorem State.modDpll_regs (s : State) (d : Fin 16) (f : Dpll → Dpll) : (s.modDpll d f).regs = s.regs := (fun x => (rfl : ({ s with dplls := x } : State).regs = s.regs)) _
@[simp] theorem State.modDpll_held (s : State) (d : Fin 16) (f : Dpll → Dpll) : (s.modDpll d f).held = s.held := (fun x => (rfl : ({ s with dplls := x } : State).held = s.held)) _
@[simp] theorem State.modDpll_marks (s : State) (d : Fin 16) (f : Dpll → Dpll) : (s.modDpll d f).marks = s.marks := (fun x => (rfl : ({ s with dplls := x } : State).marks = s.marks)) _
@[simp] theorem State.modDpll_resp (s : State) (d : Fin 16) (f : Dpll → Dpll) : (s.modDpll d f).resp = s.resp := (fun x => (rfl : ({ s with dplls := x } : State).resp = s.resp)) _
@[simp] theorem State.modDpll_tick (s : State) (d : Fin 16) (f : Dpll → Dpll) : (s.modDpll d f).tick = s.tick := (fun x => (rfl : ({ s with dplls := x } : State).tick = s.tick)) _
@[simp] theorem State.modDpll_refreshAt (s : State) (d : Fin 16) (f : Dpll → Dpll) : (s.modDpll d f).refreshAt = s.refreshAt := (fun x => (rfl : ({ s with dplls := x } : State).refreshAt = s.refreshAt)) _
@[simp] theorem State.modDpll_pd1 (s : State) (d : Fin 16) (f : Dpll → Dpll) : (s.modDpll d f).pd1 = s.pd1 := (fun x => (rfl : ({ s with dplls := x } : State).pd1 = s.pd1)) _
@[simp] theorem State.modDpll_glb (s : State) (d : Fin 16) (f : Dpll → Dpll) : (s.modDpll d f).glb = s.glb := (fun x => (rfl : ({ s with dplls := x } : State).glb = s.glb)) _
@[simp] theorem State.modDpll_plt (s : State) (d : Fin 16) (f : Dpll → Dpll) : (s.modDpll d f).plt = s.plt := (fun x => (rfl : ({ s with dplls := x } : State).plt = s.plt)) _
@[simp] theorem State.modDpll_tbs (s : State) (d : Fin 16) (f : Dpll → Dpll) : (s.modDpll d f).tbs = s.tbs := (fun x => (rfl : ({ s with dplls := x } : State).tbs = s.tbs)) _
@[simp] theorem State.modDpll_bnd (s : State) (d : Fin 16) (f : Dpll → Dpll) : (s.modDpll d f).bnd = s.bnd := (fun x => (rfl : ({ s with dplls := x } : State).bnd = s.bnd)) _
@[simp] theorem State.modDpll_cals (s : State) (d : Fin 16) (f : Dpll → Dpll) : (s.modDpll d f).cals = s.cals := (fun x => (rfl : ({ s with dplls := x } : State).cals = s.cals)) _
@[simp] theorem State.modDpll_refs (s : State) (d : Fin 16) (f : Dpll → Dpll) : (s.modDpll d f).refs = s.refs := (fun x => (rfl : ({ s with dplls := x } : State).refs = s.refs)) _
@[simp] theorem State.modDpll_sels (s : State) (d : Fin 16) (f : Dpll → Dpll) : (s.modDpll d f).sels = s.sels := (fun x => (rfl : ({ s with dplls := x } : State).sels = s.sels)) _
@[simp] theorem State.modDpll_dplls (s : State) (d : Fin 16) (f : Dpll → Dpll) : (s.modDpll d f).dplls = s.dplls.set d (f s.dplls[d]) := rfl
@[simp] theorem State.modDpll_uart (s : State) (d : Fin 16) (f : Dpll → Dpll) : (s.modDpll d f).uart = s.uart := (fun x => (rfl : ({ s with dplls := x } : State).uart = s.uart)) _
@[simp] theorem State.modDpll_tdc (s : State) (d : Fin 16) (f : Dpll → Dpll) : (s.modDpll d f).tdc = s.tdc := (fun x => (rfl : ({ s with dplls := x } : State).tdc = s.tdc)) _
@[simp] theorem State.modDpll_ports (s : State) (d : Fin 16) (f : Dpll → Dpll) : (s.modDpll d f).ports = s.ports := (fun x => (rfl : ({ s with dplls := x } : State).ports = s.ports)) _
@[simp] theorem State.modDpll_out (s : State) (d : Fin 16) (f : Dpll → Dpll) : (s.modDpll d f).out = s.out := (fun x => (rfl : ({ s with dplls := x } : State).out = s.out)) _
@[simp] theorem State.modDpll_flt (s : State) (d : Fin 16) (f : Dpll → Dpll) : (s.modDpll d f).flt = s.flt := (fun x => (rfl : ({ s with dplls := x } : State).flt = s.flt)) _
@[simp] theorem State.modDpll_svc (s : State) (d : Fin 16) (f : Dpll → Dpll) : (s.modDpll d f).svc = s.svc := (fun x => (rfl : ({ s with dplls := x } : State).svc = s.svc)) _
@[simp] theorem State.modDpll_gnss (s : State) (d : Fin 16) (f : Dpll → Dpll) : (s.modDpll d f).gnss = s.gnss := (fun x => (rfl : ({ s with dplls := x } : State).gnss = s.gnss)) _
@[simp] theorem State.modDpll_btb (s : State) (d : Fin 16) (f : Dpll → Dpll) : (s.modDpll d f).btb = s.btb := (fun x => (rfl : ({ s with dplls := x } : State).btb = s.btb)) _
@[simp] theorem State.modDpll_wng (s : State) (d : Fin 16) (f : Dpll → Dpll) : (s.modDpll d f).wng = s.wng := (fun x => (rfl : ({ s with dplls := x } : State).wng = s.wng)) _
@[simp] theorem State.modDpll_mem (s : State) (d : Fin 16) (f : Dpll → Dpll) : (s.modDpll d f).mem = s.mem := (fun x => (rfl : ({ s with dplls := x } : State).mem = s.mem)) _
@[simp] theorem State.modDpll_key (s : State) (d : Fin 16) (f : Dpll → Dpll) : (s.modDpll d f).key = s.key := (fun x => (rfl : ({ s with dplls := x } : State).key = s.key)) _
@[simp] theorem State.modDpll_otp (s : State) (d : Fin 16) (f : Dpll → Dpll) : (s.modDpll d f).otp = s.otp := (fun x => (rfl : ({ s with dplls := x } : State).otp = s.otp)) _
@[simp] theorem State.modDpll_pwr (s : State) (d : Fin 16) (f : Dpll → Dpll) : (s.modDpll d f).pwr = s.pwr := (fun x => (rfl : ({ s with dplls := x } : State).pwr = s.pwr)) _
@[simp] theorem State.modDpll_fv (s : State) (d : Fin 16) (f : Dpll → Dpll) : (s.modDpll d f).fv = s.fv := (fun x => (rfl : ({ s with dplls := x } : State).fv = s.fv)) _
@[simp] theorem State.modDpll_pending (s : State) (d : Fin 16) (f : Dpll → Dpll) : (s.modDpll d f).pending = s.pending := (fun x => (rfl : ({ s with dplls := x } : State).pending = s.pending)) _
@[simp] theorem State.modDpll_rd (s : State) (d : Fin 16) (f : Dpll → Dpll) (i : Nat) : (s.modDpll d f).rd i = s.rd i := by unfold State.rd; rw [State.modDpll_regs]
@[simp] theorem State.modDpll_hget (s : State) (d : Fin 16) (f : Dpll → Dpll) (i j : Nat) : (s.modDpll d f).hget i j = s.hget i j := by unfold State.hget; rw [State.modDpll_held]
@[simp] theorem State.modDpll_marked (s : State) (d : Fin 16) (f : Dpll → Dpll) (i j : Nat) : (s.modDpll d f).marked i j = s.marked i j := by unfold State.marked; rw [State.modDpll_marks]

/-! ### State.modTdc -/

@[simp] theorem State.modTdc_regs (s : State) (n : Fin 24) (f : TdcCh → TdcCh) : (s.modTdc n f).regs = s.regs := (fun x => (rfl : ({ s with tdc := x } : State).regs = s.regs)) _
@[simp] theorem State.modTdc_held (s : State) (n : Fin 24) (f : TdcCh → TdcCh) : (s.modTdc n f).held = s.held := (fun x => (rfl : ({ s with tdc := x } : State).held = s.held)) _
@[simp] theorem State.modTdc_marks (s : State) (n : Fin 24) (f : TdcCh → TdcCh) : (s.modTdc n f).marks = s.marks := (fun x => (rfl : ({ s with tdc := x } : State).marks = s.marks)) _
@[simp] theorem State.modTdc_resp (s : State) (n : Fin 24) (f : TdcCh → TdcCh) : (s.modTdc n f).resp = s.resp := (fun x => (rfl : ({ s with tdc := x } : State).resp = s.resp)) _
@[simp] theorem State.modTdc_tick (s : State) (n : Fin 24) (f : TdcCh → TdcCh) : (s.modTdc n f).tick = s.tick := (fun x => (rfl : ({ s with tdc := x } : State).tick = s.tick)) _
@[simp] theorem State.modTdc_refreshAt (s : State) (n : Fin 24) (f : TdcCh → TdcCh) : (s.modTdc n f).refreshAt = s.refreshAt := (fun x => (rfl : ({ s with tdc := x } : State).refreshAt = s.refreshAt)) _
@[simp] theorem State.modTdc_pd1 (s : State) (n : Fin 24) (f : TdcCh → TdcCh) : (s.modTdc n f).pd1 = s.pd1 := (fun x => (rfl : ({ s with tdc := x } : State).pd1 = s.pd1)) _
@[simp] theorem State.modTdc_glb (s : State) (n : Fin 24) (f : TdcCh → TdcCh) : (s.modTdc n f).glb = s.glb := (fun x => (rfl : ({ s with tdc := x } : State).glb = s.glb)) _
@[simp] theorem State.modTdc_plt (s : State) (n : Fin 24) (f : TdcCh → TdcCh) : (s.modTdc n f).plt = s.plt := (fun x => (rfl : ({ s with tdc := x } : State).plt = s.plt)) _
@[simp] theorem State.modTdc_tbs (s : State) (n : Fin 24) (f : TdcCh → TdcCh) : (s.modTdc n f).tbs = s.tbs := (fun x => (rfl : ({ s with tdc := x } : State).tbs = s.tbs)) _
@[simp] theorem State.modTdc_bnd (s : State) (n : Fin 24) (f : TdcCh → TdcCh) : (s.modTdc n f).bnd = s.bnd := (fun x => (rfl : ({ s with tdc := x } : State).bnd = s.bnd)) _
@[simp] theorem State.modTdc_cals (s : State) (n : Fin 24) (f : TdcCh → TdcCh) : (s.modTdc n f).cals = s.cals := (fun x => (rfl : ({ s with tdc := x } : State).cals = s.cals)) _
@[simp] theorem State.modTdc_refs (s : State) (n : Fin 24) (f : TdcCh → TdcCh) : (s.modTdc n f).refs = s.refs := (fun x => (rfl : ({ s with tdc := x } : State).refs = s.refs)) _
@[simp] theorem State.modTdc_sels (s : State) (n : Fin 24) (f : TdcCh → TdcCh) : (s.modTdc n f).sels = s.sels := (fun x => (rfl : ({ s with tdc := x } : State).sels = s.sels)) _
@[simp] theorem State.modTdc_dplls (s : State) (n : Fin 24) (f : TdcCh → TdcCh) : (s.modTdc n f).dplls = s.dplls := (fun x => (rfl : ({ s with tdc := x } : State).dplls = s.dplls)) _
@[simp] theorem State.modTdc_uart (s : State) (n : Fin 24) (f : TdcCh → TdcCh) : (s.modTdc n f).uart = s.uart := (fun x => (rfl : ({ s with tdc := x } : State).uart = s.uart)) _
@[simp] theorem State.modTdc_tdc (s : State) (n : Fin 24) (f : TdcCh → TdcCh) : (s.modTdc n f).tdc = { s.tdc with ch := s.tdc.ch.set n (f s.tdc.ch[n]) } := rfl
@[simp] theorem State.modTdc_ports (s : State) (n : Fin 24) (f : TdcCh → TdcCh) : (s.modTdc n f).ports = s.ports := (fun x => (rfl : ({ s with tdc := x } : State).ports = s.ports)) _
@[simp] theorem State.modTdc_out (s : State) (n : Fin 24) (f : TdcCh → TdcCh) : (s.modTdc n f).out = s.out := (fun x => (rfl : ({ s with tdc := x } : State).out = s.out)) _
@[simp] theorem State.modTdc_flt (s : State) (n : Fin 24) (f : TdcCh → TdcCh) : (s.modTdc n f).flt = s.flt := (fun x => (rfl : ({ s with tdc := x } : State).flt = s.flt)) _
@[simp] theorem State.modTdc_svc (s : State) (n : Fin 24) (f : TdcCh → TdcCh) : (s.modTdc n f).svc = s.svc := (fun x => (rfl : ({ s with tdc := x } : State).svc = s.svc)) _
@[simp] theorem State.modTdc_gnss (s : State) (n : Fin 24) (f : TdcCh → TdcCh) : (s.modTdc n f).gnss = s.gnss := (fun x => (rfl : ({ s with tdc := x } : State).gnss = s.gnss)) _
@[simp] theorem State.modTdc_btb (s : State) (n : Fin 24) (f : TdcCh → TdcCh) : (s.modTdc n f).btb = s.btb := (fun x => (rfl : ({ s with tdc := x } : State).btb = s.btb)) _
@[simp] theorem State.modTdc_wng (s : State) (n : Fin 24) (f : TdcCh → TdcCh) : (s.modTdc n f).wng = s.wng := (fun x => (rfl : ({ s with tdc := x } : State).wng = s.wng)) _
@[simp] theorem State.modTdc_mem (s : State) (n : Fin 24) (f : TdcCh → TdcCh) : (s.modTdc n f).mem = s.mem := (fun x => (rfl : ({ s with tdc := x } : State).mem = s.mem)) _
@[simp] theorem State.modTdc_key (s : State) (n : Fin 24) (f : TdcCh → TdcCh) : (s.modTdc n f).key = s.key := (fun x => (rfl : ({ s with tdc := x } : State).key = s.key)) _
@[simp] theorem State.modTdc_otp (s : State) (n : Fin 24) (f : TdcCh → TdcCh) : (s.modTdc n f).otp = s.otp := (fun x => (rfl : ({ s with tdc := x } : State).otp = s.otp)) _
@[simp] theorem State.modTdc_pwr (s : State) (n : Fin 24) (f : TdcCh → TdcCh) : (s.modTdc n f).pwr = s.pwr := (fun x => (rfl : ({ s with tdc := x } : State).pwr = s.pwr)) _
@[simp] theorem State.modTdc_fv (s : State) (n : Fin 24) (f : TdcCh → TdcCh) : (s.modTdc n f).fv = s.fv := (fun x => (rfl : ({ s with tdc := x } : State).fv = s.fv)) _
@[simp] theorem State.modTdc_pending (s : State) (n : Fin 24) (f : TdcCh → TdcCh) : (s.modTdc n f).pending = s.pending := (fun x => (rfl : ({ s with tdc := x } : State).pending = s.pending)) _
@[simp] theorem State.modTdc_rd (s : State) (n : Fin 24) (f : TdcCh → TdcCh) (i : Nat) : (s.modTdc n f).rd i = s.rd i := by unfold State.rd; rw [State.modTdc_regs]
@[simp] theorem State.modTdc_hget (s : State) (n : Fin 24) (f : TdcCh → TdcCh) (i j : Nat) : (s.modTdc n f).hget i j = s.hget i j := by unfold State.hget; rw [State.modTdc_held]
@[simp] theorem State.modTdc_marked (s : State) (n : Fin 24) (f : TdcCh → TdcCh) (i j : Nat) : (s.modTdc n f).marked i j = s.marked i j := by unfold State.marked; rw [State.modTdc_marks]

/-! ### State.modPort -/

@[simp] theorem State.modPort_regs (s : State) (p : Fin 16) (f : Port → Port) : (s.modPort p f).regs = s.regs := (fun x => (rfl : ({ s with ports := x } : State).regs = s.regs)) _
@[simp] theorem State.modPort_held (s : State) (p : Fin 16) (f : Port → Port) : (s.modPort p f).held = s.held := (fun x => (rfl : ({ s with ports := x } : State).held = s.held)) _
@[simp] theorem State.modPort_marks (s : State) (p : Fin 16) (f : Port → Port) : (s.modPort p f).marks = s.marks := (fun x => (rfl : ({ s with ports := x } : State).marks = s.marks)) _
@[simp] theorem State.modPort_resp (s : State) (p : Fin 16) (f : Port → Port) : (s.modPort p f).resp = s.resp := (fun x => (rfl : ({ s with ports := x } : State).resp = s.resp)) _
@[simp] theorem State.modPort_tick (s : State) (p : Fin 16) (f : Port → Port) : (s.modPort p f).tick = s.tick := (fun x => (rfl : ({ s with ports := x } : State).tick = s.tick)) _
@[simp] theorem State.modPort_refreshAt (s : State) (p : Fin 16) (f : Port → Port) : (s.modPort p f).refreshAt = s.refreshAt := (fun x => (rfl : ({ s with ports := x } : State).refreshAt = s.refreshAt)) _
@[simp] theorem State.modPort_pd1 (s : State) (p : Fin 16) (f : Port → Port) : (s.modPort p f).pd1 = s.pd1 := (fun x => (rfl : ({ s with ports := x } : State).pd1 = s.pd1)) _
@[simp] theorem State.modPort_glb (s : State) (p : Fin 16) (f : Port → Port) : (s.modPort p f).glb = s.glb := (fun x => (rfl : ({ s with ports := x } : State).glb = s.glb)) _
@[simp] theorem State.modPort_plt (s : State) (p : Fin 16) (f : Port → Port) : (s.modPort p f).plt = s.plt := (fun x => (rfl : ({ s with ports := x } : State).plt = s.plt)) _
@[simp] theorem State.modPort_tbs (s : State) (p : Fin 16) (f : Port → Port) : (s.modPort p f).tbs = s.tbs := (fun x => (rfl : ({ s with ports := x } : State).tbs = s.tbs)) _
@[simp] theorem State.modPort_bnd (s : State) (p : Fin 16) (f : Port → Port) : (s.modPort p f).bnd = s.bnd := (fun x => (rfl : ({ s with ports := x } : State).bnd = s.bnd)) _
@[simp] theorem State.modPort_cals (s : State) (p : Fin 16) (f : Port → Port) : (s.modPort p f).cals = s.cals := (fun x => (rfl : ({ s with ports := x } : State).cals = s.cals)) _
@[simp] theorem State.modPort_refs (s : State) (p : Fin 16) (f : Port → Port) : (s.modPort p f).refs = s.refs := (fun x => (rfl : ({ s with ports := x } : State).refs = s.refs)) _
@[simp] theorem State.modPort_sels (s : State) (p : Fin 16) (f : Port → Port) : (s.modPort p f).sels = s.sels := (fun x => (rfl : ({ s with ports := x } : State).sels = s.sels)) _
@[simp] theorem State.modPort_dplls (s : State) (p : Fin 16) (f : Port → Port) : (s.modPort p f).dplls = s.dplls := (fun x => (rfl : ({ s with ports := x } : State).dplls = s.dplls)) _
@[simp] theorem State.modPort_uart (s : State) (p : Fin 16) (f : Port → Port) : (s.modPort p f).uart = s.uart := (fun x => (rfl : ({ s with ports := x } : State).uart = s.uart)) _
@[simp] theorem State.modPort_tdc (s : State) (p : Fin 16) (f : Port → Port) : (s.modPort p f).tdc = s.tdc := (fun x => (rfl : ({ s with ports := x } : State).tdc = s.tdc)) _
@[simp] theorem State.modPort_ports (s : State) (p : Fin 16) (f : Port → Port) : (s.modPort p f).ports = s.ports.set p (f s.ports[p]) := rfl
@[simp] theorem State.modPort_out (s : State) (p : Fin 16) (f : Port → Port) : (s.modPort p f).out = s.out := (fun x => (rfl : ({ s with ports := x } : State).out = s.out)) _
@[simp] theorem State.modPort_flt (s : State) (p : Fin 16) (f : Port → Port) : (s.modPort p f).flt = s.flt := (fun x => (rfl : ({ s with ports := x } : State).flt = s.flt)) _
@[simp] theorem State.modPort_svc (s : State) (p : Fin 16) (f : Port → Port) : (s.modPort p f).svc = s.svc := (fun x => (rfl : ({ s with ports := x } : State).svc = s.svc)) _
@[simp] theorem State.modPort_gnss (s : State) (p : Fin 16) (f : Port → Port) : (s.modPort p f).gnss = s.gnss := (fun x => (rfl : ({ s with ports := x } : State).gnss = s.gnss)) _
@[simp] theorem State.modPort_btb (s : State) (p : Fin 16) (f : Port → Port) : (s.modPort p f).btb = s.btb := (fun x => (rfl : ({ s with ports := x } : State).btb = s.btb)) _
@[simp] theorem State.modPort_wng (s : State) (p : Fin 16) (f : Port → Port) : (s.modPort p f).wng = s.wng := (fun x => (rfl : ({ s with ports := x } : State).wng = s.wng)) _
@[simp] theorem State.modPort_mem (s : State) (p : Fin 16) (f : Port → Port) : (s.modPort p f).mem = s.mem := (fun x => (rfl : ({ s with ports := x } : State).mem = s.mem)) _
@[simp] theorem State.modPort_key (s : State) (p : Fin 16) (f : Port → Port) : (s.modPort p f).key = s.key := (fun x => (rfl : ({ s with ports := x } : State).key = s.key)) _
@[simp] theorem State.modPort_otp (s : State) (p : Fin 16) (f : Port → Port) : (s.modPort p f).otp = s.otp := (fun x => (rfl : ({ s with ports := x } : State).otp = s.otp)) _
@[simp] theorem State.modPort_pwr (s : State) (p : Fin 16) (f : Port → Port) : (s.modPort p f).pwr = s.pwr := (fun x => (rfl : ({ s with ports := x } : State).pwr = s.pwr)) _
@[simp] theorem State.modPort_fv (s : State) (p : Fin 16) (f : Port → Port) : (s.modPort p f).fv = s.fv := (fun x => (rfl : ({ s with ports := x } : State).fv = s.fv)) _
@[simp] theorem State.modPort_pending (s : State) (p : Fin 16) (f : Port → Port) : (s.modPort p f).pending = s.pending := (fun x => (rfl : ({ s with ports := x } : State).pending = s.pending)) _
@[simp] theorem State.modPort_rd (s : State) (p : Fin 16) (f : Port → Port) (i : Nat) : (s.modPort p f).rd i = s.rd i := by unfold State.rd; rw [State.modPort_regs]
@[simp] theorem State.modPort_hget (s : State) (p : Fin 16) (f : Port → Port) (i j : Nat) : (s.modPort p f).hget i j = s.hget i j := by unfold State.hget; rw [State.modPort_held]
@[simp] theorem State.modPort_marked (s : State) (p : Fin 16) (f : Port → Port) (i j : Nat) : (s.modPort p f).marked i j = s.marked i j := by unfold State.marked; rw [State.modPort_marks]

/-! ### State.modOut -/

@[simp] theorem State.modOut_regs (s : State) (k : Fin 12) (f : OutSt → OutSt) : (s.modOut k f).regs = s.regs := (fun x => (rfl : ({ s with out := x } : State).regs = s.regs)) _
@[simp] theorem State.modOut_held (s : State) (k : Fin 12) (f : OutSt → OutSt) : (s.modOut k f).held = s.held := (fun x => (rfl : ({ s with out := x } : State).held = s.held)) _
@[simp] theorem State.modOut_marks (s : State) (k : Fin 12) (f : OutSt → OutSt) : (s.modOut k f).marks = s.marks := (fun x => (rfl : ({ s with out := x } : State).marks = s.marks)) _
@[simp] theorem State.modOut_resp (s : State) (k : Fin 12) (f : OutSt → OutSt) : (s.modOut k f).resp = s.resp := (fun x => (rfl : ({ s with out := x } : State).resp = s.resp)) _
@[simp] theorem State.modOut_tick (s : State) (k : Fin 12) (f : OutSt → OutSt) : (s.modOut k f).tick = s.tick := (fun x => (rfl : ({ s with out := x } : State).tick = s.tick)) _
@[simp] theorem State.modOut_refreshAt (s : State) (k : Fin 12) (f : OutSt → OutSt) : (s.modOut k f).refreshAt = s.refreshAt := (fun x => (rfl : ({ s with out := x } : State).refreshAt = s.refreshAt)) _
@[simp] theorem State.modOut_pd1 (s : State) (k : Fin 12) (f : OutSt → OutSt) : (s.modOut k f).pd1 = s.pd1 := (fun x => (rfl : ({ s with out := x } : State).pd1 = s.pd1)) _
@[simp] theorem State.modOut_glb (s : State) (k : Fin 12) (f : OutSt → OutSt) : (s.modOut k f).glb = s.glb := (fun x => (rfl : ({ s with out := x } : State).glb = s.glb)) _
@[simp] theorem State.modOut_plt (s : State) (k : Fin 12) (f : OutSt → OutSt) : (s.modOut k f).plt = s.plt := (fun x => (rfl : ({ s with out := x } : State).plt = s.plt)) _
@[simp] theorem State.modOut_tbs (s : State) (k : Fin 12) (f : OutSt → OutSt) : (s.modOut k f).tbs = s.tbs := (fun x => (rfl : ({ s with out := x } : State).tbs = s.tbs)) _
@[simp] theorem State.modOut_bnd (s : State) (k : Fin 12) (f : OutSt → OutSt) : (s.modOut k f).bnd = s.bnd := (fun x => (rfl : ({ s with out := x } : State).bnd = s.bnd)) _
@[simp] theorem State.modOut_cals (s : State) (k : Fin 12) (f : OutSt → OutSt) : (s.modOut k f).cals = s.cals := (fun x => (rfl : ({ s with out := x } : State).cals = s.cals)) _
@[simp] theorem State.modOut_refs (s : State) (k : Fin 12) (f : OutSt → OutSt) : (s.modOut k f).refs = s.refs := (fun x => (rfl : ({ s with out := x } : State).refs = s.refs)) _
@[simp] theorem State.modOut_sels (s : State) (k : Fin 12) (f : OutSt → OutSt) : (s.modOut k f).sels = s.sels := (fun x => (rfl : ({ s with out := x } : State).sels = s.sels)) _
@[simp] theorem State.modOut_dplls (s : State) (k : Fin 12) (f : OutSt → OutSt) : (s.modOut k f).dplls = s.dplls := (fun x => (rfl : ({ s with out := x } : State).dplls = s.dplls)) _
@[simp] theorem State.modOut_uart (s : State) (k : Fin 12) (f : OutSt → OutSt) : (s.modOut k f).uart = s.uart := (fun x => (rfl : ({ s with out := x } : State).uart = s.uart)) _
@[simp] theorem State.modOut_tdc (s : State) (k : Fin 12) (f : OutSt → OutSt) : (s.modOut k f).tdc = s.tdc := (fun x => (rfl : ({ s with out := x } : State).tdc = s.tdc)) _
@[simp] theorem State.modOut_ports (s : State) (k : Fin 12) (f : OutSt → OutSt) : (s.modOut k f).ports = s.ports := (fun x => (rfl : ({ s with out := x } : State).ports = s.ports)) _
@[simp] theorem State.modOut_out (s : State) (k : Fin 12) (f : OutSt → OutSt) : (s.modOut k f).out = { s.out with outs := s.out.outs.set k (f s.out.outs[k]) } := rfl
@[simp] theorem State.modOut_flt (s : State) (k : Fin 12) (f : OutSt → OutSt) : (s.modOut k f).flt = s.flt := (fun x => (rfl : ({ s with out := x } : State).flt = s.flt)) _
@[simp] theorem State.modOut_svc (s : State) (k : Fin 12) (f : OutSt → OutSt) : (s.modOut k f).svc = s.svc := (fun x => (rfl : ({ s with out := x } : State).svc = s.svc)) _
@[simp] theorem State.modOut_gnss (s : State) (k : Fin 12) (f : OutSt → OutSt) : (s.modOut k f).gnss = s.gnss := (fun x => (rfl : ({ s with out := x } : State).gnss = s.gnss)) _
@[simp] theorem State.modOut_btb (s : State) (k : Fin 12) (f : OutSt → OutSt) : (s.modOut k f).btb = s.btb := (fun x => (rfl : ({ s with out := x } : State).btb = s.btb)) _
@[simp] theorem State.modOut_wng (s : State) (k : Fin 12) (f : OutSt → OutSt) : (s.modOut k f).wng = s.wng := (fun x => (rfl : ({ s with out := x } : State).wng = s.wng)) _
@[simp] theorem State.modOut_mem (s : State) (k : Fin 12) (f : OutSt → OutSt) : (s.modOut k f).mem = s.mem := (fun x => (rfl : ({ s with out := x } : State).mem = s.mem)) _
@[simp] theorem State.modOut_key (s : State) (k : Fin 12) (f : OutSt → OutSt) : (s.modOut k f).key = s.key := (fun x => (rfl : ({ s with out := x } : State).key = s.key)) _
@[simp] theorem State.modOut_otp (s : State) (k : Fin 12) (f : OutSt → OutSt) : (s.modOut k f).otp = s.otp := (fun x => (rfl : ({ s with out := x } : State).otp = s.otp)) _
@[simp] theorem State.modOut_pwr (s : State) (k : Fin 12) (f : OutSt → OutSt) : (s.modOut k f).pwr = s.pwr := (fun x => (rfl : ({ s with out := x } : State).pwr = s.pwr)) _
@[simp] theorem State.modOut_fv (s : State) (k : Fin 12) (f : OutSt → OutSt) : (s.modOut k f).fv = s.fv := (fun x => (rfl : ({ s with out := x } : State).fv = s.fv)) _
@[simp] theorem State.modOut_pending (s : State) (k : Fin 12) (f : OutSt → OutSt) : (s.modOut k f).pending = s.pending := (fun x => (rfl : ({ s with out := x } : State).pending = s.pending)) _
@[simp] theorem State.modOut_rd (s : State) (k : Fin 12) (f : OutSt → OutSt) (i : Nat) : (s.modOut k f).rd i = s.rd i := by unfold State.rd; rw [State.modOut_regs]
@[simp] theorem State.modOut_hget (s : State) (k : Fin 12) (f : OutSt → OutSt) (i j : Nat) : (s.modOut k f).hget i j = s.hget i j := by unfold State.hget; rw [State.modOut_held]
@[simp] theorem State.modOut_marked (s : State) (k : Fin 12) (f : OutSt → OutSt) (i j : Nat) : (s.modOut k f).marked i j = s.marked i j := by unfold State.marked; rw [State.modOut_marks]

/-! ### State.modApll -/

@[simp] theorem State.modApll_regs (s : State) (k : Fin 4) (f : Apll → Apll) : (s.modApll k f).regs = s.regs := (fun x => (rfl : ({ s with out := x } : State).regs = s.regs)) _
@[simp] theorem State.modApll_held (s : State) (k : Fin 4) (f : Apll → Apll) : (s.modApll k f).held = s.held := (fun x => (rfl : ({ s with out := x } : State).held = s.held)) _
@[simp] theorem State.modApll_marks (s : State) (k : Fin 4) (f : Apll → Apll) : (s.modApll k f).marks = s.marks := (fun x => (rfl : ({ s with out := x } : State).marks = s.marks)) _
@[simp] theorem State.modApll_resp (s : State) (k : Fin 4) (f : Apll → Apll) : (s.modApll k f).resp = s.resp := (fun x => (rfl : ({ s with out := x } : State).resp = s.resp)) _
@[simp] theorem State.modApll_tick (s : State) (k : Fin 4) (f : Apll → Apll) : (s.modApll k f).tick = s.tick := (fun x => (rfl : ({ s with out := x } : State).tick = s.tick)) _
@[simp] theorem State.modApll_refreshAt (s : State) (k : Fin 4) (f : Apll → Apll) : (s.modApll k f).refreshAt = s.refreshAt := (fun x => (rfl : ({ s with out := x } : State).refreshAt = s.refreshAt)) _
@[simp] theorem State.modApll_pd1 (s : State) (k : Fin 4) (f : Apll → Apll) : (s.modApll k f).pd1 = s.pd1 := (fun x => (rfl : ({ s with out := x } : State).pd1 = s.pd1)) _
@[simp] theorem State.modApll_glb (s : State) (k : Fin 4) (f : Apll → Apll) : (s.modApll k f).glb = s.glb := (fun x => (rfl : ({ s with out := x } : State).glb = s.glb)) _
@[simp] theorem State.modApll_plt (s : State) (k : Fin 4) (f : Apll → Apll) : (s.modApll k f).plt = s.plt := (fun x => (rfl : ({ s with out := x } : State).plt = s.plt)) _
@[simp] theorem State.modApll_tbs (s : State) (k : Fin 4) (f : Apll → Apll) : (s.modApll k f).tbs = s.tbs := (fun x => (rfl : ({ s with out := x } : State).tbs = s.tbs)) _
@[simp] theorem State.modApll_bnd (s : State) (k : Fin 4) (f : Apll → Apll) : (s.modApll k f).bnd = s.bnd := (fun x => (rfl : ({ s with out := x } : State).bnd = s.bnd)) _
@[simp] theorem State.modApll_cals (s : State) (k : Fin 4) (f : Apll → Apll) : (s.modApll k f).cals = s.cals := (fun x => (rfl : ({ s with out := x } : State).cals = s.cals)) _
@[simp] theorem State.modApll_refs (s : State) (k : Fin 4) (f : Apll → Apll) : (s.modApll k f).refs = s.refs := (fun x => (rfl : ({ s with out := x } : State).refs = s.refs)) _
@[simp] theorem State.modApll_sels (s : State) (k : Fin 4) (f : Apll → Apll) : (s.modApll k f).sels = s.sels := (fun x => (rfl : ({ s with out := x } : State).sels = s.sels)) _
@[simp] theorem State.modApll_dplls (s : State) (k : Fin 4) (f : Apll → Apll) : (s.modApll k f).dplls = s.dplls := (fun x => (rfl : ({ s with out := x } : State).dplls = s.dplls)) _
@[simp] theorem State.modApll_uart (s : State) (k : Fin 4) (f : Apll → Apll) : (s.modApll k f).uart = s.uart := (fun x => (rfl : ({ s with out := x } : State).uart = s.uart)) _
@[simp] theorem State.modApll_tdc (s : State) (k : Fin 4) (f : Apll → Apll) : (s.modApll k f).tdc = s.tdc := (fun x => (rfl : ({ s with out := x } : State).tdc = s.tdc)) _
@[simp] theorem State.modApll_ports (s : State) (k : Fin 4) (f : Apll → Apll) : (s.modApll k f).ports = s.ports := (fun x => (rfl : ({ s with out := x } : State).ports = s.ports)) _
@[simp] theorem State.modApll_out (s : State) (k : Fin 4) (f : Apll → Apll) : (s.modApll k f).out = { s.out with aplls := s.out.aplls.set k (f s.out.aplls[k]) } := rfl
@[simp] theorem State.modApll_flt (s : State) (k : Fin 4) (f : Apll → Apll) : (s.modApll k f).flt = s.flt := (fun x => (rfl : ({ s with out := x } : State).flt = s.flt)) _
@[simp] theorem State.modApll_svc (s : State) (k : Fin 4) (f : Apll → Apll) : (s.modApll k f).svc = s.svc := (fun x => (rfl : ({ s with out := x } : State).svc = s.svc)) _
@[simp] theorem State.modApll_gnss (s : State) (k : Fin 4) (f : Apll → Apll) : (s.modApll k f).gnss = s.gnss := (fun x => (rfl : ({ s with out := x } : State).gnss = s.gnss)) _
@[simp] theorem State.modApll_btb (s : State) (k : Fin 4) (f : Apll → Apll) : (s.modApll k f).btb = s.btb := (fun x => (rfl : ({ s with out := x } : State).btb = s.btb)) _
@[simp] theorem State.modApll_wng (s : State) (k : Fin 4) (f : Apll → Apll) : (s.modApll k f).wng = s.wng := (fun x => (rfl : ({ s with out := x } : State).wng = s.wng)) _
@[simp] theorem State.modApll_mem (s : State) (k : Fin 4) (f : Apll → Apll) : (s.modApll k f).mem = s.mem := (fun x => (rfl : ({ s with out := x } : State).mem = s.mem)) _
@[simp] theorem State.modApll_key (s : State) (k : Fin 4) (f : Apll → Apll) : (s.modApll k f).key = s.key := (fun x => (rfl : ({ s with out := x } : State).key = s.key)) _
@[simp] theorem State.modApll_otp (s : State) (k : Fin 4) (f : Apll → Apll) : (s.modApll k f).otp = s.otp := (fun x => (rfl : ({ s with out := x } : State).otp = s.otp)) _
@[simp] theorem State.modApll_pwr (s : State) (k : Fin 4) (f : Apll → Apll) : (s.modApll k f).pwr = s.pwr := (fun x => (rfl : ({ s with out := x } : State).pwr = s.pwr)) _
@[simp] theorem State.modApll_fv (s : State) (k : Fin 4) (f : Apll → Apll) : (s.modApll k f).fv = s.fv := (fun x => (rfl : ({ s with out := x } : State).fv = s.fv)) _
@[simp] theorem State.modApll_pending (s : State) (k : Fin 4) (f : Apll → Apll) : (s.modApll k f).pending = s.pending := (fun x => (rfl : ({ s with out := x } : State).pending = s.pending)) _
@[simp] theorem State.modApll_rd (s : State) (k : Fin 4) (f : Apll → Apll) (i : Nat) : (s.modApll k f).rd i = s.rd i := by unfold State.rd; rw [State.modApll_regs]
@[simp] theorem State.modApll_hget (s : State) (k : Fin 4) (f : Apll → Apll) (i j : Nat) : (s.modApll k f).hget i j = s.hget i j := by unfold State.hget; rw [State.modApll_held]
@[simp] theorem State.modApll_marked (s : State) (k : Fin 4) (f : Apll → Apll) (i j : Nat) : (s.modApll k f).marked i j = s.marked i j := by unfold State.marked; rw [State.modApll_marks]

/-! ### State.modCue -/

@[simp] theorem State.modCue_regs (s : State) (c : Fin 16) (f : Cue → Cue) : (s.modCue c f).regs = s.regs := (fun x => (rfl : ({ s with out := x } : State).regs = s.regs)) _
@[simp] theorem State.modCue_held (s : State) (c : Fin 16) (f : Cue → Cue) : (s.modCue c f).held = s.held := (fun x => (rfl : ({ s with out := x } : State).held = s.held)) _
@[simp] theorem State.modCue_marks (s : State) (c : Fin 16) (f : Cue → Cue) : (s.modCue c f).marks = s.marks := (fun x => (rfl : ({ s with out := x } : State).marks = s.marks)) _
@[simp] theorem State.modCue_resp (s : State) (c : Fin 16) (f : Cue → Cue) : (s.modCue c f).resp = s.resp := (fun x => (rfl : ({ s with out := x } : State).resp = s.resp)) _
@[simp] theorem State.modCue_tick (s : State) (c : Fin 16) (f : Cue → Cue) : (s.modCue c f).tick = s.tick := (fun x => (rfl : ({ s with out := x } : State).tick = s.tick)) _
@[simp] theorem State.modCue_refreshAt (s : State) (c : Fin 16) (f : Cue → Cue) : (s.modCue c f).refreshAt = s.refreshAt := (fun x => (rfl : ({ s with out := x } : State).refreshAt = s.refreshAt)) _
@[simp] theorem State.modCue_pd1 (s : State) (c : Fin 16) (f : Cue → Cue) : (s.modCue c f).pd1 = s.pd1 := (fun x => (rfl : ({ s with out := x } : State).pd1 = s.pd1)) _
@[simp] theorem State.modCue_glb (s : State) (c : Fin 16) (f : Cue → Cue) : (s.modCue c f).glb = s.glb := (fun x => (rfl : ({ s with out := x } : State).glb = s.glb)) _
@[simp] theorem State.modCue_plt (s : State) (c : Fin 16) (f : Cue → Cue) : (s.modCue c f).plt = s.plt := (fun x => (rfl : ({ s with out := x } : State).plt = s.plt)) _
@[simp] theorem State.modCue_tbs (s : State) (c : Fin 16) (f : Cue → Cue) : (s.modCue c f).tbs = s.tbs := (fun x => (rfl : ({ s with out := x } : State).tbs = s.tbs)) _
@[simp] theorem State.modCue_bnd (s : State) (c : Fin 16) (f : Cue → Cue) : (s.modCue c f).bnd = s.bnd := (fun x => (rfl : ({ s with out := x } : State).bnd = s.bnd)) _
@[simp] theorem State.modCue_cals (s : State) (c : Fin 16) (f : Cue → Cue) : (s.modCue c f).cals = s.cals := (fun x => (rfl : ({ s with out := x } : State).cals = s.cals)) _
@[simp] theorem State.modCue_refs (s : State) (c : Fin 16) (f : Cue → Cue) : (s.modCue c f).refs = s.refs := (fun x => (rfl : ({ s with out := x } : State).refs = s.refs)) _
@[simp] theorem State.modCue_sels (s : State) (c : Fin 16) (f : Cue → Cue) : (s.modCue c f).sels = s.sels := (fun x => (rfl : ({ s with out := x } : State).sels = s.sels)) _
@[simp] theorem State.modCue_dplls (s : State) (c : Fin 16) (f : Cue → Cue) : (s.modCue c f).dplls = s.dplls := (fun x => (rfl : ({ s with out := x } : State).dplls = s.dplls)) _
@[simp] theorem State.modCue_uart (s : State) (c : Fin 16) (f : Cue → Cue) : (s.modCue c f).uart = s.uart := (fun x => (rfl : ({ s with out := x } : State).uart = s.uart)) _
@[simp] theorem State.modCue_tdc (s : State) (c : Fin 16) (f : Cue → Cue) : (s.modCue c f).tdc = s.tdc := (fun x => (rfl : ({ s with out := x } : State).tdc = s.tdc)) _
@[simp] theorem State.modCue_ports (s : State) (c : Fin 16) (f : Cue → Cue) : (s.modCue c f).ports = s.ports := (fun x => (rfl : ({ s with out := x } : State).ports = s.ports)) _
@[simp] theorem State.modCue_out (s : State) (c : Fin 16) (f : Cue → Cue) : (s.modCue c f).out = { s.out with cues := s.out.cues.set c (f s.out.cues[c]) } := rfl
@[simp] theorem State.modCue_flt (s : State) (c : Fin 16) (f : Cue → Cue) : (s.modCue c f).flt = s.flt := (fun x => (rfl : ({ s with out := x } : State).flt = s.flt)) _
@[simp] theorem State.modCue_svc (s : State) (c : Fin 16) (f : Cue → Cue) : (s.modCue c f).svc = s.svc := (fun x => (rfl : ({ s with out := x } : State).svc = s.svc)) _
@[simp] theorem State.modCue_gnss (s : State) (c : Fin 16) (f : Cue → Cue) : (s.modCue c f).gnss = s.gnss := (fun x => (rfl : ({ s with out := x } : State).gnss = s.gnss)) _
@[simp] theorem State.modCue_btb (s : State) (c : Fin 16) (f : Cue → Cue) : (s.modCue c f).btb = s.btb := (fun x => (rfl : ({ s with out := x } : State).btb = s.btb)) _
@[simp] theorem State.modCue_wng (s : State) (c : Fin 16) (f : Cue → Cue) : (s.modCue c f).wng = s.wng := (fun x => (rfl : ({ s with out := x } : State).wng = s.wng)) _
@[simp] theorem State.modCue_mem (s : State) (c : Fin 16) (f : Cue → Cue) : (s.modCue c f).mem = s.mem := (fun x => (rfl : ({ s with out := x } : State).mem = s.mem)) _
@[simp] theorem State.modCue_key (s : State) (c : Fin 16) (f : Cue → Cue) : (s.modCue c f).key = s.key := (fun x => (rfl : ({ s with out := x } : State).key = s.key)) _
@[simp] theorem State.modCue_otp (s : State) (c : Fin 16) (f : Cue → Cue) : (s.modCue c f).otp = s.otp := (fun x => (rfl : ({ s with out := x } : State).otp = s.otp)) _
@[simp] theorem State.modCue_pwr (s : State) (c : Fin 16) (f : Cue → Cue) : (s.modCue c f).pwr = s.pwr := (fun x => (rfl : ({ s with out := x } : State).pwr = s.pwr)) _
@[simp] theorem State.modCue_fv (s : State) (c : Fin 16) (f : Cue → Cue) : (s.modCue c f).fv = s.fv := (fun x => (rfl : ({ s with out := x } : State).fv = s.fv)) _
@[simp] theorem State.modCue_pending (s : State) (c : Fin 16) (f : Cue → Cue) : (s.modCue c f).pending = s.pending := (fun x => (rfl : ({ s with out := x } : State).pending = s.pending)) _
@[simp] theorem State.modCue_rd (s : State) (c : Fin 16) (f : Cue → Cue) (i : Nat) : (s.modCue c f).rd i = s.rd i := by unfold State.rd; rw [State.modCue_regs]
@[simp] theorem State.modCue_hget (s : State) (c : Fin 16) (f : Cue → Cue) (i j : Nat) : (s.modCue c f).hget i j = s.hget i j := by unfold State.hget; rw [State.modCue_held]
@[simp] theorem State.modCue_marked (s : State) (c : Fin 16) (f : Cue → Cue) (i j : Nat) : (s.modCue c f).marked i j = s.marked i j := by unfold State.marked; rw [State.modCue_marks]

/-! ### State.modFlt -/

@[simp] theorem State.modFlt_regs (s : State) (f : Flt → Flt) : (s.modFlt f).regs = s.regs := (fun x => (rfl : ({ s with flt := x } : State).regs = s.regs)) _
@[simp] theorem State.modFlt_held (s : State) (f : Flt → Flt) : (s.modFlt f).held = s.held := (fun x => (rfl : ({ s with flt := x } : State).held = s.held)) _
@[simp] theorem State.modFlt_marks (s : State) (f : Flt → Flt) : (s.modFlt f).marks = s.marks := (fun x => (rfl : ({ s with flt := x } : State).marks = s.marks)) _
@[simp] theorem State.modFlt_resp (s : State) (f : Flt → Flt) : (s.modFlt f).resp = s.resp := (fun x => (rfl : ({ s with flt := x } : State).resp = s.resp)) _
@[simp] theorem State.modFlt_tick (s : State) (f : Flt → Flt) : (s.modFlt f).tick = s.tick := (fun x => (rfl : ({ s with flt := x } : State).tick = s.tick)) _
@[simp] theorem State.modFlt_refreshAt (s : State) (f : Flt → Flt) : (s.modFlt f).refreshAt = s.refreshAt := (fun x => (rfl : ({ s with flt := x } : State).refreshAt = s.refreshAt)) _
@[simp] theorem State.modFlt_pd1 (s : State) (f : Flt → Flt) : (s.modFlt f).pd1 = s.pd1 := (fun x => (rfl : ({ s with flt := x } : State).pd1 = s.pd1)) _
@[simp] theorem State.modFlt_glb (s : State) (f : Flt → Flt) : (s.modFlt f).glb = s.glb := (fun x => (rfl : ({ s with flt := x } : State).glb = s.glb)) _
@[simp] theorem State.modFlt_plt (s : State) (f : Flt → Flt) : (s.modFlt f).plt = s.plt := (fun x => (rfl : ({ s with flt := x } : State).plt = s.plt)) _
@[simp] theorem State.modFlt_tbs (s : State) (f : Flt → Flt) : (s.modFlt f).tbs = s.tbs := (fun x => (rfl : ({ s with flt := x } : State).tbs = s.tbs)) _
@[simp] theorem State.modFlt_bnd (s : State) (f : Flt → Flt) : (s.modFlt f).bnd = s.bnd := (fun x => (rfl : ({ s with flt := x } : State).bnd = s.bnd)) _
@[simp] theorem State.modFlt_cals (s : State) (f : Flt → Flt) : (s.modFlt f).cals = s.cals := (fun x => (rfl : ({ s with flt := x } : State).cals = s.cals)) _
@[simp] theorem State.modFlt_refs (s : State) (f : Flt → Flt) : (s.modFlt f).refs = s.refs := (fun x => (rfl : ({ s with flt := x } : State).refs = s.refs)) _
@[simp] theorem State.modFlt_sels (s : State) (f : Flt → Flt) : (s.modFlt f).sels = s.sels := (fun x => (rfl : ({ s with flt := x } : State).sels = s.sels)) _
@[simp] theorem State.modFlt_dplls (s : State) (f : Flt → Flt) : (s.modFlt f).dplls = s.dplls := (fun x => (rfl : ({ s with flt := x } : State).dplls = s.dplls)) _
@[simp] theorem State.modFlt_uart (s : State) (f : Flt → Flt) : (s.modFlt f).uart = s.uart := (fun x => (rfl : ({ s with flt := x } : State).uart = s.uart)) _
@[simp] theorem State.modFlt_tdc (s : State) (f : Flt → Flt) : (s.modFlt f).tdc = s.tdc := (fun x => (rfl : ({ s with flt := x } : State).tdc = s.tdc)) _
@[simp] theorem State.modFlt_ports (s : State) (f : Flt → Flt) : (s.modFlt f).ports = s.ports := (fun x => (rfl : ({ s with flt := x } : State).ports = s.ports)) _
@[simp] theorem State.modFlt_out (s : State) (f : Flt → Flt) : (s.modFlt f).out = s.out := (fun x => (rfl : ({ s with flt := x } : State).out = s.out)) _
@[simp] theorem State.modFlt_flt (s : State) (f : Flt → Flt) : (s.modFlt f).flt = f s.flt := rfl
@[simp] theorem State.modFlt_svc (s : State) (f : Flt → Flt) : (s.modFlt f).svc = s.svc := (fun x => (rfl : ({ s with flt := x } : State).svc = s.svc)) _
@[simp] theorem State.modFlt_gnss (s : State) (f : Flt → Flt) : (s.modFlt f).gnss = s.gnss := (fun x => (rfl : ({ s with flt := x } : State).gnss = s.gnss)) _
@[simp] theorem State.modFlt_btb (s : State) (f : Flt → Flt) : (s.modFlt f).btb = s.btb := (fun x => (rfl : ({ s with flt := x } : State).btb = s.btb)) _
@[simp] theorem State.modFlt_wng (s : State) (f : Flt → Flt) : (s.modFlt f).wng = s.wng := (fun x => (rfl : ({ s with flt := x } : State).wng = s.wng)) _
@[simp] theorem State.modFlt_mem (s : State) (f : Flt → Flt) : (s.modFlt f).mem = s.mem := (fun x => (rfl : ({ s with flt := x } : State).mem = s.mem)) _
@[simp] theorem State.modFlt_key (s : State) (f : Flt → Flt) : (s.modFlt f).key = s.key := (fun x => (rfl : ({ s with flt := x } : State).key = s.key)) _
@[simp] theorem State.modFlt_otp (s : State) (f : Flt → Flt) : (s.modFlt f).otp = s.otp := (fun x => (rfl : ({ s with flt := x } : State).otp = s.otp)) _
@[simp] theorem State.modFlt_pwr (s : State) (f : Flt → Flt) : (s.modFlt f).pwr = s.pwr := (fun x => (rfl : ({ s with flt := x } : State).pwr = s.pwr)) _
@[simp] theorem State.modFlt_fv (s : State) (f : Flt → Flt) : (s.modFlt f).fv = s.fv := (fun x => (rfl : ({ s with flt := x } : State).fv = s.fv)) _
@[simp] theorem State.modFlt_pending (s : State) (f : Flt → Flt) : (s.modFlt f).pending = s.pending := (fun x => (rfl : ({ s with flt := x } : State).pending = s.pending)) _
@[simp] theorem State.modFlt_rd (s : State) (f : Flt → Flt) (i : Nat) : (s.modFlt f).rd i = s.rd i := by unfold State.rd; rw [State.modFlt_regs]
@[simp] theorem State.modFlt_hget (s : State) (f : Flt → Flt) (i j : Nat) : (s.modFlt f).hget i j = s.hget i j := by unfold State.hget; rw [State.modFlt_held]
@[simp] theorem State.modFlt_marked (s : State) (f : Flt → Flt) (i j : Nat) : (s.modFlt f).marked i j = s.marked i j := by unfold State.marked; rw [State.modFlt_marks]

/-! ### State.modSvc -/

@[simp] theorem State.modSvc_regs (s : State) (f : Svc → Svc) : (s.modSvc f).regs = s.regs := (fun x => (rfl : ({ s with svc := x } : State).regs = s.regs)) _
@[simp] theorem State.modSvc_held (s : State) (f : Svc → Svc) : (s.modSvc f).held = s.held := (fun x => (rfl : ({ s with svc := x } : State).held = s.held)) _
@[simp] theorem State.modSvc_marks (s : State) (f : Svc → Svc) : (s.modSvc f).marks = s.marks := (fun x => (rfl : ({ s with svc := x } : State).marks = s.marks)) _
@[simp] theorem State.modSvc_resp (s : State) (f : Svc → Svc) : (s.modSvc f).resp = s.resp := (fun x => (rfl : ({ s with svc := x } : State).resp = s.resp)) _
@[simp] theorem State.modSvc_tick (s : State) (f : Svc → Svc) : (s.modSvc f).tick = s.tick := (fun x => (rfl : ({ s with svc := x } : State).tick = s.tick)) _
@[simp] theorem State.modSvc_refreshAt (s : State) (f : Svc → Svc) : (s.modSvc f).refreshAt = s.refreshAt := (fun x => (rfl : ({ s with svc := x } : State).refreshAt = s.refreshAt)) _
@[simp] theorem State.modSvc_pd1 (s : State) (f : Svc → Svc) : (s.modSvc f).pd1 = s.pd1 := (fun x => (rfl : ({ s with svc := x } : State).pd1 = s.pd1)) _
@[simp] theorem State.modSvc_glb (s : State) (f : Svc → Svc) : (s.modSvc f).glb = s.glb := (fun x => (rfl : ({ s with svc := x } : State).glb = s.glb)) _
@[simp] theorem State.modSvc_plt (s : State) (f : Svc → Svc) : (s.modSvc f).plt = s.plt := (fun x => (rfl : ({ s with svc := x } : State).plt = s.plt)) _
@[simp] theorem State.modSvc_tbs (s : State) (f : Svc → Svc) : (s.modSvc f).tbs = s.tbs := (fun x => (rfl : ({ s with svc := x } : State).tbs = s.tbs)) _
@[simp] theorem State.modSvc_bnd (s : State) (f : Svc → Svc) : (s.modSvc f).bnd = s.bnd := (fun x => (rfl : ({ s with svc := x } : State).bnd = s.bnd)) _
@[simp] theorem State.modSvc_cals (s : State) (f : Svc → Svc) : (s.modSvc f).cals = s.cals := (fun x => (rfl : ({ s with svc := x } : State).cals = s.cals)) _
@[simp] theorem State.modSvc_refs (s : State) (f : Svc → Svc) : (s.modSvc f).refs = s.refs := (fun x => (rfl : ({ s with svc := x } : State).refs = s.refs)) _
@[simp] theorem State.modSvc_sels (s : State) (f : Svc → Svc) : (s.modSvc f).sels = s.sels := (fun x => (rfl : ({ s with svc := x } : State).sels = s.sels)) _
@[simp] theorem State.modSvc_dplls (s : State) (f : Svc → Svc) : (s.modSvc f).dplls = s.dplls := (fun x => (rfl : ({ s with svc := x } : State).dplls = s.dplls)) _
@[simp] theorem State.modSvc_uart (s : State) (f : Svc → Svc) : (s.modSvc f).uart = s.uart := (fun x => (rfl : ({ s with svc := x } : State).uart = s.uart)) _
@[simp] theorem State.modSvc_tdc (s : State) (f : Svc → Svc) : (s.modSvc f).tdc = s.tdc := (fun x => (rfl : ({ s with svc := x } : State).tdc = s.tdc)) _
@[simp] theorem State.modSvc_ports (s : State) (f : Svc → Svc) : (s.modSvc f).ports = s.ports := (fun x => (rfl : ({ s with svc := x } : State).ports = s.ports)) _
@[simp] theorem State.modSvc_out (s : State) (f : Svc → Svc) : (s.modSvc f).out = s.out := (fun x => (rfl : ({ s with svc := x } : State).out = s.out)) _
@[simp] theorem State.modSvc_flt (s : State) (f : Svc → Svc) : (s.modSvc f).flt = s.flt := (fun x => (rfl : ({ s with svc := x } : State).flt = s.flt)) _
@[simp] theorem State.modSvc_svc (s : State) (f : Svc → Svc) : (s.modSvc f).svc = f s.svc := rfl
@[simp] theorem State.modSvc_gnss (s : State) (f : Svc → Svc) : (s.modSvc f).gnss = s.gnss := (fun x => (rfl : ({ s with svc := x } : State).gnss = s.gnss)) _
@[simp] theorem State.modSvc_btb (s : State) (f : Svc → Svc) : (s.modSvc f).btb = s.btb := (fun x => (rfl : ({ s with svc := x } : State).btb = s.btb)) _
@[simp] theorem State.modSvc_wng (s : State) (f : Svc → Svc) : (s.modSvc f).wng = s.wng := (fun x => (rfl : ({ s with svc := x } : State).wng = s.wng)) _
@[simp] theorem State.modSvc_mem (s : State) (f : Svc → Svc) : (s.modSvc f).mem = s.mem := (fun x => (rfl : ({ s with svc := x } : State).mem = s.mem)) _
@[simp] theorem State.modSvc_key (s : State) (f : Svc → Svc) : (s.modSvc f).key = s.key := (fun x => (rfl : ({ s with svc := x } : State).key = s.key)) _
@[simp] theorem State.modSvc_otp (s : State) (f : Svc → Svc) : (s.modSvc f).otp = s.otp := (fun x => (rfl : ({ s with svc := x } : State).otp = s.otp)) _
@[simp] theorem State.modSvc_pwr (s : State) (f : Svc → Svc) : (s.modSvc f).pwr = s.pwr := (fun x => (rfl : ({ s with svc := x } : State).pwr = s.pwr)) _
@[simp] theorem State.modSvc_fv (s : State) (f : Svc → Svc) : (s.modSvc f).fv = s.fv := (fun x => (rfl : ({ s with svc := x } : State).fv = s.fv)) _
@[simp] theorem State.modSvc_pending (s : State) (f : Svc → Svc) : (s.modSvc f).pending = s.pending := (fun x => (rfl : ({ s with svc := x } : State).pending = s.pending)) _
@[simp] theorem State.modSvc_rd (s : State) (f : Svc → Svc) (i : Nat) : (s.modSvc f).rd i = s.rd i := by unfold State.rd; rw [State.modSvc_regs]
@[simp] theorem State.modSvc_hget (s : State) (f : Svc → Svc) (i j : Nat) : (s.modSvc f).hget i j = s.hget i j := by unfold State.hget; rw [State.modSvc_held]
@[simp] theorem State.modSvc_marked (s : State) (f : Svc → Svc) (i j : Nat) : (s.modSvc f).marked i j = s.marked i j := by unfold State.marked; rw [State.modSvc_marks]

/-! ### State.modChain -/

@[simp] theorem State.modChain_regs (s : State) (x : Fin 2) (f : Chain → Chain) : (s.modChain x f).regs = s.regs := (fun x => (rfl : ({ s with gnss := x } : State).regs = s.regs)) _
@[simp] theorem State.modChain_held (s : State) (x : Fin 2) (f : Chain → Chain) : (s.modChain x f).held = s.held := (fun x => (rfl : ({ s with gnss := x } : State).held = s.held)) _
@[simp] theorem State.modChain_marks (s : State) (x : Fin 2) (f : Chain → Chain) : (s.modChain x f).marks = s.marks := (fun x => (rfl : ({ s with gnss := x } : State).marks = s.marks)) _
@[simp] theorem State.modChain_resp (s : State) (x : Fin 2) (f : Chain → Chain) : (s.modChain x f).resp = s.resp := (fun x => (rfl : ({ s with gnss := x } : State).resp = s.resp)) _
@[simp] theorem State.modChain_tick (s : State) (x : Fin 2) (f : Chain → Chain) : (s.modChain x f).tick = s.tick := (fun x => (rfl : ({ s with gnss := x } : State).tick = s.tick)) _
@[simp] theorem State.modChain_refreshAt (s : State) (x : Fin 2) (f : Chain → Chain) : (s.modChain x f).refreshAt = s.refreshAt := (fun x => (rfl : ({ s with gnss := x } : State).refreshAt = s.refreshAt)) _
@[simp] theorem State.modChain_pd1 (s : State) (x : Fin 2) (f : Chain → Chain) : (s.modChain x f).pd1 = s.pd1 := (fun x => (rfl : ({ s with gnss := x } : State).pd1 = s.pd1)) _
@[simp] theorem State.modChain_glb (s : State) (x : Fin 2) (f : Chain → Chain) : (s.modChain x f).glb = s.glb := (fun x => (rfl : ({ s with gnss := x } : State).glb = s.glb)) _
@[simp] theorem State.modChain_plt (s : State) (x : Fin 2) (f : Chain → Chain) : (s.modChain x f).plt = s.plt := (fun x => (rfl : ({ s with gnss := x } : State).plt = s.plt)) _
@[simp] theorem State.modChain_tbs (s : State) (x : Fin 2) (f : Chain → Chain) : (s.modChain x f).tbs = s.tbs := (fun x => (rfl : ({ s with gnss := x } : State).tbs = s.tbs)) _
@[simp] theorem State.modChain_bnd (s : State) (x : Fin 2) (f : Chain → Chain) : (s.modChain x f).bnd = s.bnd := (fun x => (rfl : ({ s with gnss := x } : State).bnd = s.bnd)) _
@[simp] theorem State.modChain_cals (s : State) (x : Fin 2) (f : Chain → Chain) : (s.modChain x f).cals = s.cals := (fun x => (rfl : ({ s with gnss := x } : State).cals = s.cals)) _
@[simp] theorem State.modChain_refs (s : State) (x : Fin 2) (f : Chain → Chain) : (s.modChain x f).refs = s.refs := (fun x => (rfl : ({ s with gnss := x } : State).refs = s.refs)) _
@[simp] theorem State.modChain_sels (s : State) (x : Fin 2) (f : Chain → Chain) : (s.modChain x f).sels = s.sels := (fun x => (rfl : ({ s with gnss := x } : State).sels = s.sels)) _
@[simp] theorem State.modChain_dplls (s : State) (x : Fin 2) (f : Chain → Chain) : (s.modChain x f).dplls = s.dplls := (fun x => (rfl : ({ s with gnss := x } : State).dplls = s.dplls)) _
@[simp] theorem State.modChain_uart (s : State) (x : Fin 2) (f : Chain → Chain) : (s.modChain x f).uart = s.uart := (fun x => (rfl : ({ s with gnss := x } : State).uart = s.uart)) _
@[simp] theorem State.modChain_tdc (s : State) (x : Fin 2) (f : Chain → Chain) : (s.modChain x f).tdc = s.tdc := (fun x => (rfl : ({ s with gnss := x } : State).tdc = s.tdc)) _
@[simp] theorem State.modChain_ports (s : State) (x : Fin 2) (f : Chain → Chain) : (s.modChain x f).ports = s.ports := (fun x => (rfl : ({ s with gnss := x } : State).ports = s.ports)) _
@[simp] theorem State.modChain_out (s : State) (x : Fin 2) (f : Chain → Chain) : (s.modChain x f).out = s.out := (fun x => (rfl : ({ s with gnss := x } : State).out = s.out)) _
@[simp] theorem State.modChain_flt (s : State) (x : Fin 2) (f : Chain → Chain) : (s.modChain x f).flt = s.flt := (fun x => (rfl : ({ s with gnss := x } : State).flt = s.flt)) _
@[simp] theorem State.modChain_svc (s : State) (x : Fin 2) (f : Chain → Chain) : (s.modChain x f).svc = s.svc := (fun x => (rfl : ({ s with gnss := x } : State).svc = s.svc)) _
@[simp] theorem State.modChain_gnss (s : State) (x : Fin 2) (f : Chain → Chain) : (s.modChain x f).gnss = { s.gnss with chains := s.gnss.chains.set x (f s.gnss.chains[x]) } := rfl
@[simp] theorem State.modChain_btb (s : State) (x : Fin 2) (f : Chain → Chain) : (s.modChain x f).btb = s.btb := (fun x => (rfl : ({ s with gnss := x } : State).btb = s.btb)) _
@[simp] theorem State.modChain_wng (s : State) (x : Fin 2) (f : Chain → Chain) : (s.modChain x f).wng = s.wng := (fun x => (rfl : ({ s with gnss := x } : State).wng = s.wng)) _
@[simp] theorem State.modChain_mem (s : State) (x : Fin 2) (f : Chain → Chain) : (s.modChain x f).mem = s.mem := (fun x => (rfl : ({ s with gnss := x } : State).mem = s.mem)) _
@[simp] theorem State.modChain_key (s : State) (x : Fin 2) (f : Chain → Chain) : (s.modChain x f).key = s.key := (fun x => (rfl : ({ s with gnss := x } : State).key = s.key)) _
@[simp] theorem State.modChain_otp (s : State) (x : Fin 2) (f : Chain → Chain) : (s.modChain x f).otp = s.otp := (fun x => (rfl : ({ s with gnss := x } : State).otp = s.otp)) _
@[simp] theorem State.modChain_pwr (s : State) (x : Fin 2) (f : Chain → Chain) : (s.modChain x f).pwr = s.pwr := (fun x => (rfl : ({ s with gnss := x } : State).pwr = s.pwr)) _
@[simp] theorem State.modChain_fv (s : State) (x : Fin 2) (f : Chain → Chain) : (s.modChain x f).fv = s.fv := (fun x => (rfl : ({ s with gnss := x } : State).fv = s.fv)) _
@[simp] theorem State.modChain_pending (s : State) (x : Fin 2) (f : Chain → Chain) : (s.modChain x f).pending = s.pending := (fun x => (rfl : ({ s with gnss := x } : State).pending = s.pending)) _
@[simp] theorem State.modChain_rd (s : State) (x : Fin 2) (f : Chain → Chain) (i : Nat) : (s.modChain x f).rd i = s.rd i := by unfold State.rd; rw [State.modChain_regs]
@[simp] theorem State.modChain_hget (s : State) (x : Fin 2) (f : Chain → Chain) (i j : Nat) : (s.modChain x f).hget i j = s.hget i j := by unfold State.hget; rw [State.modChain_held]
@[simp] theorem State.modChain_marked (s : State) (x : Fin 2) (f : Chain → Chain) (i j : Nat) : (s.modChain x f).marked i j = s.marked i j := by unfold State.marked; rw [State.modChain_marks]

/-! ### State.modBtb -/

@[simp] theorem State.modBtb_regs (s : State) (b : Fin 4) (f : Btb → Btb) : (s.modBtb b f).regs = s.regs := (fun x => (rfl : ({ s with btb := x } : State).regs = s.regs)) _
@[simp] theorem State.modBtb_held (s : State) (b : Fin 4) (f : Btb → Btb) : (s.modBtb b f).held = s.held := (fun x => (rfl : ({ s with btb := x } : State).held = s.held)) _
@[simp] theorem State.modBtb_marks (s : State) (b : Fin 4) (f : Btb → Btb) : (s.modBtb b f).marks = s.marks := (fun x => (rfl : ({ s with btb := x } : State).marks = s.marks)) _
@[simp] theorem State.modBtb_resp (s : State) (b : Fin 4) (f : Btb → Btb) : (s.modBtb b f).resp = s.resp := (fun x => (rfl : ({ s with btb := x } : State).resp = s.resp)) _
@[simp] theorem State.modBtb_tick (s : State) (b : Fin 4) (f : Btb → Btb) : (s.modBtb b f).tick = s.tick := (fun x => (rfl : ({ s with btb := x } : State).tick = s.tick)) _
@[simp] theorem State.modBtb_refreshAt (s : State) (b : Fin 4) (f : Btb → Btb) : (s.modBtb b f).refreshAt = s.refreshAt := (fun x => (rfl : ({ s with btb := x } : State).refreshAt = s.refreshAt)) _
@[simp] theorem State.modBtb_pd1 (s : State) (b : Fin 4) (f : Btb → Btb) : (s.modBtb b f).pd1 = s.pd1 := (fun x => (rfl : ({ s with btb := x } : State).pd1 = s.pd1)) _
@[simp] theorem State.modBtb_glb (s : State) (b : Fin 4) (f : Btb → Btb) : (s.modBtb b f).glb = s.glb := (fun x => (rfl : ({ s with btb := x } : State).glb = s.glb)) _
@[simp] theorem State.modBtb_plt (s : State) (b : Fin 4) (f : Btb → Btb) : (s.modBtb b f).plt = s.plt := (fun x => (rfl : ({ s with btb := x } : State).plt = s.plt)) _
@[simp] theorem State.modBtb_tbs (s : State) (b : Fin 4) (f : Btb → Btb) : (s.modBtb b f).tbs = s.tbs := (fun x => (rfl : ({ s with btb := x } : State).tbs = s.tbs)) _
@[simp] theorem State.modBtb_bnd (s : State) (b : Fin 4) (f : Btb → Btb) : (s.modBtb b f).bnd = s.bnd := (fun x => (rfl : ({ s with btb := x } : State).bnd = s.bnd)) _
@[simp] theorem State.modBtb_cals (s : State) (b : Fin 4) (f : Btb → Btb) : (s.modBtb b f).cals = s.cals := (fun x => (rfl : ({ s with btb := x } : State).cals = s.cals)) _
@[simp] theorem State.modBtb_refs (s : State) (b : Fin 4) (f : Btb → Btb) : (s.modBtb b f).refs = s.refs := (fun x => (rfl : ({ s with btb := x } : State).refs = s.refs)) _
@[simp] theorem State.modBtb_sels (s : State) (b : Fin 4) (f : Btb → Btb) : (s.modBtb b f).sels = s.sels := (fun x => (rfl : ({ s with btb := x } : State).sels = s.sels)) _
@[simp] theorem State.modBtb_dplls (s : State) (b : Fin 4) (f : Btb → Btb) : (s.modBtb b f).dplls = s.dplls := (fun x => (rfl : ({ s with btb := x } : State).dplls = s.dplls)) _
@[simp] theorem State.modBtb_uart (s : State) (b : Fin 4) (f : Btb → Btb) : (s.modBtb b f).uart = s.uart := (fun x => (rfl : ({ s with btb := x } : State).uart = s.uart)) _
@[simp] theorem State.modBtb_tdc (s : State) (b : Fin 4) (f : Btb → Btb) : (s.modBtb b f).tdc = s.tdc := (fun x => (rfl : ({ s with btb := x } : State).tdc = s.tdc)) _
@[simp] theorem State.modBtb_ports (s : State) (b : Fin 4) (f : Btb → Btb) : (s.modBtb b f).ports = s.ports := (fun x => (rfl : ({ s with btb := x } : State).ports = s.ports)) _
@[simp] theorem State.modBtb_out (s : State) (b : Fin 4) (f : Btb → Btb) : (s.modBtb b f).out = s.out := (fun x => (rfl : ({ s with btb := x } : State).out = s.out)) _
@[simp] theorem State.modBtb_flt (s : State) (b : Fin 4) (f : Btb → Btb) : (s.modBtb b f).flt = s.flt := (fun x => (rfl : ({ s with btb := x } : State).flt = s.flt)) _
@[simp] theorem State.modBtb_svc (s : State) (b : Fin 4) (f : Btb → Btb) : (s.modBtb b f).svc = s.svc := (fun x => (rfl : ({ s with btb := x } : State).svc = s.svc)) _
@[simp] theorem State.modBtb_gnss (s : State) (b : Fin 4) (f : Btb → Btb) : (s.modBtb b f).gnss = s.gnss := (fun x => (rfl : ({ s with btb := x } : State).gnss = s.gnss)) _
@[simp] theorem State.modBtb_btb (s : State) (b : Fin 4) (f : Btb → Btb) : (s.modBtb b f).btb = { s.btb with bus := s.btb.bus.set b (f s.btb.bus[b]) } := rfl
@[simp] theorem State.modBtb_wng (s : State) (b : Fin 4) (f : Btb → Btb) : (s.modBtb b f).wng = s.wng := (fun x => (rfl : ({ s with btb := x } : State).wng = s.wng)) _
@[simp] theorem State.modBtb_mem (s : State) (b : Fin 4) (f : Btb → Btb) : (s.modBtb b f).mem = s.mem := (fun x => (rfl : ({ s with btb := x } : State).mem = s.mem)) _
@[simp] theorem State.modBtb_key (s : State) (b : Fin 4) (f : Btb → Btb) : (s.modBtb b f).key = s.key := (fun x => (rfl : ({ s with btb := x } : State).key = s.key)) _
@[simp] theorem State.modBtb_otp (s : State) (b : Fin 4) (f : Btb → Btb) : (s.modBtb b f).otp = s.otp := (fun x => (rfl : ({ s with btb := x } : State).otp = s.otp)) _
@[simp] theorem State.modBtb_pwr (s : State) (b : Fin 4) (f : Btb → Btb) : (s.modBtb b f).pwr = s.pwr := (fun x => (rfl : ({ s with btb := x } : State).pwr = s.pwr)) _
@[simp] theorem State.modBtb_fv (s : State) (b : Fin 4) (f : Btb → Btb) : (s.modBtb b f).fv = s.fv := (fun x => (rfl : ({ s with btb := x } : State).fv = s.fv)) _
@[simp] theorem State.modBtb_pending (s : State) (b : Fin 4) (f : Btb → Btb) : (s.modBtb b f).pending = s.pending := (fun x => (rfl : ({ s with btb := x } : State).pending = s.pending)) _
@[simp] theorem State.modBtb_rd (s : State) (b : Fin 4) (f : Btb → Btb) (i : Nat) : (s.modBtb b f).rd i = s.rd i := by unfold State.rd; rw [State.modBtb_regs]
@[simp] theorem State.modBtb_hget (s : State) (b : Fin 4) (f : Btb → Btb) (i j : Nat) : (s.modBtb b f).hget i j = s.hget i j := by unfold State.hget; rw [State.modBtb_held]
@[simp] theorem State.modBtb_marked (s : State) (b : Fin 4) (f : Btb → Btb) (i j : Nat) : (s.modBtb b f).marked i j = s.marked i j := by unfold State.marked; rw [State.modBtb_marks]

/-! ### State.modMem -/

@[simp] theorem State.modMem_regs (s : State) (f : Mem → Mem) : (s.modMem f).regs = s.regs := (fun x => (rfl : ({ s with mem := x } : State).regs = s.regs)) _
@[simp] theorem State.modMem_held (s : State) (f : Mem → Mem) : (s.modMem f).held = s.held := (fun x => (rfl : ({ s with mem := x } : State).held = s.held)) _
@[simp] theorem State.modMem_marks (s : State) (f : Mem → Mem) : (s.modMem f).marks = s.marks := (fun x => (rfl : ({ s with mem := x } : State).marks = s.marks)) _
@[simp] theorem State.modMem_resp (s : State) (f : Mem → Mem) : (s.modMem f).resp = s.resp := (fun x => (rfl : ({ s with mem := x } : State).resp = s.resp)) _
@[simp] theorem State.modMem_tick (s : State) (f : Mem → Mem) : (s.modMem f).tick = s.tick := (fun x => (rfl : ({ s with mem := x } : State).tick = s.tick)) _
@[simp] theorem State.modMem_refreshAt (s : State) (f : Mem → Mem) : (s.modMem f).refreshAt = s.refreshAt := (fun x => (rfl : ({ s with mem := x } : State).refreshAt = s.refreshAt)) _
@[simp] theorem State.modMem_pd1 (s : State) (f : Mem → Mem) : (s.modMem f).pd1 = s.pd1 := (fun x => (rfl : ({ s with mem := x } : State).pd1 = s.pd1)) _
@[simp] theorem State.modMem_glb (s : State) (f : Mem → Mem) : (s.modMem f).glb = s.glb := (fun x => (rfl : ({ s with mem := x } : State).glb = s.glb)) _
@[simp] theorem State.modMem_plt (s : State) (f : Mem → Mem) : (s.modMem f).plt = s.plt := (fun x => (rfl : ({ s with mem := x } : State).plt = s.plt)) _
@[simp] theorem State.modMem_tbs (s : State) (f : Mem → Mem) : (s.modMem f).tbs = s.tbs := (fun x => (rfl : ({ s with mem := x } : State).tbs = s.tbs)) _
@[simp] theorem State.modMem_bnd (s : State) (f : Mem → Mem) : (s.modMem f).bnd = s.bnd := (fun x => (rfl : ({ s with mem := x } : State).bnd = s.bnd)) _
@[simp] theorem State.modMem_cals (s : State) (f : Mem → Mem) : (s.modMem f).cals = s.cals := (fun x => (rfl : ({ s with mem := x } : State).cals = s.cals)) _
@[simp] theorem State.modMem_refs (s : State) (f : Mem → Mem) : (s.modMem f).refs = s.refs := (fun x => (rfl : ({ s with mem := x } : State).refs = s.refs)) _
@[simp] theorem State.modMem_sels (s : State) (f : Mem → Mem) : (s.modMem f).sels = s.sels := (fun x => (rfl : ({ s with mem := x } : State).sels = s.sels)) _
@[simp] theorem State.modMem_dplls (s : State) (f : Mem → Mem) : (s.modMem f).dplls = s.dplls := (fun x => (rfl : ({ s with mem := x } : State).dplls = s.dplls)) _
@[simp] theorem State.modMem_uart (s : State) (f : Mem → Mem) : (s.modMem f).uart = s.uart := (fun x => (rfl : ({ s with mem := x } : State).uart = s.uart)) _
@[simp] theorem State.modMem_tdc (s : State) (f : Mem → Mem) : (s.modMem f).tdc = s.tdc := (fun x => (rfl : ({ s with mem := x } : State).tdc = s.tdc)) _
@[simp] theorem State.modMem_ports (s : State) (f : Mem → Mem) : (s.modMem f).ports = s.ports := (fun x => (rfl : ({ s with mem := x } : State).ports = s.ports)) _
@[simp] theorem State.modMem_out (s : State) (f : Mem → Mem) : (s.modMem f).out = s.out := (fun x => (rfl : ({ s with mem := x } : State).out = s.out)) _
@[simp] theorem State.modMem_flt (s : State) (f : Mem → Mem) : (s.modMem f).flt = s.flt := (fun x => (rfl : ({ s with mem := x } : State).flt = s.flt)) _
@[simp] theorem State.modMem_svc (s : State) (f : Mem → Mem) : (s.modMem f).svc = s.svc := (fun x => (rfl : ({ s with mem := x } : State).svc = s.svc)) _
@[simp] theorem State.modMem_gnss (s : State) (f : Mem → Mem) : (s.modMem f).gnss = s.gnss := (fun x => (rfl : ({ s with mem := x } : State).gnss = s.gnss)) _
@[simp] theorem State.modMem_btb (s : State) (f : Mem → Mem) : (s.modMem f).btb = s.btb := (fun x => (rfl : ({ s with mem := x } : State).btb = s.btb)) _
@[simp] theorem State.modMem_wng (s : State) (f : Mem → Mem) : (s.modMem f).wng = s.wng := (fun x => (rfl : ({ s with mem := x } : State).wng = s.wng)) _
@[simp] theorem State.modMem_mem (s : State) (f : Mem → Mem) : (s.modMem f).mem = f s.mem := rfl
@[simp] theorem State.modMem_key (s : State) (f : Mem → Mem) : (s.modMem f).key = s.key := (fun x => (rfl : ({ s with mem := x } : State).key = s.key)) _
@[simp] theorem State.modMem_otp (s : State) (f : Mem → Mem) : (s.modMem f).otp = s.otp := (fun x => (rfl : ({ s with mem := x } : State).otp = s.otp)) _
@[simp] theorem State.modMem_pwr (s : State) (f : Mem → Mem) : (s.modMem f).pwr = s.pwr := (fun x => (rfl : ({ s with mem := x } : State).pwr = s.pwr)) _
@[simp] theorem State.modMem_fv (s : State) (f : Mem → Mem) : (s.modMem f).fv = s.fv := (fun x => (rfl : ({ s with mem := x } : State).fv = s.fv)) _
@[simp] theorem State.modMem_pending (s : State) (f : Mem → Mem) : (s.modMem f).pending = s.pending := (fun x => (rfl : ({ s with mem := x } : State).pending = s.pending)) _
@[simp] theorem State.modMem_rd (s : State) (f : Mem → Mem) (i : Nat) : (s.modMem f).rd i = s.rd i := by unfold State.rd; rw [State.modMem_regs]
@[simp] theorem State.modMem_hget (s : State) (f : Mem → Mem) (i j : Nat) : (s.modMem f).hget i j = s.hget i j := by unfold State.hget; rw [State.modMem_held]
@[simp] theorem State.modMem_marked (s : State) (f : Mem → Mem) (i j : Nat) : (s.modMem f).marked i j = s.marked i j := by unfold State.marked; rw [State.modMem_marks]

/-! ### State.modKey -/

@[simp] theorem State.modKey_regs (s : State) (f : Key → Key) : (s.modKey f).regs = s.regs := (fun x => (rfl : ({ s with key := x } : State).regs = s.regs)) _
@[simp] theorem State.modKey_held (s : State) (f : Key → Key) : (s.modKey f).held = s.held := (fun x => (rfl : ({ s with key := x } : State).held = s.held)) _
@[simp] theorem State.modKey_marks (s : State) (f : Key → Key) : (s.modKey f).marks = s.marks := (fun x => (rfl : ({ s with key := x } : State).marks = s.marks)) _
@[simp] theorem State.modKey_resp (s : State) (f : Key → Key) : (s.modKey f).resp = s.resp := (fun x => (rfl : ({ s with key := x } : State).resp = s.resp)) _
@[simp] theorem State.modKey_tick (s : State) (f : Key → Key) : (s.modKey f).tick = s.tick := (fun x => (rfl : ({ s with key := x } : State).tick = s.tick)) _
@[simp] theorem State.modKey_refreshAt (s : State) (f : Key → Key) : (s.modKey f).refreshAt = s.refreshAt := (fun x => (rfl : ({ s with key := x } : State).refreshAt = s.refreshAt)) _
@[simp] theorem State.modKey_pd1 (s : State) (f : Key → Key) : (s.modKey f).pd1 = s.pd1 := (fun x => (rfl : ({ s with key := x } : State).pd1 = s.pd1)) _
@[simp] theorem State.modKey_glb (s : State) (f : Key → Key) : (s.modKey f).glb = s.glb := (fun x => (rfl : ({ s with key := x } : State).glb = s.glb)) _
@[simp] theorem State.modKey_plt (s : State) (f : Key → Key) : (s.modKey f).plt = s.plt := (fun x => (rfl : ({ s with key := x } : State).plt = s.plt)) _
@[simp] theorem State.modKey_tbs (s : State) (f : Key → Key) : (s.modKey f).tbs = s.tbs := (fun x => (rfl : ({ s with key := x } : State).tbs = s.tbs)) _
@[simp] theorem State.modKey_bnd (s : State) (f : Key → Key) : (s.modKey f).bnd = s.bnd := (fun x => (rfl : ({ s with key := x } : State).bnd = s.bnd)) _
@[simp] theorem State.modKey_cals (s : State) (f : Key → Key) : (s.modKey f).cals = s.cals := (fun x => (rfl : ({ s with key := x } : State).cals = s.cals)) _
@[simp] theorem State.modKey_refs (s : State) (f : Key → Key) : (s.modKey f).refs = s.refs := (fun x => (rfl : ({ s with key := x } : State).refs = s.refs)) _
@[simp] theorem State.modKey_sels (s : State) (f : Key → Key) : (s.modKey f).sels = s.sels := (fun x => (rfl : ({ s with key := x } : State).sels = s.sels)) _
@[simp] theorem State.modKey_dplls (s : State) (f : Key → Key) : (s.modKey f).dplls = s.dplls := (fun x => (rfl : ({ s with key := x } : State).dplls = s.dplls)) _
@[simp] theorem State.modKey_uart (s : State) (f : Key → Key) : (s.modKey f).uart = s.uart := (fun x => (rfl : ({ s with key := x } : State).uart = s.uart)) _
@[simp] theorem State.modKey_tdc (s : State) (f : Key → Key) : (s.modKey f).tdc = s.tdc := (fun x => (rfl : ({ s with key := x } : State).tdc = s.tdc)) _
@[simp] theorem State.modKey_ports (s : State) (f : Key → Key) : (s.modKey f).ports = s.ports := (fun x => (rfl : ({ s with key := x } : State).ports = s.ports)) _
@[simp] theorem State.modKey_out (s : State) (f : Key → Key) : (s.modKey f).out = s.out := (fun x => (rfl : ({ s with key := x } : State).out = s.out)) _
@[simp] theorem State.modKey_flt (s : State) (f : Key → Key) : (s.modKey f).flt = s.flt := (fun x => (rfl : ({ s with key := x } : State).flt = s.flt)) _
@[simp] theorem State.modKey_svc (s : State) (f : Key → Key) : (s.modKey f).svc = s.svc := (fun x => (rfl : ({ s with key := x } : State).svc = s.svc)) _
@[simp] theorem State.modKey_gnss (s : State) (f : Key → Key) : (s.modKey f).gnss = s.gnss := (fun x => (rfl : ({ s with key := x } : State).gnss = s.gnss)) _
@[simp] theorem State.modKey_btb (s : State) (f : Key → Key) : (s.modKey f).btb = s.btb := (fun x => (rfl : ({ s with key := x } : State).btb = s.btb)) _
@[simp] theorem State.modKey_wng (s : State) (f : Key → Key) : (s.modKey f).wng = s.wng := (fun x => (rfl : ({ s with key := x } : State).wng = s.wng)) _
@[simp] theorem State.modKey_mem (s : State) (f : Key → Key) : (s.modKey f).mem = s.mem := (fun x => (rfl : ({ s with key := x } : State).mem = s.mem)) _
@[simp] theorem State.modKey_key (s : State) (f : Key → Key) : (s.modKey f).key = f s.key := rfl
@[simp] theorem State.modKey_otp (s : State) (f : Key → Key) : (s.modKey f).otp = s.otp := (fun x => (rfl : ({ s with key := x } : State).otp = s.otp)) _
@[simp] theorem State.modKey_pwr (s : State) (f : Key → Key) : (s.modKey f).pwr = s.pwr := (fun x => (rfl : ({ s with key := x } : State).pwr = s.pwr)) _
@[simp] theorem State.modKey_fv (s : State) (f : Key → Key) : (s.modKey f).fv = s.fv := (fun x => (rfl : ({ s with key := x } : State).fv = s.fv)) _
@[simp] theorem State.modKey_pending (s : State) (f : Key → Key) : (s.modKey f).pending = s.pending := (fun x => (rfl : ({ s with key := x } : State).pending = s.pending)) _
@[simp] theorem State.modKey_rd (s : State) (f : Key → Key) (i : Nat) : (s.modKey f).rd i = s.rd i := by unfold State.rd; rw [State.modKey_regs]
@[simp] theorem State.modKey_hget (s : State) (f : Key → Key) (i j : Nat) : (s.modKey f).hget i j = s.hget i j := by unfold State.hget; rw [State.modKey_held]
@[simp] theorem State.modKey_marked (s : State) (f : Key → Key) (i j : Nat) : (s.modKey f).marked i j = s.marked i j := by unfold State.marked; rw [State.modKey_marks]

/-! ### State.modPwr -/

@[simp] theorem State.modPwr_regs (s : State) (f : Pwr → Pwr) : (s.modPwr f).regs = s.regs := (fun x => (rfl : ({ s with pwr := x } : State).regs = s.regs)) _
@[simp] theorem State.modPwr_held (s : State) (f : Pwr → Pwr) : (s.modPwr f).held = s.held := (fun x => (rfl : ({ s with pwr := x } : State).held = s.held)) _
@[simp] theorem State.modPwr_marks (s : State) (f : Pwr → Pwr) : (s.modPwr f).marks = s.marks := (fun x => (rfl : ({ s with pwr := x } : State).marks = s.marks)) _
@[simp] theorem State.modPwr_resp (s : State) (f : Pwr → Pwr) : (s.modPwr f).resp = s.resp := (fun x => (rfl : ({ s with pwr := x } : State).resp = s.resp)) _
@[simp] theorem State.modPwr_tick (s : State) (f : Pwr → Pwr) : (s.modPwr f).tick = s.tick := (fun x => (rfl : ({ s with pwr := x } : State).tick = s.tick)) _
@[simp] theorem State.modPwr_refreshAt (s : State) (f : Pwr → Pwr) : (s.modPwr f).refreshAt = s.refreshAt := (fun x => (rfl : ({ s with pwr := x } : State).refreshAt = s.refreshAt)) _
@[simp] theorem State.modPwr_pd1 (s : State) (f : Pwr → Pwr) : (s.modPwr f).pd1 = s.pd1 := (fun x => (rfl : ({ s with pwr := x } : State).pd1 = s.pd1)) _
@[simp] theorem State.modPwr_glb (s : State) (f : Pwr → Pwr) : (s.modPwr f).glb = s.glb := (fun x => (rfl : ({ s with pwr := x } : State).glb = s.glb)) _
@[simp] theorem State.modPwr_plt (s : State) (f : Pwr → Pwr) : (s.modPwr f).plt = s.plt := (fun x => (rfl : ({ s with pwr := x } : State).plt = s.plt)) _
@[simp] theorem State.modPwr_tbs (s : State) (f : Pwr → Pwr) : (s.modPwr f).tbs = s.tbs := (fun x => (rfl : ({ s with pwr := x } : State).tbs = s.tbs)) _
@[simp] theorem State.modPwr_bnd (s : State) (f : Pwr → Pwr) : (s.modPwr f).bnd = s.bnd := (fun x => (rfl : ({ s with pwr := x } : State).bnd = s.bnd)) _
@[simp] theorem State.modPwr_cals (s : State) (f : Pwr → Pwr) : (s.modPwr f).cals = s.cals := (fun x => (rfl : ({ s with pwr := x } : State).cals = s.cals)) _
@[simp] theorem State.modPwr_refs (s : State) (f : Pwr → Pwr) : (s.modPwr f).refs = s.refs := (fun x => (rfl : ({ s with pwr := x } : State).refs = s.refs)) _
@[simp] theorem State.modPwr_sels (s : State) (f : Pwr → Pwr) : (s.modPwr f).sels = s.sels := (fun x => (rfl : ({ s with pwr := x } : State).sels = s.sels)) _
@[simp] theorem State.modPwr_dplls (s : State) (f : Pwr → Pwr) : (s.modPwr f).dplls = s.dplls := (fun x => (rfl : ({ s with pwr := x } : State).dplls = s.dplls)) _
@[simp] theorem State.modPwr_uart (s : State) (f : Pwr → Pwr) : (s.modPwr f).uart = s.uart := (fun x => (rfl : ({ s with pwr := x } : State).uart = s.uart)) _
@[simp] theorem State.modPwr_tdc (s : State) (f : Pwr → Pwr) : (s.modPwr f).tdc = s.tdc := (fun x => (rfl : ({ s with pwr := x } : State).tdc = s.tdc)) _
@[simp] theorem State.modPwr_ports (s : State) (f : Pwr → Pwr) : (s.modPwr f).ports = s.ports := (fun x => (rfl : ({ s with pwr := x } : State).ports = s.ports)) _
@[simp] theorem State.modPwr_out (s : State) (f : Pwr → Pwr) : (s.modPwr f).out = s.out := (fun x => (rfl : ({ s with pwr := x } : State).out = s.out)) _
@[simp] theorem State.modPwr_flt (s : State) (f : Pwr → Pwr) : (s.modPwr f).flt = s.flt := (fun x => (rfl : ({ s with pwr := x } : State).flt = s.flt)) _
@[simp] theorem State.modPwr_svc (s : State) (f : Pwr → Pwr) : (s.modPwr f).svc = s.svc := (fun x => (rfl : ({ s with pwr := x } : State).svc = s.svc)) _
@[simp] theorem State.modPwr_gnss (s : State) (f : Pwr → Pwr) : (s.modPwr f).gnss = s.gnss := (fun x => (rfl : ({ s with pwr := x } : State).gnss = s.gnss)) _
@[simp] theorem State.modPwr_btb (s : State) (f : Pwr → Pwr) : (s.modPwr f).btb = s.btb := (fun x => (rfl : ({ s with pwr := x } : State).btb = s.btb)) _
@[simp] theorem State.modPwr_wng (s : State) (f : Pwr → Pwr) : (s.modPwr f).wng = s.wng := (fun x => (rfl : ({ s with pwr := x } : State).wng = s.wng)) _
@[simp] theorem State.modPwr_mem (s : State) (f : Pwr → Pwr) : (s.modPwr f).mem = s.mem := (fun x => (rfl : ({ s with pwr := x } : State).mem = s.mem)) _
@[simp] theorem State.modPwr_key (s : State) (f : Pwr → Pwr) : (s.modPwr f).key = s.key := (fun x => (rfl : ({ s with pwr := x } : State).key = s.key)) _
@[simp] theorem State.modPwr_otp (s : State) (f : Pwr → Pwr) : (s.modPwr f).otp = s.otp := (fun x => (rfl : ({ s with pwr := x } : State).otp = s.otp)) _
@[simp] theorem State.modPwr_pwr (s : State) (f : Pwr → Pwr) : (s.modPwr f).pwr = f s.pwr := rfl
@[simp] theorem State.modPwr_fv (s : State) (f : Pwr → Pwr) : (s.modPwr f).fv = s.fv := (fun x => (rfl : ({ s with pwr := x } : State).fv = s.fv)) _
@[simp] theorem State.modPwr_pending (s : State) (f : Pwr → Pwr) : (s.modPwr f).pending = s.pending := (fun x => (rfl : ({ s with pwr := x } : State).pending = s.pending)) _
@[simp] theorem State.modPwr_rd (s : State) (f : Pwr → Pwr) (i : Nat) : (s.modPwr f).rd i = s.rd i := by unfold State.rd; rw [State.modPwr_regs]
@[simp] theorem State.modPwr_hget (s : State) (f : Pwr → Pwr) (i j : Nat) : (s.modPwr f).hget i j = s.hget i j := by unfold State.hget; rw [State.modPwr_held]
@[simp] theorem State.modPwr_marked (s : State) (f : Pwr → Pwr) (i j : Nat) : (s.modPwr f).marked i j = s.marked i j := by unfold State.marked; rw [State.modPwr_marks]

end Sys2Proof.Machine
end

