-- ==== Sys2Proof/Laws/Ops.lean ====
section
/-! SUPPORT. Sys2Proof/Laws/Ops.lean: for each shared operation over the registers, once, what it can do. -/
namespace Sys2Proof.Machine

/-! ### Bit fields -/

theorem fmask_toNat (lo wd : Nat) (h : lo + wd ≤ 32) : (fmask lo wd).toNat = (2 ^ wd - 1) <<< lo := by
  unfold fmask
  rw [BitVec.toNat_ofNat]
  apply Nat.mod_eq_of_lt
  rw [Nat.shiftLeft_eq]
  have h1 : 2 ^ wd - 1 < 2 ^ wd := Nat.sub_lt (Nat.two_pow_pos wd) Nat.one_pos
  calc (2 ^ wd - 1) * 2 ^ lo < 2 ^ wd * 2 ^ lo := Nat.mul_lt_mul_of_pos_right h1 (Nat.two_pow_pos lo)
    _ = 2 ^ (lo + wd) := by rw [Nat.add_comm, Nat.pow_add]
    _ ≤ 2 ^ 32 := Nat.pow_le_pow_right (by decide) h

theorem fget_testBit (w : Word) (lo wd i : Nat) : (fget w lo wd).testBit i = (decide (i < wd) && w.getLsbD (lo + i)) := by
  unfold fget
  rw [Nat.testBit_mod_two_pow, Nat.testBit_shiftRight]
  rfl

theorem fset_getLsbD (w : Word) (lo wd n i : Nat) (h : lo + wd ≤ 32) :
    (fset w lo wd n).getLsbD i = if lo ≤ i ∧ i < lo + wd then n.testBit (i - lo) else w.getLsbD i := by
  unfold fset
  have hm : (fmask lo wd).getLsbD i = decide (lo ≤ i ∧ i < lo + wd) := by
    rw [BitVec.getLsbD, fmask_toNat lo wd h, Nat.testBit_shiftLeft, Nat.testBit_two_pow_sub_one]
    by_cases h1 : lo ≤ i
    · simp only [ge_iff_le, h1, decide_true, Bool.true_and, true_and]
      congr 1
      simp only [eq_iff_iff]
      omega
    · simp [h1]
  by_cases h32 : i < 32
  · simp only [BitVec.getLsbD_or, BitVec.getLsbD_and, BitVec.getLsbD_not, hm, h32, decide_true, Bool.true_and, BitVec.getLsbD_ofNat,
      Nat.testBit_shiftLeft, Nat.testBit_mod_two_pow]
    by_cases h1 : lo ≤ i ∧ i < lo + wd
    · have h2 : i - lo < wd := by omega
      simp [h1.1, h1.2, h2]
    · rw [if_neg h1]
      have h2 : ¬(lo ≤ i ∧ i - lo < wd) := by omega
      simp only [h1, decide_false, Bool.not_false, Bool.and_true, ge_iff_le]
      by_cases h3 : lo ≤ i
      · have : ¬ i - lo < wd := fun h4 => h2 ⟨h3, h4⟩
        simp [this]
      · simp [h3]
  · have h1 : ¬(lo ≤ i ∧ i < lo + wd) := by omega
    have hb : ∀ x : Word, x.getLsbD i = false := fun x => BitVec.getLsbD_of_ge x i (by omega)
    rw [if_neg h1, hb, hb]

/-- A field that has been set reads the value set. -/
@[simp] theorem fget_fset_self (w : Word) (lo wd n : Nat) (h : lo + wd ≤ 32) : fget (fset w lo wd n) lo wd = n % 2 ^ wd := by
  apply Nat.eq_of_testBit_eq
  intro i
  rw [fget_testBit, fset_getLsbD _ _ _ _ _ h, Nat.testBit_mod_two_pow]
  by_cases hi : i < wd
  · have h1 : lo ≤ lo + i ∧ lo + i < lo + wd := by omega
    simp [hi]
  · simp [hi]

/-- Setting a field leaves every field beside it. -/
theorem fget_fset_other (w : Word) (lo wd n lo' wd' : Nat) (h : lo + wd ≤ 32) (hd : lo' + wd' ≤ lo ∨ lo + wd ≤ lo') :
    fget (fset w lo wd n) lo' wd' = fget w lo' wd' := by
  apply Nat.eq_of_testBit_eq
  intro i
  rw [fget_testBit, fget_testBit, fset_getLsbD _ _ _ _ _ h]
  by_cases hi : i < wd'
  · have : ¬(lo ≤ lo' + i ∧ lo' + i < lo + wd) := by omega
    rw [if_neg this]
  · simp [hi]

theorem fget_lt (w : Word) (lo wd : Nat) : fget w lo wd < 2 ^ wd := Nat.mod_lt _ (Nat.two_pow_pos wd)

/-! ### Registers -/

/-- A written register reads the value written. -/
@[simp] theorem State.rd_wr_self (s : State) (o : Nat) (v : Word) : (s.wr o v).rd o = v := Sparse.get_set_self _ _ _ _

/-- A write leaves every other register. -/
theorem State.rd_wr_other (s : State) (o : Nat) (v : Word) {i : Nat} (h : i ≠ o) : (s.wr o v).rd i = s.rd i :=
  Sparse.get_set_other _ _ _ h

theorem State.rd_wr (s : State) (o : Nat) (v : Word) (i : Nat) : (s.wr o v).rd i = if i = o then v else s.rd i := by
  split
  · next h => rw [h, State.rd_wr_self]
  · next h => exact s.rd_wr_other o v h

theorem State.rd_of_regs {s t : State} (h : t.regs = s.regs) (i : Nat) : t.rd i = s.rd i := by unfold State.rd; rw [h]

theorem State.rd_setFld (s : State) (o lo wd n i : Nat) :
    (s.setFld o lo wd n).rd i = if i = o then fset (s.rd o) lo wd n else s.rd i := s.rd_wr o _ i

@[simp] theorem State.fld_setFld_self (s : State) (o lo wd n : Nat) (h : lo + wd ≤ 32) : (s.setFld o lo wd n).fld o lo wd = n % 2 ^ wd := by
  unfold State.fld State.setFld
  rw [State.rd_wr_self, fget_fset_self _ _ _ _ h]

theorem State.fld_setFld_reg (s : State) (o lo wd n : Nat) {i lo' wd' : Nat} (h : i ≠ o) :
    (s.setFld o lo wd n).fld i lo' wd' = s.fld i lo' wd' := by
  unfold State.fld
  rw [State.rd_setFld, if_neg h]

theorem State.fld_setFld_field (s : State) (o lo wd n : Nat) {lo' wd' : Nat} (h : lo + wd ≤ 32) (hd : lo' + wd' ≤ lo ∨ lo + wd ≤ lo') :
    (s.setFld o lo wd n).fld o lo' wd' = s.fld o lo' wd' := by
  unfold State.fld
  rw [State.rd_setFld, if_pos rfl, fget_fset_other _ _ _ _ _ _ h hd]

@[simp] theorem State.bit_setBit_self (s : State) (o i : Nat) (b : Bool) (h : i < 32) : (s.setBit o i b).bit o i = b := by
  unfold State.bit State.setBit
  rw [State.fld_setFld_self _ _ _ _ _ (by omega)]
  cases b <;> simp [b2n]

theorem State.bit_setBit_reg (s : State) (o i : Nat) (b : Bool) {o' i' : Nat} (h : o' ≠ o) : (s.setBit o i b).bit o' i' = s.bit o' i' := by
  unfold State.bit State.setBit
  rw [State.fld_setFld_reg _ _ _ _ _ h]

theorem State.bit_setBit_field (s : State) (o i : Nat) (b : Bool) {i' : Nat} (hi : i < 32) (h : i' ≠ i) :
    (s.setBit o i b).bit o i' = s.bit o i' := by
  unfold State.bit State.setBit
  rw [State.fld_setFld_field _ _ _ _ _ (by omega) (by omega)]

theorem State.fld_setBit_field (s : State) (o i : Nat) (b : Bool) {lo wd : Nat} (hi : i < 32) (h : lo + wd ≤ i ∨ i < lo) :
    (s.setBit o i b).fld o lo wd = s.fld o lo wd :=
  s.fld_setFld_field o i 1 (b2n b) (by omega) (by omega)

/-! ### Registers held per master -/

theorem mkey_inj {m o m' o' : Nat} (h : o < 2 ^ 24) (h' : o' < 2 ^ 24) (e : mkey m o = mkey m' o') : m = m' ∧ o = o' := by
  unfold mkey at e
  omega

@[simp] theorem State.hget_hset_self (s : State) (m o : Nat) (v : Word) : (s.hset m o v).hget m o = v := Sparse.get_set_self _ _ _ _

theorem State.hget_hset_other (s : State) (m o : Nat) (v : Word) {m' o' : Nat} (h : mkey m' o' ≠ mkey m o) :
    (s.hset m o v).hget m' o' = s.hget m' o' := Sparse.get_set_other _ _ _ h

@[simp] theorem State.marked_mark_self (s : State) (m o : Nat) (b : Bool) : (s.mark m o b).marked m o = b := Sparse.get_set_self _ _ _ _

theorem State.marked_mark_other (s : State) (m o : Nat) (b : Bool) {m' o' : Nat} (h : mkey m' o' ≠ mkey m o) :
    (s.mark m o b).marked m' o' = s.marked m' o' := Sparse.get_set_other _ _ _ h

/-! ### Interrupts and sticky events -/

/-- A vector that fires changes the vectors' own record and nothing else. -/
theorem State.fire_eq (s : State) (b : Nat) : ∃ q, s.fire b = { s with glb := { s.glb with irq := q } } := by
  unfold State.fire
  exact ⟨_, rfl⟩

@[simp] theorem State.fire_regs (s : State) (b : Nat) : (s.fire b).regs = s.regs := by
  obtain ⟨q, h⟩ := s.fire_eq b; rw [h]

theorem State.irqRise_eq (s a : State) (b : Nat) : ∃ q, s.irqRise a b = { s with glb := { s.glb with irq := q } } := by
  unfold State.irqRise
  split
  · exact s.fire_eq b
  · exact ⟨s.glb.irq, rfl⟩

@[simp] theorem State.irqRise_regs (s a : State) (b : Nat) : (s.irqRise a b).regs = s.regs := by
  obtain ⟨q, h⟩ := s.irqRise_eq a b; rw [h]

@[simp] theorem State.irqRise_rd (s a : State) (b i : Nat) : (s.irqRise a b).rd i = s.rd i := State.rd_of_regs (s.irqRise_regs a b) i

/-- Raising flags sets them in the event register with SEQ one higher (R451), may fire the block's vector (R459), and does nothing else. -/
theorem State.raise_eq (s : State) (e mask : Nat) :
    ∃ r q, s.raise e mask = { s with regs := r, glb := { s.glb with irq := q } } ∧
      ∀ i, Sparse.get regReset r i = if i = e ∧ mask ≠ 0 then rsqSet (s.rd e) mask else s.rd i := by
  unfold State.raise
  by_cases hm : mask = 0
  · rw [if_pos hm]
    refine ⟨s.regs, s.glb.irq, rfl, fun i => ?_⟩
    simp [hm, State.rd]
  · rw [if_neg hm]
    obtain ⟨q, hq⟩ := (s.wr e (rsqSet (s.rd e) mask)).irqRise_eq s (e / 0x10000)
    refine ⟨_, q, hq, fun i => ?_⟩
    have := s.rd_wr e (rsqSet (s.rd e) mask) i
    simp only [hm, ne_eq, not_false_eq_true, and_true]
    exact this

theorem State.rd_raise (s : State) (e mask i : Nat) :
    (s.raise e mask).rd i = if i = e ∧ mask ≠ 0 then rsqSet (s.rd e) mask else s.rd i := by
  obtain ⟨r, q, h, hr⟩ := s.raise_eq e mask
  rw [h]; exact hr i

theorem State.rd_raise_other (s : State) (e mask : Nat) {i : Nat} (h : i ≠ e) : (s.raise e mask).rd i = s.rd i := by
  rw [State.rd_raise, if_neg (fun x => h x.1)]

/-- Counting at a register changes that register and the performance-counter reader, nothing else. -/
theorem State.tally_eq (s : State) (o n : Nat) : ∃ c, s.tally o n = { s with glb := { s.glb with pmc := c } } := by
  unfold State.tally
  split
  · exact ⟨_, rfl⟩
  · exact ⟨s.glb.pmc, rfl⟩

@[simp] theorem State.tally_rd (s : State) (o n i : Nat) : (s.tally o n).rd i = s.rd i := by
  obtain ⟨c, h⟩ := s.tally_eq o n; rw [h]; rfl

theorem State.rd_bump (s : State) (o n i : Nat) : (s.bump o n).rd i = if i = o then s.rd o + BitVec.ofNat 32 n else s.rd i := by
  unfold State.bump
  rw [State.tally_rd, State.rd_wr]

theorem State.rd_bumpSat (s : State) (o n i : Nat) :
    (s.bumpSat o n).rd i = if i = o then BitVec.ofNat 32 (min ((s.rd o).toNat + n) 0xFFFFFFFF) else s.rd i := by
  unfold State.bumpSat
  rw [State.tally_rd, State.rd_wr]

/-! ### What registers and vectors do not reach -/

@[simp] theorem State.wr_beside (s : State) (o : Nat) (v : Word) : (s.wr o v).beside = s.beside :=
  (fun x => (rfl : ({ s with regs := x } : State).beside = s.beside)) _

@[simp] theorem State.setFld_beside (s : State) (o lo wd n : Nat) : (s.setFld o lo wd n).beside = s.beside := s.wr_beside o _

@[simp] theorem State.setBit_beside (s : State) (o i : Nat) (b : Bool) : (s.setBit o i b).beside = s.beside := s.wr_beside o _

@[simp] theorem State.fire_beside (s : State) (b : Nat) : (s.fire b).beside = s.beside := by
  obtain ⟨q, h⟩ := s.fire_eq b; rw [h]; rfl

@[simp] theorem State.irqRise_beside (s a : State) (b : Nat) : (s.irqRise a b).beside = s.beside := by
  obtain ⟨q, h⟩ := s.irqRise_eq a b; rw [h]; rfl

@[simp] theorem State.raise_beside (s : State) (e mask : Nat) : (s.raise e mask).beside = s.beside := by
  obtain ⟨r, q, h, _⟩ := s.raise_eq e mask; rw [h]; rfl

@[simp] theorem State.rsqWrite_beside (s : State) (e : Nat) (v : Word) : (s.rsqWrite e v).beside = s.beside := by
  unfold State.rsqWrite
  simp only
  split <;> split <;> simp

theorem State.rd_rsqWrite (s : State) (e : Nat) (v : Word) (i : Nat) :
    (s.rsqWrite e v).rd i = if i = e ∧ fget v 24 8 = fget (s.rd e) 24 8 then fset (s.rd e) 0 24 0 else s.rd i := by
  have hf : ∀ (x : State) b, (x.fire b).rd i = x.rd i := fun x b => State.rd_of_regs (x.fire_regs b) i
  have h : ∀ x : State, (if x.irqOn (e / 0x10000) then x.fire (e / 0x10000) else x).rd i = x.rd i := by
    intro x; split
    · exact hf _ _
    · rfl
  unfold State.rsqWrite
  simp only [h]
  unfold State.fld
  by_cases hq : fget v 24 8 = fget (s.rd e) 24 8
  · rw [if_pos hq, State.rd_wr]; simp [hq]
  · rw [if_neg hq]; simp [hq]

/-! ### Rejected accesses -/

@[simp] theorem State.recordErr_rd (s : State) (m : Nat) (e : Err) (x w : Bool) (a i : Nat) : (s.recordErr m e x w a).rd i = s.rd i := rfl

/-- The record of the failing master, by R458; every other master's stays. -/
theorem State.err_recordErr (s : State) (m : Nat) (e : Err) (x w : Bool) (a j : Nat) :
    (s.recordErr m e x w a).err j = if j = m then ⟨e.code, x, w, (s.err m).count + 1, BitVec.ofNat 32 a⟩ else s.err j := by
  unfold State.recordErr State.err
  split
  · next h => rw [h]; exact Sparse.get_set_self _ _ _ _
  · next h => exact Sparse.get_set_other _ _ _ h

/-- A unit's LAST_ERR is one register at most. -/
theorem State.setLastErr_eq (s : State) (o : Nat) (e : Err) :
    ∃ r, s.setLastErr o e = { s with regs := r } ∧
      ∀ i, Sparse.get regReset r i = match lastErrAt o with
        | some (p, lo) => if i = p then fset (s.rd p) lo 8 e.code else s.rd i
        | none => s.rd i := by
  unfold State.setLastErr
  cases lastErrAt o with
  | some x => exact ⟨_, rfl, fun i => s.rd_setFld x.1 x.2 8 e.code i⟩
  | none => exact ⟨s.regs, rfl, fun _ => rfl⟩

/-- A rejected write leaves every field but the registers and the error records (R450). -/
theorem State.reject_beside (s : State) (m : Master) (o : Nat) (e : Err) :
    { s.reject m o e with regs := s.regs, glb := s.glb } = s := by
  unfold State.reject
  split
  · rfl
  · obtain ⟨r, h, _⟩ := (s.recordErr m.idx e false true o).setLastErr_eq o e
    rw [h]
    rfl

/-! ### The checks of a write -/

/-- A write that passes the common checks has its effect. -/
theorem State.guardW_ok {s : State} {m : Master} {o : Nat} {v : Word} {k : State → State} (h : s.checkWrite m o v = none) :
    s.guardW m o v k = k s := by unfold State.guardW; rw [h]

/-- A write that fails one is rejected with its code. -/
theorem State.guardW_bad {s : State} {m : Master} {o : Nat} {v : Word} {k : State → State} {e : Err} (h : s.checkWrite m o v = some e) :
    s.guardW m o v k = s.reject m o e := by unfold State.guardW; rw [h]

/-- A completed pair that its command accepts leaves its value in the register (R455). -/
theorem State.guardD_ok {s : State} {m : Master} {o : Nat} {v : Word} {k : State → State} (h : s.checkWrite m o v = none)
    (hk : ((k s).err m.idx).count = (s.err m.idx).count) : s.guardD m o v k = (k s).wr o v := by
  unfold State.guardD
  rw [State.guardW_ok h, if_pos hk]

end Sys2Proof.Machine
end

