-- ==== Sys2Proof/Laws/Fields.lean ====
section
/-! SUPPORT. Sys2Proof/Laws/Fields.lean: the fields of State that the operations over registers, events and error records leave. -/
namespace Sys2Proof.Machine

theorem State.rsqWrite_eq (s : State) (e : Nat) (v : Word) : ∃ r q, s.rsqWrite e v = { s with regs := r, glb := { s.glb with irq := q } } := by
  have h : ∀ x : State, ∃ q, (if x.irqOn (e / 0x10000) then x.fire (e / 0x10000) else x) = { x with glb := { x.glb with irq := q } } := by
    intro x; split
    · exact x.fire_eq _
    · exact ⟨x.glb.irq, rfl⟩
  unfold State.rsqWrite
  simp only
  split
  · obtain ⟨q, hq⟩ := h (s.wr e (fset (s.rd e) 0 24 0)); exact ⟨_, q, hq⟩
  · obtain ⟨q, hq⟩ := h s; exact ⟨_, q, hq⟩

theorem State.tally_regs (s : State) (x : Sparse Word) (o n : Nat) :
    ∃ c, ({ s with regs := x } : State).tally o n = { s with regs := x, glb := { s.glb with pmc := c } } :=
  ({ s with regs := x } : State).tally_eq o n

theorem State.bump_eq (s : State) (o n : Nat) : ∃ r c, s.bump o n = { s with regs := r, glb := { s.glb with pmc := c } } := by
  unfold State.bump State.wr
  generalize Sparse.set regReset s.regs o _ = x
  obtain ⟨c, h⟩ := s.tally_regs x o n
  exact ⟨x, c, h⟩

theorem State.bumpSat_eq (s : State) (o n : Nat) : ∃ r c, s.bumpSat o n = { s with regs := r, glb := { s.glb with pmc := c } } := by
  unfold State.bumpSat State.wr
  generalize Sparse.set regReset s.regs o _ = x
  obtain ⟨c, h⟩ := s.tally_regs x o n
  exact ⟨x, c, h⟩

theorem State.reject_eq (s : State) (m : Master) (o : Nat) (e : Err) : ∃ r g, s.reject m o e = { s with regs := r, glb := g } := by
  unfold State.reject
  split
  · exact ⟨_, _, rfl⟩
  · obtain ⟨r, h, _⟩ := (s.recordErr m.idx e false true o).setLastErr_eq o e
    rw [h]
    exact ⟨_, _, rfl⟩

theorem State.wrAll_eq (s : State) (o : Nat) (l : List Word) : ∃ r, s.wrAll o l = { s with regs := r } := by
  induction l generalizing s o with
  | nil => exact ⟨_, rfl⟩
  | cons v t ih =>
    unfold State.wrAll State.wr
    generalize Sparse.set _ s.regs _ _ = x
    obtain ⟨r, h⟩ := ih { s with regs := x } (o + 4)
    exact ⟨r, h⟩

theorem State.rd_wrAll_other (s : State) (o : Nat) (l : List Word) {i : Nat} (h : i < o ∨ o + 4 * l.length ≤ i) : (s.wrAll o l).rd i = s.rd i := by
  induction l generalizing s o with
  | nil => rfl
  | cons v t ih =>
    simp only [List.length_cons] at h
    exact (ih (s.wr o v) (o + 4) (by omega)).trans (s.rd_wr_other o v (by omega))

theorem State.rd_wrAll_at (s : State) (o : Nat) (l : List Word) {k : Nat} (h : k < l.length) : (s.wrAll o l).rd (o + 4 * k) = l[k] := by
  induction l generalizing s o k with
  | nil => cases h
  | cons v t ih =>
    cases k with
    | zero => exact ((s.wr o v).rd_wrAll_other (o + 4) t (by omega)).trans (s.rd_wr_self o v)
    | succ k =>
      have := ih (s.wr o v) (o + 4) (k := k) (by simpa using h)
      rw [show o + 4 * (k + 1) = o + 4 + 4 * k by omega]
      exact this

theorem State.hsetAll_eq (s : State) (m o : Nat) (l : List Word) : ∃ r, s.hsetAll m o l = { s with held := r } := by
  induction l generalizing s o with
  | nil => exact ⟨_, rfl⟩
  | cons v t ih =>
    unfold State.hsetAll State.hset
    generalize Sparse.set _ s.held _ _ = x
    obtain ⟨r, h⟩ := ih { s with held := x } (o + 4)
    exact ⟨r, h⟩

/-! ### State.setFld -/

@[simp] theorem State.setFld_held (s : State) (o l w n : Nat) : (s.setFld o l w n).held = s.held := s.wr_held o _
@[simp] theorem State.setFld_marks (s : State) (o l w n : Nat) : (s.setFld o l w n).marks = s.marks := s.wr_marks o _
@[simp] theorem State.setFld_resp (s : State) (o l w n : Nat) : (s.setFld o l w n).resp = s.resp := s.wr_resp o _
@[simp] theorem State.setFld_tick (s : State) (o l w n : Nat) : (s.setFld o l w n).tick = s.tick := s.wr_tick o _
@[simp] theorem State.setFld_refreshAt (s : State) (o l w n : Nat) : (s.setFld o l w n).refreshAt = s.refreshAt := s.wr_refreshAt o _
@[simp] theorem State.setFld_pd1 (s : State) (o l w n : Nat) : (s.setFld o l w n).pd1 = s.pd1 := s.wr_pd1 o _
@[simp] theorem State.setFld_plt (s : State) (o l w n : Nat) : (s.setFld o l w n).plt = s.plt := s.wr_plt o _
@[simp] theorem State.setFld_tbs (s : State) (o l w n : Nat) : (s.setFld o l w n).tbs = s.tbs := s.wr_tbs o _
@[simp] theorem State.setFld_bnd (s : State) (o l w n : Nat) : (s.setFld o l w n).bnd = s.bnd := s.wr_bnd o _
@[simp] theorem State.setFld_cals (s : State) (o l w n : Nat) : (s.setFld o l w n).cals = s.cals := s.wr_cals o _
@[simp] theorem State.setFld_refs (s : State) (o l w n : Nat) : (s.setFld o l w n).refs = s.refs := s.wr_refs o _
@[simp] theorem State.setFld_sels (s : State) (o l w n : Nat) : (s.setFld o l w n).sels = s.sels := s.wr_sels o _
@[simp] theorem State.setFld_dplls (s : State) (o l w n : Nat) : (s.setFld o l w n).dplls = s.dplls := s.wr_dplls o _
@[simp] theorem State.setFld_uart (s : State) (o l w n : Nat) : (s.setFld o l w n).uart = s.uart := s.wr_uart o _
@[simp] theorem State.setFld_tdc (s : State) (o l w n : Nat) : (s.setFld o l w n).tdc = s.tdc := s.wr_tdc o _
@[simp] theorem State.setFld_ports (s : State) (o l w n : Nat) : (s.setFld o l w n).ports = s.ports := s.wr_ports o _
@[simp] theorem State.setFld_out (s : State) (o l w n : Nat) : (s.setFld o l w n).out = s.out := s.wr_out o _
@[simp] theorem State.setFld_flt (s : State) (o l w n : Nat) : (s.setFld o l w n).flt = s.flt := s.wr_flt o _
@[simp] theorem State.setFld_svc (s : State) (o l w n : Nat) : (s.setFld o l w n).svc = s.svc := s.wr_svc o _
@[simp] theorem State.setFld_gnss (s : State) (o l w n : Nat) : (s.setFld o l w n).gnss = s.gnss := s.wr_gnss o _
@[simp] theorem State.setFld_btb (s : State) (o l w n : Nat) : (s.setFld o l w n).btb = s.btb := s.wr_btb o _
@[simp] theorem State.setFld_wng (s : State) (o l w n : Nat) : (s.setFld o l w n).wng = s.wng := s.wr_wng o _
@[simp] theorem State.setFld_mem (s : State) (o l w n : Nat) : (s.setFld o l w n).mem = s.mem := s.wr_mem o _
@[simp] theorem State.setFld_key (s : State) (o l w n : Nat) : (s.setFld o l w n).key = s.key := s.wr_key o _
@[simp] theorem State.setFld_otp (s : State) (o l w n : Nat) : (s.setFld o l w n).otp = s.otp := s.wr_otp o _
@[simp] theorem State.setFld_pwr (s : State) (o l w n : Nat) : (s.setFld o l w n).pwr = s.pwr := s.wr_pwr o _
@[simp] theorem State.setFld_fv (s : State) (o l w n : Nat) : (s.setFld o l w n).fv = s.fv := s.wr_fv o _
@[simp] theorem State.setFld_pending (s : State) (o l w n : Nat) : (s.setFld o l w n).pending = s.pending := s.wr_pending o _
@[simp] theorem State.setFld_glb (s : State) (o l w n : Nat) : (s.setFld o l w n).glb = s.glb := s.wr_glb o _

/-! ### State.setBit -/

@[simp] theorem State.setBit_held (s : State) (o i : Nat) (b : Bool) : (s.setBit o i b).held = s.held := s.wr_held o _
@[simp] theorem State.setBit_marks (s : State) (o i : Nat) (b : Bool) : (s.setBit o i b).marks = s.marks := s.wr_marks o _
@[simp] theorem State.setBit_resp (s : State) (o i : Nat) (b : Bool) : (s.setBit o i b).resp = s.resp := s.wr_resp o _
@[simp] theorem State.setBit_tick (s : State) (o i : Nat) (b : Bool) : (s.setBit o i b).tick = s.tick := s.wr_tick o _
@[simp] theorem State.setBit_refreshAt (s : State) (o i : Nat) (b : Bool) : (s.setBit o i b).refreshAt = s.refreshAt := s.wr_refreshAt o _
@[simp] theorem State.setBit_pd1 (s : State) (o i : Nat) (b : Bool) : (s.setBit o i b).pd1 = s.pd1 := s.wr_pd1 o _
@[simp] theorem State.setBit_plt (s : State) (o i : Nat) (b : Bool) : (s.setBit o i b).plt = s.plt := s.wr_plt o _
@[simp] theorem State.setBit_tbs (s : State) (o i : Nat) (b : Bool) : (s.setBit o i b).tbs = s.tbs := s.wr_tbs o _
@[simp] theorem State.setBit_bnd (s : State) (o i : Nat) (b : Bool) : (s.setBit o i b).bnd = s.bnd := s.wr_bnd o _
@[simp] theorem State.setBit_cals (s : State) (o i : Nat) (b : Bool) : (s.setBit o i b).cals = s.cals := s.wr_cals o _
@[simp] theorem State.setBit_refs (s : State) (o i : Nat) (b : Bool) : (s.setBit o i b).refs = s.refs := s.wr_refs o _
@[simp] theorem State.setBit_sels (s : State) (o i : Nat) (b : Bool) : (s.setBit o i b).sels = s.sels := s.wr_sels o _
@[simp] theorem State.setBit_dplls (s : State) (o i : Nat) (b : Bool) : (s.setBit o i b).dplls = s.dplls := s.wr_dplls o _
@[simp] theorem State.setBit_uart (s : State) (o i : Nat) (b : Bool) : (s.setBit o i b).uart = s.uart := s.wr_uart o _
@[simp] theorem State.setBit_tdc (s : State) (o i : Nat) (b : Bool) : (s.setBit o i b).tdc = s.tdc := s.wr_tdc o _
@[simp] theorem State.setBit_ports (s : State) (o i : Nat) (b : Bool) : (s.setBit o i b).ports = s.ports := s.wr_ports o _
@[simp] theorem State.setBit_out (s : State) (o i : Nat) (b : Bool) : (s.setBit o i b).out = s.out := s.wr_out o _
@[simp] theorem State.setBit_flt (s : State) (o i : Nat) (b : Bool) : (s.setBit o i b).flt = s.flt := s.wr_flt o _
@[simp] theorem State.setBit_svc (s : State) (o i : Nat) (b : Bool) : (s.setBit o i b).svc = s.svc := s.wr_svc o _
@[simp] theorem State.setBit_gnss (s : State) (o i : Nat) (b : Bool) : (s.setBit o i b).gnss = s.gnss := s.wr_gnss o _
@[simp] theorem State.setBit_btb (s : State) (o i : Nat) (b : Bool) : (s.setBit o i b).btb = s.btb := s.wr_btb o _
@[simp] theorem State.setBit_wng (s : State) (o i : Nat) (b : Bool) : (s.setBit o i b).wng = s.wng := s.wr_wng o _
@[simp] theorem State.setBit_mem (s : State) (o i : Nat) (b : Bool) : (s.setBit o i b).mem = s.mem := s.wr_mem o _
@[simp] theorem State.setBit_key (s : State) (o i : Nat) (b : Bool) : (s.setBit o i b).key = s.key := s.wr_key o _
@[simp] theorem State.setBit_otp (s : State) (o i : Nat) (b : Bool) : (s.setBit o i b).otp = s.otp := s.wr_otp o _
@[simp] theorem State.setBit_pwr (s : State) (o i : Nat) (b : Bool) : (s.setBit o i b).pwr = s.pwr := s.wr_pwr o _
@[simp] theorem State.setBit_fv (s : State) (o i : Nat) (b : Bool) : (s.setBit o i b).fv = s.fv := s.wr_fv o _
@[simp] theorem State.setBit_pending (s : State) (o i : Nat) (b : Bool) : (s.setBit o i b).pending = s.pending := s.wr_pending o _
@[simp] theorem State.setBit_glb (s : State) (o i : Nat) (b : Bool) : (s.setBit o i b).glb = s.glb := s.wr_glb o _

/-! ### State.raise -/

@[simp] theorem State.raise_held (s : State) (e m : Nat) : (s.raise e m).held = s.held := by obtain ⟨_, _, h, _⟩ := s.raise_eq e m; rw [h]
@[simp] theorem State.raise_marks (s : State) (e m : Nat) : (s.raise e m).marks = s.marks := by obtain ⟨_, _, h, _⟩ := s.raise_eq e m; rw [h]
@[simp] theorem State.raise_resp (s : State) (e m : Nat) : (s.raise e m).resp = s.resp := by obtain ⟨_, _, h, _⟩ := s.raise_eq e m; rw [h]
@[simp] theorem State.raise_tick (s : State) (e m : Nat) : (s.raise e m).tick = s.tick := by obtain ⟨_, _, h, _⟩ := s.raise_eq e m; rw [h]
@[simp] theorem State.raise_refreshAt (s : State) (e m : Nat) : (s.raise e m).refreshAt = s.refreshAt := by obtain ⟨_, _, h, _⟩ := s.raise_eq e m; rw [h]
@[simp] theorem State.raise_pd1 (s : State) (e m : Nat) : (s.raise e m).pd1 = s.pd1 := by obtain ⟨_, _, h, _⟩ := s.raise_eq e m; rw [h]
@[simp] theorem State.raise_plt (s : State) (e m : Nat) : (s.raise e m).plt = s.plt := by obtain ⟨_, _, h, _⟩ := s.raise_eq e m; rw [h]
@[simp] theorem State.raise_tbs (s : State) (e m : Nat) : (s.raise e m).tbs = s.tbs := by obtain ⟨_, _, h, _⟩ := s.raise_eq e m; rw [h]
@[simp] theorem State.raise_bnd (s : State) (e m : Nat) : (s.raise e m).bnd = s.bnd := by obtain ⟨_, _, h, _⟩ := s.raise_eq e m; rw [h]
@[simp] theorem State.raise_cals (s : State) (e m : Nat) : (s.raise e m).cals = s.cals := by obtain ⟨_, _, h, _⟩ := s.raise_eq e m; rw [h]
@[simp] theorem State.raise_refs (s : State) (e m : Nat) : (s.raise e m).refs = s.refs := by obtain ⟨_, _, h, _⟩ := s.raise_eq e m; rw [h]
@[simp] theorem State.raise_sels (s : State) (e m : Nat) : (s.raise e m).sels = s.sels := by obtain ⟨_, _, h, _⟩ := s.raise_eq e m; rw [h]
@[simp] theorem State.raise_dplls (s : State) (e m : Nat) : (s.raise e m).dplls = s.dplls := by obtain ⟨_, _, h, _⟩ := s.raise_eq e m; rw [h]
@[simp] theorem State.raise_uart (s : State) (e m : Nat) : (s.raise e m).uart = s.uart := by obtain ⟨_, _, h, _⟩ := s.raise_eq e m; rw [h]
@[simp] theorem State.raise_tdc (s : State) (e m : Nat) : (s.raise e m).tdc = s.tdc := by obtain ⟨_, _, h, _⟩ := s.raise_eq e m; rw [h]
@[simp] theorem State.raise_ports (s : State) (e m : Nat) : (s.raise e m).ports = s.ports := by obtain ⟨_, _, h, _⟩ := s.raise_eq e m; rw [h]
@[simp] theorem State.raise_out (s : State) (e m : Nat) : (s.raise e m).out = s.out := by obtain ⟨_, _, h, _⟩ := s.raise_eq e m; rw [h]
@[simp] theorem State.raise_flt (s : State) (e m : Nat) : (s.raise e m).flt = s.flt := by obtain ⟨_, _, h, _⟩ := s.raise_eq e m; rw [h]
@[simp] theorem State.raise_svc (s : State) (e m : Nat) : (s.raise e m).svc = s.svc := by obtain ⟨_, _, h, _⟩ := s.raise_eq e m; rw [h]
@[simp] theorem State.raise_gnss (s : State) (e m : Nat) : (s.raise e m).gnss = s.gnss := by obtain ⟨_, _, h, _⟩ := s.raise_eq e m; rw [h]
@[simp] theorem State.raise_btb (s : State) (e m : Nat) : (s.raise e m).btb = s.btb := by obtain ⟨_, _, h, _⟩ := s.raise_eq e m; rw [h]
@[simp] theorem State.raise_wng (s : State) (e m : Nat) : (s.raise e m).wng = s.wng := by obtain ⟨_, _, h, _⟩ := s.raise_eq e m; rw [h]
@[simp] theorem State.raise_mem (s : State) (e m : Nat) : (s.raise e m).mem = s.mem := by obtain ⟨_, _, h, _⟩ := s.raise_eq e m; rw [h]
@[simp] theorem State.raise_key (s : State) (e m : Nat) : (s.raise e m).key = s.key := by obtain ⟨_, _, h, _⟩ := s.raise_eq e m; rw [h]
@[simp] theorem State.raise_otp (s : State) (e m : Nat) : (s.raise e m).otp = s.otp := by obtain ⟨_, _, h, _⟩ := s.raise_eq e m; rw [h]
@[simp] theorem State.raise_pwr (s : State) (e m : Nat) : (s.raise e m).pwr = s.pwr := by obtain ⟨_, _, h, _⟩ := s.raise_eq e m; rw [h]
@[simp] theorem State.raise_fv (s : State) (e m : Nat) : (s.raise e m).fv = s.fv := by obtain ⟨_, _, h, _⟩ := s.raise_eq e m; rw [h]
@[simp] theorem State.raise_pending (s : State) (e m : Nat) : (s.raise e m).pending = s.pending := by obtain ⟨_, _, h, _⟩ := s.raise_eq e m; rw [h]

/-! ### State.fire -/

@[simp] theorem State.fire_held (s : State) (b : Nat) : (s.fire b).held = s.held := by obtain ⟨_, h⟩ := s.fire_eq b; rw [h]
@[simp] theorem State.fire_marks (s : State) (b : Nat) : (s.fire b).marks = s.marks := by obtain ⟨_, h⟩ := s.fire_eq b; rw [h]
@[simp] theorem State.fire_resp (s : State) (b : Nat) : (s.fire b).resp = s.resp := by obtain ⟨_, h⟩ := s.fire_eq b; rw [h]
@[simp] theorem State.fire_tick (s : State) (b : Nat) : (s.fire b).tick = s.tick := by obtain ⟨_, h⟩ := s.fire_eq b; rw [h]
@[simp] theorem State.fire_refreshAt (s : State) (b : Nat) : (s.fire b).refreshAt = s.refreshAt := by obtain ⟨_, h⟩ := s.fire_eq b; rw [h]
@[simp] theorem State.fire_pd1 (s : State) (b : Nat) : (s.fire b).pd1 = s.pd1 := by obtain ⟨_, h⟩ := s.fire_eq b; rw [h]
@[simp] theorem State.fire_plt (s : State) (b : Nat) : (s.fire b).plt = s.plt := by obtain ⟨_, h⟩ := s.fire_eq b; rw [h]
@[simp] theorem State.fire_tbs (s : State) (b : Nat) : (s.fire b).tbs = s.tbs := by obtain ⟨_, h⟩ := s.fire_eq b; rw [h]
@[simp] theorem State.fire_bnd (s : State) (b : Nat) : (s.fire b).bnd = s.bnd := by obtain ⟨_, h⟩ := s.fire_eq b; rw [h]
@[simp] theorem State.fire_cals (s : State) (b : Nat) : (s.fire b).cals = s.cals := by obtain ⟨_, h⟩ := s.fire_eq b; rw [h]
@[simp] theorem State.fire_refs (s : State) (b : Nat) : (s.fire b).refs = s.refs := by obtain ⟨_, h⟩ := s.fire_eq b; rw [h]
@[simp] theorem State.fire_sels (s : State) (b : Nat) : (s.fire b).sels = s.sels := by obtain ⟨_, h⟩ := s.fire_eq b; rw [h]
@[simp] theorem State.fire_dplls (s : State) (b : Nat) : (s.fire b).dplls = s.dplls := by obtain ⟨_, h⟩ := s.fire_eq b; rw [h]
@[simp] theorem State.fire_uart (s : State) (b : Nat) : (s.fire b).uart = s.uart := by obtain ⟨_, h⟩ := s.fire_eq b; rw [h]
@[simp] theorem State.fire_tdc (s : State) (b : Nat) : (s.fire b).tdc = s.tdc := by obtain ⟨_, h⟩ := s.fire_eq b; rw [h]
@[simp] theorem State.fire_ports (s : State) (b : Nat) : (s.fire b).ports = s.ports := by obtain ⟨_, h⟩ := s.fire_eq b; rw [h]
@[simp] theorem State.fire_out (s : State) (b : Nat) : (s.fire b).out = s.out := by obtain ⟨_, h⟩ := s.fire_eq b; rw [h]
@[simp] theorem State.fire_flt (s : State) (b : Nat) : (s.fire b).flt = s.flt := by obtain ⟨_, h⟩ := s.fire_eq b; rw [h]
@[simp] theorem State.fire_svc (s : State) (b : Nat) : (s.fire b).svc = s.svc := by obtain ⟨_, h⟩ := s.fire_eq b; rw [h]
@[simp] theorem State.fire_gnss (s : State) (b : Nat) : (s.fire b).gnss = s.gnss := by obtain ⟨_, h⟩ := s.fire_eq b; rw [h]
@[simp] theorem State.fire_btb (s : State) (b : Nat) : (s.fire b).btb = s.btb := by obtain ⟨_, h⟩ := s.fire_eq b; rw [h]
@[simp] theorem State.fire_wng (s : State) (b : Nat) : (s.fire b).wng = s.wng := by obtain ⟨_, h⟩ := s.fire_eq b; rw [h]
@[simp] theorem State.fire_mem (s : State) (b : Nat) : (s.fire b).mem = s.mem := by obtain ⟨_, h⟩ := s.fire_eq b; rw [h]
@[simp] theorem State.fire_key (s : State) (b : Nat) : (s.fire b).key = s.key := by obtain ⟨_, h⟩ := s.fire_eq b; rw [h]
@[simp] theorem State.fire_otp (s : State) (b : Nat) : (s.fire b).otp = s.otp := by obtain ⟨_, h⟩ := s.fire_eq b; rw [h]
@[simp] theorem State.fire_pwr (s : State) (b : Nat) : (s.fire b).pwr = s.pwr := by obtain ⟨_, h⟩ := s.fire_eq b; rw [h]
@[simp] theorem State.fire_fv (s : State) (b : Nat) : (s.fire b).fv = s.fv := by obtain ⟨_, h⟩ := s.fire_eq b; rw [h]
@[simp] theorem State.fire_pending (s : State) (b : Nat) : (s.fire b).pending = s.pending := by obtain ⟨_, h⟩ := s.fire_eq b; rw [h]

/-! ### State.irqRise -/

@[simp] theorem State.irqRise_held (s : State) (a : State) (b : Nat) : (s.irqRise a b).held = s.held := by obtain ⟨_, h⟩ := s.irqRise_eq a b; rw [h]
@[simp] theorem State.irqRise_marks (s : State) (a : State) (b : Nat) : (s.irqRise a b).marks = s.marks := by obtain ⟨_, h⟩ := s.irqRise_eq a b; rw [h]
@[simp] theorem State.irqRise_resp (s : State) (a : State) (b : Nat) : (s.irqRise a b).resp = s.resp := by obtain ⟨_, h⟩ := s.irqRise_eq a b; rw [h]
@[simp] theorem State.irqRise_tick (s : State) (a : State) (b : Nat) : (s.irqRise a b).tick = s.tick := by obtain ⟨_, h⟩ := s.irqRise_eq a b; rw [h]
@[simp] theorem State.irqRise_refreshAt (s : State) (a : State) (b : Nat) : (s.irqRise a b).refreshAt = s.refreshAt := by obtain ⟨_, h⟩ := s.irqRise_eq a b; rw [h]
@[simp] theorem State.irqRise_pd1 (s : State) (a : State) (b : Nat) : (s.irqRise a b).pd1 = s.pd1 := by obtain ⟨_, h⟩ := s.irqRise_eq a b; rw [h]
@[simp] theorem State.irqRise_plt (s : State) (a : State) (b : Nat) : (s.irqRise a b).plt = s.plt := by obtain ⟨_, h⟩ := s.irqRise_eq a b; rw [h]
@[simp] theorem State.irqRise_tbs (s : State) (a : State) (b : Nat) : (s.irqRise a b).tbs = s.tbs := by obtain ⟨_, h⟩ := s.irqRise_eq a b; rw [h]
@[simp] theorem State.irqRise_bnd (s : State) (a : State) (b : Nat) : (s.irqRise a b).bnd = s.bnd := by obtain ⟨_, h⟩ := s.irqRise_eq a b; rw [h]
@[simp] theorem State.irqRise_cals (s : State) (a : State) (b : Nat) : (s.irqRise a b).cals = s.cals := by obtain ⟨_, h⟩ := s.irqRise_eq a b; rw [h]
@[simp] theorem State.irqRise_refs (s : State) (a : State) (b : Nat) : (s.irqRise a b).refs = s.refs := by obtain ⟨_, h⟩ := s.irqRise_eq a b; rw [h]
@[simp] theorem State.irqRise_sels (s : State) (a : State) (b : Nat) : (s.irqRise a b).sels = s.sels := by obtain ⟨_, h⟩ := s.irqRise_eq a b; rw [h]
@[simp] theorem State.irqRise_dplls (s : State) (a : State) (b : Nat) : (s.irqRise a b).dplls = s.dplls := by obtain ⟨_, h⟩ := s.irqRise_eq a b; rw [h]
@[simp] theorem State.irqRise_uart (s : State) (a : State) (b : Nat) : (s.irqRise a b).uart = s.uart := by obtain ⟨_, h⟩ := s.irqRise_eq a b; rw [h]
@[simp] theorem State.irqRise_tdc (s : State) (a : State) (b : Nat) : (s.irqRise a b).tdc = s.tdc := by obtain ⟨_, h⟩ := s.irqRise_eq a b; rw [h]
@[simp] theorem State.irqRise_ports (s : State) (a : State) (b : Nat) : (s.irqRise a b).ports = s.ports := by obtain ⟨_, h⟩ := s.irqRise_eq a b; rw [h]
@[simp] theorem State.irqRise_out (s : State) (a : State) (b : Nat) : (s.irqRise a b).out = s.out := by obtain ⟨_, h⟩ := s.irqRise_eq a b; rw [h]
@[simp] theorem State.irqRise_flt (s : State) (a : State) (b : Nat) : (s.irqRise a b).flt = s.flt := by obtain ⟨_, h⟩ := s.irqRise_eq a b; rw [h]
@[simp] theorem State.irqRise_svc (s : State) (a : State) (b : Nat) : (s.irqRise a b).svc = s.svc := by obtain ⟨_, h⟩ := s.irqRise_eq a b; rw [h]
@[simp] theorem State.irqRise_gnss (s : State) (a : State) (b : Nat) : (s.irqRise a b).gnss = s.gnss := by obtain ⟨_, h⟩ := s.irqRise_eq a b; rw [h]
@[simp] theorem State.irqRise_btb (s : State) (a : State) (b : Nat) : (s.irqRise a b).btb = s.btb := by obtain ⟨_, h⟩ := s.irqRise_eq a b; rw [h]
@[simp] theorem State.irqRise_wng (s : State) (a : State) (b : Nat) : (s.irqRise a b).wng = s.wng := by obtain ⟨_, h⟩ := s.irqRise_eq a b; rw [h]
@[simp] theorem State.irqRise_mem (s : State) (a : State) (b : Nat) : (s.irqRise a b).mem = s.mem := by obtain ⟨_, h⟩ := s.irqRise_eq a b; rw [h]
@[simp] theorem State.irqRise_key (s : State) (a : State) (b : Nat) : (s.irqRise a b).key = s.key := by obtain ⟨_, h⟩ := s.irqRise_eq a b; rw [h]
@[simp] theorem State.irqRise_otp (s : State) (a : State) (b : Nat) : (s.irqRise a b).otp = s.otp := by obtain ⟨_, h⟩ := s.irqRise_eq a b; rw [h]
@[simp] theorem State.irqRise_pwr (s : State) (a : State) (b : Nat) : (s.irqRise a b).pwr = s.pwr := by obtain ⟨_, h⟩ := s.irqRise_eq a b; rw [h]
@[simp] theorem State.irqRise_fv (s : State) (a : State) (b : Nat) : (s.irqRise a b).fv = s.fv := by obtain ⟨_, h⟩ := s.irqRise_eq a b; rw [h]
@[simp] theorem State.irqRise_pending (s : State) (a : State) (b : Nat) : (s.irqRise a b).pending = s.pending := by obtain ⟨_, h⟩ := s.irqRise_eq a b; rw [h]

/-! ### State.bump -/

@[simp] theorem State.bump_held (s : State) (o n : Nat) : (s.bump o n).held = s.held := by obtain ⟨_, _, h⟩ := s.bump_eq o n; rw [h]
@[simp] theorem State.bump_marks (s : State) (o n : Nat) : (s.bump o n).marks = s.marks := by obtain ⟨_, _, h⟩ := s.bump_eq o n; rw [h]
@[simp] theorem State.bump_resp (s : State) (o n : Nat) : (s.bump o n).resp = s.resp := by obtain ⟨_, _, h⟩ := s.bump_eq o n; rw [h]
@[simp] theorem State.bump_tick (s : State) (o n : Nat) : (s.bump o n).tick = s.tick := by obtain ⟨_, _, h⟩ := s.bump_eq o n; rw [h]
@[simp] theorem State.bump_refreshAt (s : State) (o n : Nat) : (s.bump o n).refreshAt = s.refreshAt := by obtain ⟨_, _, h⟩ := s.bump_eq o n; rw [h]
@[simp] theorem State.bump_pd1 (s : State) (o n : Nat) : (s.bump o n).pd1 = s.pd1 := by obtain ⟨_, _, h⟩ := s.bump_eq o n; rw [h]
@[simp] theorem State.bump_plt (s : State) (o n : Nat) : (s.bump o n).plt = s.plt := by obtain ⟨_, _, h⟩ := s.bump_eq o n; rw [h]
@[simp] theorem State.bump_tbs (s : State) (o n : Nat) : (s.bump o n).tbs = s.tbs := by obtain ⟨_, _, h⟩ := s.bump_eq o n; rw [h]
@[simp] theorem State.bump_bnd (s : State) (o n : Nat) : (s.bump o n).bnd = s.bnd := by obtain ⟨_, _, h⟩ := s.bump_eq o n; rw [h]
@[simp] theorem State.bump_cals (s : State) (o n : Nat) : (s.bump o n).cals = s.cals := by obtain ⟨_, _, h⟩ := s.bump_eq o n; rw [h]
@[simp] theorem State.bump_refs (s : State) (o n : Nat) : (s.bump o n).refs = s.refs := by obtain ⟨_, _, h⟩ := s.bump_eq o n; rw [h]
@[simp] theorem State.bump_sels (s : State) (o n : Nat) : (s.bump o n).sels = s.sels := by obtain ⟨_, _, h⟩ := s.bump_eq o n; rw [h]
@[simp] theorem State.bump_dplls (s : State) (o n : Nat) : (s.bump o n).dplls = s.dplls := by obtain ⟨_, _, h⟩ := s.bump_eq o n; rw [h]
@[simp] theorem State.bump_uart (s : State) (o n : Nat) : (s.bump o n).uart = s.uart := by obtain ⟨_, _, h⟩ := s.bump_eq o n; rw [h]
@[simp] theorem State.bump_tdc (s : State) (o n : Nat) : (s.bump o n).tdc = s.tdc := by obtain ⟨_, _, h⟩ := s.bump_eq o n; rw [h]
@[simp] theorem State.bump_ports (s : State) (o n : Nat) : (s.bump o n).ports = s.ports := by obtain ⟨_, _, h⟩ := s.bump_eq o n; rw [h]
@[simp] theorem State.bump_out (s : State) (o n : Nat) : (s.bump o n).out = s.out := by obtain ⟨_, _, h⟩ := s.bump_eq o n; rw [h]
@[simp] theorem State.bump_flt (s : State) (o n : Nat) : (s.bump o n).flt = s.flt := by obtain ⟨_, _, h⟩ := s.bump_eq o n; rw [h]
@[simp] theorem State.bump_svc (s : State) (o n : Nat) : (s.bump o n).svc = s.svc := by obtain ⟨_, _, h⟩ := s.bump_eq o n; rw [h]
@[simp] theorem State.bump_gnss (s : State) (o n : Nat) : (s.bump o n).gnss = s.gnss := by obtain ⟨_, _, h⟩ := s.bump_eq o n; rw [h]
@[simp] theorem State.bump_btb (s : State) (o n : Nat) : (s.bump o n).btb = s.btb := by obtain ⟨_, _, h⟩ := s.bump_eq o n; rw [h]
@[simp] theorem State.bump_wng (s : State) (o n : Nat) : (s.bump o n).wng = s.wng := by obtain ⟨_, _, h⟩ := s.bump_eq o n; rw [h]
@[simp] theorem State.bump_mem (s : State) (o n : Nat) : (s.bump o n).mem = s.mem := by obtain ⟨_, _, h⟩ := s.bump_eq o n; rw [h]
@[simp] theorem State.bump_key (s : State) (o n : Nat) : (s.bump o n).key = s.key := by obtain ⟨_, _, h⟩ := s.bump_eq o n; rw [h]
@[simp] theorem State.bump_otp (s : State) (o n : Nat) : (s.bump o n).otp = s.otp := by obtain ⟨_, _, h⟩ := s.bump_eq o n; rw [h]
@[simp] theorem State.bump_pwr (s : State) (o n : Nat) : (s.bump o n).pwr = s.pwr := by obtain ⟨_, _, h⟩ := s.bump_eq o n; rw [h]
@[simp] theorem State.bump_fv (s : State) (o n : Nat) : (s.bump o n).fv = s.fv := by obtain ⟨_, _, h⟩ := s.bump_eq o n; rw [h]
@[simp] theorem State.bump_pending (s : State) (o n : Nat) : (s.bump o n).pending = s.pending := by obtain ⟨_, _, h⟩ := s.bump_eq o n; rw [h]

/-! ### State.bumpSat -/

@[simp] theorem State.bumpSat_held (s : State) (o n : Nat) : (s.bumpSat o n).held = s.held := by obtain ⟨_, _, h⟩ := s.bumpSat_eq o n; rw [h]
@[simp] theorem State.bumpSat_marks (s : State) (o n : Nat) : (s.bumpSat o n).marks = s.marks := by obtain ⟨_, _, h⟩ := s.bumpSat_eq o n; rw [h]
@[simp] theorem State.bumpSat_resp (s : State) (o n : Nat) : (s.bumpSat o n).resp = s.resp := by obtain ⟨_, _, h⟩ := s.bumpSat_eq o n; rw [h]
@[simp] theorem State.bumpSat_tick (s : State) (o n : Nat) : (s.bumpSat o n).tick = s.tick := by obtain ⟨_, _, h⟩ := s.bumpSat_eq o n; rw [h]
@[simp] theorem State.bumpSat_refreshAt (s : State) (o n : Nat) : (s.bumpSat o n).refreshAt = s.refreshAt := by obtain ⟨_, _, h⟩ := s.bumpSat_eq o n; rw [h]
@[simp] theorem State.bumpSat_pd1 (s : State) (o n : Nat) : (s.bumpSat o n).pd1 = s.pd1 := by obtain ⟨_, _, h⟩ := s.bumpSat_eq o n; rw [h]
@[simp] theorem State.bumpSat_plt (s : State) (o n : Nat) : (s.bumpSat o n).plt = s.plt := by obtain ⟨_, _, h⟩ := s.bumpSat_eq o n; rw [h]
@[simp] theorem State.bumpSat_tbs (s : State) (o n : Nat) : (s.bumpSat o n).tbs = s.tbs := by obtain ⟨_, _, h⟩ := s.bumpSat_eq o n; rw [h]
@[simp] theorem State.bumpSat_bnd (s : State) (o n : Nat) : (s.bumpSat o n).bnd = s.bnd := by obtain ⟨_, _, h⟩ := s.bumpSat_eq o n; rw [h]
@[simp] theorem State.bumpSat_cals (s : State) (o n : Nat) : (s.bumpSat o n).cals = s.cals := by obtain ⟨_, _, h⟩ := s.bumpSat_eq o n; rw [h]
@[simp] theorem State.bumpSat_refs (s : State) (o n : Nat) : (s.bumpSat o n).refs = s.refs := by obtain ⟨_, _, h⟩ := s.bumpSat_eq o n; rw [h]
@[simp] theorem State.bumpSat_sels (s : State) (o n : Nat) : (s.bumpSat o n).sels = s.sels := by obtain ⟨_, _, h⟩ := s.bumpSat_eq o n; rw [h]
@[simp] theorem State.bumpSat_dplls (s : State) (o n : Nat) : (s.bumpSat o n).dplls = s.dplls := by obtain ⟨_, _, h⟩ := s.bumpSat_eq o n; rw [h]
@[simp] theorem State.bumpSat_uart (s : State) (o n : Nat) : (s.bumpSat o n).uart = s.uart := by obtain ⟨_, _, h⟩ := s.bumpSat_eq o n; rw [h]
@[simp] theorem State.bumpSat_tdc (s : State) (o n : Nat) : (s.bumpSat o n).tdc = s.tdc := by obtain ⟨_, _, h⟩ := s.bumpSat_eq o n; rw [h]
@[simp] theorem State.bumpSat_ports (s : State) (o n : Nat) : (s.bumpSat o n).ports = s.ports := by obtain ⟨_, _, h⟩ := s.bumpSat_eq o n; rw [h]
@[simp] theorem State.bumpSat_out (s : State) (o n : Nat) : (s.bumpSat o n).out = s.out := by obtain ⟨_, _, h⟩ := s.bumpSat_eq o n; rw [h]
@[simp] theorem State.bumpSat_flt (s : State) (o n : Nat) : (s.bumpSat o n).flt = s.flt := by obtain ⟨_, _, h⟩ := s.bumpSat_eq o n; rw [h]
@[simp] theorem State.bumpSat_svc (s : State) (o n : Nat) : (s.bumpSat o n).svc = s.svc := by obtain ⟨_, _, h⟩ := s.bumpSat_eq o n; rw [h]
@[simp] theorem State.bumpSat_gnss (s : State) (o n : Nat) : (s.bumpSat o n).gnss = s.gnss := by obtain ⟨_, _, h⟩ := s.bumpSat_eq o n; rw [h]
@[simp] theorem State.bumpSat_btb (s : State) (o n : Nat) : (s.bumpSat o n).btb = s.btb := by obtain ⟨_, _, h⟩ := s.bumpSat_eq o n; rw [h]
@[simp] theorem State.bumpSat_wng (s : State) (o n : Nat) : (s.bumpSat o n).wng = s.wng := by obtain ⟨_, _, h⟩ := s.bumpSat_eq o n; rw [h]
@[simp] theorem State.bumpSat_mem (s : State) (o n : Nat) : (s.bumpSat o n).mem = s.mem := by obtain ⟨_, _, h⟩ := s.bumpSat_eq o n; rw [h]
@[simp] theorem State.bumpSat_key (s : State) (o n : Nat) : (s.bumpSat o n).key = s.key := by obtain ⟨_, _, h⟩ := s.bumpSat_eq o n; rw [h]
@[simp] theorem State.bumpSat_otp (s : State) (o n : Nat) : (s.bumpSat o n).otp = s.otp := by obtain ⟨_, _, h⟩ := s.bumpSat_eq o n; rw [h]
@[simp] theorem State.bumpSat_pwr (s : State) (o n : Nat) : (s.bumpSat o n).pwr = s.pwr := by obtain ⟨_, _, h⟩ := s.bumpSat_eq o n; rw [h]
@[simp] theorem State.bumpSat_fv (s : State) (o n : Nat) : (s.bumpSat o n).fv = s.fv := by obtain ⟨_, _, h⟩ := s.bumpSat_eq o n; rw [h]
@[simp] theorem State.bumpSat_pending (s : State) (o n : Nat) : (s.bumpSat o n).pending = s.pending := by obtain ⟨_, _, h⟩ := s.bumpSat_eq o n; rw [h]

/-! ### State.rsqWrite -/

@[simp] theorem State.rsqWrite_held (s : State) (e : Nat) (v : Word) : (s.rsqWrite e v).held = s.held := by obtain ⟨_, _, h⟩ := s.rsqWrite_eq e v; rw [h]
@[simp] theorem State.rsqWrite_marks (s : State) (e : Nat) (v : Word) : (s.rsqWrite e v).marks = s.marks := by obtain ⟨_, _, h⟩ := s.rsqWrite_eq e v; rw [h]
@[simp] theorem State.rsqWrite_resp (s : State) (e : Nat) (v : Word) : (s.rsqWrite e v).resp = s.resp := by obtain ⟨_, _, h⟩ := s.rsqWrite_eq e v; rw [h]
@[simp] theorem State.rsqWrite_tick (s : State) (e : Nat) (v : Word) : (s.rsqWrite e v).tick = s.tick := by obtain ⟨_, _, h⟩ := s.rsqWrite_eq e v; rw [h]
@[simp] theorem State.rsqWrite_refreshAt (s : State) (e : Nat) (v : Word) : (s.rsqWrite e v).refreshAt = s.refreshAt := by obtain ⟨_, _, h⟩ := s.rsqWrite_eq e v; rw [h]
@[simp] theorem State.rsqWrite_pd1 (s : State) (e : Nat) (v : Word) : (s.rsqWrite e v).pd1 = s.pd1 := by obtain ⟨_, _, h⟩ := s.rsqWrite_eq e v; rw [h]
@[simp] theorem State.rsqWrite_plt (s : State) (e : Nat) (v : Word) : (s.rsqWrite e v).plt = s.plt := by obtain ⟨_, _, h⟩ := s.rsqWrite_eq e v; rw [h]
@[simp] theorem State.rsqWrite_tbs (s : State) (e : Nat) (v : Word) : (s.rsqWrite e v).tbs = s.tbs := by obtain ⟨_, _, h⟩ := s.rsqWrite_eq e v; rw [h]
@[simp] theorem State.rsqWrite_bnd (s : State) (e : Nat) (v : Word) : (s.rsqWrite e v).bnd = s.bnd := by obtain ⟨_, _, h⟩ := s.rsqWrite_eq e v; rw [h]
@[simp] theorem State.rsqWrite_cals (s : State) (e : Nat) (v : Word) : (s.rsqWrite e v).cals = s.cals := by obtain ⟨_, _, h⟩ := s.rsqWrite_eq e v; rw [h]
@[simp] theorem State.rsqWrite_refs (s : State) (e : Nat) (v : Word) : (s.rsqWrite e v).refs = s.refs := by obtain ⟨_, _, h⟩ := s.rsqWrite_eq e v; rw [h]
@[simp] theorem State.rsqWrite_sels (s : State) (e : Nat) (v : Word) : (s.rsqWrite e v).sels = s.sels := by obtain ⟨_, _, h⟩ := s.rsqWrite_eq e v; rw [h]
@[simp] theorem State.rsqWrite_dplls (s : State) (e : Nat) (v : Word) : (s.rsqWrite e v).dplls = s.dplls := by obtain ⟨_, _, h⟩ := s.rsqWrite_eq e v; rw [h]
@[simp] theorem State.rsqWrite_uart (s : State) (e : Nat) (v : Word) : (s.rsqWrite e v).uart = s.uart := by obtain ⟨_, _, h⟩ := s.rsqWrite_eq e v; rw [h]
@[simp] theorem State.rsqWrite_tdc (s : State) (e : Nat) (v : Word) : (s.rsqWrite e v).tdc = s.tdc := by obtain ⟨_, _, h⟩ := s.rsqWrite_eq e v; rw [h]
@[simp] theorem State.rsqWrite_ports (s : State) (e : Nat) (v : Word) : (s.rsqWrite e v).ports = s.ports := by obtain ⟨_, _, h⟩ := s.rsqWrite_eq e v; rw [h]
@[simp] theorem State.rsqWrite_out (s : State) (e : Nat) (v : Word) : (s.rsqWrite e v).out = s.out := by obtain ⟨_, _, h⟩ := s.rsqWrite_eq e v; rw [h]
@[simp] theorem State.rsqWrite_flt (s : State) (e : Nat) (v : Word) : (s.rsqWrite e v).flt = s.flt := by obtain ⟨_, _, h⟩ := s.rsqWrite_eq e v; rw [h]
@[simp] theorem State.rsqWrite_svc (s : State) (e : Nat) (v : Word) : (s.rsqWrite e v).svc = s.svc := by obtain ⟨_, _, h⟩ := s.rsqWrite_eq e v; rw [h]
@[simp] theorem State.rsqWrite_gnss (s : State) (e : Nat) (v : Word) : (s.rsqWrite e v).gnss = s.gnss := by obtain ⟨_, _, h⟩ := s.rsqWrite_eq e v; rw [h]
@[simp] theorem State.rsqWrite_btb (s : State) (e : Nat) (v : Word) : (s.rsqWrite e v).btb = s.btb := by obtain ⟨_, _, h⟩ := s.rsqWrite_eq e v; rw [h]
@[simp] theorem State.rsqWrite_wng (s : State) (e : Nat) (v : Word) : (s.rsqWrite e v).wng = s.wng := by obtain ⟨_, _, h⟩ := s.rsqWrite_eq e v; rw [h]
@[simp] theorem State.rsqWrite_mem (s : State) (e : Nat) (v : Word) : (s.rsqWrite e v).mem = s.mem := by obtain ⟨_, _, h⟩ := s.rsqWrite_eq e v; rw [h]
@[simp] theorem State.rsqWrite_key (s : State) (e : Nat) (v : Word) : (s.rsqWrite e v).key = s.key := by obtain ⟨_, _, h⟩ := s.rsqWrite_eq e v; rw [h]
@[simp] theorem State.rsqWrite_otp (s : State) (e : Nat) (v : Word) : (s.rsqWrite e v).otp = s.otp := by obtain ⟨_, _, h⟩ := s.rsqWrite_eq e v; rw [h]
@[simp] theorem State.rsqWrite_pwr (s : State) (e : Nat) (v : Word) : (s.rsqWrite e v).pwr = s.pwr := by obtain ⟨_, _, h⟩ := s.rsqWrite_eq e v; rw [h]
@[simp] theorem State.rsqWrite_fv (s : State) (e : Nat) (v : Word) : (s.rsqWrite e v).fv = s.fv := by obtain ⟨_, _, h⟩ := s.rsqWrite_eq e v; rw [h]
@[simp] theorem State.rsqWrite_pending (s : State) (e : Nat) (v : Word) : (s.rsqWrite e v).pending = s.pending := by obtain ⟨_, _, h⟩ := s.rsqWrite_eq e v; rw [h]

/-! ### State.recordErr -/

@[simp] theorem State.recordErr_held (s : State) (m : Nat) (e : Err) (x w : Bool) (a : Nat) : (s.recordErr m e x w a).held = s.held := rfl
@[simp] theorem State.recordErr_marks (s : State) (m : Nat) (e : Err) (x w : Bool) (a : Nat) : (s.recordErr m e x w a).marks = s.marks := rfl
@[simp] theorem State.recordErr_resp (s : State) (m : Nat) (e : Err) (x w : Bool) (a : Nat) : (s.recordErr m e x w a).resp = s.resp := rfl
@[simp] theorem State.recordErr_tick (s : State) (m : Nat) (e : Err) (x w : Bool) (a : Nat) : (s.recordErr m e x w a).tick = s.tick := rfl
@[simp] theorem State.recordErr_refreshAt (s : State) (m : Nat) (e : Err) (x w : Bool) (a : Nat) : (s.recordErr m e x w a).refreshAt = s.refreshAt := rfl
@[simp] theorem State.recordErr_pd1 (s : State) (m : Nat) (e : Err) (x w : Bool) (a : Nat) : (s.recordErr m e x w a).pd1 = s.pd1 := rfl
@[simp] theorem State.recordErr_plt (s : State) (m : Nat) (e : Err) (x w : Bool) (a : Nat) : (s.recordErr m e x w a).plt = s.plt := rfl
@[simp] theorem State.recordErr_tbs (s : State) (m : Nat) (e : Err) (x w : Bool) (a : Nat) : (s.recordErr m e x w a).tbs = s.tbs := rfl
@[simp] theorem State.recordErr_bnd (s : State) (m : Nat) (e : Err) (x w : Bool) (a : Nat) : (s.recordErr m e x w a).bnd = s.bnd := rfl
@[simp] theorem State.recordErr_cals (s : State) (m : Nat) (e : Err) (x w : Bool) (a : Nat) : (s.recordErr m e x w a).cals = s.cals := rfl
@[simp] theorem State.recordErr_refs (s : State) (m : Nat) (e : Err) (x w : Bool) (a : Nat) : (s.recordErr m e x w a).refs = s.refs := rfl
@[simp] theorem State.recordErr_sels (s : State) (m : Nat) (e : Err) (x w : Bool) (a : Nat) : (s.recordErr m e x w a).sels = s.sels := rfl
@[simp] theorem State.recordErr_dplls (s : State) (m : Nat) (e : Err) (x w : Bool) (a : Nat) : (s.recordErr m e x w a).dplls = s.dplls := rfl
@[simp] theorem State.recordErr_uart (s : State) (m : Nat) (e : Err) (x w : Bool) (a : Nat) : (s.recordErr m e x w a).uart = s.uart := rfl
@[simp] theorem State.recordErr_tdc (s : State) (m : Nat) (e : Err) (x w : Bool) (a : Nat) : (s.recordErr m e x w a).tdc = s.tdc := rfl
@[simp] theorem State.recordErr_ports (s : State) (m : Nat) (e : Err) (x w : Bool) (a : Nat) : (s.recordErr m e x w a).ports = s.ports := rfl
@[simp] theorem State.recordErr_out (s : State) (m : Nat) (e : Err) (x w : Bool) (a : Nat) : (s.recordErr m e x w a).out = s.out := rfl
@[simp] theorem State.recordErr_flt (s : State) (m : Nat) (e : Err) (x w : Bool) (a : Nat) : (s.recordErr m e x w a).flt = s.flt := rfl
@[simp] theorem State.recordErr_svc (s : State) (m : Nat) (e : Err) (x w : Bool) (a : Nat) : (s.recordErr m e x w a).svc = s.svc := rfl
@[simp] theorem State.recordErr_gnss (s : State) (m : Nat) (e : Err) (x w : Bool) (a : Nat) : (s.recordErr m e x w a).gnss = s.gnss := rfl
@[simp] theorem State.recordErr_btb (s : State) (m : Nat) (e : Err) (x w : Bool) (a : Nat) : (s.recordErr m e x w a).btb = s.btb := rfl
@[simp] theorem State.recordErr_wng (s : State) (m : Nat) (e : Err) (x w : Bool) (a : Nat) : (s.recordErr m e x w a).wng = s.wng := rfl
@[simp] theorem State.recordErr_mem (s : State) (m : Nat) (e : Err) (x w : Bool) (a : Nat) : (s.recordErr m e x w a).mem = s.mem := rfl
@[simp] theorem State.recordErr_key (s : State) (m : Nat) (e : Err) (x w : Bool) (a : Nat) : (s.recordErr m e x w a).key = s.key := rfl
@[simp] theorem State.recordErr_otp (s : State) (m : Nat) (e : Err) (x w : Bool) (a : Nat) : (s.recordErr m e x w a).otp = s.otp := rfl
@[simp] theorem State.recordErr_pwr (s : State) (m : Nat) (e : Err) (x w : Bool) (a : Nat) : (s.recordErr m e x w a).pwr = s.pwr := rfl
@[simp] theorem State.recordErr_fv (s : State) (m : Nat) (e : Err) (x w : Bool) (a : Nat) : (s.recordErr m e x w a).fv = s.fv := rfl
@[simp] theorem State.recordErr_pending (s : State) (m : Nat) (e : Err) (x w : Bool) (a : Nat) : (s.recordErr m e x w a).pending = s.pending := rfl
@[simp] theorem State.recordErr_regs (s : State) (m : Nat) (e : Err) (x w : Bool) (a : Nat) : (s.recordErr m e x w a).regs = s.regs := rfl

/-! ### State.setLastErr -/

@[simp] theorem State.setLastErr_held (s : State) (o : Nat) (e : Err) : (s.setLastErr o e).held = s.held := by obtain ⟨_, h, _⟩ := s.setLastErr_eq o e; rw [h]
@[simp] theorem State.setLastErr_marks (s : State) (o : Nat) (e : Err) : (s.setLastErr o e).marks = s.marks := by obtain ⟨_, h, _⟩ := s.setLastErr_eq o e; rw [h]
@[simp] theorem State.setLastErr_resp (s : State) (o : Nat) (e : Err) : (s.setLastErr o e).resp = s.resp := by obtain ⟨_, h, _⟩ := s.setLastErr_eq o e; rw [h]
@[simp] theorem State.setLastErr_tick (s : State) (o : Nat) (e : Err) : (s.setLastErr o e).tick = s.tick := by obtain ⟨_, h, _⟩ := s.setLastErr_eq o e; rw [h]
@[simp] theorem State.setLastErr_refreshAt (s : State) (o : Nat) (e : Err) : (s.setLastErr o e).refreshAt = s.refreshAt := by obtain ⟨_, h, _⟩ := s.setLastErr_eq o e; rw [h]
@[simp] theorem State.setLastErr_pd1 (s : State) (o : Nat) (e : Err) : (s.setLastErr o e).pd1 = s.pd1 := by obtain ⟨_, h, _⟩ := s.setLastErr_eq o e; rw [h]
@[simp] theorem State.setLastErr_plt (s : State) (o : Nat) (e : Err) : (s.setLastErr o e).plt = s.plt := by obtain ⟨_, h, _⟩ := s.setLastErr_eq o e; rw [h]
@[simp] theorem State.setLastErr_tbs (s : State) (o : Nat) (e : Err) : (s.setLastErr o e).tbs = s.tbs := by obtain ⟨_, h, _⟩ := s.setLastErr_eq o e; rw [h]
@[simp] theorem State.setLastErr_bnd (s : State) (o : Nat) (e : Err) : (s.setLastErr o e).bnd = s.bnd := by obtain ⟨_, h, _⟩ := s.setLastErr_eq o e; rw [h]
@[simp] theorem State.setLastErr_cals (s : State) (o : Nat) (e : Err) : (s.setLastErr o e).cals = s.cals := by obtain ⟨_, h, _⟩ := s.setLastErr_eq o e; rw [h]
@[simp] theorem State.setLastErr_refs (s : State) (o : Nat) (e : Err) : (s.setLastErr o e).refs = s.refs := by obtain ⟨_, h, _⟩ := s.setLastErr_eq o e; rw [h]
@[simp] theorem State.setLastErr_sels (s : State) (o : Nat) (e : Err) : (s.setLastErr o e).sels = s.sels := by obtain ⟨_, h, _⟩ := s.setLastErr_eq o e; rw [h]
@[simp] theorem State.setLastErr_dplls (s : State) (o : Nat) (e : Err) : (s.setLastErr o e).dplls = s.dplls := by obtain ⟨_, h, _⟩ := s.setLastErr_eq o e; rw [h]
@[simp] theorem State.setLastErr_uart (s : State) (o : Nat) (e : Err) : (s.setLastErr o e).uart = s.uart := by obtain ⟨_, h, _⟩ := s.setLastErr_eq o e; rw [h]
@[simp] theorem State.setLastErr_tdc (s : State) (o : Nat) (e : Err) : (s.setLastErr o e).tdc = s.tdc := by obtain ⟨_, h, _⟩ := s.setLastErr_eq o e; rw [h]
@[simp] theorem State.setLastErr_ports (s : State) (o : Nat) (e : Err) : (s.setLastErr o e).ports = s.ports := by obtain ⟨_, h, _⟩ := s.setLastErr_eq o e; rw [h]
@[simp] theorem State.setLastErr_out (s : State) (o : Nat) (e : Err) : (s.setLastErr o e).out = s.out := by obtain ⟨_, h, _⟩ := s.setLastErr_eq o e; rw [h]
@[simp] theorem State.setLastErr_flt (s : State) (o : Nat) (e : Err) : (s.setLastErr o e).flt = s.flt := by obtain ⟨_, h, _⟩ := s.setLastErr_eq o e; rw [h]
@[simp] theorem State.setLastErr_svc (s : State) (o : Nat) (e : Err) : (s.setLastErr o e).svc = s.svc := by obtain ⟨_, h, _⟩ := s.setLastErr_eq o e; rw [h]
@[simp] theorem State.setLastErr_gnss (s : State) (o : Nat) (e : Err) : (s.setLastErr o e).gnss = s.gnss := by obtain ⟨_, h, _⟩ := s.setLastErr_eq o e; rw [h]
@[simp] theorem State.setLastErr_btb (s : State) (o : Nat) (e : Err) : (s.setLastErr o e).btb = s.btb := by obtain ⟨_, h, _⟩ := s.setLastErr_eq o e; rw [h]
@[simp] theorem State.setLastErr_wng (s : State) (o : Nat) (e : Err) : (s.setLastErr o e).wng = s.wng := by obtain ⟨_, h, _⟩ := s.setLastErr_eq o e; rw [h]
@[simp] theorem State.setLastErr_mem (s : State) (o : Nat) (e : Err) : (s.setLastErr o e).mem = s.mem := by obtain ⟨_, h, _⟩ := s.setLastErr_eq o e; rw [h]
@[simp] theorem State.setLastErr_key (s : State) (o : Nat) (e : Err) : (s.setLastErr o e).key = s.key := by obtain ⟨_, h, _⟩ := s.setLastErr_eq o e; rw [h]
@[simp] theorem State.setLastErr_otp (s : State) (o : Nat) (e : Err) : (s.setLastErr o e).otp = s.otp := by obtain ⟨_, h, _⟩ := s.setLastErr_eq o e; rw [h]
@[simp] theorem State.setLastErr_pwr (s : State) (o : Nat) (e : Err) : (s.setLastErr o e).pwr = s.pwr := by obtain ⟨_, h, _⟩ := s.setLastErr_eq o e; rw [h]
@[simp] theorem State.setLastErr_fv (s : State) (o : Nat) (e : Err) : (s.setLastErr o e).fv = s.fv := by obtain ⟨_, h, _⟩ := s.setLastErr_eq o e; rw [h]
@[simp] theorem State.setLastErr_pending (s : State) (o : Nat) (e : Err) : (s.setLastErr o e).pending = s.pending := by obtain ⟨_, h, _⟩ := s.setLastErr_eq o e; rw [h]
@[simp] theorem State.setLastErr_glb (s : State) (o : Nat) (e : Err) : (s.setLastErr o e).glb = s.glb := by obtain ⟨_, h, _⟩ := s.setLastErr_eq o e; rw [h]

/-! ### State.reject -/

@[simp] theorem State.reject_held (s : State) (m : Master) (o : Nat) (e : Err) : (s.reject m o e).held = s.held := by obtain ⟨_, _, h⟩ := s.reject_eq m o e; rw [h]
@[simp] theorem State.reject_marks (s : State) (m : Master) (o : Nat) (e : Err) : (s.reject m o e).marks = s.marks := by obtain ⟨_, _, h⟩ := s.reject_eq m o e; rw [h]
@[simp] theorem State.reject_resp (s : State) (m : Master) (o : Nat) (e : Err) : (s.reject m o e).resp = s.resp := by obtain ⟨_, _, h⟩ := s.reject_eq m o e; rw [h]
@[simp] theorem State.reject_tick (s : State) (m : Master) (o : Nat) (e : Err) : (s.reject m o e).tick = s.tick := by obtain ⟨_, _, h⟩ := s.reject_eq m o e; rw [h]
@[simp] theorem State.reject_refreshAt (s : State) (m : Master) (o : Nat) (e : Err) : (s.reject m o e).refreshAt = s.refreshAt := by obtain ⟨_, _, h⟩ := s.reject_eq m o e; rw [h]
@[simp] theorem State.reject_pd1 (s : State) (m : Master) (o : Nat) (e : Err) : (s.reject m o e).pd1 = s.pd1 := by obtain ⟨_, _, h⟩ := s.reject_eq m o e; rw [h]
@[simp] theorem State.reject_plt (s : State) (m : Master) (o : Nat) (e : Err) : (s.reject m o e).plt = s.plt := by obtain ⟨_, _, h⟩ := s.reject_eq m o e; rw [h]
@[simp] theorem State.reject_tbs (s : State) (m : Master) (o : Nat) (e : Err) : (s.reject m o e).tbs = s.tbs := by obtain ⟨_, _, h⟩ := s.reject_eq m o e; rw [h]
@[simp] theorem State.reject_bnd (s : State) (m : Master) (o : Nat) (e : Err) : (s.reject m o e).bnd = s.bnd := by obtain ⟨_, _, h⟩ := s.reject_eq m o e; rw [h]
@[simp] theorem State.reject_cals (s : State) (m : Master) (o : Nat) (e : Err) : (s.reject m o e).cals = s.cals := by obtain ⟨_, _, h⟩ := s.reject_eq m o e; rw [h]
@[simp] theorem State.reject_refs (s : State) (m : Master) (o : Nat) (e : Err) : (s.reject m o e).refs = s.refs := by obtain ⟨_, _, h⟩ := s.reject_eq m o e; rw [h]
@[simp] theorem State.reject_sels (s : State) (m : Master) (o : Nat) (e : Err) : (s.reject m o e).sels = s.sels := by obtain ⟨_, _, h⟩ := s.reject_eq m o e; rw [h]
@[simp] theorem State.reject_dplls (s : State) (m : Master) (o : Nat) (e : Err) : (s.reject m o e).dplls = s.dplls := by obtain ⟨_, _, h⟩ := s.reject_eq m o e; rw [h]
@[simp] theorem State.reject_uart (s : State) (m : Master) (o : Nat) (e : Err) : (s.reject m o e).uart = s.uart := by obtain ⟨_, _, h⟩ := s.reject_eq m o e; rw [h]
@[simp] theorem State.reject_tdc (s : State) (m : Master) (o : Nat) (e : Err) : (s.reject m o e).tdc = s.tdc := by obtain ⟨_, _, h⟩ := s.reject_eq m o e; rw [h]
@[simp] theorem State.reject_ports (s : State) (m : Master) (o : Nat) (e : Err) : (s.reject m o e).ports = s.ports := by obtain ⟨_, _, h⟩ := s.reject_eq m o e; rw [h]
@[simp] theorem State.reject_out (s : State) (m : Master) (o : Nat) (e : Err) : (s.reject m o e).out = s.out := by obtain ⟨_, _, h⟩ := s.reject_eq m o e; rw [h]
@[simp] theorem State.reject_flt (s : State) (m : Master) (o : Nat) (e : Err) : (s.reject m o e).flt = s.flt := by obtain ⟨_, _, h⟩ := s.reject_eq m o e; rw [h]
@[simp] theorem State.reject_svc (s : State) (m : Master) (o : Nat) (e : Err) : (s.reject m o e).svc = s.svc := by obtain ⟨_, _, h⟩ := s.reject_eq m o e; rw [h]
@[simp] theorem State.reject_gnss (s : State) (m : Master) (o : Nat) (e : Err) : (s.reject m o e).gnss = s.gnss := by obtain ⟨_, _, h⟩ := s.reject_eq m o e; rw [h]
@[simp] theorem State.reject_btb (s : State) (m : Master) (o : Nat) (e : Err) : (s.reject m o e).btb = s.btb := by obtain ⟨_, _, h⟩ := s.reject_eq m o e; rw [h]
@[simp] theorem State.reject_wng (s : State) (m : Master) (o : Nat) (e : Err) : (s.reject m o e).wng = s.wng := by obtain ⟨_, _, h⟩ := s.reject_eq m o e; rw [h]
@[simp] theorem State.reject_mem (s : State) (m : Master) (o : Nat) (e : Err) : (s.reject m o e).mem = s.mem := by obtain ⟨_, _, h⟩ := s.reject_eq m o e; rw [h]
@[simp] theorem State.reject_key (s : State) (m : Master) (o : Nat) (e : Err) : (s.reject m o e).key = s.key := by obtain ⟨_, _, h⟩ := s.reject_eq m o e; rw [h]
@[simp] theorem State.reject_otp (s : State) (m : Master) (o : Nat) (e : Err) : (s.reject m o e).otp = s.otp := by obtain ⟨_, _, h⟩ := s.reject_eq m o e; rw [h]
@[simp] theorem State.reject_pwr (s : State) (m : Master) (o : Nat) (e : Err) : (s.reject m o e).pwr = s.pwr := by obtain ⟨_, _, h⟩ := s.reject_eq m o e; rw [h]
@[simp] theorem State.reject_fv (s : State) (m : Master) (o : Nat) (e : Err) : (s.reject m o e).fv = s.fv := by obtain ⟨_, _, h⟩ := s.reject_eq m o e; rw [h]
@[simp] theorem State.reject_pending (s : State) (m : Master) (o : Nat) (e : Err) : (s.reject m o e).pending = s.pending := by obtain ⟨_, _, h⟩ := s.reject_eq m o e; rw [h]

/-! ### State.wrAll -/

@[simp] theorem State.wrAll_held (s : State) (o : Nat) (l : List Word) : (s.wrAll o l).held = s.held := by obtain ⟨_, h⟩ := s.wrAll_eq o l; rw [h]
@[simp] theorem State.wrAll_marks (s : State) (o : Nat) (l : List Word) : (s.wrAll o l).marks = s.marks := by obtain ⟨_, h⟩ := s.wrAll_eq o l; rw [h]
@[simp] theorem State.wrAll_resp (s : State) (o : Nat) (l : List Word) : (s.wrAll o l).resp = s.resp := by obtain ⟨_, h⟩ := s.wrAll_eq o l; rw [h]
@[simp] theorem State.wrAll_tick (s : State) (o : Nat) (l : List Word) : (s.wrAll o l).tick = s.tick := by obtain ⟨_, h⟩ := s.wrAll_eq o l; rw [h]
@[simp] theorem State.wrAll_refreshAt (s : State) (o : Nat) (l : List Word) : (s.wrAll o l).refreshAt = s.refreshAt := by obtain ⟨_, h⟩ := s.wrAll_eq o l; rw [h]
@[simp] theorem State.wrAll_pd1 (s : State) (o : Nat) (l : List Word) : (s.wrAll o l).pd1 = s.pd1 := by obtain ⟨_, h⟩ := s.wrAll_eq o l; rw [h]
@[simp] theorem State.wrAll_plt (s : State) (o : Nat) (l : List Word) : (s.wrAll o l).plt = s.plt := by obtain ⟨_, h⟩ := s.wrAll_eq o l; rw [h]
@[simp] theorem State.wrAll_tbs (s : State) (o : Nat) (l : List Word) : (s.wrAll o l).tbs = s.tbs := by obtain ⟨_, h⟩ := s.wrAll_eq o l; rw [h]
@[simp] theorem State.wrAll_bnd (s : State) (o : Nat) (l : List Word) : (s.wrAll o l).bnd = s.bnd := by obtain ⟨_, h⟩ := s.wrAll_eq o l; rw [h]
@[simp] theorem State.wrAll_cals (s : State) (o : Nat) (l : List Word) : (s.wrAll o l).cals = s.cals := by obtain ⟨_, h⟩ := s.wrAll_eq o l; rw [h]
@[simp] theorem State.wrAll_refs (s : State) (o : Nat) (l : List Word) : (s.wrAll o l).refs = s.refs := by obtain ⟨_, h⟩ := s.wrAll_eq o l; rw [h]
@[simp] theorem State.wrAll_sels (s : State) (o : Nat) (l : List Word) : (s.wrAll o l).sels = s.sels := by obtain ⟨_, h⟩ := s.wrAll_eq o l; rw [h]
@[simp] theorem State.wrAll_dplls (s : State) (o : Nat) (l : List Word) : (s.wrAll o l).dplls = s.dplls := by obtain ⟨_, h⟩ := s.wrAll_eq o l; rw [h]
@[simp] theorem State.wrAll_uart (s : State) (o : Nat) (l : List Word) : (s.wrAll o l).uart = s.uart := by obtain ⟨_, h⟩ := s.wrAll_eq o l; rw [h]
@[simp] theorem State.wrAll_tdc (s : State) (o : Nat) (l : List Word) : (s.wrAll o l).tdc = s.tdc := by obtain ⟨_, h⟩ := s.wrAll_eq o l; rw [h]
@[simp] theorem State.wrAll_ports (s : State) (o : Nat) (l : List Word) : (s.wrAll o l).ports = s.ports := by obtain ⟨_, h⟩ := s.wrAll_eq o l; rw [h]
@[simp] theorem State.wrAll_out (s : State) (o : Nat) (l : List Word) : (s.wrAll o l).out = s.out := by obtain ⟨_, h⟩ := s.wrAll_eq o l; rw [h]
@[simp] theorem State.wrAll_flt (s : State) (o : Nat) (l : List Word) : (s.wrAll o l).flt = s.flt := by obtain ⟨_, h⟩ := s.wrAll_eq o l; rw [h]
@[simp] theorem State.wrAll_svc (s : State) (o : Nat) (l : List Word) : (s.wrAll o l).svc = s.svc := by obtain ⟨_, h⟩ := s.wrAll_eq o l; rw [h]
@[simp] theorem State.wrAll_gnss (s : State) (o : Nat) (l : List Word) : (s.wrAll o l).gnss = s.gnss := by obtain ⟨_, h⟩ := s.wrAll_eq o l; rw [h]
@[simp] theorem State.wrAll_btb (s : State) (o : Nat) (l : List Word) : (s.wrAll o l).btb = s.btb := by obtain ⟨_, h⟩ := s.wrAll_eq o l; rw [h]
@[simp] theorem State.wrAll_wng (s : State) (o : Nat) (l : List Word) : (s.wrAll o l).wng = s.wng := by obtain ⟨_, h⟩ := s.wrAll_eq o l; rw [h]
@[simp] theorem State.wrAll_mem (s : State) (o : Nat) (l : List Word) : (s.wrAll o l).mem = s.mem := by obtain ⟨_, h⟩ := s.wrAll_eq o l; rw [h]
@[simp] theorem State.wrAll_key (s : State) (o : Nat) (l : List Word) : (s.wrAll o l).key = s.key := by obtain ⟨_, h⟩ := s.wrAll_eq o l; rw [h]
@[simp] theorem State.wrAll_otp (s : State) (o : Nat) (l : List Word) : (s.wrAll o l).otp = s.otp := by obtain ⟨_, h⟩ := s.wrAll_eq o l; rw [h]
@[simp] theorem State.wrAll_pwr (s : State) (o : Nat) (l : List Word) : (s.wrAll o l).pwr = s.pwr := by obtain ⟨_, h⟩ := s.wrAll_eq o l; rw [h]
@[simp] theorem State.wrAll_fv (s : State) (o : Nat) (l : List Word) : (s.wrAll o l).fv = s.fv := by obtain ⟨_, h⟩ := s.wrAll_eq o l; rw [h]
@[simp] theorem State.wrAll_pending (s : State) (o : Nat) (l : List Word) : (s.wrAll o l).pending = s.pending := by obtain ⟨_, h⟩ := s.wrAll_eq o l; rw [h]
@[simp] theorem State.wrAll_glb (s : State) (o : Nat) (l : List Word) : (s.wrAll o l).glb = s.glb := by obtain ⟨_, h⟩ := s.wrAll_eq o l; rw [h]

/-! ### State.hsetAll -/

@[simp] theorem State.hsetAll_marks (s : State) (m o : Nat) (l : List Word) : (s.hsetAll m o l).marks = s.marks := by obtain ⟨_, h⟩ := s.hsetAll_eq m o l; rw [h]
@[simp] theorem State.hsetAll_resp (s : State) (m o : Nat) (l : List Word) : (s.hsetAll m o l).resp = s.resp := by obtain ⟨_, h⟩ := s.hsetAll_eq m o l; rw [h]
@[simp] theorem State.hsetAll_tick (s : State) (m o : Nat) (l : List Word) : (s.hsetAll m o l).tick = s.tick := by obtain ⟨_, h⟩ := s.hsetAll_eq m o l; rw [h]
@[simp] theorem State.hsetAll_refreshAt (s : State) (m o : Nat) (l : List Word) : (s.hsetAll m o l).refreshAt = s.refreshAt := by obtain ⟨_, h⟩ := s.hsetAll_eq m o l; rw [h]
@[simp] theorem State.hsetAll_pd1 (s : State) (m o : Nat) (l : List Word) : (s.hsetAll m o l).pd1 = s.pd1 := by obtain ⟨_, h⟩ := s.hsetAll_eq m o l; rw [h]
@[simp] theorem State.hsetAll_plt (s : State) (m o : Nat) (l : List Word) : (s.hsetAll m o l).plt = s.plt := by obtain ⟨_, h⟩ := s.hsetAll_eq m o l; rw [h]
@[simp] theorem State.hsetAll_tbs (s : State) (m o : Nat) (l : List Word) : (s.hsetAll m o l).tbs = s.tbs := by obtain ⟨_, h⟩ := s.hsetAll_eq m o l; rw [h]
@[simp] theorem State.hsetAll_bnd (s : State) (m o : Nat) (l : List Word) : (s.hsetAll m o l).bnd = s.bnd := by obtain ⟨_, h⟩ := s.hsetAll_eq m o l; rw [h]
@[simp] theorem State.hsetAll_cals (s : State) (m o : Nat) (l : List Word) : (s.hsetAll m o l).cals = s.cals := by obtain ⟨_, h⟩ := s.hsetAll_eq m o l; rw [h]
@[simp] theorem State.hsetAll_refs (s : State) (m o : Nat) (l : List Word) : (s.hsetAll m o l).refs = s.refs := by obtain ⟨_, h⟩ := s.hsetAll_eq m o l; rw [h]
@[simp] theorem State.hsetAll_sels (s : State) (m o : Nat) (l : List Word) : (s.hsetAll m o l).sels = s.sels := by obtain ⟨_, h⟩ := s.hsetAll_eq m o l; rw [h]
@[simp] theorem State.hsetAll_dplls (s : State) (m o : Nat) (l : List Word) : (s.hsetAll m o l).dplls = s.dplls := by obtain ⟨_, h⟩ := s.hsetAll_eq m o l; rw [h]
@[simp] theorem State.hsetAll_uart (s : State) (m o : Nat) (l : List Word) : (s.hsetAll m o l).uart = s.uart := by obtain ⟨_, h⟩ := s.hsetAll_eq m o l; rw [h]
@[simp] theorem State.hsetAll_tdc (s : State) (m o : Nat) (l : List Word) : (s.hsetAll m o l).tdc = s.tdc := by obtain ⟨_, h⟩ := s.hsetAll_eq m o l; rw [h]
@[simp] theorem State.hsetAll_ports (s : State) (m o : Nat) (l : List Word) : (s.hsetAll m o l).ports = s.ports := by obtain ⟨_, h⟩ := s.hsetAll_eq m o l; rw [h]
@[simp] theorem State.hsetAll_out (s : State) (m o : Nat) (l : List Word) : (s.hsetAll m o l).out = s.out := by obtain ⟨_, h⟩ := s.hsetAll_eq m o l; rw [h]
@[simp] theorem State.hsetAll_flt (s : State) (m o : Nat) (l : List Word) : (s.hsetAll m o l).flt = s.flt := by obtain ⟨_, h⟩ := s.hsetAll_eq m o l; rw [h]
@[simp] theorem State.hsetAll_svc (s : State) (m o : Nat) (l : List Word) : (s.hsetAll m o l).svc = s.svc := by obtain ⟨_, h⟩ := s.hsetAll_eq m o l; rw [h]
@[simp] theorem State.hsetAll_gnss (s : State) (m o : Nat) (l : List Word) : (s.hsetAll m o l).gnss = s.gnss := by obtain ⟨_, h⟩ := s.hsetAll_eq m o l; rw [h]
@[simp] theorem State.hsetAll_btb (s : State) (m o : Nat) (l : List Word) : (s.hsetAll m o l).btb = s.btb := by obtain ⟨_, h⟩ := s.hsetAll_eq m o l; rw [h]
@[simp] theorem State.hsetAll_wng (s : State) (m o : Nat) (l : List Word) : (s.hsetAll m o l).wng = s.wng := by obtain ⟨_, h⟩ := s.hsetAll_eq m o l; rw [h]
@[simp] theorem State.hsetAll_mem (s : State) (m o : Nat) (l : List Word) : (s.hsetAll m o l).mem = s.mem := by obtain ⟨_, h⟩ := s.hsetAll_eq m o l; rw [h]
@[simp] theorem State.hsetAll_key (s : State) (m o : Nat) (l : List Word) : (s.hsetAll m o l).key = s.key := by obtain ⟨_, h⟩ := s.hsetAll_eq m o l; rw [h]
@[simp] theorem State.hsetAll_otp (s : State) (m o : Nat) (l : List Word) : (s.hsetAll m o l).otp = s.otp := by obtain ⟨_, h⟩ := s.hsetAll_eq m o l; rw [h]
@[simp] theorem State.hsetAll_pwr (s : State) (m o : Nat) (l : List Word) : (s.hsetAll m o l).pwr = s.pwr := by obtain ⟨_, h⟩ := s.hsetAll_eq m o l; rw [h]
@[simp] theorem State.hsetAll_fv (s : State) (m o : Nat) (l : List Word) : (s.hsetAll m o l).fv = s.fv := by obtain ⟨_, h⟩ := s.hsetAll_eq m o l; rw [h]
@[simp] theorem State.hsetAll_pending (s : State) (m o : Nat) (l : List Word) : (s.hsetAll m o l).pending = s.pending := by obtain ⟨_, h⟩ := s.hsetAll_eq m o l; rw [h]
@[simp] theorem State.hsetAll_glb (s : State) (m o : Nat) (l : List Word) : (s.hsetAll m o l).glb = s.glb := by obtain ⟨_, h⟩ := s.hsetAll_eq m o l; rw [h]
@[simp] theorem State.hsetAll_regs (s : State) (m o : Nat) (l : List Word) : (s.hsetAll m o l).regs = s.regs := by obtain ⟨_, h⟩ := s.hsetAll_eq m o l; rw [h]

end Sys2Proof.Machine
end

