-- ==== Sys2Proof/Laws/Bus.lean ====
section
/-! SUPPORT. Sys2Proof/Laws/Bus.lean: which path an access of the bus takes, and what the paths without behaviour of their own do. -/
namespace Sys2Proof.Machine

variable {s : State} {m : Master} {o : Nat} {v : Word} {d : RegDesc}

/-- A write of a master with no pending pair, to a register that is not DNG, is served as it stands. -/
theorem State.busWrite_plain (hv : m.isVf = false) (hp : s.pwr.por = false) (hn : s.pair m.idx = none) (ho : o < 0x120000)
    (hd : isDngAt o = false) : s.busWrite m o v = s.regWrite m o v := by
  unfold State.busWrite
  have e : s.pairFail m.idx = s := by unfold State.pairFail; rw [hn]
  cases m <;> simp_all [Master.isVf, show ¬ 0x800000 ≤ o by omega, show ¬ 0x120000 ≤ o by omega]

/-- A write to a DNG register arms a pair. -/
theorem State.busWrite_dng (hv : m.isVf = false) (hp : s.pwr.por = false) (hn : s.pair m.idx = none) (ho : o < 0x120000)
    (hd : isDngAt o = true) : s.busWrite m o v = s.pairArm m.idx o v := by
  unfold State.busWrite
  have e : s.pairFail m.idx = s := by unfold State.pairFail; rw [hn]
  cases m <;> simp_all [Master.isVf, show ¬ 0x800000 ≤ o by omega, show ¬ 0x120000 ≤ o by omega]

/-- A write to the complement of the pending pair's address. -/
theorem State.busWrite_complement {p : DngPair} (hv : m.isVf = false) (hp : s.pwr.por = false) (hn : s.pair m.idx = some p)
    (ho : o = 0x800000 + p.off) (hlt : p.off < 0x120000) :
    s.busWrite m o v = if v = ~~~ p.value then (s.setPair m.idx none).regWrite m p.off p.value else s.pairFail m.idx := by
  subst ho
  have hc : s.complement m p.off v = if v = ~~~ p.value then (s.setPair m.idx none).regWrite m p.off p.value else s.pairFail m.idx := by
    unfold State.complement; rw [hn]
  have h8 : 0x800000 ≤ 0x800000 + p.off := by omega
  have h9 : ¬ 0x920000 ≤ 0x800000 + p.off := by omega
  have hs : 0x800000 + p.off - 0x800000 = p.off := by omega
  have hoff : p.off + 0x800000 = 0x800000 + p.off := by omega
  unfold State.busWrite
  rw [← hc]
  cases m with
  | vf x => cases hv
  | _ => simp only [hp, hn, hoff, hs, h8, h9, decide_true, if_true, if_false, Bool.false_eq_true]

/-- A write to an offset that no block decodes, with no pending pair. -/
theorem State.busWrite_miss (hv : m.isVf = false) (hp : s.pwr.por = false) (hn : s.pair m.idx = none)
    (ho : 0x120000 ≤ o ∧ o < 0x800000 ∨ 0x920000 ≤ o) : s.busWrite m o v = s.decodeMiss m o true := by
  have e : s.pairFail m.idx = s := by unfold State.pairFail; rw [hn]
  unfold State.busWrite
  cases m with
  | vf x => cases hv
  | _ =>
    simp only [hp, hn, e, if_false, Bool.false_eq_true]
    rcases ho with h | h
    · rw [if_neg (by omega), if_pos h.1]
    · rw [if_pos (by omega), if_pos h]

/-- A read below 0x12_0000. -/
theorem State.busRead_reg (hv : m.isVf = false) (hp : s.pwr.por = false) (ho : o < 0x120000) : s.busRead m o = s.regRead m o := by
  unfold State.busRead
  cases m with
  | vf x => cases hv
  | _ => simp only [hp, if_false, Bool.false_eq_true]; rw [if_neg (by omega), if_neg (by omega)]

/-- A read of the complement aperture. -/
theorem State.busRead_complement (hv : m.isVf = false) (hp : s.pwr.por = false) (ho : o < 0x120000) :
    s.busRead m (0x800000 + o) = s.complementRead m o := by
  unfold State.busRead
  cases m with
  | vf x => cases hv
  | _ =>
    simp only [hp, if_false, Bool.false_eq_true]
    rw [if_pos (by omega), if_neg (by omega), Nat.add_sub_cancel_left]

/-- A read of an offset that no block decodes. -/
theorem State.busRead_miss (hv : m.isVf = false) (hp : s.pwr.por = false) (ho : 0x120000 ≤ o ∧ o < 0x800000 ∨ 0x920000 ≤ o) :
    s.busRead m o = s.decodeMiss m o false := by
  unfold State.busRead
  cases m with
  | vf x => cases hv
  | _ =>
    simp only [hp, if_false, Bool.false_eq_true]
    rcases ho with h | h
    · rw [if_neg (by omega), if_pos h.1]
    · rw [if_pos (by omega), if_pos h]

/-- A plain register takes the written RW fields. -/
theorem State.writePlain_rw (hd : findReg o = some d) (hr : d.isRsq = false) (hm : d.perMaster = false) (hc : s.checkWrite m o v = none) :
    s.writePlain m o v = (s.wr o (d.merge (s.rd o) v)).irqRise s (o / 0x10000) := by
  unfold State.writePlain
  rw [State.guardW_ok hc]
  simp [hd, hr, State.plainWrite, hm]

/-- An RSQ register compares SEQ. -/
theorem State.writePlain_rsq (hd : findReg o = some d) (hr : d.isRsq = true) (hc : s.checkWrite m o v = none) :
    s.writePlain m o v = s.rsqWrite o v := by
  unfold State.writePlain
  rw [State.guardW_ok hc]
  simp [hd, hr]

theorem fset_whole (w v : Word) : fset w 0 32 (fget v 0 32) = v := by
  apply BitVec.eq_of_getLsbD_eq
  intro i hi
  rw [fset_getLsbD _ _ _ _ _ (by omega), if_pos (by omega), fget_testBit]
  simp [hi]

/-- A register of one 32-bit RW field, held per master. -/
theorem State.writePlain_held (hd : findReg o = some d) (hr : d.isRsq = false) (hm : d.perMaster = true)
    (hf : d.fields.map (fun f => (f.lo, f.wd, f.acc)) = [(0, 32, .rw)]) (hc : s.checkWrite m o v = none) :
    s.writePlain m o v = (s.hset m.idx o v).mark m.idx o true := by
  unfold State.writePlain
  rw [State.guardW_ok hc]
  have : d.merge (s.hget m.idx o) v = v := by
    unfold RegDesc.merge
    cases h : d.fields with
    | nil => rw [h] at hf; cases hf
    | cons f l =>
      rw [h] at hf
      cases l with
      | nil =>
        simp only [List.map_cons, List.map_nil, List.cons.injEq, Prod.mk.injEq, and_true] at hf
        simp [hf.1, hf.2.1, hf.2.2, fset_whole]
      | cons a b => simp at hf
  simp [hd, hr, State.plainWrite, hm, this]

theorem fget_rsqSet (w : Word) (mask : Nat) : fget (rsqSet w mask) 24 8 = (fget w 24 8 + 1) % 256 := by
  unfold rsqSet
  exact fget_fset_self _ _ _ _ (by omega)

theorem rsqSet_getLsbD (w : Word) (mask b : Nat) (h : b < 24) : (rsqSet w mask).getLsbD b = (w.getLsbD b || mask.testBit b) := by
  unfold rsqSet
  rw [fset_getLsbD _ _ _ _ _ (by omega), if_neg (by omega), BitVec.getLsbD_or, BitVec.getLsbD_ofNat, Nat.testBit_mod_two_pow]
  simp [h, show b < 32 by omega]

theorem fset_zero (w : Word) : fset w 0 32 0 = 0 := by
  apply BitVec.eq_of_getLsbD_eq
  intro i hi
  rw [fset_getLsbD _ _ _ _ _ (by omega), if_pos (by omega)]
  simp

/-- A read of a register that is one RC field clears it. -/
theorem State.readClears_rc {i : Nat} (hd : findReg o = some d) (hf : d.fields.map (fun f => (f.lo, f.wd, f.acc)) = [(0, 32, .rc)])
    (ha : s.absent o = false) (ho : o ≠ 0x0900B4) : s.readClears i o = s.wr o 0 := by
  unfold State.readClears
  rw [hd]
  cases h : d.fields with
  | nil => rw [h] at hf; cases hf
  | cons f l =>
    rw [h] at hf
    cases l with
    | nil =>
      simp only [List.map_cons, List.map_nil, List.cons.injEq, Prod.mk.injEq, and_true] at hf
      simp [RegDesc.isRc, RegDesc.cleared, h, hf.1, hf.2.1, hf.2.2, ha, ho, fset_zero]
    | cons a b => simp at hf

/-- It reads what it holds. -/
theorem State.value_rc {i : Nat} (hd : findReg o = some d) (hf : d.fields.map (fun f => (f.lo, f.wd, f.acc)) = [(0, 32, .rc)])
    (ha : s.absent o = false) (hv : s.view i o = none) (hm : d.perMaster = false) : s.value i o = s.rd o := by
  unfold State.value
  rw [hd]
  cases h : d.fields with
  | nil => rw [h] at hf; cases hf
  | cons f l =>
    rw [h] at hf
    cases l with
    | nil =>
      simp only [List.map_cons, List.map_nil, List.cons.injEq, Prod.mk.injEq, and_true] at hf
      simp [RegDesc.visible, h, hf.2.2, ha, hv, hm]
    | cons a b => simp at hf

/-- A field of a number. -/
theorem fget_ofNat (n lo wd : Nat) (h : lo + wd ≤ 32) : fget (BitVec.ofNat 32 n) lo wd = n / 2 ^ lo % 2 ^ wd := by
  apply Nat.eq_of_testBit_eq
  intro i
  rw [fget_testBit, BitVec.getLsbD_ofNat, Nat.testBit_mod_two_pow, Nat.testBit_div_two_pow]
  by_cases hi : i < wd
  · simp [hi, show lo + i < 32 by omega, Nat.add_comm]
  · simp [hi]

/-- A pair that fails leaves ERR_PAIR against its first half, and no other pair or record is touched. -/
theorem State.pairFail_some {i : Nat} {p : DngPair} (h : s.pair i = some p) :
    s.pairFail i = ((s.setPair i none).recordErr i .pair false true p.off).setLastErr p.off .pair := by unfold State.pairFail; rw [h]

end Sys2Proof.Machine
end

