-- ==== Sys2Proof/Laws/Kept.lean ====
section
/-! SUPPORT. Sys2Proof/Laws/Kept.lean: what every operation of the block keeps: the canonical form of its tables, the queue, and fuses that only move on. Every shared operation has one lemma `<operation>_kept`; the first ones stand here. -/
namespace Sys2Proof.Machine

/-- The state is canonical, its queue is `q`, and its fuses are those of `o` or have moved on from them. -/
def Kept (q : List Instr) (o : Otp) (s : State) : Prop :=
  s.canonical = true ∧ s.pending = q ∧ Otp.onward o s.otp

variable {q : List Instr} {o : Otp} {s t : State}

theorem Otp.onward_refl (o : Otp) : Otp.onward o o := ⟨Nat.le_refl _, id, id⟩

theorem Otp.onward_trans {a b c : Otp} (h : Otp.onward a b) (k : Otp.onward b c) : Otp.onward a c :=
  ⟨Nat.le_trans h.1 k.1, fun x => k.2.1 (h.2.1 x), fun x => k.2.2 (h.2.2 x)⟩

theorem State.kept_self (s : State) (h : s.canonical = true) : Kept s.pending s.otp s := ⟨h, rfl, Otp.onward_refl _⟩

/-- A state that agrees on the tables, the queue and the fuses is kept. -/
theorem Kept.of_eq (h : Kept q o s) (h1 : t.regs = s.regs) (h2 : t.held = s.held) (h3 : t.marks = s.marks) (h4 : t.resp = s.resp)
    (h5 : t.mem.sram = s.mem.sram) (h6 : t.pending = s.pending) (h7 : t.otp = s.otp) : Kept q o t := by
  unfold Kept State.canonical at *
  rw [h1, h2, h3, h4, h5, h6, h7]
  exact h

theorem Kept.ite {c : Prop} [Decidable c] {a b : State} (ha : Kept q o a) (hb : Kept q o b) : Kept q o (if c then a else b) := by
  split <;> assumption

theorem Kept.ite_snd {α : Type} {c : Prop} [Decidable c] {a b : α × State} (ha : Kept q o a.2) (hb : Kept q o b.2) :
    Kept q o (if c then a else b).2 := by
  split <;> assumption

theorem Kept.dite {c : Prop} [Decidable c] {a : c → State} {b : ¬c → State} (ha : ∀ h, Kept q o (a h)) (hb : ∀ h, Kept q o (b h)) :
    Kept q o (if h : c then a h else b h) := by
  split
  · exact ha _
  · exact hb _

theorem Kept.foldl {α : Type} {f : State → α → State} {l : List α} (h : Kept q o s)
    (hf : ∀ x a, Kept q o x → Kept q o (f x a)) : Kept q o (l.foldl f s) := by
  induction l generalizing s with
  | nil => exact h
  | cons a l ih => exact ih (hf s a h)

/-- A fold whose accumulator carries a state beside something else. -/
theorem Kept.foldl_fst {α β : Type} {f : State × β → α → State × β} {l : List α} {p : State × β} (h : Kept q o p.1)
    (hf : ∀ x a, Kept q o x.1 → Kept q o (f x a).1) : Kept q o (l.foldl f p).1 := by
  induction l generalizing p with
  | nil => exact h
  | cons a l ih => exact ih (hf p a h)

theorem Kept.foldl_snd {α β : Type} {f : β × State → α → β × State} {l : List α} {p : β × State} (h : Kept q o p.2)
    (hf : ∀ x a, Kept q o x.2 → Kept q o (f x a).2) : Kept q o (l.foldl f p).2 := by
  induction l generalizing p with
  | nil => exact h
  | cons a l ih => exact ih (hf p a h)

theorem Kept.next {F R : Type} (h : Kept q o s) (e : (Host.Outcome.next s : Host.Outcome State F R) = .next t) : Kept q o t := by
  injection e with e
  exact e ▸ h

/-- The state of a pair that a match has taken apart. -/
theorem Kept.pair {α : Type} {p : α × State} {a : α} (h : Kept q o p.2) (e : p = (a, s)) : Kept q o s := by
  subst e; exact h

/-- SRAM contents that stay canonical. -/
theorem Kept.mem (h : Kept q o s) {m : Mem} (hm : Memory.wf s.mem.sram = true → Memory.wf m.sram = true) : Kept q o { s with mem := m } := by
  unfold Kept State.canonical at *
  simp only [Bool.and_eq_true] at *
  exact ⟨⟨h.1.1, hm h.1.2⟩, h.2⟩

theorem State.modMem_kept {f : Mem → Mem} (h : Kept q o s) (hm : Memory.wf s.mem.sram = true → Memory.wf (f s.mem).sram = true) :
    Kept q o (s.modMem f) := Kept.mem h hm

/-- Fuses that move on. -/
theorem Kept.otp (h : Kept q o s) {p : Otp} (hp : Otp.onward s.otp p) : Kept q o { s with otp := p } :=
  ⟨h.1, h.2.1, Otp.onward_trans h.2.2 hp⟩

theorem State.wr_kept {off : Nat} {v : Word} (h : Kept q o s) : Kept q o (s.wr off v) := by
  unfold Kept State.canonical State.wr at *
  simp only [Bool.and_eq_true] at *
  exact ⟨⟨⟨⟨⟨Sparse.wf_set _ _ _ _ h.1.1.1.1.1, h.1.1.1.1.2⟩, h.1.1.1.2⟩, h.1.1.2⟩, h.1.2⟩, h.2⟩

theorem State.hset_kept {m off : Nat} {v : Word} (h : Kept q o s) : Kept q o (s.hset m off v) := by
  unfold Kept State.canonical State.hset at *
  simp only [Bool.and_eq_true] at *
  exact ⟨⟨⟨⟨⟨h.1.1.1.1.1, Sparse.wf_set _ _ _ _ h.1.1.1.1.2⟩, h.1.1.1.2⟩, h.1.1.2⟩, h.1.2⟩, h.2⟩

theorem State.mark_kept {m off : Nat} {b : Bool} (h : Kept q o s) : Kept q o (s.mark m off b) := by
  unfold Kept State.canonical State.mark at *
  simp only [Bool.and_eq_true] at *
  exact ⟨⟨⟨⟨⟨h.1.1.1.1.1, h.1.1.1.1.2⟩, Sparse.wf_set _ _ _ _ h.1.1.1.2⟩, h.1.1.2⟩, h.1.2⟩, h.2⟩

theorem State.answer_kept {m : Nat} {v : Word} (h : Kept q o s) : Kept q o (s.answer m v) := by
  unfold Kept State.canonical State.answer at *
  simp only [Bool.and_eq_true] at *
  exact ⟨⟨⟨⟨⟨h.1.1.1.1.1, h.1.1.1.1.2⟩, h.1.1.1.2⟩, Sparse.wf_set _ _ _ _ h.1.1.2⟩, h.1.2⟩, h.2⟩

theorem State.hsetAll_kept {m off : Nat} {l : List Word} (h : Kept q o s) : Kept q o (s.hsetAll m off l) := by
  induction l generalizing s off with
  | nil => exact h
  | cons v l ih => exact ih (State.hset_kept h)

theorem State.wrAll_kept {off : Nat} {l : List Word} (h : Kept q o s) : Kept q o (s.wrAll off l) := by
  induction l generalizing s off with
  | nil => exact h
  | cons v l ih => exact ih (State.wr_kept h)

theorem State.each_kept {n : Nat} {f : State → Fin n → State} (h : Kept q o s) (hf : ∀ x a, Kept q o x → Kept q o (f x a)) :
    Kept q o (s.each f) := Kept.foldl h hf

end Sys2Proof.Machine
end

