-- ==== Sys2Proof/Laws/KeptTiming.lean ====
section
/-! SUPPORT. Sys2Proof/Laws/KeptTiming.lean: what a command of clocks, time bases, outputs, the ledger, the servos, the TDC channels and the references keeps (Sys2Proof/Laws/Kept.lean): one lemma per operation and per meaning. -/
namespace Sys2Proof.Machine

variable {q : List Instr} {o : Otp} {s t : State}

/-! ### Sys2Proof/Machine/Ops.lean -/

theorem State.setFld_kept {s off lo wd n} (h : Kept q o s) : Kept q o (State.setFld s off lo wd n) := by unfold State.setFld; exact State.wr_kept (h)

theorem State.setBit_kept {s off i b} (h : Kept q o s) : Kept q o (State.setBit s off i b) := by unfold State.setBit; exact State.setFld_kept (h)

theorem State.tally_kept {s off n} (h : Kept q o s) : Kept q o (State.tally s off n) := by
  unfold State.tally
  extract_lets -merge y1
  split
  · exact Kept.of_eq (h) rfl rfl rfl rfl rfl rfl rfl
  · exact h

theorem State.bump_kept {s off n} (h : Kept q o s) : Kept q o (State.bump s off n) := by unfold State.bump; exact State.tally_kept (State.wr_kept (h))

theorem State.bumpSat_kept {s off n} (h : Kept q o s) : Kept q o (State.bumpSat s off n) := by unfold State.bumpSat; exact State.tally_kept (State.wr_kept (h))

theorem State.fresh_kept {s w} (h : Kept q o s) : Kept q o (State.fresh s w).2 := by unfold State.fresh; exact Kept.of_eq (h) rfl rfl rfl rfl rfl rfl rfl

theorem State.fire_kept {s b} (h : Kept q o s) : Kept q o (State.fire s b) := by
  unfold State.fire
  extract_lets -merge y1 y2 y3
  exact Kept.of_eq (h) rfl rfl rfl rfl rfl rfl rfl

theorem State.irqRise_kept {s before b} (h : Kept q o s) (_hs1 : Kept q o before) : Kept q o (State.irqRise s before b) := by
  unfold State.irqRise
  exact Kept.ite (State.fire_kept (h)) (h)

theorem State.raise_kept {s evt mask} (h : Kept q o s) : Kept q o (State.raise s evt mask) := by
  unfold State.raise
  exact Kept.ite (h) (State.irqRise_kept (State.wr_kept (h)) (h))

theorem State.rsqWrite_kept {s evt v} (h : Kept q o s) : Kept q o (State.rsqWrite s evt v) := by
  unfold State.rsqWrite
  extract_lets -merge y1
  have h2 : Kept q o y1 := Kept.ite (State.wr_kept (h)) (h)
  clear_value y1
  exact Kept.ite (State.fire_kept (h2)) (h2)

theorem State.recordErr_kept {s m e matrix write addr} (h : Kept q o s) : Kept q o (State.recordErr s m e matrix write addr) := by
  unfold State.recordErr
  extract_lets -merge y1 y2
  exact Kept.of_eq (h) rfl rfl rfl rfl rfl rfl rfl

theorem State.setLastErr_kept {s off e} (h : Kept q o s) : Kept q o (State.setLastErr s off e) := by
  unfold State.setLastErr
  split
  · exact State.setFld_kept (h)
  · exact h

theorem State.reject_kept {s m off e} (h : Kept q o s) : Kept q o (State.reject s m off e) := by
  unfold State.reject
  exact Kept.ite (h) (State.setLastErr_kept (State.recordErr_kept (h)))

theorem State.rejectRead_kept {s m off e} (h : Kept q o s) : Kept q o (State.rejectRead s m off e) := by
  unfold State.rejectRead
  exact Kept.ite (h) (State.answer_kept (State.recordErr_kept (h)))

theorem State.guardW_kept {s m off v k} (h : Kept q o s) (hf4 : ∀ x0, Kept q o x0 → Kept q o (k x0)) : Kept q o (State.guardW s m off v k) := by
  unfold State.guardW
  split
  · exact State.reject_kept (h)
  · exact hf4 _ (h)

theorem State.guardD_kept {s m off v k} (h : Kept q o s) (hf4 : ∀ x0, Kept q o x0 → Kept q o (k x0)) : Kept q o (State.guardD s m off v k) := by
  unfold State.guardD
  refine State.guardW_kept (h) ?_
  intro _ h1
  extract_lets -merge y2
  have h3 : Kept q o y2 := hf4 _ (h1)
  clear_value y2
  exact Kept.ite (State.wr_kept (h3)) (h3)

theorem State.plainWrite_kept {s m off v} (h : Kept q o s) : Kept q o (State.plainWrite s m off v) := by
  unfold State.plainWrite
  split
  · exact h
  · exact Kept.ite (State.mark_kept (State.hset_kept (h))) (State.irqRise_kept (State.wr_kept (h)) (h))

/-! ### Sys2Proof/Machine/Tb.lean -/

theorem State.modTb_kept {s n f} (h : Kept q o s) : Kept q o (State.modTb s n f) := by unfold State.modTb; exact Kept.of_eq (h) rfl rfl rfl rfl rfl rfl rfl

theorem State.tbEvent_kept {s n mask} (h : Kept q o s) : Kept q o (State.tbEvent s n mask) := by unfold State.tbEvent; exact State.raise_kept (h)

theorem State.ownerReject_kept {s m n off} (h : Kept q o s) : Kept q o (State.ownerReject s m n off) := by
  unfold State.ownerReject
  exact State.tbEvent_kept (State.reject_kept (h))

theorem State.tbIncLo_kept {s m n o1 v} (h : Kept q o s) : Kept q o (State.tbIncLo s m n o1 v) := by
  unfold State.tbIncLo
  exact State.guardW_kept (h) (fun _ h1 => Kept.ite (State.reject_kept (h1)) (State.mark_kept (State.hset_kept (h1))))

theorem State.tbIncHi_kept {s m n v} (h : Kept q o s) : Kept q o (State.tbIncHi s m n v) := by
  unfold State.tbIncHi
  refine State.guardW_kept (h) ?_
  intro _ h1
  split
  · exact State.reject_kept (h1)
  · exact Kept.ite (State.ownerReject_kept (h1)) (Kept.ite (State.reject_kept (h1)) (State.mark_kept (State.modTb_kept (h1))))

theorem State.tbStgIncHi_kept {s m n v} (h : Kept q o s) : Kept q o (State.tbStgIncHi s m n v) := by
  unfold State.tbStgIncHi
  refine State.guardW_kept (h) ?_
  intro _ h1
  extract_lets -merge y2
  split
  · exact State.reject_kept (h1)
  · exact State.mark_kept (State.setBit_kept (State.wr_kept (State.wr_kept (h1))))

theorem State.tbCtl_kept {s m n v} (h : Kept q o s) : Kept q o (State.tbCtl s m n v) := by
  unfold State.tbCtl
  extract_lets -merge y1
  exact State.guardW_kept (h) (fun _ h2 => Kept.ite (Kept.ite (State.reject_kept (h2)) (State.irqRise_kept (State.setBit_kept (h2)) (h2))) (Kept.ite (State.reject_kept (h2)) (Kept.ite (State.reject_kept (h2)) (State.modTb_kept (State.irqRise_kept (State.setBit_kept (h2)) (h2))))))

theorem State.tbStgCtl_kept {s m n v} (h : Kept q o s) : Kept q o (State.tbStgCtl s m n v) := by
  unfold State.tbStgCtl
  exact State.guardW_kept (h) (fun _ h1 => Kept.ite (State.reject_kept (h1)) (Kept.ite (State.reject_kept (h1)) (State.setBit_kept (State.setBit_kept (h1)))))

theorem State.stgValid_kept {s m off v} (h : Kept q o s) : Kept q o (State.stgValid s m off v) := by
  unfold State.stgValid
  exact State.guardW_kept (h) (fun _ h1 => State.wr_kept (h1))

theorem State.tbArmStep_kept {s m n back} (h : Kept q o s) : Kept q o (State.tbArmStep s m n back) := by
  unfold State.tbArmStep
  refine State.guardW_kept (h) ?_
  intro _ h1
  refine Kept.ite ?_ ?_
  · exact State.ownerReject_kept (h1)
  · split
    · exact State.reject_kept (h1)
    · exact State.modTb_kept (h1)

theorem State.tbCancelStep_kept {s m n} (h : Kept q o s) : Kept q o (State.tbCancelStep s m n) := by
  unfold State.tbCancelStep
  exact State.guardW_kept (h) (fun _ h1 => Kept.ite (State.ownerReject_kept (h1)) (Kept.ite (State.reject_kept (h1)) (Kept.ite (State.reject_kept (h1)) (State.tbEvent_kept (State.modTb_kept (h1))))))

theorem State.tbArmSlew_kept {s m n} (h : Kept q o s) : Kept q o (State.tbArmSlew s m n) := by
  unfold State.tbArmSlew
  refine State.guardW_kept (h) ?_
  intro _ h1
  refine Kept.ite ?_ ?_
  · exact State.ownerReject_kept (h1)
  · split
    · exact State.reject_kept (h1)
    · exact State.modTb_kept (h1)

theorem State.tbCancelSlew_kept {s m n} (h : Kept q o s) : Kept q o (State.tbCancelSlew s m n) := by
  unfold State.tbCancelSlew
  refine State.guardW_kept (h) ?_
  intro _ h1
  refine Kept.ite ?_ ?_
  · exact State.ownerReject_kept (h1)
  · refine Kept.ite ?_ ?_
    · exact State.reject_kept (h1)
    · split
      · exact State.reject_kept (h1)
      · exact State.modTb_kept (h1)

theorem State.tbCmd_kept {s m n v} (h : Kept q o s) : Kept q o (State.tbCmd s m n v) := by
  unfold State.tbCmd
  refine State.guardW_kept (h) ?_
  intro _ h1
  split
  · exact State.tbArmStep_kept (h1)
  · exact State.tbCancelStep_kept (h1)
  · exact State.tbArmSlew_kept (h1)
  · exact State.tbCancelSlew_kept (h1)
  · exact State.reject_kept (h1)

theorem State.leapCtl_kept {s m n v} (h : Kept q o s) : Kept q o (State.leapCtl s m n v) := by
  unfold State.leapCtl
  extract_lets -merge y1 y2
  refine State.guardW_kept (h) ?_
  intro _ h3
  refine Kept.ite ?_ ?_
  · exact State.reject_kept (h3)
  · refine Kept.ite ?_ ?_
    · exact State.reject_kept (h3)
    · refine Kept.ite ?_ ?_
      · exact State.setFld_kept (h3)
      · refine Kept.ite ?_ ?_
        · exact State.reject_kept (h3)
        · split
          · exact State.reject_kept (h3)
          · exact State.modTb_kept (State.setFld_kept (State.setFld_kept (h3)))

theorem State.leapAtW_kept {s m n hi v} (h : Kept q o s) : Kept q o (State.leapAtW s m n hi v) := by
  unfold State.leapAtW
  extract_lets -merge y1
  exact State.guardW_kept (h) (fun _ h2 => Kept.ite (State.reject_kept (h2)) (Kept.ite (State.reject_kept (h2)) (State.plainWrite_kept (h2))))

theorem execTbIncLoWrite_kept {m n v s} (h : Kept q o s) (e : execTbIncLoWrite m n v s = .next t) : Kept q o t := by
  unfold execTbIncLoWrite at e
  exact Kept.next (State.tbIncLo_kept (h)) e

theorem execTbIncHiWrite_kept {m n v s} (h : Kept q o s) (e : execTbIncHiWrite m n v s = .next t) : Kept q o t := by
  unfold execTbIncHiWrite at e
  exact Kept.next (State.tbIncHi_kept (h)) e

theorem execTbStgIncLoWrite_kept {m n v s} (h : Kept q o s) (e : execTbStgIncLoWrite m n v s = .next t) : Kept q o t := by
  unfold execTbStgIncLoWrite at e
  exact Kept.next (State.tbIncLo_kept (h)) e

theorem execTbStgIncHiWrite_kept {m n v s} (h : Kept q o s) (e : execTbStgIncHiWrite m n v s = .next t) : Kept q o t := by
  unfold execTbStgIncHiWrite at e
  exact Kept.next (State.tbStgIncHi_kept (h)) e

theorem execTbOwnerWrite_kept {m n v s} (h : Kept q o s) (e : execTbOwnerWrite m n v s = .next t) : Kept q o t := by
  unfold execTbOwnerWrite at e
  exact Kept.next (State.tbCtl_kept (h)) e

theorem execTbStgCtlWrite_kept {m n v s} (h : Kept q o s) (e : execTbStgCtlWrite m n v s = .next t) : Kept q o t := by
  unfold execTbStgCtlWrite at e
  exact Kept.next (State.tbStgCtl_kept (h)) e

theorem execStgValidDiscard_kept {m t1 v s} (h : Kept q o s) (e : execStgValidDiscard m t1 v s = .next t) : Kept q o t := by
  unfold execStgValidDiscard at e
  exact Kept.next (State.stgValid_kept (h)) e

theorem execArmStep_kept {m n back s} (h : Kept q o s) (e : execArmStep m n back s = .next t) : Kept q o t := by
  unfold execArmStep at e
  exact Kept.next (State.tbArmStep_kept (h)) e

theorem execCancelStep_kept {m n s} (h : Kept q o s) (e : execCancelStep m n s = .next t) : Kept q o t := by
  unfold execCancelStep at e
  exact Kept.next (State.tbCancelStep_kept (h)) e

theorem execArmSlew_kept {m n s} (h : Kept q o s) (e : execArmSlew m n s = .next t) : Kept q o t := by unfold execArmSlew at e; exact Kept.next (State.tbArmSlew_kept (h)) e

theorem execCancelSlew_kept {m n s} (h : Kept q o s) (e : execCancelSlew m n s = .next t) : Kept q o t := by
  unfold execCancelSlew at e
  exact Kept.next (State.tbCancelSlew_kept (h)) e

theorem execLeapCtlWrite_kept {m n v s} (h : Kept q o s) (e : execLeapCtlWrite m n v s = .next t) : Kept q o t := by
  unfold execLeapCtlWrite at e
  exact Kept.next (State.leapCtl_kept (h)) e

theorem execLeapAtWrite_kept {m n hi v s} (h : Kept q o s) (e : execLeapAtWrite m n hi v s = .next t) : Kept q o t := by
  unfold execLeapAtWrite at e
  exact Kept.next (State.leapAtW_kept (h)) e

/-! ### Sys2Proof/Machine/OutOps.lean -/

theorem State.modOut_kept {s k f} (h : Kept q o s) : Kept q o (State.modOut s k f) := by
  unfold State.modOut
  extract_lets -merge y1
  exact Kept.of_eq (h) rfl rfl rfl rfl rfl rfl rfl

theorem State.modApll_kept {s k f} (h : Kept q o s) : Kept q o (State.modApll s k f) := by
  unfold State.modApll
  extract_lets -merge y1
  exact Kept.of_eq (h) rfl rfl rfl rfl rfl rfl rfl

theorem State.modCue_kept {s c f} (h : Kept q o s) : Kept q o (State.modCue s c f) := by
  unfold State.modCue
  extract_lets -merge y1
  exact Kept.of_eq (h) rfl rfl rfl rfl rfl rfl rfl

theorem State.outEnter_kept {s k st} (h : Kept q o s) : Kept q o (State.outEnter s k st) := by
  unfold State.outEnter
  extract_lets -merge y1
  have h2 : Kept q o y1 := State.setFld_kept (h)
  clear_value y1
  exact Kept.ite (State.bump_kept (h2)) (h2)

theorem State.outLow_kept {s k} (h : Kept q o s) : Kept q o (State.outLow s k) := by unfold State.outLow; exact State.modOut_kept (h)

theorem State.outSettle_kept {s k} (h : Kept q o s) : Kept q o (State.outSettle s k) := by
  unfold State.outSettle
  refine Kept.ite ?_ ?_
  · exact h
  · split
    · exact h
    · exact Kept.ite (State.outEnter_kept (h)) (h)
    · exact Kept.ite (State.outEnter_kept (h)) (Kept.ite (h) (State.outEnter_kept (h)))
    · exact Kept.ite (State.outEnter_kept (h)) (Kept.ite (State.raise_kept (State.outEnter_kept (h))) (h))

theorem State.outHoldOff_kept {s k} (h : Kept q o s) : Kept q o (State.outHoldOff s k) := by
  unfold State.outHoldOff
  extract_lets -merge y1 y2 y3
  have h4 : Kept q o y2 := Kept.ite (State.raise_kept (State.setBit_kept (h))) (h)
  clear_value y2
  have h5 : Kept q o y3 := State.setBit_kept (State.modOut_kept (h4))
  clear_value y3
  exact Kept.ite (h) (h5)

theorem State.outRelease_kept {s k squelched} (h : Kept q o s) : Kept q o (State.outRelease s k squelched) := by
  unfold State.outRelease
  extract_lets -merge y1
  have h2 : Kept q o y1 := State.outEnter_kept (State.setBit_kept (h))
  clear_value y1
  refine Kept.ite ?_ ?_
  · exact h
  · refine Kept.ite ?_ ?_
    · exact State.outLow_kept (State.modOut_kept (h2))
    · split
      · exact State.setBit_kept (State.modOut_kept (h2))
      · exact h2

theorem State.outsHoldOff_kept {s f} (h : Kept q o s) : Kept q o (State.outsHoldOff s f) := by
  unfold State.outsHoldOff
  exact Kept.foldl (h) (fun _ _ h2 => Kept.ite (State.outHoldOff_kept (h2)) (h2))

theorem State.outsRelease_kept {s f} (h : Kept q o s) : Kept q o (State.outsRelease s f) := by
  unfold State.outsRelease
  exact Kept.foldl (h) (fun _ _ h2 => Kept.ite (State.outRelease_kept (h2)) (h2))

theorem State.outsSettle_kept {s} (h : Kept q o s) : Kept q o (State.outsSettle s) := by
  unfold State.outsSettle
  exact Kept.foldl (h) (fun _ _ h2 => State.outSettle_kept (h2))

theorem State.outEnable_kept {s k} (h : Kept q o s) : Kept q o (State.outEnable s k) := by
  unfold State.outEnable
  exact Kept.ite (State.modOut_kept (State.setBit_kept (State.setFld_kept (h)))) (State.outLow_kept (State.modOut_kept (State.outEnter_kept (h))))

theorem State.cueDisarmed_kept {s c} (h : Kept q o s) : Kept q o (State.cueDisarmed s c) := by
  unfold State.cueDisarmed
  exact State.wr_kept (State.setBit_kept (State.modCue_kept (h)))

theorem State.cueCancel_kept {s c counted} (h : Kept q o s) : Kept q o (State.cueCancel s c counted) := by
  unfold State.cueCancel
  extract_lets -merge y1
  have h2 : Kept q o y1 := State.cueDisarmed_kept (h)
  clear_value y1
  exact State.raise_kept (Kept.ite (State.bumpSat_kept (h2)) (h2))

theorem State.cueAdvance_kept {s c a n} (h : Kept q o s) : Kept q o (State.cueAdvance s c a n) := by
  unfold State.cueAdvance
  exact Kept.ite (State.raise_kept (State.cueDisarmed_kept (h))) (State.wr_kept (State.modCue_kept (h)))

theorem State.cuePulse_kept {s c w} (h : Kept q o s) : Kept q o (State.cuePulse s c w) := by
  unfold State.cuePulse
  exact State.bump_kept (State.setBit_kept (State.modCue_kept (h)))

theorem State.cueTick_kept {s c} (h : Kept q o s) : Kept q o (State.cueTick s c) := by
  unfold State.cueTick
  extract_lets -merge y1 y2
  split
  · exact h
  · extract_lets -merge y3 y4
    exact Kept.ite (State.cueCancel_kept (h)) (Kept.ite (h) (Kept.ite (State.cueAdvance_kept (State.raise_kept (State.bumpSat_kept (h)))) (Kept.ite (State.cueAdvance_kept (State.raise_kept (State.bumpSat_kept (h)))) (State.cueAdvance_kept (State.raise_kept (State.cuePulse_kept (h)))))))

theorem State.cueEnd_kept {s c} (h : Kept q o s) : Kept q o (State.cueEnd s c) := by
  unfold State.cueEnd
  split
  · exact h
  · exact Kept.ite (State.setBit_kept (State.modCue_kept (h))) (h)

theorem State.cuesCut_kept {s} (h : Kept q o s) : Kept q o (State.cuesCut s) := by
  unfold State.cuesCut
  exact Kept.foldl (h) (fun _ _ h2 => Kept.ite (State.setBit_kept (State.modCue_kept (h2))) (h2))

theorem State.cueReject_kept {s m c o1 e} (h : Kept q o s) : Kept q o (State.cueReject s m c o1 e) := by
  unfold State.cueReject
  exact Kept.ite (h) (State.setFld_kept (State.recordErr_kept (h)))

theorem State.cueArmCmd_kept {s m c} (h : Kept q o s) : Kept q o (State.cueArmCmd s m c) := by
  unfold State.cueArmCmd
  generalize State.cueCheck s m c 4 1 false = z
  generalize State.cueArmErr s c = z1
  cases z
  · cases z1
    · exact State.wr_kept (State.setBit_kept (State.modCue_kept (h)))
    · exact State.cueReject_kept (h)
  · exact State.cueReject_kept (h)

theorem State.cueDisarmCmd_kept {s m c} (h : Kept q o s) : Kept q o (State.cueDisarmCmd s m c) := by
  unfold State.cueDisarmCmd
  split
  · exact State.cueReject_kept (h)
  · exact State.modCue_kept (h)

theorem State.cueCmd_kept {s m c v} (h : Kept q o s) : Kept q o (State.cueCmd s m c v) := by
  unfold State.cueCmd
  split
  · exact State.cueArmCmd_kept (h)
  · exact State.cueDisarmCmd_kept (h)
  · split
    · exact State.cueReject_kept (h)
    · exact State.cueReject_kept (h)

theorem State.cueWrite_kept {s m c o1 v} (h : Kept q o s) : Kept q o (State.cueWrite s m c o1 v) := by
  unfold State.cueWrite
  refine Kept.ite ?_ ?_
  · exact State.cueCmd_kept (h)
  · split
    · exact State.cueReject_kept (h)
    · exact Kept.ite (State.rsqWrite_kept (h)) (State.plainWrite_kept (h))

/-! ### Sys2Proof/Machine/LedgerOps.lean -/

theorem State.modBnd_kept {s n f} (h : Kept q o s) : Kept q o (State.modBnd s n f) := by unfold State.modBnd; exact Kept.of_eq (h) rfl rfl rfl rfl rfl rfl rfl

theorem State.modCal_kept {s k f} (h : Kept q o s) : Kept q o (State.modCal s k f) := by unfold State.modCal; exact Kept.of_eq (h) rfl rfl rfl rfl rfl rfl rfl

theorem State.markRaise_kept {s n} (h : Kept q o s) : Kept q o (State.markRaise s n) := by
  unfold State.markRaise
  exact Kept.ite (h) (State.raise_kept (State.modBnd_kept (h)))

theorem State.rebase_kept {s n} (h : Kept q o s) : Kept q o (State.rebase s n) := by unfold State.rebase; exact State.modBnd_kept (h)

theorem State.untraceOne_kept {s n why} (h : Kept q o s) : Kept q o (State.untraceOne s n why) := by
  unfold State.untraceOne
  extract_lets -merge y1 y2
  have h3 : Kept q o y2 := State.modBnd_kept (h)
  clear_value y2
  exact Kept.ite (State.markRaise_kept (State.raise_kept (h3))) (h3)

theorem State.untrace_kept {s n why} (h : Kept q o s) : Kept q o (State.untrace s n why) := by
  unfold State.untrace
  extract_lets -merge y1
  have h2 : Kept q o y1 := State.untraceOne_kept (h)
  clear_value y1
  exact Kept.ite (h) (Kept.ite (Kept.foldl (h2) (fun _ _ h4 => Kept.ite (State.untraceOne_kept (h4)) (h4))) (h2))

theorem State.ledgerRise_kept {s n f} (h : Kept q o s) : Kept q o (State.ledgerRise s n f) := by
  unfold State.ledgerRise
  extract_lets -merge y1 y2 y3 y4 y5
  have h6 : Kept q o y4 := State.modBnd_kept (h)
  clear_value y4
  have h7 : Kept q o y5 := State.rebase_kept (State.modBnd_kept (h6))
  clear_value y5
  exact Kept.ite (h6) (Kept.ite (State.markRaise_kept (h7)) (h7))

theorem State.ledgerOffer_kept {s n f} (h : Kept q o s) : Kept q o (State.ledgerOffer s n f) := by unfold State.ledgerOffer; exact State.modBnd_kept (State.ledgerRise_kept (h))

theorem State.ledgerSwitch_kept {s n f} (h : Kept q o s) : Kept q o (State.ledgerSwitch s n f) := by
  unfold State.ledgerSwitch
  extract_lets -merge y1 y2 y3 y4 y5 y6
  have h7 : Kept q o y6 := State.rebase_kept (State.modBnd_kept (h))
  clear_value y6
  exact Kept.ite (State.markRaise_kept (h7)) (h7)

/-! ### Sys2Proof/Machine/ServoOps.lean -/

theorem State.modRef_kept {s n f} (h : Kept q o s) : Kept q o (State.modRef s n f) := by unfold State.modRef; exact Kept.of_eq (h) rfl rfl rfl rfl rfl rfl rfl

theorem State.modSel_kept {s d f} (h : Kept q o s) : Kept q o (State.modSel s d f) := by unfold State.modSel; exact Kept.of_eq (h) rfl rfl rfl rfl rfl rfl rfl

theorem State.modDpll_kept {s d f} (h : Kept q o s) : Kept q o (State.modDpll s d f) := by unfold State.modDpll; exact Kept.of_eq (h) rfl rfl rfl rfl rfl rfl rfl

theorem State.setRemain_kept {s d r} (h : Kept q o s) : Kept q o (State.setRemain s d r) := by unfold State.setRemain; exact State.wr_kept (State.modSel_kept (h))

theorem State.dpllEnter_kept {s d st} (h : Kept q o s) : Kept q o (State.dpllEnter s d st) := by
  unfold State.dpllEnter
  extract_lets -merge y1 y2 y3 y4 y5
  have h6 : Kept q o y1 := State.setFld_kept (h)
  clear_value y1
  have h7 : Kept q o y5 := State.modDpll_kept (State.setBit_kept (State.setFld_kept (h6)))
  clear_value y5
  split
  · exact Kept.ite (h7) (State.modBnd_kept (h7))
  · exact h7

theorem State.dpllEvent_kept {s d mask} (h : Kept q o s) : Kept q o (State.dpllEvent s d mask) := by unfold State.dpllEvent; exact State.raise_kept (h)

theorem State.acquire_kept {s d n k} (h : Kept q o s) : Kept q o (State.acquire s d n k) := by
  unfold State.acquire
  extract_lets -merge y1 y2
  have h3 : Kept q o y1 := State.setBit_kept (State.setFld_kept (State.dpllEnter_kept (h)))
  clear_value y1
  have h4 : Kept q o y2 := State.modSel_kept (h3)
  clear_value y2
  split
  · exact State.modSel_kept (State.setRemain_kept (h3))
  · extract_lets -merge y5
    have h6 : Kept q o y5 := State.setBit_kept (State.setRemain_kept (h4))
    clear_value y5
    exact Kept.ite (State.modDpll_kept (State.modTb_kept (h4))) (Kept.ite (State.raise_kept (h6)) (h6))

theorem State.ledgerToSlot_kept {s d n k hold} (h : Kept q o s) : Kept q o (State.ledgerToSlot s d n k hold) := by
  unfold State.ledgerToSlot
  extract_lets -merge y1
  have h2 : Kept q o y1 := State.modBnd_kept (State.ledgerSwitch_kept (h))
  clear_value y1
  exact Kept.ite (State.untrace_kept (h2)) (h2)

theorem State.dpllInc_kept {s n y} (h : Kept q o s) : Kept q o (State.dpllInc s n y) := by unfold State.dpllInc; exact Kept.ite (h) (State.modTb_kept (h))

theorem State.showCv_kept {s d o1 y} (h : Kept q o s) : Kept q o (State.showCv s d o1 y) := by unfold State.showCv; exact State.wr_kept (State.wr_kept (h))

theorem State.dpllHoldover_kept {s d} (h : Kept q o s) : Kept q o (State.dpllHoldover s d) := by
  unfold State.dpllHoldover
  extract_lets -merge y1 y2 y3
  have h4 : Kept q o y2 := State.setBit_kept (State.dpllEvent_kept (State.showCv_kept (State.showCv_kept (State.setFld_kept (State.dpllEnter_kept (h))))))
  clear_value y2
  split
  · exact h4
  · extract_lets -merge y5 y6 y7 y8
    have h9 : Kept q o y5 := State.dpllInc_kept (h4)
    clear_value y5
    have h10 : Kept q o y6 := Kept.ite (h9) (State.modBnd_kept (h9))
    clear_value y6
    have h11 : Kept q o y7 := State.ledgerRise_kept (h10)
    clear_value y7
    have h12 : Kept q o y8 := State.modBnd_kept (h11)
    clear_value y8
    exact Kept.ite (h12) (Kept.ite (h12) (State.untrace_kept (h12)))

theorem State.dpllRelease_kept {s d} (h : Kept q o s) : Kept q o (State.dpllRelease s d) := by
  unfold State.dpllRelease
  exact State.modDpll_kept (State.setBit_kept (State.setFld_kept (State.dpllEnter_kept (h))))

theorem State.dpllFree_kept {s d integ} (h : Kept q o s) : Kept q o (State.dpllFree s d integ) := by
  unfold State.dpllFree
  exact State.modDpll_kept (State.dpllEnter_kept (h))

theorem State.holdoverExit_kept {s d n k r} (h : Kept q o s) : Kept q o (State.holdoverExit s d n k r) := by
  unfold State.holdoverExit
  extract_lets -merge y1 y2 y3 y4
  clear_value y3
  have h5 : Kept q o y4 := State.modDpll_kept (State.dpllEvent_kept (State.setFld_kept (h)))
  clear_value y4
  split
  · exact State.acquire_kept (State.modBnd_kept (State.untrace_kept (h5)))
  · exact Kept.ite (State.ledgerToSlot_kept (State.acquire_kept (h5))) (State.acquire_kept (State.modBnd_kept (State.dpllEvent_kept (State.untrace_kept (h5)))))

theorem State.dpllTake_kept {s d k} (h : Kept q o s) : Kept q o (State.dpllTake s d k) := by
  unfold State.dpllTake
  split
  · split
    · exact h
    · extract_lets -merge y1
      have h2 : Kept q o y1 := Kept.ite (State.dpllEvent_kept (State.setFld_kept (h))) (h)
      clear_value y1
      exact State.modDpll_kept (State.setFld_kept (State.dpllEnter_kept (h2)))
  · split
    · exact h
    · split
      · exact State.modSel_kept (h)
      · exact State.holdoverExit_kept (h)
    · exact State.ledgerToSlot_kept (State.acquire_kept (h))

theorem State.dpllLose_kept {s d} (h : Kept q o s) : Kept q o (State.dpllLose s d) := by
  unfold State.dpllLose
  exact Kept.ite (State.dpllHoldover_kept (h)) (State.modDpll_kept (h))

theorem State.selEval_kept {s d} (h : Kept q o s) : Kept q o (State.selEval s d) := by
  unfold State.selEval
  extract_lets -merge y1
  have h2 : Kept q o y1 := Kept.ite (State.raise_kept (h)) (h)
  clear_value y1
  split
  · split
    · exact h2
    · exact State.dpllLose_kept (State.raise_kept (State.setBit_kept (State.setBit_kept (h2))))
  · extract_lets -merge y3 y4
    have h5 : Kept q o y3 := State.setBit_kept (State.setFld_kept (State.setFld_kept (h2)))
    clear_value y3
    have h6 : Kept q o y4 := State.raise_kept (State.bump_kept (State.modSel_kept (h5)))
    clear_value y4
    exact Kept.ite (h2) (State.dpllTake_kept (h6))

theorem State.selEvalAll_kept {s} (h : Kept q o s) : Kept q o (State.selEvalAll s) := by unfold State.selEvalAll; exact Kept.foldl (h) (fun _ _ h2 => State.selEval_kept (h2))

theorem State.selFollow_kept {s before} (h : Kept q o s) (_hs1 : Kept q o before) : Kept q o (State.selFollow s before) := by
  unfold State.selFollow
  refine Kept.foldl (h) (fun x1 _ h2 => ?_)
  split
  · exact h2
  · exact Kept.ite (State.selEval_kept (h2)) (h2)

theorem State.refEnter_kept {s k st} (h : Kept q o s) : Kept q o (State.refEnter s k st) := by
  unfold State.refEnter
  exact Kept.ite (h) (State.raise_kept (State.setFld_kept (h)))

theorem State.calSettle_kept {s kind idx} (h : Kept q o s) : Kept q o (State.calSettle s kind idx) := by
  unfold State.calSettle
  refine Kept.foldl (h) (fun x1 _ h2 => ?_)
  split
  · exact h2
  · exact Kept.ite (State.setBit_kept (State.modCal_kept (h2))) (h2)

theorem State.refLive_kept {s k on off} (h : Kept q o s) : Kept q o (State.refLive s k on off) := by
  unfold State.refLive
  extract_lets -merge y1 y2 y3
  exact Kept.ite (h) (State.raise_kept (State.setFld_kept (h)))

theorem State.identify_kept {s k} (h : Kept q o s) : Kept q o (State.identify s k) := by
  unfold State.identify
  exact Kept.ite (State.modRef_kept (State.refLive_kept (h))) (h)

theorem State.refSettle_kept {s k} (h : Kept q o s) : Kept q o (State.refSettle s k) := by
  unfold State.refSettle
  extract_lets -merge y1 y2 y3
  have h4 : Kept q o y3 := State.identify_kept (State.calSettle_kept (State.setBit_kept (State.refEnter_kept (h))))
  clear_value y3
  split
  · exact Kept.ite (State.modRef_kept (h)) (Kept.ite (h) (State.modRef_kept (h)))
  · exact Kept.ite (State.refEnter_kept (h)) (Kept.ite (State.modRef_kept (State.refEnter_kept (h))) (h))
  · exact Kept.ite (State.refEnter_kept (h)) (State.modRef_kept (h))
  · exact Kept.ite (State.modRef_kept (h4)) (h)
  · exact h

theorem State.refMonitor_kept {s k on off} (h : Kept q o s) : Kept q o (State.refMonitor s k on off) := by
  unfold State.refMonitor
  extract_lets -merge y1
  have h2 : Kept q o y1 := State.refSettle_kept (State.refLive_kept (h))
  clear_value y1
  exact Kept.ite (State.selFollow_kept (State.selEvalAll_kept (h2)) (h)) (h2)

/-! ### Sys2Proof/Machine/TdcOps.lean -/

theorem State.modTdc_kept {s n f} (h : Kept q o s) : Kept q o (State.modTdc s n f) := by
  unfold State.modTdc
  extract_lets -merge y1
  exact Kept.of_eq (h) rfl rfl rfl rfl rfl rfl rfl

theorem State.setFifo_kept {s n f} (h : Kept q o s) : Kept q o (State.setFifo s n f) := by
  unfold State.setFifo
  exact State.irqRise_kept (State.setFld_kept (State.modTdc_kept (h))) (h)

theorem State.tdcMiss_kept {s n k} (h : Kept q o s) : Kept q o (State.tdcMiss s n k) := by unfold State.tdcMiss; exact State.bumpSat_kept (h)

theorem State.tdcPush_kept {s n recs} (h : Kept q o s) : Kept q o (State.tdcPush s n recs) := by
  unfold State.tdcPush
  extract_lets -merge y1
  exact Kept.ite (State.bumpSat_kept (h)) (State.setFifo_kept (h))

theorem State.tdcPeriodic_kept {s n} (h : Kept q o s) : Kept q o (State.tdcPeriodic s n) := by
  unfold State.tdcPeriodic
  extract_lets -merge y1 y2 y3
  exact State.tdcMiss_kept (State.modTdc_kept (h))

theorem State.tdcClose_kept {s n st stop} (h : Kept q o s) : Kept q o (State.tdcClose s n st stop) := by
  unfold State.tdcClose
  extract_lets -merge y1 y2 y3
  have h4 : Kept q o y2 := State.setBit_kept (State.tdcPush_kept (h))
  clear_value y2
  have h5 : Kept q o y3 := State.modTdc_kept (h4)
  clear_value y3
  exact Kept.ite (State.setBit_kept (h5)) (Kept.ite (State.tdcPeriodic_kept (h5)) (h5))

theorem State.tdcTryOpen_kept {s n} (h : Kept q o s) : Kept q o (State.tdcTryOpen s n) := by
  unfold State.tdcTryOpen
  extract_lets -merge y1
  exact Kept.ite (State.setBit_kept (State.modTdc_kept (h))) (h)

theorem State.tdcTryStart_kept {s n} (h : Kept q o s) : Kept q o (State.tdcTryStart s n) := by
  unfold State.tdcTryStart
  extract_lets -merge y1 y2 y3 y4 y5
  exact Kept.ite (State.modTdc_kept (h)) (h)

theorem State.tdcTryClose_kept {s n} (h : Kept q o s) : Kept q o (State.tdcTryClose s n) := by
  unfold State.tdcTryClose
  extract_lets -merge y1
  split
  · exact Kept.ite (Kept.ite (State.tdcClose_kept (h)) (State.modTdc_kept (State.setBit_kept (h)))) (h)
  · split
    · exact Kept.ite (State.tdcClose_kept (h)) (h)
    · exact h

theorem State.tdcTryTimeout_kept {s n} (h : Kept q o s) : Kept q o (State.tdcTryTimeout s n) := by
  unfold State.tdcTryTimeout
  extract_lets -merge y1
  exact Kept.ite (State.tdcClose_kept (h)) (h)

theorem State.tdcTick_kept {s} (h : Kept q o s) : Kept q o (State.tdcTick s) := by
  unfold State.tdcTick
  refine Kept.foldl (h) (fun x1 _ h2 => ?_)
  extract_lets -merge y3
  exact State.tdcTryClose_kept (State.tdcTryTimeout_kept (State.tdcTryStart_kept (State.tdcTryOpen_kept (h2))))

theorem State.tdcStop_kept {s n e} (h : Kept q o s) : Kept q o (State.tdcStop s n e) := by
  unfold State.tdcStop
  extract_lets -merge y1 y2
  exact Kept.ite (State.tdcMiss_kept (h)) (Kept.ite (State.tdcMiss_kept (State.modTdc_kept (h))) (State.modTdc_kept (h)))

theorem State.tdcEdgeAt_kept {s i tap fall sat} (h : Kept q o s) : Kept q o (State.tdcEdgeAt s i tap fall sat) := by
  unfold State.tdcEdgeAt
  extract_lets -merge y1 y2 y3 y4 y5
  have h8 : Kept q o y4 := Kept.foldl (h) (fun _ _ h7 => Kept.ite (State.modTdc_kept (h7)) (h7))
  clear_value y4
  exact Kept.ite (h8) (Kept.ite (State.tdcStop_kept (State.modTdc_kept (h8))) (State.modTdc_kept (h8)))

theorem State.tdcGuard_kept {s m n o1 v k} (h : Kept q o s) (hf5 : ∀ x0, Kept q o x0 → Kept q o (k x0)) : Kept q o (State.tdcGuard s m n o1 v k) := by
  unfold State.tdcGuard
  exact State.guardW_kept (h) (fun _ h1 => Kept.ite (hf5 _ (h1)) (State.reject_kept (h1)))

theorem State.tdcConfig_kept {s m n o1 v} (h : Kept q o s) : Kept q o (State.tdcConfig s m n o1 v) := by
  unfold State.tdcConfig
  exact State.tdcGuard_kept (h) (fun _ h1 => Kept.ite (State.reject_kept (h1)) (Kept.ite (State.reject_kept (h1)) (State.plainWrite_kept (h1))))

theorem State.tdcArmCmd_kept {s m n} (h : Kept q o s) : Kept q o (State.tdcArmCmd s m n) := by
  unfold State.tdcArmCmd
  refine State.tdcGuard_kept (h) ?_
  intro _ h1
  extract_lets -merge y2
  split
  · exact State.reject_kept (h1)
  · exact State.setBit_kept (State.modTdc_kept (h1))

theorem State.tdcDisarmCmd_kept {s m n} (h : Kept q o s) : Kept q o (State.tdcDisarmCmd s m n) := by
  unfold State.tdcDisarmCmd
  exact State.tdcGuard_kept (h) (fun _ h1 => Kept.ite (State.modTdc_kept (h1)) (h1))

theorem State.tdcFlushCmd_kept {s m n} (h : Kept q o s) : Kept q o (State.tdcFlushCmd s m n) := by
  unfold State.tdcFlushCmd
  exact State.tdcGuard_kept (h) (fun _ h1 => State.setFifo_kept (h1))

theorem State.tdcCmd_kept {s m n v} (h : Kept q o s) : Kept q o (State.tdcCmd s m n v) := by
  unfold State.tdcCmd
  split
  · exact State.tdcArmCmd_kept (h)
  · exact State.tdcDisarmCmd_kept (h)
  · exact State.tdcFlushCmd_kept (h)
  · exact State.tdcGuard_kept (h) (fun _ h1 => State.reject_kept (h1))

theorem State.tdcFifoRead_kept {s m n} (h : Kept q o s) : Kept q o (State.tdcFifoRead s m n) := by
  unfold State.tdcFifoRead
  split
  · exact State.rejectRead_kept (h)
  · split
    · exact State.answer_kept (h)
    · exact State.answer_kept (State.hset_kept (State.setFifo_kept (h)))

theorem State.tdcTickRead_kept {s m} (h : Kept q o s) : Kept q o (State.tdcTickRead s m) := by
  unfold State.tdcTickRead
  split
  · exact State.rejectRead_kept (h)
  · exact State.answer_kept (State.hset_kept (h))

theorem State.laneWindow_kept {s g edge} (h : Kept q o s) : Kept q o (State.laneWindow s g edge) := by
  unfold State.laneWindow
  extract_lets -merge y1 y2 y3
  split
  · exact h
  · extract_lets -merge y4
    clear_value y4
    exact State.modTdc_kept (h)

/-! ### Sys2Proof/Machine/RefOps.lean -/

theorem State.refClear_kept {s k bits} (h : Kept q o s) : Kept q o (State.refClear s k bits) := by
  unfold State.refClear
  extract_lets -merge y1 y2 y3
  have h4 : Kept q o y1 := State.refLive_kept (h)
  clear_value y1
  have h5 : Kept q o y2 := Kept.ite (State.identify_kept (h4)) (h4)
  clear_value y2
  have h6 : Kept q o y3 := State.refSettle_kept (h5)
  clear_value y3
  exact Kept.ite (h) (Kept.ite (State.selFollow_kept (State.selEvalAll_kept (h6)) (h)) (h6))

theorem State.refArrive_kept {s k} (h : Kept q o s) : Kept q o (State.refArrive s k) := by
  unfold State.refArrive
  exact Kept.ite (h) (State.refClear_kept (State.modRef_kept (h)))

theorem State.refSilent_kept {s k} (h : Kept q o s) : Kept q o (State.refSilent s k) := by unfold State.refSilent; exact Kept.ite (h) (State.refMonitor_kept (h))

theorem State.refsOn_kept {s f g} (h : Kept q o s) (hf2 : ∀ x0 x1, Kept q o x0 → Kept q o (g x0 x1)) : Kept q o (State.refsOn s f g) := by
  unfold State.refsOn
  exact Kept.foldl (h) (fun _ _ h2 => Kept.ite (hf2 _ _ (h2)) (h2))

theorem State.refTerm_kept {s d k fall} (h : Kept q o s) : Kept q o (State.refTerm s d k fall) := by
  unfold State.refTerm
  split
  · exact h
  · exact Kept.ite (State.untrace_kept (h)) (Kept.ite (h) (Kept.ite (State.ledgerOffer_kept (h)) (State.ledgerRise_kept (h))))

theorem State.setEffQ_kept {s d k q1} (h : Kept q o s) : Kept q o (State.setEffQ s d k q1) := by
  unfold State.setEffQ
  extract_lets -merge y1
  exact State.refTerm_kept (State.modSel_kept (h))

theorem State.selQuality_kept {s d k q1} (h : Kept q o s) : Kept q o (State.selQuality s d k q1) := by
  unfold State.selQuality
  exact Kept.ite (State.setEffQ_kept (h)) (State.modSel_kept (h))

theorem State.advertise_kept {s k q1 raw} (h : Kept q o s) : Kept q o (State.advertise s k q1 raw) := by
  unfold State.advertise
  extract_lets -merge y1 y2 y3
  have h4 : Kept q o y1 := State.setFld_kept (State.setFld_kept (h))
  clear_value y1
  have h7 : Kept q o y2 := Kept.foldl (h4) (fun _ _ h6 => State.selQuality_kept (h6))
  clear_value y2
  exact Kept.ite (h4) (State.selFollow_kept (State.selEvalAll_kept (State.refSettle_kept (State.refLive_kept (h7)))) (h))

theorem State.qholdEnd_kept {s d k} (h : Kept q o s) : Kept q o (State.qholdEnd s d k) := by
  unfold State.qholdEnd
  extract_lets -merge y1
  have h2 : Kept q o y1 := State.setEffQ_kept (h)
  clear_value y1
  split
  · exact h
  · exact Kept.ite (State.selFollow_kept (State.selEval_kept (h2)) (h)) (h)

theorem State.compSwitch_kept {s k} (h : Kept q o s) : Kept q o (State.compSwitch s k) := by
  unfold State.compSwitch
  refine Kept.foldl (h) (fun x1 _ h2 => ?_)
  extract_lets -merge y3
  have h4 : Kept q o y3 := State.raise_kept (State.bump_kept (h2))
  clear_value y3
  split
  · exact h2
  · exact Kept.ite (State.ledgerToSlot_kept (State.acquire_kept (h4))) (h4)

theorem State.firstPhase_kept {s k} (h : Kept q o s) : Kept q o (State.firstPhase s k) := by
  unfold State.firstPhase
  refine Kept.foldl (h) (fun x1 _ h2 => ?_)
  refine Kept.ite ?_ ?_
  · split
    · exact h2
    · refine Kept.ite ?_ ?_
      · split
        · exact State.holdoverExit_kept (State.modSel_kept (h2))
        · exact h2
      · exact Kept.ite (State.ledgerToSlot_kept (State.acquire_kept (h2))) (h2)
  · exact h2

theorem State.refSample_kept {s k raw tick touched} (h : Kept q o s) : Kept q o (State.refSample s k raw tick touched) := by
  unfold State.refSample
  extract_lets -merge y1 y2 y3 y4 y5 y6 y7
  have h8 : Kept q o y5 := State.modRef_kept (h)
  clear_value y5
  have h9 : Kept q o y6 := Kept.ite (State.compSwitch_kept (h8)) (h8)
  clear_value y6
  have h10 : Kept q o y7 := State.refArrive_kept (State.refMonitor_kept (h9))
  clear_value y7
  exact Kept.ite (h) (State.selFollow_kept (State.firstPhase_kept (h10)) (h))

theorem State.pairStarts_kept {s} (h : Kept q o s) : Kept q o (State.pairStarts s) := by
  unfold State.pairStarts
  extract_lets -merge y1 y2 y3
  exact Kept.of_eq (h) rfl rfl rfl rfl rfl rfl rfl

theorem State.pairCompare_kept {s} (h : Kept q o s) : Kept q o (State.pairCompare s) := by
  unfold State.pairCompare
  extract_lets -merge y1 y2 y3
  have h6 : Kept q o y1 := Kept.foldl (h) (fun _ _ h5 => State.modRef_kept (h5))
  clear_value y1
  have h7 : Kept q o y3 := Kept.of_eq (h6) rfl rfl rfl rfl rfl rfl rfl
  clear_value y3
  exact Kept.ite (h) (State.pairStarts_kept (h7))

theorem State.pairRead_kept {s m} (h : Kept q o s) : Kept q o (State.pairRead s m) := by
  unfold State.pairRead
  extract_lets -merge y1 y2
  split
  · exact State.rejectRead_kept (h)
  · exact State.answer_kept (State.hsetAll_kept (h))

theorem State.ensOne_kept {s i} (h : Kept q o s) : Kept q o (State.ensOne s i) := by
  unfold State.ensOne
  extract_lets -merge y1 y2 y3 y4 y5 y6
  clear_value y1
  clear_value y2
  have h7 : Kept q o y5 := State.setBit_kept (h)
  clear_value y5
  have h8 : Kept q o y6 := State.modRef_kept (h7)
  clear_value y6
  exact Kept.ite (h) (State.refLive_kept (h8))

theorem State.ensemble_kept {s} (h : Kept q o s) : Kept q o (State.ensemble s) := by
  unfold State.ensemble
  extract_lets -merge y1 y2 y3
  have h6 : Kept q o y1 := Kept.foldl (h) (fun _ _ h5 => State.ensOne_kept (h5))
  clear_value y1
  have h9 : Kept q o y2 := Kept.foldl (h6) (fun _ _ h8 => State.refSettle_kept (h8))
  clear_value y2
  have h12 : Kept q o y3 := by
    unfold y3
    refine Kept.foldl (h9) (fun x10 _ h11 => ?_)
    split
    · exact Kept.ite (State.refTerm_kept (h11)) (h11)
    · exact h11
  clear_value y3
  exact State.selFollow_kept (State.selEvalAll_kept (h12)) (h)

/-! ### Sys2Proof/Machine/DpllOps.lean -/

theorem State.loopSlew_kept {s d n} (h : Kept q o s) : Kept q o (State.loopSlew s d n) := by
  unfold State.loopSlew
  extract_lets -merge y1 y2 y3 y4
  exact Kept.ite (h) (Kept.ite (State.fresh_kept (State.fresh_kept (h))) (State.modTb_kept (State.fresh_kept (State.fresh_kept (h)))))

theorem State.control_kept {s d} (h : Kept q o s) : Kept q o (State.control s d) := by
  unfold State.control
  extract_lets -merge y1 y2 y3 y4 y5 y6 y7 y8 y9 y10 y11 y12 y13 y14
  have h15 : Kept q o y10 := State.modDpll_kept (State.showCv_kept (State.fresh_kept (State.fresh_kept (h))))
  clear_value y10
  have h16 : Kept q o y12 := State.setBit_kept (h15)
  clear_value y12
  have h17 : Kept q o y13 := Kept.ite (State.dpllEvent_kept (h16)) (h16)
  clear_value y13
  have h18 : Kept q o y14 := State.setBit_kept (h17)
  clear_value y14
  split
  · exact Kept.ite (State.loopSlew_kept (h18)) (State.dpllInc_kept (h18))
  · split
    · exact State.modApll_kept (h18)
    · exact h18

theorem State.bwShow_kept {s d k} (h : Kept q o s) : Kept q o (State.bwShow s d k) := by
  unfold State.bwShow
  extract_lets -merge y1
  exact State.setFld_kept (h)

theorem State.timeSet_kept {s d} (h : Kept q o s) : Kept q o (State.timeSet s d) := by
  unfold State.timeSet
  split
  · split
    · exact Kept.ite (State.modDpll_kept (State.modTb_kept (h))) (h)
    · exact h
  · exact h

theorem State.lockStep_kept {s d e fe} (h : Kept q o s) : Kept q o (State.lockStep s d e fe) := by
  unfold State.lockStep
  exact Kept.ite (State.timeSet_kept (State.dpllEvent_kept (State.dpllEnter_kept (h)))) (State.modDpll_kept (h))

theorem State.pullOn_kept {s d} (h : Kept q o s) : Kept q o (State.pullOn s d) := by
  unfold State.pullOn
  extract_lets -merge y1 y2 y3
  exact Kept.ite (h) (State.setRemain_kept (State.fresh_kept (h)))

theorem State.firstSample_kept {s n ps} (h : Kept q o s) : Kept q o (State.firstSample s n ps) := by
  unfold State.firstSample
  exact Kept.ite (h) (Kept.ite (State.modBnd_kept (h)) (State.modBnd_kept (h)))

theorem State.verifiedSample_kept {s d n k res rem} (h : Kept q o s) : Kept q o (State.verifiedSample s d n k res rem) := by
  unfold State.verifiedSample
  extract_lets -merge y1 y2 y3 y4 y5 y6 y7 y8
  have h9 : Kept q o y4 := Kept.ite (State.modBnd_kept (State.ledgerToSlot_kept (h))) (h)
  clear_value y4
  have h10 : Kept q o y5 := State.modDpll_kept (h9)
  clear_value y5
  have h11 : Kept q o y7 := State.ledgerOffer_kept (h10)
  clear_value y7
  have h12 : Kept q o y8 := Kept.ite (State.ledgerRise_kept (h11)) (h11)
  clear_value y8
  exact State.modBnd_kept (h12)

theorem State.track_kept {s d k fe} (h : Kept q o s) : Kept q o (State.track s d k fe) := by
  unfold State.track
  extract_lets -merge y1 y2
  have h3 : Kept q o y1 := State.pullOn_kept (h)
  clear_value y1
  split
  · split
    · exact h
    · extract_lets -merge y4
      exact State.lockStep_kept (State.control_kept (State.bwShow_kept (State.wr_kept (h))))
  · split
    · exact h
    · extract_lets -merge y5 y6 y7 y8 y9 y10
      have h11 : Kept q o y7 := State.bwShow_kept (State.wr_kept (h3))
      clear_value y7
      have h12 : Kept q o y8 := Kept.ite (h11) (State.verifiedSample_kept (h11))
      clear_value y8
      have h13 : Kept q o y9 := State.firstSample_kept (h12)
      clear_value y9
      have h14 : Kept q o y10 := Kept.ite (State.modDpll_kept (h13)) (State.control_kept (h13))
      clear_value y10
      exact State.lockStep_kept (h14)

theorem State.dpllUpdate_kept {s d fe} (h : Kept q o s) : Kept q o (State.dpllUpdate s d fe) := by
  unfold State.dpllUpdate
  refine Kept.ite ?_ ?_
  · exact h
  · split
    · exact State.track_kept (h)
    · exact State.track_kept (h)
    · exact Kept.ite (State.control_kept (h)) (h)
    · exact h

theorem State.lockAchieved_kept {s d} (h : Kept q o s) : Kept q o (State.lockAchieved s d) := by
  unfold State.lockAchieved
  split
  · exact h
  · exact Kept.ite (State.dpllEvent_kept (State.dpllEnter_kept (h))) (h)

theorem State.fwEngage_kept {s d} (h : Kept q o s) : Kept q o (State.fwEngage s d) := by
  unfold State.fwEngage
  exact Kept.ite (State.dpllEvent_kept (State.setFld_kept (h))) (h)

theorem State.fwLost_kept {s d} (h : Kept q o s) : Kept q o (State.fwLost s d) := by unfold State.fwLost; exact Kept.ite (State.dpllEvent_kept (State.setFld_kept (h))) (h)

theorem State.modelFit_kept {s d x y dd uy ud res span} (h : Kept q o s) : Kept q o (State.modelFit s d x y dd uy ud res span) := by
  unfold State.modelFit
  extract_lets -merge y1 y2 y3 y4
  have h5 : Kept q o y2 := State.wrAll_kept (h)
  clear_value y2
  have h6 : Kept q o y3 := State.setBit_kept (State.setBit_kept (h5))
  clear_value y3
  have h7 : Kept q o y4 := State.modDpll_kept (h6)
  clear_value y4
  exact Kept.ite (h) (Kept.ite (State.setBit_kept (h7)) (h7))

theorem State.ppsCheck_kept {s ps} (h : Kept q o s) : Kept q o (State.ppsCheck s ps) := by
  unfold State.ppsCheck
  exact Kept.ite (h) (Kept.foldl (h) (fun _ _ h2 => Kept.ite (h2) (State.fwLost_kept (State.wr_kept (State.setFld_kept (h2))))))

theorem State.uartTick_kept {s} (h : Kept q o s) : Kept q o (State.uartTick s) := by
  unfold State.uartTick
  extract_lets -merge y1 y2 y3 y4
  split
  · exact h
  · exact Kept.of_eq (h) rfl rfl rfl rfl rfl rfl rfl
  · extract_lets -merge y5
    have h6 : Kept q o y5 := Kept.of_eq (h) rfl rfl rfl rfl rfl rfl rfl
    clear_value y5
    exact Kept.ite (State.setFld_kept (h6)) (h)

/-! ### Sys2Proof/Machine/BndOps.lean -/

theorem State.firstBound_kept {s n d k} (h : Kept q o s) : Kept q o (State.firstBound s n d k) := by
  unfold State.firstBound
  extract_lets -merge y1 y2 y3
  exact State.raise_kept (State.rebase_kept (State.modBnd_kept (h)))

theorem State.firstStep_kept {s n} (h : Kept q o s) : Kept q o (State.firstStep s n) := by
  unfold State.firstStep
  refine Kept.ite ?_ ?_
  · exact h
  · refine Kept.ite ?_ ?_
    · exact State.modBnd_kept (h)
    · split
      · exact State.modBnd_kept (h)
      · refine Kept.ite ?_ ?_
        · split
          · exact h
          · split
            · exact h
            · exact State.firstBound_kept (h)
        · exact h

theorem State.specStep_kept {s n} (h : Kept q o s) : Kept q o (State.specStep s n) := by
  unfold State.specStep
  split
  · exact h
  · extract_lets -merge y1 y2 y3
    have h4 : Kept q o y3 := State.setBit_kept (h)
    clear_value y3
    exact Kept.ite (State.dpllEvent_kept (h4)) (h4)

theorem State.saturation_kept {s n} (h : Kept q o s) : Kept q o (State.saturation s n) := by
  unfold State.saturation
  extract_lets -merge y1 y2 y3
  have h4 : Kept q o y3 := State.modBnd_kept (h)
  clear_value y3
  exact Kept.ite (State.raise_kept (h4)) (h4)

theorem State.refreshOne_kept {s n tb0} (h : Kept q o s) : Kept q o (State.refreshOne s n tb0) := by
  unfold State.refreshOne
  extract_lets -merge y1 y2 y3 y4 y5 y6 y7
  have h8 : Kept q o y3 := State.modBnd_kept (h)
  clear_value y3
  have h9 : Kept q o y6 := State.modBnd_kept (h8)
  clear_value y6
  have h10 : Kept q o y7 := Kept.ite (State.markRaise_kept (h9)) (h9)
  clear_value y7
  exact Kept.ite (h) (State.specStep_kept (State.firstStep_kept (State.saturation_kept (h10))))

theorem State.refreshAll_kept {s} (h : Kept q o s) : Kept q o (State.refreshAll s) := by
  unfold State.refreshAll
  extract_lets -merge y1 y2 y3 y4
  have h5 : Kept q o y2 := State.refreshOne_kept (h)
  clear_value y2
  have h8 : Kept q o y4 := Kept.foldl (h5) (fun _ _ h7 => Kept.ite (h7) (State.refreshOne_kept (h7)))
  clear_value y4
  exact State.selFollow_kept (Kept.of_eq (h8) rfl rfl rfl rfl rfl rfl rfl) (h)

theorem State.refreshTick_kept {s} (h : Kept q o s) : Kept q o (State.refreshTick s) := by unfold State.refreshTick; exact Kept.ite (State.refreshAll_kept (h)) (h)

theorem State.checkFail_kept {s n} (h : Kept q o s) : Kept q o (State.checkFail s n) := by
  unfold State.checkFail
  exact State.selFollow_kept (State.untrace_kept (State.raise_kept (h))) (h)

/-! ### Sys2Proof/Machine/TbTick.lean -/

theorem State.setOwner_kept {s n host} (h : Kept q o s) : Kept q o (State.setOwner s n host) := by
  unfold State.setOwner
  extract_lets -merge y1 y2 y3 y4
  have h5 : Kept q o y2 := State.modTb_kept (State.setBit_kept (h))
  clear_value y2
  have h6 : Kept q o y3 := State.tbEvent_kept (h5)
  clear_value y3
  have h7 : Kept q o y4 := by
    unfold y4
    split
    · exact h6
    · exact Kept.ite (State.dpllRelease_kept (h6)) (Kept.ite (h6) (State.dpllFree_kept (h6)))
  clear_value y4
  exact Kept.ite (h) (Kept.ite (State.untrace_kept (h7)) (h7))

theorem State.commitTb_kept {s n} (h : Kept q o s) : Kept q o (State.commitTb s n) := by
  unfold State.commitTb
  extract_lets -merge y1 y2
  have h3 : Kept q o y1 := Kept.ite (State.modTb_kept (h)) (h)
  clear_value y1
  have h4 : Kept q o y2 := Kept.ite (State.setOwner_kept (h3)) (h3)
  clear_value y2
  exact State.setFld_kept (h4)

theorem State.ownTb_kept {s n} (h : Kept q o s) : Kept q o (State.ownTb s n) := by
  unfold State.ownTb
  split
  · exact h
  · exact State.modTb_kept (State.setOwner_kept (h))

theorem State.incTb_kept {s n} (h : Kept q o s) : Kept q o (State.incTb s n) := by
  unfold State.incTb
  split
  · exact h
  · exact Kept.ite (State.modTb_kept (h)) (State.tbEvent_kept (State.modTb_kept (h)))

theorem State.formTb_kept {s n sum stp sl} (h : Kept q o s) : Kept q o (State.formTb s n sum stp sl) := by
  unfold State.formTb
  extract_lets -merge y1 y2 y3 y4 y5 y6 y7 y8
  have h9 : Kept q o y6 := State.modTb_kept (h)
  clear_value y6
  have h10 : Kept q o y7 := Kept.ite (State.setBit_kept (State.wr_kept (h9))) (h9)
  clear_value y7
  have h11 : Kept q o y8 := Kept.ite (State.setFld_kept (h10)) (h10)
  clear_value y8
  exact State.tbEvent_kept (h11)

theorem State.advance0_kept {s} (h : Kept q o s) : Kept q o (State.advance0 s) := by
  unfold State.advance0
  extract_lets -merge y1 y2 y3 y4 y5 y6 y7 y8 y9
  exact State.formTb_kept (h)

theorem State.advance_kept {s n eff} (h : Kept q o s) : Kept q o (State.advance s n eff) := by
  unfold State.advance
  extract_lets -merge y1 y2 y3 y4 y5
  exact State.formTb_kept (h)

theorem State.pairTick_kept {s n} (h : Kept q o s) : Kept q o (State.pairTick s n) := by
  unfold State.pairTick
  extract_lets -merge y1 y2 y3 y4
  have h6 : Kept q o y1 := by
    unfold y1
    refine Kept.ite ?_ ?_
    · extract_lets -merge y5
      exact Kept.of_eq (Kept.ite (Kept.ite (State.commitTb_kept (h)) (State.commitTb_kept (State.commitTb_kept (h)))) (h)) rfl rfl rfl rfl rfl rfl rfl
    · exact h
  clear_value y1
  have h7 : Kept q o y2 := State.incTb_kept (State.ownTb_kept (h6))
  clear_value y2
  have h8 : Kept q o y3 := State.incTb_kept (State.ownTb_kept (h7))
  clear_value y3
  have h9 : Kept q o y4 := State.advance0_kept (h8)
  clear_value y4
  exact Kept.ite (State.advance0_kept (h7)) (State.advance_kept (h9))

theorem State.foresee_kept {n : Fin 64} {k : Nat} (h : Kept q o s) : Kept q o (s.foresee n k) := by
  induction k generalizing s with
  | zero => exact h
  | succ k ih => exact ih (State.pairTick_kept h)

end Sys2Proof.Machine
end

