-- ==== Sys2Proof/Laws/KeptLinks.lean ====
section
/-! SUPPORT. Sys2Proof/Laws/KeptLinks.lean: what a command of the bridges, the GNSS links, power, the ports and the key store keeps (Sys2Proof/Laws/Kept.lean): one lemma per operation and per meaning. -/
namespace Sys2Proof.Machine

variable {q : List Instr} {o : Otp} {s t : State}

/-! ### Sys2Proof/Machine/Btb.lean -/

theorem State.modBtb_kept {s b f} (h : Kept q o s) : Kept q o (State.modBtb s b f) := by
  unfold State.modBtb
  extract_lets -merge y1
  exact Kept.of_eq (h) rfl rfl rfl rfl rfl rfl rfl

theorem State.btbEnter_kept {s b st} (h : Kept q o s) : Kept q o (State.btbEnter s b st) := by unfold State.btbEnter; exact State.setFld_kept (h)

theorem State.btbMaskOn_kept {s b m} (h : Kept q o s) : Kept q o (State.btbMaskOn s b m) := by
  unfold State.btbMaskOn
  exact State.raise_kept (State.setFld_kept (State.modBtb_kept (h)))

theorem State.btbApply_kept {s b} (h : Kept q o s) : Kept q o (State.btbApply s b) := by
  unfold State.btbApply
  extract_lets -merge y1 y2 y3
  exact Kept.ite (State.modBtb_kept (State.wr_kept (h))) (State.modBtb_kept (State.wr_kept (State.wr_kept (h))))

theorem State.btbPauseEdge_kept {s b} (h : Kept q o s) : Kept q o (State.btbPauseEdge s b) := by
  unfold State.btbPauseEdge
  extract_lets -merge y1 y2 y3 y4 y5 y6 y7
  clear_value y3
  have h8 : Kept q o y6 := Kept.ite (State.modBtb_kept (h)) (h)
  clear_value y6
  have h9 : Kept q o y7 := State.setBit_kept (State.setFld_kept (h8))
  clear_value y7
  exact Kept.ite (State.raise_kept (h9)) (h9)

theorem State.btbMaskEdge_kept {s b} (h : Kept q o s) : Kept q o (State.btbMaskEdge s b) := by
  unfold State.btbMaskEdge
  split
  · exact h
  · exact Kept.ite (State.btbMaskOn_kept (h)) (h)

theorem State.btbEdge_kept {s b t1 mfi idle} (h : Kept q o s) : Kept q o (State.btbEdge s b t1 mfi idle) := by
  unfold State.btbEdge
  extract_lets -merge y1 y2 y3 y4 y5
  have h6 : Kept q o y2 := State.setFld_kept (State.btbPauseEdge_kept (State.btbMaskEdge_kept (h)))
  clear_value y2
  have h7 : Kept q o y5 := State.modBtb_kept (h6)
  clear_value y5
  exact State.wr_kept (State.wrAll_kept (State.bump_kept (State.setBit_kept (h7))))

theorem State.btbRun_kept {s b t1} (h : Kept q o s) : Kept q o (State.btbRun s b t1) := by
  unfold State.btbRun
  exact State.raise_kept (State.btbEdge_kept (State.modBtb_kept (State.btbEnter_kept (h))))

theorem State.btbStep_kept {s b} (h : Kept q o s) : Kept q o (State.btbStep s b) := by
  unfold State.btbStep
  exact Kept.ite (State.raise_kept (State.bump_kept (State.modBtb_kept (h)))) (h)

theorem State.btbCommon_kept {s} (h : Kept q o s) : Kept q o (State.btbCommon s) := by
  unfold State.btbCommon
  extract_lets -merge y1 y2
  have h3 : Kept q o y2 := Kept.of_eq (h) rfl rfl rfl rfl rfl rfl rfl
  clear_value y2
  split
  · exact h
  · extract_lets -merge y4
    exact Kept.ite (h) (Kept.foldl (State.setBit_kept (h3)) (fun _ _ h6 => Kept.ite (State.btbRun_kept (h6)) (h6)))

theorem State.btbMaster_kept {s b} (h : Kept q o s) : Kept q o (State.btbMaster s b) := by
  unfold State.btbMaster
  extract_lets -merge y1 y2 y3
  refine Kept.ite ?_ ?_
  · exact h
  · split
    · split
      · exact Kept.ite (State.btbRun_kept (h)) (h)
      · exact h
    · split
      · exact Kept.ite (State.btbEdge_kept (State.modBtb_kept (h))) (State.btbEdge_kept (h))
      · exact State.btbEdge_kept (h)
    · exact h

theorem State.btbTick_kept {s} (h : Kept q o s) : Kept q o (State.btbTick s) := by
  unfold State.btbTick
  extract_lets -merge y1
  have h4 : Kept q o y1 := Kept.foldl (h) (fun _ _ h3 => State.btbStep_kept (h3))
  clear_value y1
  exact Kept.foldl (State.btbCommon_kept (h4)) (fun _ _ h6 => State.btbMaster_kept (h6))

theorem State.btbFs_kept {s b periods ps} (h : Kept q o s) : Kept q o (State.btbFs s b periods ps) := by
  unfold State.btbFs
  refine Kept.ite ?_ ?_
  · exact h
  · split
    · split
      · exact State.modBtb_kept (h)
      · exact Kept.ite (State.modBtb_kept (h)) (Kept.ite (State.modBtb_kept (h)) (State.btbRun_kept (State.modBtb_kept (h))))
    · exact Kept.ite (State.btbEdge_kept (h)) (State.raise_kept (State.bumpSat_kept (State.modBtb_kept (State.btbEnter_kept (h)))))
    · exact h

theorem State.btbClkLoss_kept {s b} (h : Kept q o s) : Kept q o (State.btbClkLoss s b) := by
  unfold State.btbClkLoss
  refine Kept.ite ?_ ?_
  · exact h
  · split
    · exact State.raise_kept (State.bumpSat_kept (State.modBtb_kept (State.btbEnter_kept (h))))
    · exact State.modBtb_kept (h)
    · exact h

theorem State.btbClkReturn_kept {s b} (h : Kept q o s) : Kept q o (State.btbClkReturn s b) := by
  unfold State.btbClkReturn
  exact Kept.ite (State.modBtb_kept (State.btbEnter_kept (h))) (h)

theorem State.btbCut_kept {s b} (h : Kept q o s) : Kept q o (State.btbCut s b) := by
  unfold State.btbCut
  extract_lets -merge y1 y2
  have h3 : Kept q o y2 := State.modBtb_kept (h)
  clear_value y2
  exact Kept.ite (h) (State.setBit_kept (h3))

theorem State.btbCurtain_kept {s} (h : Kept q o s) : Kept q o (State.btbCurtain s) := by unfold State.btbCurtain; exact Kept.foldl (h) (fun _ _ h2 => State.btbCut_kept (h2))

theorem State.btbDo_kept {s b cmd} (h : Kept q o s) : Kept q o (State.btbDo s b cmd) := by
  unfold State.btbDo
  split
  · exact State.modBtb_kept (h)
  · exact State.modBtb_kept (State.setFld_kept (State.setBit_kept (State.btbEnter_kept (h))))
  · exact Kept.ite (State.modBtb_kept (State.btbEnter_kept (h))) (State.modBtb_kept (h))

theorem State.btbCmd_kept {s m b v} (h : Kept q o s) : Kept q o (State.btbCmd s m b v) := by
  unfold State.btbCmd
  refine State.guardW_kept (h) ?_
  intro _ h1
  split
  · exact State.reject_kept (h1)
  · exact State.btbDo_kept (h1)

theorem State.btbMask_kept {s m b v} (h : Kept q o s) : Kept q o (State.btbMask s m b v) := by
  unfold State.btbMask
  exact State.guardW_kept (h) (fun _ h1 => State.modBtb_kept (State.wr_kept (h1)))

theorem State.btbStgMask_kept {s m b v} (h : Kept q o s) : Kept q o (State.btbStgMask s m b v) := by
  unfold State.btbStgMask
  exact State.guardW_kept (h) (fun _ h1 => State.setBit_kept (State.wr_kept (h1)))

theorem State.btbCommit_kept {s b} (h : Kept q o s) : Kept q o (State.btbCommit s b) := by
  unfold State.btbCommit
  extract_lets -merge y1
  exact Kept.ite (State.modBtb_kept (State.setBit_kept (State.wr_kept (h)))) (h)

theorem State.btbStartCtl_kept {s m v} (h : Kept q o s) : Kept q o (State.btbStartCtl s m v) := by
  unfold State.btbStartCtl
  refine State.guardW_kept (h) ?_
  intro _ h1
  extract_lets -merge y2 y3 y4 y5
  have h6 : Kept q o y4 := State.plainWrite_kept (h1)
  clear_value y4
  refine Kept.ite ?_ ?_
  · exact Kept.ite (State.reject_kept (h1)) (State.setBit_kept (Kept.of_eq (h1) rfl rfl rfl rfl rfl rfl rfl))
  · refine Kept.ite ?_ ?_
    · split
      · exact State.reject_kept (h1)
      · exact State.setBit_kept (Kept.of_eq (h6) rfl rfl rfl rfl rfl rfl rfl)
    · exact State.plainWrite_kept (h1)

theorem State.btbEdgeRead_kept {s m b} (h : Kept q o s) : Kept q o (State.btbEdgeRead s m b) := by
  unfold State.btbEdgeRead
  split
  · exact State.rejectRead_kept (h)
  · exact State.answer_kept (State.hsetAll_kept (h))

theorem State.btbImgRead_kept {s m b} (h : Kept q o s) : Kept q o (State.btbImgRead s m b) := by
  unfold State.btbImgRead
  split
  · exact State.rejectRead_kept (h)
  · exact State.answer_kept (State.hsetAll_kept (h))

theorem execBtbFrameEdge_kept {b s} (h : Kept q o s) (e : execBtbFrameEdge b s = .next t) : Kept q o t := by
  unfold execBtbFrameEdge at e
  exact Kept.next (State.btbMaster_kept (h)) e

theorem execBtbFsEdge_kept {b periods ps s} (h : Kept q o s) (e : execBtbFsEdge b periods ps s = .next t) : Kept q o t := by
  unfold execBtbFsEdge at e
  exact Kept.next (State.btbFs_kept (h)) e

theorem execBtbClkLoss_kept {b s} (h : Kept q o s) (e : execBtbClkLoss b s = .next t) : Kept q o t := by unfold execBtbClkLoss at e; exact Kept.next (State.btbClkLoss_kept (h)) e

theorem execBtbClkReturn_kept {b s} (h : Kept q o s) (e : execBtbClkReturn b s = .next t) : Kept q o t := by
  unfold execBtbClkReturn at e
  exact Kept.next (State.btbClkReturn_kept (h)) e

theorem execBtbPause_kept {m b s} (h : Kept q o s) (e : execBtbPause m b s = .next t) : Kept q o t := by unfold execBtbPause at e; exact Kept.next (State.btbCmd_kept (h)) e

theorem execBtbStop_kept {m b s} (h : Kept q o s) (e : execBtbStop m b s = .next t) : Kept q o t := by unfold execBtbStop at e; exact Kept.next (State.btbCmd_kept (h)) e

theorem execBtbStart_kept {m b s} (h : Kept q o s) (e : execBtbStart m b s = .next t) : Kept q o t := by unfold execBtbStart at e; exact Kept.next (State.btbCmd_kept (h)) e

theorem execBtbAutoStart_kept {b s} (h : Kept q o s) (e : execBtbAutoStart b s = .next t) : Kept q o t := by
  unfold execBtbAutoStart at e
  exact Kept.next (State.btbMaster_kept (h)) e

theorem execBtbResyncResume_kept {b s} (h : Kept q o s) (e : execBtbResyncResume b s = .next t) : Kept q o t := by
  unfold execBtbResyncResume at e
  exact Kept.next (State.btbMaster_kept (h)) e

theorem execBtbMaskWrite_kept {m b v s} (h : Kept q o s) (e : execBtbMaskWrite m b v s = .next t) : Kept q o t := by
  unfold execBtbMaskWrite at e
  exact Kept.next (State.btbMask_kept (h)) e

theorem execBtbStgMaskWrite_kept {m b v s} (h : Kept q o s) (e : execBtbStgMaskWrite m b v s = .next t) : Kept q o t := by
  unfold execBtbStgMaskWrite at e
  exact Kept.next (State.btbStgMask_kept (h)) e

theorem execBtbCommonStartArm_kept {m buses s} (h : Kept q o s) (e : execBtbCommonStartArm m buses s = .next t) : Kept q o t := by
  unfold execBtbCommonStartArm at e
  exact Kept.next (State.btbStartCtl_kept (h)) e

theorem execBtbCommonStartCancel_kept {m s} (h : Kept q o s) (e : execBtbCommonStartCancel m s = .next t) : Kept q o t := by
  unfold execBtbCommonStartCancel at e
  exact Kept.next (State.btbStartCtl_kept (h)) e

theorem execBtbCommonStart_kept {s} (h : Kept q o s) (e : execBtbCommonStart s = .next t) : Kept q o t := by
  unfold execBtbCommonStart at e
  exact Kept.next (State.btbCommon_kept (h)) e

theorem execBtbEdgeW0Read_kept {m b s} (h : Kept q o s) (e : execBtbEdgeW0Read m b s = .next t) : Kept q o t := by
  unfold execBtbEdgeW0Read at e
  exact Kept.next (State.btbEdgeRead_kept (h)) e

theorem execBtbImg0HiRead_kept {m b s} (h : Kept q o s) (e : execBtbImg0HiRead m b s = .next t) : Kept q o t := by
  unfold execBtbImg0HiRead at e
  exact Kept.next (State.btbImgRead_kept (h)) e

/-! ### Sys2Proof/Machine/Gnss.lean -/

theorem State.modChain_kept {s x f} (h : Kept q o s) : Kept q o (State.modChain s x f) := by
  unfold State.modChain
  extract_lets -merge y1
  exact Kept.of_eq (h) rfl rfl rfl rfl rfl rfl rfl

theorem State.chainStart_kept {s x} (h : Kept q o s) : Kept q o (State.chainStart s x) := by unfold State.chainStart; exact State.modChain_kept (h)

theorem State.chainStop_kept {s x} (h : Kept q o s) : Kept q o (State.chainStop s x) := by
  unfold State.chainStop
  extract_lets -merge y1 y2 y3
  have h4 : Kept q o y1 := State.modChain_kept (h)
  clear_value y1
  exact State.wr_kept (State.wr_kept (State.wr_kept (h4)))

theorem State.gnssClocks_kept {s} (h : Kept q o s) : Kept q o (State.gnssClocks s) := by
  unfold State.gnssClocks
  exact Kept.foldl (h) (fun _ _ h2 => Kept.ite (Kept.ite (State.setBit_kept (h2)) (h2)) (State.setBit_kept (h2)))

theorem State.gnssCtl_kept {s m v} (h : Kept q o s) : Kept q o (State.gnssCtl s m v) := by
  unfold State.gnssCtl
  refine State.guardW_kept (h) ?_
  intro _ h1
  extract_lets -merge y2 y3 y4
  have h5 : Kept q o y2 := State.plainWrite_kept (h1)
  clear_value y2
  have h6 : Kept q o y4 := Kept.ite (Kept.of_eq (h5) rfl rfl rfl rfl rfl rfl rfl) (h5)
  clear_value y4
  split
  · exact State.reject_kept (h1)
  · exact Kept.foldl (h6) (fun _ _ h8 => Kept.ite (State.chainStart_kept (h8)) (Kept.ite (State.chainStop_kept (h8)) (h8)))

theorem State.gnssEnter_kept {s x mode} (h : Kept q o s) : Kept q o (State.gnssEnter s x mode) := by
  unfold State.gnssEnter
  extract_lets -merge y1
  have h2 : Kept q o y1 := State.setFld_kept (h)
  clear_value y1
  exact Kept.ite (State.modChain_kept (State.wr_kept (h2))) (State.wr_kept (h2))

theorem State.gnssCfg_kept {s m x v} (h : Kept q o s) : Kept q o (State.gnssCfg s m x v) := by
  unfold State.gnssCfg
  refine State.guardW_kept (h) ?_
  intro _ h1
  extract_lets -merge y2
  have h3 : Kept q o y2 := State.plainWrite_kept (h1)
  clear_value y2
  split
  · exact State.reject_kept (h1)
  · exact Kept.ite (h3) (State.gnssEnter_kept (h3))

theorem State.gnssOther_kept {s m x o1 v} (h : Kept q o s) : Kept q o (State.gnssOther s m x o1 v) := by
  unfold State.gnssOther
  exact State.guardW_kept (h) (fun _ h1 => Kept.ite (State.reject_kept (h1)) (Kept.ite (State.reject_kept (h1)) (Kept.ite (State.reject_kept (h1)) (Kept.ite (State.reject_kept (h1)) (State.plainWrite_kept (h1))))))

theorem State.trackFail_kept {s x score} (h : Kept q o s) : Kept q o (State.trackFail s x score) := by
  unfold State.trackFail
  extract_lets -merge y1
  exact State.modChain_kept (h)

theorem State.gnssJudge_kept {s x f dev again} (h : Kept q o s) : Kept q o (State.gnssJudge s x f dev again) := by
  unfold State.gnssJudge
  extract_lets -merge y1 y2 y3 y4 y5 y6 y7 y8 y9 y10 y11 y12 y13 y14
  have h15 : Kept q o y10 := State.wr_kept (State.wr_kept (State.wr_kept (h)))
  clear_value y10
  have h16 : Kept q o y11 := State.raise_kept (State.trackFail_kept (h15))
  clear_value y11
  have h17 : Kept q o y12 := State.modChain_kept (h16)
  clear_value y12
  have h18 : Kept q o y14 := Kept.ite (Kept.of_eq (h17) rfl rfl rfl rfl rfl rfl rfl) (h17)
  clear_value y14
  split
  · exact h18
  · extract_lets -merge y19
    have h20 : Kept q o y19 := State.advertise_kept (State.modRef_kept (h18))
    clear_value y19
    exact Kept.ite (State.advertise_kept (h18)) (Kept.ite (h18) (Kept.ite (h20) (State.refSample_kept (h20))))

theorem State.abCheck_kept {s x y f g dx dy} (h : Kept q o s) : Kept q o (State.abCheck s x y f g dx dy) := by
  unfold State.abCheck
  extract_lets -merge y1 y2 y3 y4 y5 y6 y7
  have h8 : Kept q o y4 := State.wr_kept (State.wr_kept (h))
  clear_value y4
  have h9 : Kept q o y7 := State.modChain_kept (State.modChain_kept (h8))
  clear_value y7
  exact Kept.ite (h9) (State.raise_kept (State.raise_kept (h9)))

theorem State.gnssSolve_kept {s x f} (h : Kept q o s) : Kept q o (State.gnssSolve s x f) := by
  unfold State.gnssSolve
  extract_lets -merge y1 y2 y3 y4 y5 y6 y7 y8 y9 y10 y11 y12
  have h13 : Kept q o y2 := Kept.ite (State.raise_kept (State.modChain_kept (h))) (h)
  clear_value y2
  have h14 : Kept q o y3 := Kept.ite (h13) (State.raise_kept (h13))
  clear_value y3
  clear_value y4
  have h15 : Kept q o y7 := State.wrAll_kept (State.wrAll_kept (h14))
  clear_value y7
  have h16 : Kept q o y8 := State.wr_kept (h15)
  clear_value y8
  have h17 : Kept q o y10 := State.modChain_kept (h16)
  clear_value y10
  clear_value y12
  refine Kept.ite ?_ ?_
  · exact h
  · split
    · exact State.gnssJudge_kept (h17)
    · extract_lets -merge y18 y19
      have h20 : Kept q o y18 := State.abCheck_kept (h17)
      clear_value y18
      have h21 : Kept q o y19 := Kept.ite (State.gnssJudge_kept (h20)) (h20)
      clear_value y19
      exact Kept.ite (State.gnssJudge_kept (h21)) (State.gnssJudge_kept (h17))

theorem State.integClear_kept {s x} (h : Kept q o s) : Kept q o (State.integClear s x) := by
  unfold State.integClear
  split
  · exact h
  · exact Kept.ite (State.setFld_kept (State.modChain_kept (h))) (h)

theorem State.modBand_kept {s x k f} (h : Kept q o s) : Kept q o (State.modBand s x k f) := by unfold State.modBand; exact State.modChain_kept (h)

theorem State.jamMeasure_kept {s x k noise occ} (h : Kept q o s) : Kept q o (State.jamMeasure s x k noise occ) := by
  unfold State.jamMeasure
  extract_lets -merge y1 y2 y3 y4 y5 y6 y7
  clear_value y3
  have h8 : Kept q o y6 := State.setFld_kept (h)
  clear_value y6
  have h9 : Kept q o y7 := State.modBand_kept (h8)
  clear_value y7
  exact Kept.ite (h) (Kept.ite (State.raise_kept (State.setBit_kept (h9))) (h9))

theorem State.jamReadmit_kept {s x k} (h : Kept q o s) : Kept q o (State.jamReadmit s x k) := by
  unfold State.jamReadmit
  extract_lets -merge y1
  exact Kept.ite (State.setBit_kept (State.modBand_kept (h))) (h)

theorem State.surveyDone_kept {s x px py pz sig3} (h : Kept q o s) : Kept q o (State.surveyDone s x px py pz sig3) := by
  unfold State.surveyDone
  exact Kept.ite (State.raise_kept (State.gnssEnter_kept (State.wrAll_kept (h)))) (h)

theorem State.surveyFail_kept {s x} (h : Kept q o s) : Kept q o (State.surveyFail s x) := by
  unfold State.surveyFail
  exact Kept.ite (State.raise_kept (State.gnssEnter_kept (h))) (h)

theorem State.rootWrite_kept {s m i v} (h : Kept q o s) : Kept q o (State.rootWrite s m i v) := by
  unfold State.rootWrite
  extract_lets -merge y1 y2 y3 y4
  have h5 : Kept q o y3 := Kept.of_eq (h) rfl rfl rfl rfl rfl rfl rfl
  clear_value y3
  have h6 : Kept q o y4 := State.wr_kept (h5)
  clear_value y4
  exact Kept.ite (State.reject_kept (h)) (Kept.ite (State.setBit_kept (h6)) (Kept.ite (State.setBit_kept (h6)) (h6)))

theorem State.leapPut_kept {s n typ l} (h : Kept q o s) : Kept q o (State.leapPut s n typ l) := by
  unfold State.leapPut
  extract_lets -merge y1
  have h2 : Kept q o y1 := State.leapAtW_kept (State.leapAtW_kept (h))
  clear_value y1
  exact Kept.ite (h) (State.leapCtl_kept (h2))

theorem State.leapSpread_kept {s} (h : Kept q o s) : Kept q o (State.leapSpread s) := by
  unfold State.leapSpread
  extract_lets -merge y1
  exact Kept.ite (h) (Kept.foldl (h) (fun _ _ h3 => Kept.ite (State.leapPut_kept (h3)) (h3)))

theorem State.leapAccept_kept {s typ l votes auth taiUtc} (h : Kept q o s) : Kept q o (State.leapAccept s typ l votes auth taiUtc) := by
  unfold State.leapAccept
  extract_lets -merge y1 y2
  have h3 : Kept q o y1 := Kept.ite (State.raise_kept (h)) (h)
  clear_value y1
  have h4 : Kept q o y2 := State.wr_kept (State.wr_kept (State.wr_kept (h3)))
  clear_value y2
  exact Kept.ite (h3) (State.leapSpread_kept (State.raise_kept (h4)))

theorem State.leapWithdraw_kept {s} (h : Kept q o s) : Kept q o (State.leapWithdraw s) := by
  unfold State.leapWithdraw
  extract_lets -merge y1
  have h4 : Kept q o y1 := Kept.foldl (h) (fun _ _ h3 => Kept.ite (State.leapCtl_kept (h3)) (h3))
  clear_value y1
  exact Kept.ite (h) (State.raise_kept (State.setFld_kept (h4)))

theorem State.fespiWrite_kept {s m x v} (h : Kept q o s) : Kept q o (State.fespiWrite s m x v) := by
  unfold State.fespiWrite
  refine State.guardW_kept (h) ?_
  intro _ h1
  extract_lets -merge y2
  exact Kept.ite (State.reject_kept (h1)) (State.modChain_kept (State.setBit_kept (h1)))

theorem State.fespiDone_kept {s x v} (h : Kept q o s) : Kept q o (State.fespiDone s x v) := by
  unfold State.fespiDone
  split
  · exact h
  · exact Kept.ite (State.wr_kept (State.setBit_kept (State.modChain_kept (h)))) (h)

theorem State.offRead_kept {s m x} (h : Kept q o s) : Kept q o (State.offRead s m x) := by
  unfold State.offRead
  split
  · exact State.rejectRead_kept (h)
  · exact State.answer_kept (State.hsetAll_kept (h))

theorem State.svRead_kept {s m} (h : Kept q o s) : Kept q o (State.svRead s m) := by
  unfold State.svRead
  split
  · exact State.rejectRead_kept (h)
  · exact State.answer_kept (State.hset_kept (h))

theorem State.gnssTick_kept {s} (h : Kept q o s) : Kept q o (State.gnssTick s) := by
  unfold State.gnssTick
  extract_lets -merge y1
  have h6 : Kept q o y1 := Kept.foldl (State.gnssClocks_kept (h)) (fun _ _ h3 => State.surveyFail_kept (Kept.foldl (State.integClear_kept (h3)) (fun _ _ h5 => State.jamReadmit_kept (h5))))
  clear_value y1
  exact Kept.ite (State.leapSpread_kept (h6)) (h6)

theorem execGnssChainEnable_kept {m v s} (h : Kept q o s) (e : execGnssChainEnable m v s = .next t) : Kept q o t := by
  unfold execGnssChainEnable at e
  exact Kept.next (State.gnssCtl_kept (h)) e

theorem execGnssChainDisable_kept {m v s} (h : Kept q o s) (e : execGnssChainDisable m v s = .next t) : Kept q o t := by
  unfold execGnssChainDisable at e
  exact Kept.next (State.gnssCtl_kept (h)) e

theorem execGnssClearDb_kept {m v s} (h : Kept q o s) (e : execGnssClearDb m v s = .next t) : Kept q o t := by
  unfold execGnssClearDb at e
  exact Kept.next (State.gnssCtl_kept (h)) e

theorem execGnssSolution_kept {x f s} (h : Kept q o s) (e : execGnssSolution x f s = .next t) : Kept q o t := by
  unfold execGnssSolution at e
  exact Kept.next (State.gnssSolve_kept (h)) e

theorem execGnssJamMeasure_kept {x k noise occ s} (h : Kept q o s) (e : execGnssJamMeasure x k noise occ s = .next t) : Kept q o t := by
  unfold execGnssJamMeasure at e
  exact Kept.next (State.jamMeasure_kept (h)) e

theorem execGnssJamReadmit_kept {x k s} (h : Kept q o s) (e : execGnssJamReadmit x k s = .next t) : Kept q o t := by
  unfold execGnssJamReadmit at e
  exact Kept.next (State.jamReadmit_kept (h)) e

theorem execIntegFailClear_kept {x s} (h : Kept q o s) (e : execIntegFailClear x s = .next t) : Kept q o t := by
  unfold execIntegFailClear at e
  exact Kept.next (State.integClear_kept (h)) e

theorem execGnssModeWrite_kept {m x v s} (h : Kept q o s) (e : execGnssModeWrite m x v s = .next t) : Kept q o t := by
  unfold execGnssModeWrite at e
  exact Kept.next (State.gnssCfg_kept (h)) e

theorem execSurveyDone_kept {x px py pz sig3 s} (h : Kept q o s) (e : execSurveyDone x px py pz sig3 s = .next t) : Kept q o t := by
  unfold execSurveyDone at e
  exact Kept.next (State.surveyDone_kept (h)) e

theorem execSurveyFail_kept {x s} (h : Kept q o s) (e : execSurveyFail x s = .next t) : Kept q o t := by unfold execSurveyFail at e; exact Kept.next (State.surveyFail_kept (h)) e

theorem execOsnmaRootWrite_kept {m i v s} (h : Kept q o s) (e : execOsnmaRootWrite m i v s = .next t) : Kept q o t := by
  unfold execOsnmaRootWrite at e
  exact Kept.next (State.guardW_kept (h) (fun _ h1 => State.rootWrite_kept (h1))) e

theorem execGnssLeapAccept_kept {typ l votes auth taiUtc s} (h : Kept q o s) (e : execGnssLeapAccept typ l votes auth taiUtc s = .next t) : Kept q o t := by
  unfold execGnssLeapAccept at e
  exact Kept.next (State.leapAccept_kept (h)) e

theorem execGnssLeapWithdrawn_kept {s} (h : Kept q o s) (e : execGnssLeapWithdrawn s = .next t) : Kept q o t := by
  unfold execGnssLeapWithdrawn at e
  exact Kept.next (State.leapWithdraw_kept (h)) e

theorem execFespiDataWrite_kept {m x v s} (h : Kept q o s) (e : execFespiDataWrite m x v s = .next t) : Kept q o t := by
  unfold execFespiDataWrite at e
  exact Kept.next (State.fespiWrite_kept (h)) e

theorem execFespiTransferDone_kept {x v s} (h : Kept q o s) (e : execFespiTransferDone x v s = .next t) : Kept q o t := by
  unfold execFespiTransferDone at e
  exact Kept.next (State.fespiDone_kept (h)) e

theorem execGnssOffW0Read_kept {m x s} (h : Kept q o s) (e : execGnssOffW0Read m x s = .next t) : Kept q o t := by
  unfold execGnssOffW0Read at e
  exact Kept.next (State.offRead_kept (h)) e

theorem execGnssSvStatRead_kept {m s} (h : Kept q o s) (e : execGnssSvStatRead m s = .next t) : Kept q o t := by
  unfold execGnssSvStatRead at e
  exact Kept.next (State.svRead_kept (h)) e

/-! ### Sys2Proof/Machine/PwrOps.lean -/

theorem State.modPwr_kept {s f} (h : Kept q o s) : Kept q o (State.modPwr s f) := by unfold State.modPwr; exact Kept.of_eq (h) rfl rfl rfl rfl rfl rfl rfl

theorem State.domFollow_kept {s before} (h : Kept q o s) (_hs1 : Kept q o before) : Kept q o (State.domFollow s before) := by
  unfold State.domFollow
  exact Kept.ite (h) (State.raise_kept (h))

theorem State.domainOn_kept {s d} (h : Kept q o s) : Kept q o (State.domainOn s d) := by unfold State.domainOn; exact State.modPwr_kept (h)

theorem State.powerNext_kept {s} (h : Kept q o s) : Kept q o (State.powerNext s) := by
  unfold State.powerNext
  split
  · exact State.domFollow_kept (State.domainOn_kept (h)) (h)
  · exact h

theorem State.powerAll_kept {s} (h : Kept q o s) : Kept q o (State.powerAll s) := by
  unfold State.powerAll
  exact State.domFollow_kept (Kept.foldl (h) (fun _ _ h2 => State.domainOn_kept (h2))) (h)

theorem State.powerPlan_kept {s} (h : Kept q o s) : Kept q o (State.powerPlan s) := by
  unfold State.powerPlan
  extract_lets -merge y1
  exact State.domFollow_kept (State.modPwr_kept (h)) (h)

/-! ### Sys2Proof/Machine/PortOps.lean -/

theorem State.modPort_kept {s p f} (h : Kept q o s) : Kept q o (State.modPort s p f) := by unfold State.modPort; exact Kept.of_eq (h) rfl rfl rfl rfl rfl rfl rfl

theorem State.portEvent_kept {s p mask} (h : Kept q o s) : Kept q o (State.portEvent s p mask) := by unfold State.portEvent; exact State.raise_kept (h)

theorem State.noSlot_kept {s p} (h : Kept q o s) : Kept q o (State.noSlot s p) := by unfold State.noSlot; exact State.bumpSat_kept (h)

theorem State.setHeld_kept {s p f} (h : Kept q o s) : Kept q o (State.setHeld s p f) := by unfold State.setHeld; exact State.setFld_kept (State.modPort_kept (h))

theorem State.enqueue_kept {s p w} (h : Kept q o s) : Kept q o (State.enqueue s p w) := by unfold State.enqueue; exact State.modPort_kept (h)

theorem State.portEnter_kept {s p st} (h : Kept q o s) : Kept q o (State.portEnter s p st) := by
  unfold State.portEnter
  extract_lets -merge y1
  have h2 : Kept q o y1 := State.modPort_kept (State.portEvent_kept (State.setFld_kept (h)))
  clear_value y1
  exact Kept.ite (h) (State.domFollow_kept (h2) (h))

theorem State.linkFall_kept {s p} (h : Kept q o s) : Kept q o (State.linkFall s p) := by
  unfold State.linkFall
  extract_lets -merge y1
  have h2 : Kept q o y1 := State.portEvent_kept (State.setBit_kept (h))
  clear_value y1
  exact Kept.ite (h) (Kept.ite (h2) (State.portEnter_kept (h2)))

theorem State.linkRise_kept {s p} (h : Kept q o s) : Kept q o (State.linkRise s p) := by
  unfold State.linkRise
  extract_lets -merge y1 y2 y3 y4
  have h5 : Kept q o y2 := State.portEvent_kept (State.setBit_kept (h))
  clear_value y2
  have h6 : Kept q o y3 := State.portEnter_kept (h5)
  clear_value y3
  exact Kept.ite (h) (State.calSettle_kept (State.modPort_kept (h6)))

theorem State.portSleep_kept {s p} (h : Kept q o s) : Kept q o (State.portSleep s p) := by
  unfold State.portSleep
  extract_lets -merge y1
  have h2 : Kept q o y1 := Kept.ite (State.portEvent_kept (State.setBit_kept (h))) (h)
  clear_value y1
  exact State.modPort_kept (State.portEnter_kept (h2))

theorem State.portWake_kept {s p} (h : Kept q o s) : Kept q o (State.portWake s p) := by unfold State.portWake; exact Kept.ite (State.portEnter_kept (h)) (h)

theorem State.portTimer_kept {s p} (h : Kept q o s) : Kept q o (State.portTimer s p) := by
  unfold State.portTimer
  extract_lets -merge y1 y2 y3 y4 y5
  clear_value y4
  split
  · exact h
  · exact Kept.ite (h) (Kept.ite (State.portEnter_kept (h)) (State.modPort_kept (h)))

theorem State.gclSwap_kept {s p} (h : Kept q o s) : Kept q o (State.gclSwap s p) := by
  unfold State.gclSwap
  split
  · exact h
  · extract_lets -merge y1 y2
    have h3 : Kept q o y1 := State.wr_kept (State.wrAll_kept (h))
    clear_value y1
    have h4 : Kept q o y2 := State.setBit_kept (State.setFld_kept (h3))
    clear_value y2
    exact Kept.ite (State.portEvent_kept (State.modPort_kept (h4))) (h)

theorem State.dormIdle_kept {s p} (h : Kept q o s) : Kept q o (State.dormIdle s p) := by
  unfold State.dormIdle
  extract_lets -merge y1
  exact Kept.ite (State.portSleep_kept (h)) (h)

theorem State.pairExpire_kept {s p} (h : Kept q o s) : Kept q o (State.pairExpire s p) := by
  unfold State.pairExpire
  extract_lets -merge y1 y2 y3 y4
  have h5 : Kept q o y4 := State.modPort_kept (h)
  clear_value y4
  refine Kept.foldl (h5) (fun x6 _ h7 => ?_)
  refine Kept.ite ?_ ?_
  · exact h7
  · split
    · exact State.portEvent_kept (State.bumpSat_kept (h7))
    · exact h7

theorem State.pairSee_kept {s p f} (h : Kept q o s) : Kept q o (State.pairSee s p f).2 := by
  unfold State.pairSee
  split
  · extract_lets
    split
    · exact State.bumpSat_kept (State.modPort_kept h)
    · exact State.modPort_kept h
  · exact h

theorem State.portTermRise_kept {s p} (h : Kept q o s) : Kept q o (State.portTermRise s p) := by
  unfold State.portTermRise
  exact Kept.foldl (h) (fun _ _ h2 => Kept.ite (State.markRaise_kept (h2)) (h2))

theorem State.refineFollow_kept {s before} (h : Kept q o s) (_hs1 : Kept q o before) : Kept q o (State.refineFollow s before) := by
  unfold State.refineFollow
  exact Kept.foldl (h) (fun _ _ h2 => Kept.ite (State.portTermRise_kept (State.portEvent_kept (h2))) (h2))

theorem State.calLogPush_kept {s p e} (h : Kept q o s) : Kept q o (State.calLogPush s p e) := by
  unfold State.calLogPush
  extract_lets -merge y1
  exact Kept.ite (State.setBit_kept (h)) (State.setFld_kept (State.modPort_kept (h)))

theorem State.calTagRead_kept {s m p} (h : Kept q o s) : Kept q o (State.calTagRead s m p) := by
  unfold State.calTagRead
  split
  · exact State.rejectRead_kept (h)
  · refine Kept.ite ?_ ?_
    · exact State.answer_kept (h)
    · split
      · exact State.answer_kept (h)
      · extract_lets -merge y1
        have h2 : Kept q o y1 := State.setBit_kept (State.setFld_kept (State.modPort_kept (h)))
        clear_value y1
        exact State.answer_kept (State.hsetAll_kept (h2))

/-! ### Sys2Proof/Machine/KeyOps.lean -/

theorem State.modKey_kept {s f} (h : Kept q o s) : Kept q o (State.modKey s f) := by unfold State.modKey; exact Kept.of_eq (h) rfl rfl rfl rfl rfl rfl rfl

theorem State.keyEvent_kept {s mask} (h : Kept q o s) : Kept q o (State.keyEvent s mask) := by unfold State.keyEvent; exact State.raise_kept (h)

theorem State.modSlot_kept {s n f} (h : Kept q o s) : Kept q o (State.modSlot s n f) := by unfold State.modSlot; exact State.modKey_kept (h)

theorem State.riseOne_kept {s n} (h : Kept q o s) : Kept q o (State.riseOne s n) := by
  unfold State.riseOne
  extract_lets -merge y1
  have h2 : Kept q o y1 := by
    unfold y1
    split
    · exact State.modSlot_kept (h)
    · exact State.modKey_kept (h)
  clear_value y1
  exact Kept.ite (h) (State.modKey_kept (h2))

theorem State.riseBelow_kept {s n} (h : Kept q o s) : Kept q o (State.riseBelow s n) := by
  unfold State.riseBelow
  exact Kept.foldl (h) (fun _ _ h2 => Kept.foldl (State.riseOne_kept (h2)) (fun _ _ h4 => State.riseOne_kept (h4)))

theorem State.purgeDue_kept {s} (h : Kept q o s) : Kept q o (State.purgeDue s) := by unfold State.purgeDue; exact State.modKey_kept (h)

theorem State.purge_kept {s} (h : Kept q o s) : Kept q o (State.purge s) := by
  unfold State.purge
  extract_lets -merge y1
  exact State.keyEvent_kept (State.bump_kept (State.modKey_kept (h)))

theorem State.cacheIn_kept {s n key} (h : Kept q o s) : Kept q o (State.cacheIn s n key) := by
  unfold State.cacheIn
  extract_lets -merge y1 y2 y3 y4
  exact State.modKey_kept (State.fresh_kept (h))

theorem State.cacheTouch_kept {s n} (h : Kept q o s) : Kept q o (State.cacheTouch s n) := by unfold State.cacheTouch; exact State.modKey_kept (h)

theorem State.born_kept {s n} (h : Kept q o s) : Kept q o (State.born s n) := by unfold State.born; exact State.modKey_kept (h)

theorem State.deriveEpoch_kept {s r e} {x : BitVec 256 × State} (h : Kept q o s) (hx : State.deriveEpoch s r e = some x) : Kept q o x.2 := by
  unfold State.deriveEpoch at hx
  split at hx
  · cases hx; exact State.cacheTouch_kept h
  · extract_lets at hx
    split at hx
    · cases hx; exact State.cacheIn_kept (State.born_kept h)
    · cases hx

theorem State.derive_kept {s n} {x : BitVec 256 × State} (h : Kept q o s) (hx : State.derive s n = some x) : Kept q o x.2 := by
  unfold State.derive at hx
  split at hx
  · cases hx; exact State.cacheTouch_kept h
  · split at hx
    · split at hx
      · cases hx; exact h
      · cases hx
    · exact State.deriveEpoch_kept h hx
    · obtain ⟨y, hy, rfl⟩ := Option.map_eq_some_iff.mp hx
      exact State.cacheIn_kept (State.born_kept (State.deriveEpoch_kept h hy))
    · split at hx
      · cases hx
      · obtain ⟨y, hy, rfl⟩ := Option.map_eq_some_iff.mp hx
        exact State.cacheIn_kept (State.born_kept (State.deriveEpoch_kept h hy))

theorem State.resolve_kept {s n user purpose tb} (h : Kept q o s) : Kept q o (State.resolve s n user purpose tb).2 := by
  unfold State.resolve
  extract_lets
  split
  · split
    · exact State.bumpSat_kept h
    · split
      · next e => exact State.derive_kept h e
      · exact h
  · split
    · exact State.bump_kept h
    · exact h

theorem State.gmacSpend_kept {s n} (h : Kept q o s) : Kept q o (State.gmacSpend s n) := by
  unfold State.gmacSpend
  exact Kept.ite (h) (State.keyEvent_kept (State.modKey_kept (h)))

theorem State.keyGuard_kept {s m o1 v k} (h : Kept q o s) (hf4 : ∀ x0, Kept q o x0 → Kept q o (k x0)) : Kept q o (State.keyGuard s m o1 v k) := by
  unfold State.keyGuard
  exact State.guardW_kept (h) (fun _ h1 => hf4 _ (h1))

theorem State.stgIdle_kept {s} (h : Kept q o s) : Kept q o (State.stgIdle s) := by unfold State.stgIdle; exact State.modKey_kept (h)

theorem State.keyStage_kept {s m i v} (h : Kept q o s) : Kept q o (State.keyStage s m i v) := by
  unfold State.keyStage
  extract_lets -merge y1
  refine State.keyGuard_kept (h) ?_
  intro _ h2
  extract_lets -merge y3 y4
  exact Kept.ite (State.reject_kept (h2)) (Kept.ite (State.reject_kept (h2)) (State.modKey_kept (h2)))

theorem State.stgTimeout_kept {s} (h : Kept q o s) : Kept q o (State.stgTimeout s) := by
  unfold State.stgTimeout
  exact Kept.ite (State.keyEvent_kept (State.stgIdle_kept (h))) (h)

theorem State.stgLost_kept {s m} (h : Kept q o s) : Kept q o (State.stgLost s m) := by
  unfold State.stgLost
  exact Kept.ite (State.keyEvent_kept (State.stgIdle_kept (h))) (h)

theorem State.fillSlot_kept {s n attr gen key} (h : Kept q o s) : Kept q o (State.fillSlot s n attr gen key) := by
  unfold State.fillSlot
  extract_lets -merge y1 y2 y3
  have h4 : Kept q o y2 := Kept.ite (State.purgeDue_kept (State.riseBelow_kept (h))) (h)
  clear_value y2
  exact State.keyEvent_kept (State.modKey_kept (State.modSlot_kept (State.fresh_kept (h4))))

theorem State.keyCommit_kept {s m} (h : Kept q o s) : Kept q o (State.keyCommit s m) := by
  unfold State.keyCommit
  refine State.keyGuard_kept (h) ?_
  intro _ h1
  extract_lets -merge y2
  refine Kept.ite ?_ ?_
  · exact State.reject_kept (h1)
  · split
    · exact State.reject_kept (State.stgIdle_kept (h1))
    · exact State.stgIdle_kept (State.fillSlot_kept (h1))

theorem State.keyAbort_kept {s m} (h : Kept q o s) : Kept q o (State.keyAbort s m) := by
  unfold State.keyAbort
  exact State.keyGuard_kept (h) (fun _ h1 => Kept.ite (State.reject_kept (h1)) (State.stgIdle_kept (h1)))

theorem State.keyInvalidate_kept {s m} (h : Kept q o s) : Kept q o (State.keyInvalidate s m) := by
  unfold State.keyInvalidate
  refine State.keyGuard_kept (h) ?_
  intro _ h1
  extract_lets -merge y2
  exact Kept.ite (State.reject_kept (h1)) (Kept.ite (State.reject_kept (h1)) (State.keyEvent_kept (State.purgeDue_kept (State.riseBelow_kept (State.riseOne_kept (h1))))))

theorem State.keyInvalidateDer_kept {s m} (h : Kept q o s) : Kept q o (State.keyInvalidateDer s m) := by
  unfold State.keyInvalidateDer
  refine State.keyGuard_kept (h) ?_
  intro _ h1
  extract_lets -merge y2
  exact Kept.ite (State.reject_kept (h1)) (Kept.ite (State.reject_kept (h1)) (Kept.ite (State.reject_kept (h1)) (State.keyEvent_kept (State.purgeDue_kept (State.riseBelow_kept (State.riseOne_kept (h1)))))))

theorem State.keyErase_kept {s m} (h : Kept q o s) : Kept q o (State.keyErase s m) := by
  unfold State.keyErase
  exact State.keyGuard_kept (h) (fun _ h1 => Kept.ite (State.reject_kept (h1)) (State.modKey_kept (h1)))

theorem State.keyTick_kept {s} (h : Kept q o s) : Kept q o (State.keyTick s) := by
  unfold State.keyTick
  extract_lets -merge y1 y2 y3 y4
  have h5 : Kept q o y1 := State.modKey_kept (h)
  clear_value y1
  have h8 : Kept q o y2 := Kept.foldl (h5) (fun _ _ h7 => State.purgeDue_kept (State.riseBelow_kept (State.modSlot_kept (h7))))
  clear_value y2
  have h11 : Kept q o y3 := Kept.foldl (h8) (fun _ _ h10 => State.wr_kept (h10))
  clear_value y3
  have h12 : Kept q o y4 := State.modKey_kept (h11)
  clear_value y4
  split
  · exact Kept.ite (State.purge_kept (h12)) (h12)
  · exact h12

theorem State.keyEpoch_kept {s m r v} (h : Kept q o s) : Kept q o (State.keyEpoch s m r v) := by
  unfold State.keyEpoch
  exact State.keyGuard_kept (h) (fun _ h1 => Kept.ite (State.reject_kept (h1)) (State.modKey_kept (h1)))

theorem State.keySvcCfg_kept {s m r v} (h : Kept q o s) : Kept q o (State.keySvcCfg s m r v) := by
  unfold State.keySvcCfg
  refine State.keyGuard_kept (h) ?_
  intro _ h1
  extract_lets -merge y2 y3
  exact Kept.ite (State.reject_kept (h1)) (State.plainWrite_kept (h1))

theorem State.remask_kept {s} (h : Kept q o s) : Kept q o (State.remask s) := by
  unfold State.remask
  extract_lets -merge y1 y2 y3
  have h8 : Kept q o y1 := by
    unfold y1
    refine Kept.foldl (h) (fun x4 _ h5 => ?_)
    extract_lets -merge y6 y7
    exact Kept.ite (State.modSlot_kept (State.fresh_kept (h5))) (h5)
  clear_value y1
  refine Kept.ite ?_ ?_
  · exact State.modKey_kept (Kept.foldl_fst h8 fun x _ hx => Kept.of_eq hx rfl rfl rfl rfl rfl rfl rfl)
  · exact h

theorem State.importFail_kept {s e} (h : Kept q o s) : Kept q o (State.importFail s e) := by
  unfold State.importFail
  exact State.keyEvent_kept (State.bumpSat_kept (State.setFld_kept (h)))

theorem State.dirPut_kept {s d} (h : Kept q o s) : Kept q o (State.dirPut s d) := by unfold State.dirPut; exact State.modKey_kept (h)

theorem State.keyExport_kept {s m} (h : Kept q o s) : Kept q o (State.keyExport s m) := by
  unfold State.keyExport
  refine State.keyGuard_kept (h) ?_
  intro _ h1
  extract_lets -merge y2 y3 y4 y5
  refine Kept.ite (State.reject_kept h1) (Kept.ite (State.reject_kept h1) (Kept.ite (State.reject_kept h1) (Kept.ite (State.reject_kept h1) ?_)))
  split
  · exact State.reject_kept (h1)
  · next e => exact State.modKey_kept (State.derive_kept h1 e)

theorem State.exportEnd_kept {s ok} (h : Kept q o s) : Kept q o (State.exportEnd s ok) := by
  unfold State.exportEnd
  split
  · extract_lets -merge y1
    have h2 : Kept q o y1 := State.modKey_kept (h)
    clear_value y1
    exact Kept.ite (State.keyEvent_kept (State.dirPut_kept (h2))) (State.keyEvent_kept (h2))
  · exact h

theorem State.keyImport_kept {s m} (h : Kept q o s) : Kept q o (State.keyImport s m) := by
  unfold State.keyImport
  refine State.keyGuard_kept (h) ?_
  intro _ h1
  extract_lets -merge y2
  exact Kept.ite (State.reject_kept (h1)) (Kept.ite (State.reject_kept (h1)) (Kept.ite (State.reject_kept (h1)) (State.modKey_kept (h1))))

theorem State.importEnd_kept {s a b} (h : Kept q o s) : Kept q o (State.importEnd s a b) := by
  unfold State.importEnd
  split
  · extract_lets -merge y1 y2
    have h3 : Kept q o y1 := State.modKey_kept (h)
    clear_value y1
    split
    · exact State.importFail_kept (h3)
    · refine Kept.ite ?_ ?_
      · exact State.importFail_kept (h3)
      · split
        · exact State.importFail_kept (h3)
        · exact State.dirPut_kept (State.fillSlot_kept (h3))
  · exact h

theorem State.keyScan_kept {s m} (h : Kept q o s) : Kept q o (State.keyScan s m) := by
  unfold State.keyScan
  exact State.keyGuard_kept (h) (fun _ h1 => Kept.ite (State.reject_kept (h1)) (Kept.ite (State.reject_kept (h1)) (State.modKey_kept (h1))))

theorem State.scanEnd_kept {s records} (h : Kept q o s) : Kept q o (State.scanEnd s records) := by
  unfold State.scanEnd
  extract_lets -merge y1 y2
  have h3 : Kept q o y1 := State.modKey_kept (h)
  clear_value y1
  refine Kept.ite (Kept.foldl_fst h3 fun x a hx => ?_) h
  unfold y2
  split
  · exact State.modKey_kept (State.dirPut_kept hx)
  · exact hx

theorem State.fetchIn_kept {s n a b} (h : Kept q o s) : Kept q o (State.fetchIn s n a b).2 := by
  unfold State.fetchIn
  extract_lets
  split
  · exact State.cacheIn_kept h
  · exact State.importFail_kept h

theorem State.otpStart_kept {s m o1 v e op} (h : Kept q o s) : Kept q o (State.otpStart s m o1 v e op) := by
  unfold State.otpStart
  refine State.guardD_kept (h) ?_
  intro _ h1
  refine Kept.ite ?_ ?_
  · exact State.reject_kept (h1)
  · split
    · exact State.reject_kept (h1)
    · exact State.modKey_kept (h1)

theorem State.keyWipe_kept {s} (h : Kept q o s) : Kept q o (State.keyWipe s) := by unfold State.keyWipe; exact State.modKey_kept (h)

end Sys2Proof.Machine
end

