-- ==== Sys2Proof/Laws/KeptService.lean ====
section
/-! SUPPORT. Sys2Proof/Laws/KeptService.lean: what a command of the service clusters keeps (Sys2Proof/Laws/Kept.lean): one lemma per operation and per meaning. -/
namespace Sys2Proof.Machine

variable {q : List Instr} {o : Otp} {s t : State}

/-! ### Sys2Proof/Machine/Msg.lean -/

theorem State.modSvc_kept {s f} (h : Kept q o s) : Kept q o (State.modSvc s f) := by unfold State.modSvc; exact Kept.of_eq (h) rfl rfl rfl rfl rfl rfl rfl

theorem State.svcEvent_kept {s mask} (h : Kept q o s) : Kept q o (State.svcEvent s mask) := by unfold State.svcEvent; exact State.raise_kept (h)

theorem State.modEnt_kept {s i f} (h : Kept q o s) : Kept q o (State.modEnt s i f) := by unfold State.modEnt; exact State.modSvc_kept (h)

theorem State.keyFor_kept {s c i n purpose} (h : Kept q o s) : Kept q o (State.keyFor s c i n purpose).2 := by
  unfold State.keyFor
  have h1 := State.resolve_kept (n := n) (user := c) (purpose := purpose) (tb := some (s.plt.plot.svcTb i)) h
  split <;> (rename_i e; exact Kept.pair h1 e)

theorem State.gmacNext_kept {s n} {x : Nat × State} (h : Kept q o s) (hx : State.gmacNext s n = some x) : Kept q o x.2 := by
  unfold State.gmacNext at hx
  extract_lets at hx
  split at hx
  · cases hx
  · cases hx
    exact Kept.ite (State.gmacSpend_kept (State.modKey_kept h)) (State.modKey_kept h)

theorem State.sealPtp_kept {s c i client m} (h : Kept q o s) : Kept q o (State.sealPtp s c i client m).2 := by
  unfold State.sealPtp
  extract_lets
  split
  · exact h
  · split
    · exact h
    · next n _ =>
      have h1 := State.keyFor_kept (c := c) (i := i) (n := n) (purpose := 2) h
      split
      · next e => exact Kept.pair h1 e
      · next e => exact State.modSvc_kept (Kept.pair h1 e)
      · next e =>
        have h2 := Kept.pair h1 e
        extract_lets
        split
        · split
          · exact h2
          · next e2 => exact State.gmacNext_kept h2 e2
        · exact h2

theorem State.checkPtp_kept {s c i client m} (h : Kept q o s) : Kept q o (State.checkPtp s c i client m).2 := by
  unfold State.checkPtp
  extract_lets
  split
  · exact h
  · split
    · exact h
    · split
      · exact h
      · split
        · exact h
        · next n _ =>
          have h1 := State.keyFor_kept (c := c) (i := i) (n := n) (purpose := 2) h
          split
          · next e => exact Kept.pair h1 e
          · next e => exact Kept.pair h1 e
          · next e => exact Kept.pair h1 e
          · next e =>
            split <;> exact Kept.pair h1 e

/-! ### Sys2Proof/Machine/Ntp.lean -/

theorem State.ntpVerify_kept {s c i f} (h : Kept q o s) : Kept q o (State.ntpVerify s c i f).2 := by
  unfold State.ntpVerify
  extract_lets
  split
  · exact h
  · split
    · exact h
    · exact h
    · split
      · exact h
      · extract_lets _ _ n
        split
        · exact h
        · split
          · exact h
          · split
            · exact h
            · have h1 := State.keyFor_kept (c := c) (i := i) (n := n) (purpose := 3) h
              split <;> (rename_i e; exact Kept.pair h1 e)

theorem State.newCookies_kept {s} {k : NtsKeys} {id : Nat} {b : BitVec 256} {n : Nat} (h : Kept q o s) : Kept q o (State.newCookies s k id b n).2 := by
  induction n generalizing s with
  | zero => exact h
  | succ n ih => exact ih (State.fresh_kept h)

theorem State.ntpBuild_kept {s c i rx req tx bound} (h : Kept q o s) : Kept q o (State.ntpBuild s c i rx req tx bound).2 := by
  unfold State.ntpBuild
  extract_lets
  have h1 := fun n => State.keyFor_kept (c := c) (i := i) (n := n) (purpose := 3) h
  split
  · extract_lets
    split
    · next e => exact State.fresh_kept (w := 128) (State.newCookies_kept (Kept.pair (h1 _) e))
    · next e => exact State.modSvc_kept (Kept.pair (h1 _) e)
    · next e => exact Kept.pair (h1 _) e
  · exact h

/-! ### Sys2Proof/Machine/SvcRx.lean -/

theorem State.modClus_kept {s c f} (h : Kept q o s) : Kept q o (State.modClus s c f) := by unfold State.modClus; exact State.modSvc_kept (h)

theorem State.refillAll_kept {s cls} (h : Kept q o s) : Kept q o (State.refillAll s cls) := by
  unfold State.refillAll
  extract_lets -merge y1
  exact State.modSvc_kept (h)

theorem State.admits_kept {s port cls f} (h : Kept q o s) : Kept q o (State.admits s port cls f).2 := by
  unfold State.admits
  extract_lets
  split
  · exact h
  · split <;> exact State.modSvc_kept h

theorem State.esmcIn_kept {s p opt2 m} (h : Kept q o s) : Kept q o (State.esmcIn s p opt2 m) := by
  unfold State.esmcIn
  extract_lets -merge y1 y2
  exact Kept.foldl (h) (fun _ _ h4 => Kept.ite (h4) (State.advertise_kept (State.modRef_kept (h4))))

theorem State.dropIn_kept {s p} (h : Kept q o s) : Kept q o (State.dropIn s p) := by unfold State.dropIn; exact State.bumpSat_kept (h)

theorem State.loadAdd_kept {s cls n} (h : Kept q o s) : Kept q o (State.loadAdd s cls n) := by unfold State.loadAdd; exact State.modSvc_kept (h)

theorem State.request_kept {s p i tap f} (h : Kept q o s) : Kept q o (State.request s p i tap f) := by
  unfold State.request
  extract_lets -merge y1 y2 y3 y4 y5
  have h6 : Kept q o y2 := State.loadAdd_kept (h)
  clear_value y2
  have h7 : Kept q o y4 := by
    unfold y4
    refine State.modEnt_kept ?_
    unfold y3
    split
    · exact h6
    · exact State.admits_kept (h6)
  clear_value y4
  split
  · exact State.dropIn_kept (h6)
  · extract_lets -merge y8 y9
    refine Kept.ite ?_ ?_
    · exact State.dropIn_kept (h6)
    · refine Kept.ite ?_ ?_
      · refine State.modEnt_kept ?_
        unfold y3
        split
        · exact h6
        · exact State.admits_kept (h6)
      · exact State.modSvc_kept (h7)

theorem State.slotMessage_kept {s p tap f} (h : Kept q o s) : Kept q o (State.slotMessage s p tap f) := by
  unfold State.slotMessage
  split
  · exact State.dropIn_kept (h)
  · exact Kept.ite (State.dropIn_kept (h)) (State.modSvc_kept (h))

theorem State.classify_kept {s p tap f} (h : Kept q o s) : Kept q o (State.classify s p tap f) := by
  unfold State.classify
  extract_lets -merge y1
  have h2 : Kept q o y1 := State.modPort_kept (h)
  clear_value y1
  refine Kept.ite ?_ ?_
  · exact State.dropIn_kept (h)
  · refine Kept.ite ?_ ?_
    · exact State.slotMessage_kept (h)
    · split
      · exact State.dropIn_kept (h)
      · split
        · exact State.request_kept (h2)
        · split
          · exact State.request_kept (h2)
          · exact State.request_kept (h2)
          · exact Kept.ite (State.modPort_kept (h2)) (h2)
          · exact Kept.ite (State.modPort_kept (h2)) (h2)
          · exact Kept.ite (State.request_kept (h2)) (h2)
          · exact State.modEnt_kept (h2)
          · exact h2
        · exact Kept.ite (State.dropIn_kept (h2)) (State.esmcIn_kept (State.modEnt_kept (h2)))
        · exact Kept.ite (State.dropIn_kept (h2)) (State.modEnt_kept (h2))

theorem State.frameIn_kept {s p tap f} (h : Kept q o s) : Kept q o (State.frameIn s p tap f) := by
  unfold State.frameIn
  extract_lets -merge y1 y2 y3 y4
  have h5 : Kept q o y2 := State.bump_kept (h)
  clear_value y2
  have h6 : Kept q o y3 := Kept.ite (State.calLogPush_kept (h5)) (h5)
  clear_value y3
  exact Kept.ite (h) (Kept.ite (State.bumpSat_kept (h)) (Kept.ite (Kept.ite (State.pairSee_kept (h6)) (State.classify_kept (State.pairSee_kept (h6)))) (State.classify_kept (h6))))

theorem State.pauseIn_kept {s p queue quanta} (h : Kept q o s) : Kept q o (State.pauseIn s p queue quanta) := by
  unfold State.pauseIn
  extract_lets -merge y1
  exact Kept.ite (h) (State.modPort_kept (h))

/-! ### Sys2Proof/Machine/SvcTx.lean -/

theorem State.cyc_kept {s c served n} (h : Kept q o s) : Kept q o (State.cyc s c served n) := by unfold State.cyc; exact State.modClus_kept (h)

theorem State.lose_kept {s i l} (h : Kept q o s) : Kept q o (State.lose s i l) := by
  unfold State.lose
  split
  · exact State.modEnt_kept (h)
  · exact State.modEnt_kept (h)
  · exact State.modEnt_kept (h)
  · exact State.modEnt_kept (h)
  · exact State.svcEvent_kept (State.modEnt_kept (h))
  · exact State.modEnt_kept (h)

theorem State.setSession_kept {s j x} (h : Kept q o s) : Kept q o (State.setSession s j x) := by
  unfold State.setSession
  extract_lets -merge y1
  have h2 : Kept q o y1 := State.modSvc_kept (h)
  clear_value y1
  exact State.wr_kept (h2)

theorem State.sessionSeen_kept {s rx} (h : Kept q o s) : Kept q o (State.sessionSeen s rx) := by
  unfold State.sessionSeen
  split
  · exact State.setSession_kept (h)
  · exact h

theorem State.buildWork_kept {s p c d w} (h : Kept q o s) : Kept q o (State.buildWork s p c d w).2 := by
  unfold State.buildWork
  extract_lets i n v raw b done
  have hd : ∀ r : (Loss ⊕ (List Byte × Option (Nat × Nat))) × State, Kept q o r.2 → Kept q o (done r).2 := by
    intro r hr
    unfold done
    split <;> exact hr
  clear_value done
  split
  · next rx =>
    have h1 := State.ntpVerify_kept (c := c) (i := i) (f := rx.frame) h
    split
    · next e => exact Kept.pair h1 e
    · next e => exact Kept.pair h1 e
    · next e => exact hd _ (State.ntpBuild_kept (Kept.pair h1 e))
  · next rx =>
    have h1 := State.checkPtp_kept (c := c) (i := i) (client := rxClient rx.frame.msg) (m := rx.frame.msg) h
    split
    · next e => exact Kept.pair h1 e
    · next e => exact Kept.pair h1 e
    · next e => exact hd _ (State.sealPtp_kept (Kept.pair h1 e))
  · exact hd _ (State.sealPtp_kept h)
  · exact hd _ (State.sealPtp_kept h)

theorem State.sendPlain_kept {s p cls c i dst msg ready cycles served after} (h : Kept q o s) : Kept q o (State.sendPlain s p cls c i dst msg ready cycles served after) := by
  unfold State.sendPlain
  exact State.enqueue_kept (h)

theorem State.nextTrailer_kept {s p} (h : Kept q o s) : Kept q o (State.nextTrailer s p).2 := by
  unfold State.nextTrailer
  split
  · exact h
  · exact State.modPort_kept (h)

theorem State.nakSend_kept {s p c cycles build rx} (h : Kept q o s) : Kept q o (State.nakSend s p c cycles build rx) := by
  unfold State.nakSend
  have h1 : Kept q o (s.admits p 1 rx.frame).2 := State.admits_kept h
  generalize s.admits p 1 rx.frame = a at h1
  exact Kept.ite (State.cyc_kept h) (Kept.ite (State.cyc_kept h1) (State.sendPlain_kept (State.modEnt_kept h1)))

theorem State.place_kept {s p w c rebuilds trailer build cycles a limit} (h : Kept q o s) : Kept q o (State.place s p w c rebuilds trailer build cycles a limit).2 := by
  unfold State.place
  extract_lets
  split
  · exact State.cyc_kept (State.noSlot_kept h)
  · next d _ =>
    split
    · exact State.cyc_kept (Kept.ite (State.noSlot_kept h) h)
    · have h1 := State.buildWork_kept (p := p) (c := c) (d := d) (w := w) h
      split
      · next e =>
        have h2 := Kept.pair h1 e
        extract_lets
        split
        · exact State.nakSend_kept (State.lose_kept h2)
        · exact State.cyc_kept (State.lose_kept h2)
      · next e => exact State.setHeld_kept (Kept.pair h1 e)

theorem State.regenerate_kept {s p h1} (h : Kept q o s) : Kept q o (State.regenerate s p h1) := by
  unfold State.regenerate
  extract_lets -merge y1 y2
  have h3 : Kept q o y1 := State.cyc_kept (h)
  clear_value y1
  exact Kept.ite (State.bumpSat_kept (h3)) (Kept.ite (State.place_kept (h3)) (State.bumpSat_kept (State.place_kept (h3))))

theorem State.dropHeld_kept {s p h1} (h : Kept q o s) : Kept q o (State.dropHeld s p h1) := by unfold State.dropHeld; exact State.setHeld_kept (h)

theorem State.commitPoint_kept {s p h1} (h : Kept q o s) : Kept q o (State.commitPoint s p h1) := by
  unfold State.commitPoint
  extract_lets -merge y1 y2
  split
  · exact State.setHeld_kept (h)
  · exact State.regenerate_kept (State.portEvent_kept (State.bumpSat_kept (State.dropHeld_kept (h))))

theorem State.abortHeld_kept {s p h1} (h : Kept q o s) : Kept q o (State.abortHeld s p h1) := by
  unfold State.abortHeld
  exact State.regenerate_kept (State.portEvent_kept (State.bumpSat_kept (State.dropHeld_kept (h))))

theorem State.entSent_kept {s i m} (h : Kept q o s) : Kept q o (State.entSent s i m) := by unfold State.entSent; exact State.modEnt_kept (h)

theorem State.departHeld_kept {s p h1} (h : Kept q o s) : Kept q o (State.departHeld s p h1) := by
  unfold State.departHeld
  extract_lets -merge y1 y2
  have h3 : Kept q o y1 := State.bump_kept (State.dropHeld_kept (h))
  clear_value y1
  have h4 : Kept q o y2 := State.modPort_kept (h3)
  clear_value y2
  exact State.cyc_kept (State.entSent_kept (h4))

theorem State.commitAll_kept {s p} (h : Kept q o s) : Kept q o (State.commitAll s p) := by
  unfold State.commitAll
  exact Kept.foldl (h) (fun _ _ h2 => State.commitPoint_kept (h2))

theorem State.abortAll_kept {s p} (h : Kept q o s) : Kept q o (State.abortAll s p) := by
  unfold State.abortAll
  exact Kept.foldl (h) (fun _ _ h2 => State.abortHeld_kept (h2))

theorem State.departAll_kept {s p} (h : Kept q o s) : Kept q o (State.departAll s p) := by
  unfold State.departAll
  exact Kept.foldl (h) (fun _ _ h2 => State.departHeld_kept (h2))

theorem State.keyAborts_kept {s p} (h : Kept q o s) : Kept q o (State.keyAborts s p) := by
  unfold State.keyAborts
  exact Kept.foldl (h) (fun _ _ h2 => State.cyc_kept (State.dropHeld_kept (h2)))

theorem State.followUp_kept {s p c i slot seq d} (h : Kept q o s) : Kept q o (State.followUp s p c i slot seq d) := by
  unfold State.followUp
  extract_lets _ _ _ m
  have h1 := State.sealPtp_kept (c := c) (i := i) (client := (s.slotDest i slot).client) (m := m) h
  split
  · next e => exact State.lose_kept (Kept.pair h1 e)
  · next e => exact State.sendPlain_kept (Kept.pair h1 e)

theorem State.pdelayFollowUp_kept {s p rx d} (h : Kept q o s) : Kept q o (State.pdelayFollowUp s p rx d) := by
  unfold State.pdelayFollowUp
  extract_lets i m _ _ f
  have h1 := State.sealPtp_kept (c := rx.cluster) (i := i) (client := rxClient m) (m := f) h
  split
  · next e => exact State.lose_kept (Kept.pair h1 e)
  · next e => exact State.sendPlain_kept (Kept.pair h1 e)

theorem State.startPlain_kept {s p} (h : Kept q o s) : Kept q o (State.startPlain s p) := by
  unfold State.startPlain
  extract_lets -merge y1 y2
  split
  · exact h
  · extract_lets -merge y3 y4 y5
    have h6 : Kept q o y3 := State.modPort_kept (h)
    clear_value y3
    have h7 : Kept q o y4 := by
      unfold y4
      split
      · exact h6
      · exact State.cyc_kept (State.entSent_kept (h6))
    clear_value y4
    split
    · exact h7
    · exact State.followUp_kept (h7)
    · exact State.pdelayFollowUp_kept (h7)
    · exact State.calLogPush_kept (h7)
    · extract_lets -merge y8
      exact Kept.of_eq (h7) rfl rfl rfl rfl rfl rfl rfl
    · exact State.modSvc_kept (h7)

/-! ### Sys2Proof/Machine/SvcOps.lean -/

theorem State.waitBlob_kept {s j n} (h : Kept q o s) : Kept q o (State.waitBlob s j n) := by unfold State.waitBlob; exact State.modSvc_kept (h)

theorem State.setPcs_kept {s p c} (h : Kept q o s) : Kept q o (State.setPcs s p c) := by
  unfold State.setPcs
  extract_lets -merge y1
  have h2 : Kept q o y1 := State.modPort_kept (h)
  clear_value y1
  split
  · exact State.modPort_kept (h2)
  · exact h2

theorem State.drop_kept {s j l} (h : Kept q o s) : Kept q o (State.drop s j l) := by unfold State.drop; exact State.cyc_kept (State.lose_kept (h))

theorem State.respond_kept {s j w paths build} (h : Kept q o s) : Kept q o (State.respond s j w paths build) := by
  unfold State.respond
  extract_lets -merge y1 y2
  have h5 : Kept q o y2 := Kept.foldl (State.nextTrailer_kept (h)) (fun _ _ h4 => State.place_kept (h4))
  clear_value y2
  exact Kept.ite (State.svcEvent_kept (h5)) (h5)

theorem State.takeJob_kept {s f} {x : Job × State} (h : Kept q o s) (hx : State.takeJob s f = some x) : Kept q o x.2 := by
  unfold State.takeJob at hx
  obtain ⟨y, hy, rfl⟩ := Option.map_eq_some_iff.mp hx
  exact State.modSvc_kept h

theorem State.ntpRequest_kept {s pcs build} (h : Kept q o s) : Kept q o (State.ntpRequest s pcs build) := by
  unfold State.ntpRequest
  split
  · exact h
  · next j s1 e =>
    have h0 := State.takeJob_kept h e
    extract_lets -merge y1 y2 y3
    have h4 : Kept q o y3 := State.setPcs_kept h0
    clear_value y3
    refine Kept.ite (State.drop_kept h4) (Kept.ite (State.cyc_kept (State.noSlot_kept h4)) ?_)
    have h1 := State.ntpVerify_kept (c := j.rx.cluster) (i := j.rx.entry) (f := j.rx.frame) h4
    split
    · next e => exact State.waitBlob_kept (Kept.pair h1 e)
    · next e => exact State.nakSend_kept (State.lose_kept (Kept.pair h1 e))
    · next e => exact State.drop_kept (Kept.pair h1 e)
    · next e => exact State.respond_kept (Kept.pair h1 e)

theorem State.delayReq_kept {s build} (h : Kept q o s) : Kept q o (State.delayReq s build) := by
  unfold State.delayReq
  split
  · exact h
  · next j s0 e =>
    have h0 := State.takeJob_kept h e
    extract_lets -merge rx p i c m y6
    have h7 : Kept q o y6 := State.sessionSeen_kept h0
    clear_value y6
    refine Kept.ite (State.drop_kept h7) (Kept.ite (State.cyc_kept h7) ?_)
    have h1 := State.checkPtp_kept (c := c) (i := i) (client := rxClient m) (m := m) h7
    split
    · next e => exact State.waitBlob_kept (Kept.pair h1 e)
    · next e => exact State.drop_kept (Kept.pair h1 e)
    · next e =>
      extract_lets _ r
      have h2 := State.sealPtp_kept (c := c) (i := i) (client := rxClient m) (m := r) (Kept.pair h1 e)
      split
      · next e => exact State.drop_kept (Kept.pair h2 e)
      · next e => exact State.sendPlain_kept (Kept.pair h2 e)

theorem State.pdelayReq_kept {s pcs build} (h : Kept q o s) : Kept q o (State.pdelayReq s pcs build) := by
  unfold State.pdelayReq
  split
  · exact h
  · next j s0 e =>
    have h0 := State.takeJob_kept h e
    extract_lets -merge rx p i c m y6
    have h7 : Kept q o y6 := State.setPcs_kept (State.sessionSeen_kept h0)
    clear_value y6
    refine Kept.ite (State.drop_kept h7) ?_
    have h1 := State.checkPtp_kept (c := c) (i := i) (client := rxClient m) (m := m) h7
    split
    · next e => exact State.waitBlob_kept (Kept.pair h1 e)
    · next e => exact State.drop_kept (Kept.pair h1 e)
    · next e =>
      have h2 := Kept.pair h1 e
      split
      · extract_lets r
        have h3 := State.sealPtp_kept (c := c) (i := i) (client := rxClient m) (m := r) h2
        split
        · next e => exact State.drop_kept (Kept.pair h3 e)
        · next e => exact State.sendPlain_kept (Kept.pair h3 e)
      · exact State.respond_kept h2

theorem State.putSession_kept {s j x} (h : Kept q o s) : Kept q o (State.putSession s j x) := by unfold State.putSession; exact State.setSession_kept (h)

theorem State.grantOne_kept {s rx ok t1 l dur} (h : Kept q o s) : Kept q o (State.grantOne s rx ok t1 l dur).2 := by
  unfold State.grantOne
  extract_lets deny old ann d v
  clear_value old
  split
  · exact State.modEnt_kept h
  · refine Kept.ite_snd (State.modEnt_kept h) ?_
    split
    · exact State.putSession_kept h
    · split
      · exact State.modEnt_kept (State.svcEvent_kept (State.bumpSat_kept h))
      · exact State.putSession_kept h

theorem State.negotiateOne_kept {s rx ok t1} (h : Kept q o s) : Kept q o (State.negotiateOne s rx ok t1).2 := by
  unfold State.negotiateOne
  extract_lets _ _ _ s1
  split
  · exact State.grantOne_kept h
  · split
    · show Kept q o s1
      unfold s1
      split
      · exact State.putSession_kept h
      · exact h
    · exact h

theorem State.negotiate_kept {s t1 build} (h : Kept q o s) : Kept q o (State.negotiate s t1 build) := by
  unfold State.negotiate
  split
  · exact h
  · next j s0 e =>
    have h0 := State.takeJob_kept h e
    extract_lets -merge rx p i c m
    have h1 := State.checkPtp_kept (c := c) (i := i) (client := rxClient m) (m := m) h0
    split
    · next e => exact State.waitBlob_kept (Kept.pair h1 e)
    · next e => exact State.drop_kept (Kept.pair h1 e)
    · next s1 e =>
      have h2 := Kept.pair h1 e
      extract_lets -merge a r s2 seq s3 b
      have ha : Kept q o a.2 := by
        unfold a
        split
        · exact State.admits_kept h2
        · exact h2
      have h3 : Kept q o s3 :=
        State.modPort_kept (State.sessionSeen_kept (Kept.foldl_snd ha fun x _ hx => State.negotiateOne_kept hx))
      have h4 := State.sealPtp_kept (c := c) (i := i) (client := some (ptpPid m)) (m := b) h3
      split
      · next e => exact State.drop_kept (Kept.pair h4 e)
      · next e => exact State.sendPlain_kept (Kept.pair h4 e)

theorem State.grantLapse_kept {s j} (h : Kept q o s) : Kept q o (State.grantLapse s j) := by
  unfold State.grantLapse
  extract_lets -merge y1
  split
  · exact h
  · extract_lets -merge y2
    exact Kept.ite (h) (State.putSession_kept (h))

theorem State.sendSeries_kept {s p i slot ann nominal seq build} (h : Kept q o s) : Kept q o (State.sendSeries s p i slot ann nominal seq build) := by
  unfold State.sendSeries
  split
  · exact h
  · next c _ =>
    split
    · extract_lets _ _ m
      have h1 := State.sealPtp_kept (c := c) (i := i) (client := (s.slotDest i slot).client) (m := m) h
      split
      · next e => exact State.lose_kept (Kept.pair h1 e)
      · next e => exact State.sendPlain_kept (Kept.pair h1 e)
    · extract_lets
      exact State.place_kept (State.nextTrailer_kept h)

theorem State.unicastSend_kept {s j ann pcs build} (h : Kept q o s) : Kept q o (State.unicastSend s j ann pcs build) := by
  unfold State.unicastSend
  split
  · exact h
  · extract_lets -merge y1 y2 y3 y4 y5 y6 y7 y8 y9
    have h10 : Kept q o y7 := Kept.ite (State.noSlot_kept (h)) (h)
    clear_value y7
    have h11 : Kept q o y9 := State.setPcs_kept (State.setSession_kept (h10))
    clear_value y9
    exact Kept.ite (h) (Kept.ite (State.setSession_kept (h10)) (State.sendSeries_kept (h11)))

theorem State.multicastSend_kept {s i p ann pcs build} (h : Kept q o s) : Kept q o (State.multicastSend s i p ann pcs build) := by
  unfold State.multicastSend
  extract_lets -merge y1 y2 y3 y4 y5 y6 y7
  have h8 : Kept q o y6 := Kept.ite (State.noSlot_kept (h)) (h)
  clear_value y6
  exact Kept.ite h (Kept.ite (State.modPort_kept h8) (State.sendSeries_kept (State.setPcs_kept (State.modPort_kept h8))))

theorem State.pdelaySend_kept {s i p build} (h : Kept q o s) : Kept q o (State.pdelaySend s i p build) := by
  unfold State.pdelaySend
  split
  · exact h
  · split
    · exact h
    · next c _ =>
      extract_lets _ _ s1 m
      have h1 := State.sealPtp_kept (c := c) (i := i) (client := none) (m := m) (s := s1) (State.modPort_kept h)
      split
      · next e => exact State.lose_kept (Kept.pair h1 e)
      · next e => exact State.sendPlain_kept (Kept.pair h1 e)

theorem State.esmcSend_kept {s i p build} (h : Kept q o s) : Kept q o (State.esmcSend s i p build) := by
  unfold State.esmcSend
  extract_lets -merge y1 y2 y3 y4 y5
  have h6 : Kept q o y5 := State.modEnt_kept (h)
  clear_value y5
  refine Kept.ite ?_ ?_
  · exact h
  · split
    · exact h
    · exact Kept.ite (h) (State.enqueue_kept (h6))

theorem State.prefOk_kept {s k rx} (h : Kept q o s) : Kept q o (State.prefOk s k rx).2 := by
  unfold State.prefOk
  extract_lets
  split
  · exact h
  · split
    · exact h
    · split
      · exact h
      · split
        · exact h
        · next n _ =>
          have h1 := State.resolve_kept (n := n) (user := rx.cluster) (purpose := 2) (tb := none) h
          split <;> (rename_i e; exact Kept.pair h1 e)

theorem State.modPref_kept {s k f} (h : Kept q o s) : Kept q o (State.modPref s k f) := by unfold State.modPref; exact State.modSvc_kept (h)

theorem State.prefSample_kept {s k} (h : Kept q o s) : Kept q o (State.prefSample s k) := by
  unfold State.prefSample
  extract_lets -merge y1 y2 y3 y4 y5 y6 y7 y8
  have h9 : Kept q o y8 := State.modRef_kept (h)
  clear_value y8
  exact Kept.ite (h) (State.refSample_kept (h9))

theorem State.prefSync_kept {s k rx t1 t2 missing} (h : Kept q o s) : Kept q o (State.prefSync s k rx t1 t2 missing) := by
  unfold State.prefSync
  extract_lets -merge y1 y2 y3 y4
  have h5 : Kept q o y2 := State.modRef_kept (h)
  clear_value y2
  have h6 : Kept q o y3 := Kept.ite (State.modPref_kept (State.prefSample_kept (h5))) (h5)
  clear_value y3
  exact State.modPref_kept (h6)

theorem State.prefMessage_kept {s k rx} (h : Kept q o s) : Kept q o (State.prefMessage s k rx) := by
  unfold State.prefMessage
  extract_lets -merge y1 y2 y3 y4 y5 y6 y7 y8 y9 y10 y11 y12 y13 y14
  have h15 : Kept q o y5 := State.modRef_kept (h)
  clear_value y5
  have h16 : Kept q o y6 := State.refArrive_kept (h15)
  clear_value y6
  have h17 : Kept q o y8 := Kept.ite (State.bumpSat_kept (h)) (h)
  clear_value y8
  have h18 : Kept q o y9 := State.modRef_kept (h17)
  clear_value y9
  have h19 : Kept q o y10 := State.modPref_kept (h18)
  clear_value y10
  clear_value y11
  have h20 : Kept q o y13 := Kept.ite (State.refClear_kept (h19)) (h19)
  clear_value y13
  clear_value y14
  split
  · exact Kept.ite (State.modPref_kept (h16)) (State.prefSync_kept (h16))
  · split
    · exact Kept.ite (State.modPref_kept (State.prefSync_kept (h))) (h)
    · exact h
  · split
    · extract_lets -merge y21 y22
      exact Kept.ite (State.modPref_kept (State.modRef_kept (h))) (h)
    · exact h
  · exact State.advertise_kept (h20)
  · split
    · exact State.modPref_kept (h)
    · exact h

theorem State.refMessage_kept {s} (h : Kept q o s) : Kept q o (State.refMessage s) := by
  unfold State.refMessage
  split
  · exact h
  · extract_lets -merge y1
    have h2 : Kept q o y1 := State.modSvc_kept (h)
    clear_value y1
    refine Kept.foldl (h2) (fun x3 _ h4 => ?_)
    extract_lets -merge y5
    exact Kept.ite (State.prefMessage_kept (State.prefOk_kept (h4))) (State.prefOk_kept (h4))

theorem State.prefSend_kept {s k cls m build after} (h : Kept q o s) : Kept q o (State.prefSend s k cls m build after) := by
  unfold State.prefSend
  extract_lets -merge y1 y2
  split
  · exact h
  · exact State.enqueue_kept (h)

theorem State.refDelayReq_kept {s k build} (h : Kept q o s) : Kept q o (State.refDelayReq s k build) := by
  unfold State.refDelayReq
  extract_lets -merge y1 y2 y3 y4 y5
  have h6 : Kept q o y4 := State.modPort_kept (h)
  clear_value y4
  exact Kept.ite (h) (State.prefSend_kept (h6))

theorem State.upstreamRequest_kept {s k build} (h : Kept q o s) : Kept q o (State.upstreamRequest s k build) := by
  unfold State.upstreamRequest
  extract_lets -merge y1 y2 y3 y4 y5 y6 y7 y8 y9
  have h10 : Kept q o y4 := State.modPort_kept (h)
  clear_value y4
  exact Kept.ite (h) (State.prefSend_kept (State.fresh_kept (State.fresh_kept (State.fresh_kept (h10)))))

/-! ### Sys2Proof/Machine/SvcGov.lean -/

theorem State.clusWake_kept {s c} (h : Kept q o s) : Kept q o (State.clusWake s c) := by
  unfold State.clusWake
  exact State.domFollow_kept (State.modClus_kept (State.bump_kept (State.setBit_kept (State.setFld_kept (h))))) (h)

theorem State.clusAwake_kept {s c} (h : Kept q o s) : Kept q o (State.clusAwake s c) := by
  unfold State.clusAwake
  exact Kept.ite (State.svcEvent_kept (State.modClus_kept (State.setFld_kept (h)))) (h)

theorem State.clusWakeDue_kept {s c} (h : Kept q o s) : Kept q o (State.clusWakeDue s c) := by
  unfold State.clusWakeDue
  split
  · exact Kept.ite (State.clusAwake_kept (h)) (h)
  · exact h

theorem State.clusSleep_kept {s c} (h : Kept q o s) : Kept q o (State.clusSleep s c) := by
  unfold State.clusSleep
  split
  · exact Kept.ite (State.domFollow_kept (State.svcEvent_kept (State.modClus_kept (State.setFld_kept (h)))) (h)) (h)
  · exact h

theorem State.govern_kept {s} (h : Kept q o s) : Kept q o (State.govern s) := by
  unfold State.govern
  extract_lets -merge y1 y2 y3 y4 y5 y6 y7 y8 y9 y10
  have h11 : Kept q o y1 := State.modSvc_kept (h)
  clear_value y1
  have h14 : Kept q o y5 := Kept.foldl (h11) (fun _ _ h13 => State.clusWake_kept (h13))
  clear_value y5
  have h15 : Kept q o y9 := Kept.ite (h14) (Kept.ite (State.setFld_kept (h14)) (Kept.ite (State.setFld_kept (h14)) (Kept.ite (State.setFld_kept (h14)) (Kept.ite (State.setFld_kept (h14)) (h14)))))
  clear_value y9
  have h18 : Kept q o y10 := Kept.foldl (h15) (fun _ _ h17 => State.modClus_kept (h17))
  clear_value y10
  exact Kept.foldl (h18) (fun _ _ h20 => State.clusSleep_kept (h20))

theorem State.governTick_kept {s} (h : Kept q o s) : Kept q o (State.governTick s) := by unfold State.governTick; exact Kept.ite (State.govern_kept (h)) (h)

theorem State.cycTick_kept {s} (h : Kept q o s) : Kept q o (State.cycTick s) := by
  unfold State.cycTick
  extract_lets -merge y1 y2
  have h10 : Kept q o y2 := by
    unfold y2
    refine Kept.foldl (h) (fun x3 _ h4 => ?_)
    extract_lets -merge y5 y6 y7 y8 y9
    exact State.modClus_kept (State.modSvc_kept (h4))
  clear_value y2
  exact Kept.foldl (h10) (fun _ _ h12 => Kept.ite (h12) (State.modPort_kept (h12)))

theorem State.cycRead_kept {s m c} (h : Kept q o s) : Kept q o (State.cycRead s m c) := by
  unfold State.cycRead
  extract_lets -merge y1 y2
  split
  · exact State.rejectRead_kept (h)
  · exact State.answer_kept (State.hsetAll_kept (h))

theorem State.fetchEnd_kept {s n ok} (h : Kept q o s) : Kept q o (State.fetchEnd s n ok) := by
  unfold State.fetchEnd
  extract_lets -merge y1 y2 y3 y4
  have h5 : Kept q o y1 := State.modSvc_kept (h)
  clear_value y1
  have h6 : Kept q o y4 := State.modSvc_kept (h5)
  clear_value y4
  exact Kept.foldl (h6) (fun _ _ h8 => State.drop_kept (h8))

theorem State.blobDone_kept {s a b} (h : Kept q o s) : Kept q o (State.blobDone s a b) := by
  unfold State.blobDone
  split
  · exact h
  · extract_lets -merge y1
    exact State.fetchEnd_kept (State.fetchIn_kept (h))

theorem State.entCfgWrite_kept {s m v} (h : Kept q o s) : Kept q o (State.entCfgWrite s m v) := by
  unfold State.entCfgWrite
  refine State.guardW_kept (h) ?_
  intro _ h1
  extract_lets -merge y2 y3
  split
  · exact State.reject_kept (h1)
  · exact State.modEnt_kept (h1)

theorem State.entRateWrite_kept {s m v} (h : Kept q o s) : Kept q o (State.entRateWrite s m v) := by
  unfold State.entRateWrite
  refine State.guardW_kept (h) ?_
  intro _ h1
  extract_lets -merge y2
  exact Kept.ite (State.modEnt_kept (h1)) (State.reject_kept (h1))

theorem State.entKeyWrite_kept {s m v} (h : Kept q o s) : Kept q o (State.entKeyWrite s m v) := by
  unfold State.entKeyWrite
  exact State.guardW_kept (h) (fun _ h1 => State.modEnt_kept (h1))

theorem State.entSelWrite_kept {s m v} (h : Kept q o s) : Kept q o (State.entSelWrite s m v) := by
  unfold State.entSelWrite
  exact State.guardW_kept (h) (fun _ h1 => Kept.ite (State.reject_kept (h1)) (State.plainWrite_kept (h1)))

theorem State.prefCfgWrite_kept {s m v} (h : Kept q o s) : Kept q o (State.prefCfgWrite s m v) := by
  unfold State.prefCfgWrite
  extract_lets -merge y1
  refine State.guardW_kept (h) ?_
  intro _ h2
  extract_lets -merge y3
  exact Kept.ite (State.reject_kept (h2)) (Kept.ite (State.reject_kept (h2)) (Kept.ite (State.reject_kept (h2)) (State.modPref_kept (h2))))

theorem State.rlWrite_kept {s m i v} (h : Kept q o s) : Kept q o (State.rlWrite s m i v) := by
  unfold State.rlWrite
  exact State.guardW_kept (h) (fun _ h1 => State.modSvc_kept (h1))

theorem State.rlSet_kept {s i v} (h : Kept q o s) : Kept q o (State.rlSet s i v) := by unfold State.rlSet; exact State.wr_kept (State.refillAll_kept (h))

theorem State.rlTick_kept {s} (h : Kept q o s) : Kept q o (State.rlTick s) := by
  unfold State.rlTick
  exact State.modSvc_kept (Kept.foldl (h) (fun _ _ h2 => State.rlSet_kept (h2)))

theorem State.stgRlWrite_kept {s m i v} (h : Kept q o s) : Kept q o (State.stgRlWrite s m i v) := by
  unfold State.stgRlWrite
  exact State.guardW_kept (h) (fun _ h1 => State.setBit_kept (State.plainWrite_kept (h1)))

theorem State.govCtlWrite_kept {s m v} (h : Kept q o s) : Kept q o (State.govCtlWrite s m v) := by
  unfold State.govCtlWrite
  exact State.guardW_kept (h) (fun _ h1 => Kept.ite (State.reject_kept (h1)) (State.plainWrite_kept (h1)))

theorem State.sessRead_kept {s m} (h : Kept q o s) : Kept q o (State.sessRead s m) := by
  unfold State.sessRead
  extract_lets -merge y1
  split
  · exact State.rejectRead_kept (h)
  · exact State.answer_kept (State.hsetAll_kept (h))

end Sys2Proof.Machine
end

