-- ==== Sys2Proof/Laws/KeptFaults.lean ====
section
/-! SUPPORT. Sys2Proof/Laws/KeptFaults.lean: what a command of faults, the wings and the checkpoints keeps (Sys2Proof/Laws/Kept.lean): one lemma per operation and per meaning. -/
namespace Sys2Proof.Machine

variable {q : List Instr} {o : Otp} {s t : State}

/-! ### Sys2Proof/Machine/FltOps.lean -/

theorem State.modFlt_kept {s f} (h : Kept q o s) : Kept q o (State.modFlt s f) := by unfold State.modFlt; exact Kept.of_eq (h) rfl rfl rfl rfl rfl rfl rfl

theorem State.fltEvent_kept {s mask} (h : Kept q o s) : Kept q o (State.fltEvent s mask) := by unfold State.fltEvent; exact State.raise_kept (h)

theorem State.liveOn_kept {s e holds} (h : Kept q o s) : Kept q o (State.liveOn s e holds) := by unfold State.liveOn; exact State.modFlt_kept (h)

theorem State.liveOff_kept {s x} (h : Kept q o s) : Kept q o (State.liveOff s x) := by unfold State.liveOff; exact Kept.ite (h) (State.modFlt_kept (h))

theorem State.modRing_kept {s c f} (h : Kept q o s) : Kept q o (State.modRing s c f) := by
  unfold State.modRing
  extract_lets -merge y1
  exact Kept.of_eq (h) rfl rfl rfl rfl rfl rfl rfl

theorem State.ringPut_kept {s c e} (h : Kept q o s) : Kept q o (State.ringPut s c e) := by unfold State.ringPut; exact Kept.ite (State.modRing_kept (h)) (h)

/-! ### Sys2Proof/Machine/WngOps.lean -/

theorem State.modWng_kept {s f} (h : Kept q o s) : Kept q o (State.modWng s f) := by unfold State.modWng; exact Kept.of_eq (h) rfl rfl rfl rfl rfl rfl rfl

theorem State.modPath_kept {s x f} (h : Kept q o s) : Kept q o (State.modPath s x f) := by unfold State.modPath; exact State.modWng_kept (h)

theorem State.wngEvent_kept {s mask} (h : Kept q o s) : Kept q o (State.wngEvent s mask) := by unfold State.wngEvent; exact State.raise_kept (h)

theorem State.pathShow_kept {s x} (h : Kept q o s) : Kept q o (State.pathShow s x) := by
  unfold State.pathShow
  extract_lets -merge y1
  exact State.setFld_kept (h)

theorem State.muteFollow_kept {s before} (h : Kept q o s) (_hs1 : Kept q o before) : Kept q o (State.muteFollow s before) := by
  unfold State.muteFollow
  exact Kept.ite (State.btbCurtain_kept (State.cuesCut_kept (State.outsHoldOff_kept (h)))) (Kept.ite (State.outsRelease_kept (h)) (h))

theorem State.setRole_kept {s r} (h : Kept q o s) : Kept q o (State.setRole s r) := by
  unfold State.setRole
  exact Kept.ite (h) (State.muteFollow_kept (State.wngEvent_kept (State.setFld_kept (h))) (h))

theorem State.servicesStop_kept {s} (h : Kept q o s) : Kept q o (State.servicesStop s) := by
  unfold State.servicesStop
  extract_lets -merge y1 y2
  have h5 : Kept q o y1 := Kept.foldl (h) (fun _ _ h4 => State.cyc_kept (h4))
  clear_value y1
  have h6 : Kept q o y2 := State.wr_kept (State.modSvc_kept (h5))
  clear_value y2
  exact Kept.foldl (h6) (fun _ _ h8 => State.modPort_kept (h8))

theorem State.loopsFree_kept {s} (h : Kept q o s) : Kept q o (State.loopsFree s) := by
  unfold State.loopsFree
  refine Kept.foldl (h) (fun x1 _ h2 => ?_)
  refine Kept.ite ?_ ?_
  · exact h2
  · split
    · exact Kept.ite (State.dpllFree_kept (h2)) (h2)
    · exact Kept.ite (State.dpllFree_kept (h2)) (h2)

theorem State.loopsRelease_kept {s} (h : Kept q o s) : Kept q o (State.loopsRelease s) := by
  unfold State.loopsRelease
  exact Kept.foldl (h) (fun _ _ h2 => Kept.ite (h2) (State.dpllRelease_kept (h2)))

theorem State.becomeUnderstudy_kept {s} (h : Kept q o s) : Kept q o (State.becomeUnderstudy s) := by
  unfold State.becomeUnderstudy
  extract_lets -merge y1 y2 y3
  have h4 : Kept q o y1 := State.loopsRelease_kept (State.setRole_kept (State.servicesStop_kept (h)))
  clear_value y1
  have h7 : Kept q o y2 := Kept.foldl (h4) (fun _ _ h6 => State.untrace_kept (h6))
  clear_value y2
  have h8 : Kept q o y3 := State.modWng_kept (State.setBit_kept (h7))
  clear_value y3
  exact State.selFollow_kept (h8) (h)

theorem State.becomeSolo_kept {s} (h : Kept q o s) : Kept q o (State.becomeSolo s) := by
  unfold State.becomeSolo
  extract_lets -merge y1 y2 y3
  have h4 : Kept q o y1 := State.loopsFree_kept (State.modWng_kept (State.setRole_kept (h)))
  clear_value y1
  have h5 : Kept q o y2 := State.setFld_kept (State.setFld_kept (h4))
  clear_value y2
  have h8 : Kept q o y3 := Kept.foldl (h5) (fun _ _ h7 => Kept.ite (State.untrace_kept (h7)) (h7))
  clear_value y3
  exact State.selEvalAll_kept (h8)

theorem State.wngSend_kept {s x type payload} (h : Kept q o s) : Kept q o (State.wngSend s x type payload) := by
  unfold State.wngSend
  extract_lets -merge y1 y2 y3
  exact State.modPath_kept (h)

theorem State.wngFrame_kept {s x type len l k} (h : Kept q o s) (hf5 : ∀ x0 x1, Kept q o x0 → Kept q o (k x0 x1)) : Kept q o (State.wngFrame s x type len l k) := by
  unfold State.wngFrame
  refine Kept.ite ?_ ?_
  · exact h
  · split
    · exact State.bumpSat_kept (h)
    · exact State.bumpSat_kept (h)
    · extract_lets -merge y1
      have h2 : Kept q o y1 := State.bump_kept (Kept.ite (State.bumpSat_kept (h)) (h))
      clear_value y1
      exact hf5 _ _ (State.modPath_kept (h2))

theorem State.timeSend_kept {s x} (h : Kept q o s) : Kept q o (State.timeSend s x) := by
  unfold State.timeSend
  extract_lets -merge y1 y2 y3 y4
  exact State.modPath_kept (State.wngSend_kept (h))

theorem State.timeSendAll_kept {s} (h : Kept q o s) : Kept q o (State.timeSendAll s) := by
  unfold State.timeSendAll
  exact Kept.foldl (h) (fun _ _ h2 => Kept.ite (State.timeSend_kept (h2)) (h2))

theorem State.rateStep_kept {s tick partner} (h : Kept q o s) : Kept q o (State.rateStep s tick partner) := by
  unfold State.rateStep
  extract_lets -merge y1
  exact Kept.ite (h) (State.wr_kept (State.modWng_kept (h)))

theorem State.wingsSample_kept {s x d o1} (h : Kept q o s) : Kept q o (State.wingsSample s x d o1) := by
  unfold State.wingsSample
  extract_lets -merge y1 y2
  split
  · exact h
  · exact Kept.ite (h) (State.refSample_kept (State.modRef_kept (h)))

theorem State.exchange_kept {s x m} (h : Kept q o s) : Kept q o (State.exchange s x m) := by
  unfold State.exchange
  extract_lets -merge y1 y2 y3
  split
  · extract_lets -merge y4 y5 y6 y7 y8
    have h9 : Kept q o y8 := State.wr_kept (State.modPath_kept (h))
    clear_value y8
    exact State.wingsSample_kept (State.rateStep_kept (State.wr_kept (h9)))
  · exact h

theorem State.hbSendAll_kept {s} (h : Kept q o s) : Kept q o (State.hbSendAll s) := by
  unfold State.hbSendAll
  refine Kept.foldl (h) (fun x1 _ h2 => ?_)
  extract_lets -merge y3
  exact Kept.ite (State.modPath_kept (State.wngSend_kept (h2))) (h2)

theorem State.heard_kept {s} (h : Kept q o s) : Kept q o (State.heard s) := by unfold State.heard; exact State.modWng_kept (h)

theorem State.hbReceive_kept {s x l} (h : Kept q o s) : Kept q o (State.hbReceive s x l) := by
  unfold State.hbReceive
  extract_lets -merge y1 y2 y3 y4 y5
  have h6 : Kept q o y5 := State.modPath_kept (h)
  clear_value y5
  exact Kept.ite (h) (Kept.ite (State.heard_kept (State.bump_kept (h6))) (State.wngEvent_kept (State.bumpSat_kept (h6))))

theorem State.hbEnter_kept {s x} (h : Kept q o s) : Kept q o (State.hbEnter s x) := by
  unfold State.hbEnter
  exact Kept.ite (h) (State.pathShow_kept (State.modPath_kept (h)))

theorem State.hbExit_kept {s x} (h : Kept q o s) : Kept q o (State.hbExit s x) := by unfold State.hbExit; exact State.pathShow_kept (State.modPath_kept (h))

theorem State.pathUp_kept {s x} (h : Kept q o s) : Kept q o (State.pathUp s x) := by unfold State.pathUp; exact State.pathShow_kept (State.modPath_kept (h))

theorem State.pathDown_kept {s x} (h : Kept q o s) : Kept q o (State.pathDown s x) := by
  unfold State.pathDown
  exact Kept.ite (h) (State.wngEvent_kept (State.pathShow_kept (State.modPath_kept (h))))

/-! ### Sys2Proof/Machine/WngCkpt.lean -/

theorem State.ckptTake_kept {s} (h : Kept q o s) : Kept q o (State.ckptTake s) := by
  unfold State.ckptTake
  extract_lets -merge y1 y2 y3 y4 y5 y6 put
  have h8 : Kept q o y6 := State.modWng_kept (State.wr_kept (h))
  have hp : ∀ x i y, Kept q o x → Kept q o (put x i y) := by
    intro x i y hx
    unfold put
    exact Kept.ite (State.modWng_kept (State.wngSend_kept hx)) hx
  exact Kept.ite h (Kept.foldl h8 fun x _ hx => hp _ _ _ (hp _ _ _ hx))

theorem State.modCk_kept {s i f} (h : Kept q o s) : Kept q o (State.modCk s i f) := by unfold State.modCk; exact State.modWng_kept (h)

theorem State.slotsShow_kept {s} (h : Kept q o s) : Kept q o (State.slotsShow s) := by unfold State.slotsShow; exact State.setBit_kept (State.setBit_kept (h))

theorem State.ckChunk_kept {s p} (h : Kept q o s) : Kept q o (State.ckChunk s p) := by
  unfold State.ckChunk
  extract_lets -merge y1 y2 y3 y4 y5 y6 y7 y8
  have h9 : Kept q o y5 := Kept.ite (h) (State.slotsShow_kept (State.modCk_kept (h)))
  clear_value y5
  have h10 : Kept q o y6 := State.modCk_kept (h9)
  clear_value y6
  have h11 : Kept q o y8 := State.wr_kept (State.slotsShow_kept (State.modCk_kept (h10)))
  clear_value y8
  exact Kept.ite (h) (Kept.ite (h9) (Kept.ite (State.wngEvent_kept (h11)) (h10)))

theorem State.ckptReceive_kept {s x l} (h : Kept q o s) : Kept q o (State.ckptReceive s x l) := by
  unfold State.ckptReceive
  exact State.wngFrame_kept (h) (fun _ _ h1 => State.ckChunk_kept (h1))

theorem State.leaseSend_kept {s m after} (h : Kept q o s) : Kept q o (State.leaseSend s m after) := by
  unfold State.leaseSend
  extract_lets -merge y1 y2
  split
  · exact State.modWng_kept (Kept.foldl (h) (fun _ _ h4 => State.sendPlain_kept (h4)))
  · exact h

theorem State.leaseRequest_kept {s kind} (h : Kept q o s) : Kept q o (State.leaseRequest s kind) := by
  unfold State.leaseRequest
  extract_lets -merge y1 y2 y3
  have h4 : Kept q o y3 := State.modWng_kept (State.fresh_kept (h))
  clear_value y3
  split
  · exact h
  · exact State.leaseSend_kept (h4)

theorem State.leaseRelease_kept {s} (h : Kept q o s) : Kept q o (State.leaseRelease s) := by
  unfold State.leaseRelease
  extract_lets -merge y1 y2
  have h3 : Kept q o y2 := State.modWng_kept (State.fresh_kept (h))
  clear_value y2
  split
  · exact h
  · exact State.leaseSend_kept (h3)

theorem State.renewStep_kept {s} (h : Kept q o s) : Kept q o (State.renewStep s) := by
  unfold State.renewStep
  split
  · exact h
  · exact Kept.ite (State.modWng_kept (State.leaseRequest_kept (h))) (h)

theorem State.partnerStep_kept {s} (h : Kept q o s) : Kept q o (State.partnerStep s) := by
  unfold State.partnerStep
  exact Kept.ite (State.wngEvent_kept (State.setBit_kept (State.setFld_kept (State.modWng_kept (h))))) (h)

theorem State.blindStep_kept {s} (h : Kept q o s) : Kept q o (State.blindStep s) := by
  unfold State.blindStep
  exact Kept.ite (State.wngEvent_kept (State.setBit_kept (h))) (h)

theorem State.witnessed_kept {s} (h : Kept q o s) : Kept q o (State.witnessed s) := by unfold State.witnessed; exact State.modWng_kept (State.setBit_kept (h))

theorem State.takeStep_kept {s} (h : Kept q o s) : Kept q o (State.takeStep s) := by
  unfold State.takeStep
  extract_lets -merge y1
  clear_value y1
  split
  · exact Kept.ite (State.modWng_kept (h)) (h)
  · exact Kept.ite (State.modWng_kept (State.leaseRequest_kept (h))) (h)

theorem State.leaseRefuse_kept {s l} (h : Kept q o s) : Kept q o (State.leaseRefuse s l) := by
  unfold State.leaseRefuse
  extract_lets -merge y1
  have h2 : Kept q o y1 := State.witnessed_kept (h)
  clear_value y1
  refine Kept.ite ?_ ?_
  · exact h
  · split
    · exact h
    · exact Kept.ite (State.modWng_kept (h2)) (h2)

theorem State.leaseAck_kept {s l} (h : Kept q o s) : Kept q o (State.leaseAck s l) := by unfold State.leaseAck; exact Kept.ite (State.modWng_kept (h)) (h)

theorem State.expireStep_kept {s} (h : Kept q o s) : Kept q o (State.expireStep s) := by
  unfold State.expireStep
  extract_lets -merge y1 y2 y3
  have h4 : Kept q o y2 := State.modWng_kept (State.setBit_kept (h))
  clear_value y2
  have h5 : Kept q o y3 := Kept.ite (Kept.ite (State.setRole_kept (State.wngEvent_kept (State.blindStep_kept (h4)))) (h4)) (h)
  clear_value y3
  exact Kept.ite (State.setRole_kept (h5)) (h5)

theorem State.holdStep_kept {s} (h : Kept q o s) : Kept q o (State.holdStep s) := by unfold State.holdStep; exact State.modWng_kept (h)

theorem State.healthStep_kept {s} (h : Kept q o s) : Kept q o (State.healthStep s) := by
  unfold State.healthStep
  extract_lets -merge y1 y2 y3 y4 y5
  have h6 : Kept q o y4 := State.setBit_kept (State.wr_kept (h))
  clear_value y4
  have h7 : Kept q o y5 := Kept.ite (State.becomeUnderstudy_kept (h6)) (Kept.ite (State.becomeUnderstudy_kept (State.leaseRelease_kept (h6))) (h6))
  clear_value y5
  exact Kept.ite (h) (State.holdStep_kept (h7))

theorem State.holdoffStep_kept {s} (h : Kept q o s) : Kept q o (State.holdoffStep s) := by
  unfold State.holdoffStep
  split
  · exact h
  · exact Kept.ite (State.loopsFree_kept (State.selEvalAll_kept (State.modWng_kept (State.setRole_kept (h))))) (h)

theorem State.handbackStep_kept {s} (h : Kept q o s) : Kept q o (State.handbackStep s) := by
  unfold State.handbackStep
  split
  · exact h
  · exact Kept.ite (State.wngEvent_kept (State.becomeUnderstudy_kept (State.leaseRelease_kept (h)))) (Kept.ite (State.modWng_kept (h)) (h))

theorem State.meetLead_kept {s m} (h : Kept q o s) : Kept q o (State.meetLead s m) := by
  unfold State.meetLead
  extract_lets -merge y1 y2
  have h3 : Kept q o y2 := State.wngEvent_kept (h)
  clear_value y2
  exact Kept.ite (h) (Kept.ite (State.wngEvent_kept (State.becomeUnderstudy_kept (h))) (Kept.ite (Kept.ite (State.becomeUnderstudy_kept (h3)) (h3)) (h)))

theorem State.timeReceive_kept {s x tap l} (h : Kept q o s) : Kept q o (State.timeReceive s x tap l) := by
  unfold State.timeReceive
  refine State.wngFrame_kept (h) ?_
  intro _ _ h1
  extract_lets -merge y2 y3 y4 y5 y6 y7 y8
  have h9 : Kept q o y4 := State.modPath_kept (h1)
  clear_value y4
  have h10 : Kept q o y5 := State.heard_kept (State.modWng_kept (h9))
  clear_value y5
  have h11 : Kept q o y6 := State.wr_kept (State.wr_kept (State.setBit_kept (State.setFld_kept (h10))))
  clear_value y6
  have h12 : Kept q o y8 := by
    unfold y8
    split
    · exact Kept.ite (h11) (State.advertise_kept (State.refArrive_kept (h11)))
    · exact h11
  clear_value y8
  exact State.handbackStep_kept (State.meetLead_kept (State.exchange_kept (h12)))

/-! ### Sys2Proof/Machine/Wng.lean -/

theorem State.takeoverStart_kept {s handback} (h : Kept q o s) : Kept q o (State.takeoverStart s handback) := by
  unfold State.takeoverStart
  extract_lets -merge y1 y2 y3
  have h4 : Kept q o y3 := State.modWng_kept (h)
  clear_value y3
  exact Kept.ite (h4) (State.setRole_kept (h4))

theorem State.leaseGrant_kept {s l} (h : Kept q o s) : Kept q o (State.leaseGrant s l) := by
  unfold State.leaseGrant
  extract_lets -merge y1
  have h2 : Kept q o y1 := State.witnessed_kept (h)
  clear_value y1
  refine Kept.ite ?_ ?_
  · exact h
  · split
    · exact h
    · extract_lets -merge y3 y4 y5
      have h6 : Kept q o y5 := State.modWng_kept (State.setBit_kept (State.wr_kept (h2)))
      clear_value y5
      exact Kept.ite (Kept.ite (State.takeoverStart_kept (h6)) (Kept.ite (h6) (State.setRole_kept (h6)))) (h2)

theorem State.takeTb_kept {s c m el n} (h : Kept q o s) : Kept q o (State.takeTb s c m el n) := by
  unfold State.takeTb
  extract_lets -merge y1 y2
  split
  · extract_lets -merge y3 y4 y5
    exact State.setBit_kept (State.modTb_kept (h))
  · exact h

theorem State.takeBound_kept {s c t1 n} (h : Kept q o s) : Kept q o (State.takeBound s c t1 n) := by
  unfold State.takeBound
  extract_lets -merge y1
  refine Kept.ite ?_ ?_
  · exact State.untrace_kept (h)
  · refine Kept.ite ?_ ?_
    · exact State.untrace_kept (h)
    · split
      · extract_lets -merge y2
        split
        · extract_lets -merge y3
          exact Kept.ite (State.untrace_kept (h)) (State.rebase_kept (State.modBnd_kept (h)))
        · exact State.untrace_kept (h)
      · exact State.untrace_kept (h)

theorem State.takeLeap_kept {s c m n} (h : Kept q o s) : Kept q o (State.takeLeap s c m n) := by
  unfold State.takeLeap
  extract_lets -merge y1 y2
  split
  · extract_lets -merge y3 y4
    have h5 : Kept q o y4 := State.setFld_kept (State.setFld_kept (h))
    clear_value y4
    exact Kept.ite (h) (Kept.ite (State.modTb_kept (h5)) (h5))
  · exact h

theorem State.takeKeys_kept {s img c tw} (h : Kept q o s) : Kept q o (State.takeKeys s img c tw) := by
  unfold State.takeKeys
  extract_lets -merge y1 y2 y3 y4 y5 y6 y7 y8 y9
  have h12 : Kept q o y2 := Kept.foldl (h) (fun _ _ h11 => State.wr_kept (h11))
  clear_value y2
  have h13 : Kept q o y7 := State.modKey_kept (h12)
  clear_value y7
  have h16 : Kept q o y8 := Kept.foldl (h13) (fun _ _ h15 => State.modSlot_kept (h15))
  clear_value y8
  exact Kept.ite (State.keyEvent_kept (State.modKey_kept (h16))) (Kept.ite (State.keyEvent_kept (h16)) (h16))

theorem State.takeRef_kept {s c k} (h : Kept q o s) : Kept q o (State.takeRef s c k) := by
  unfold State.takeRef
  split
  · exact h
  · extract_lets -merge y1 y2 y3 y4
    have h5 : Kept q o y3 := State.raise_kept (State.refEnter_kept (h))
    clear_value y3
    have h6 : Kept q o y4 := Kept.ite (State.setBit_kept (h5)) (h5)
    clear_value y4
    exact Kept.ite (h) (Kept.ite (State.modRef_kept (h6)) (h6))

theorem State.takeModel_kept {s c d} (h : Kept q o s) : Kept q o (State.takeModel s c d) := by
  unfold State.takeModel
  split
  · exact h
  · exact Kept.ite (h) (State.setBit_kept (State.wrAll_kept (h)))

theorem State.takeShared_kept {s img c tw} (h : Kept q o s) : Kept q o (State.takeShared s img c tw) := by
  unfold State.takeShared
  extract_lets -merge y1 y2
  have h3 : Kept q o y1 := State.takeKeys_kept (h)
  clear_value y1
  have h6 : Kept q o y2 := Kept.foldl (h3) (fun _ _ h5 => State.takeRef_kept (h5))
  clear_value y2
  exact Kept.foldl (h6) (fun _ _ h8 => State.takeModel_kept (h8))

theorem State.takeoverAct_kept {s t1} (h : Kept q o s) : Kept q o (State.takeoverAct s t1) := by
  unfold State.takeoverAct
  extract_lets -merge y1 y2 y3 y4 y5 y6 y7
  clear_value y1
  have h10 : Kept q o y3 := by
    unfold y3
    split
    · exact Kept.foldl (h) (fun _ _ h9 => State.takeTb_kept (h9))
    · exact h
  clear_value y3
  have h11 : Kept q o y4 := State.loopsFree_kept (h10)
  clear_value y4
  have h14 : Kept q o y5 := Kept.foldl (h11) (fun _ _ h13 => State.takeBound_kept (h13))
  clear_value y5
  have h17 : Kept q o y6 := by
    unfold y6
    split
    · exact Kept.foldl (h14) (fun _ _ h16 => State.takeLeap_kept (h16))
    · exact h14
  clear_value y6
  have h18 : Kept q o y7 := by
    unfold y7
    split
    · exact State.takeShared_kept (h17)
    · exact h17
  clear_value y7
  exact State.selFollow_kept (State.selEvalAll_kept (State.wngEvent_kept (State.setRole_kept (h18)))) (h)

theorem State.handbackAct_kept {s t1} (h : Kept q o s) : Kept q o (State.handbackAct s t1) := by
  unfold State.handbackAct
  extract_lets -merge y1
  have h2 : Kept q o y1 := by
    unfold y1
    split
    · exact State.takeShared_kept (h)
    · exact h
  clear_value y1
  exact State.selFollow_kept (State.selEvalAll_kept (State.setRole_kept (h2))) (h)

theorem State.takeoverStep_kept {s} (h : Kept q o s) : Kept q o (State.takeoverStep s) := by
  unfold State.takeoverStep
  extract_lets -merge y1
  have h2 : Kept q o y1 := State.modWng_kept (h)
  clear_value y1
  split
  · exact h
  · exact Kept.ite (h) (Kept.ite (Kept.ite (State.handbackAct_kept (h2)) (h2)) (Kept.ite (State.takeoverAct_kept (h2)) (h2)))

theorem State.wngCtl_kept {s m v} (h : Kept q o s) : Kept q o (State.wngCtl s m v) := by
  unfold State.wngCtl
  refine State.guardW_kept (h) ?_
  intro _ h1
  extract_lets -merge y2 y3 y4
  have h5 : Kept q o y3 := State.muteFollow_kept (State.plainWrite_kept (h1)) (h1)
  clear_value y3
  have h6 : Kept q o y4 := State.modWng_kept (h5)
  clear_value y4
  split
  · exact State.reject_kept (h1)
  · exact Kept.ite (State.becomeUnderstudy_kept (h6)) (Kept.ite (State.becomeSolo_kept (h5)) (h5))

theorem State.wngCmd_kept {s m v} (h : Kept q o s) : Kept q o (State.wngCmd s m v) := by
  unfold State.wngCmd
  extract_lets -merge y1
  refine State.guardW_kept (h) ?_
  intro _ h2
  split
  · exact Kept.ite (State.becomeUnderstudy_kept (State.leaseRelease_kept (h2))) (State.reject_kept (h2))
  · exact State.hbEnter_kept (h2)
  · exact State.hbEnter_kept (h2)
  · exact Kept.ite (State.reject_kept (h2)) (State.hbExit_kept (h2))
  · exact Kept.ite (State.reject_kept (h2)) (State.hbExit_kept (h2))
  · exact State.reject_kept (h2)

theorem State.wngSet_kept {s m off v} (h : Kept q o s) : Kept q o (State.wngSet s m off v) := by
  unfold State.wngSet
  refine State.guardW_kept (h) ?_
  intro _ h1
  split
  · exact State.reject_kept (h1)
  · exact State.plainWrite_kept (h1)

theorem State.wngTick_kept {s} (h : Kept q o s) : Kept q o (State.wngTick s) := by
  unfold State.wngTick
  extract_lets -merge y1 y2
  have h3 : Kept q o y1 := State.expireStep_kept (State.blindStep_kept (State.partnerStep_kept (State.takeoverStep_kept (h))))
  clear_value y1
  have h4 : Kept q o y2 := Kept.ite (State.healthStep_kept (h3)) (h3)
  clear_value y2
  exact Kept.ite (h) (State.hbSendAll_kept (State.timeSendAll_kept (State.ckptTake_kept (State.takeStep_kept (State.renewStep_kept (State.holdoffStep_kept (State.handbackStep_kept (h4))))))))

theorem execPairEnWrite_kept {m v s} (h : Kept q o s) (e : execPairEnWrite m v s = .next t) : Kept q o t := by
  unfold execPairEnWrite at e
  exact Kept.next (State.wngCtl_kept (h)) e

theorem execStepDown_kept {m s} (h : Kept q o s) (e : execStepDown m s = .next t) : Kept q o t := by unfold execStepDown at e; exact Kept.next (State.wngCmd_kept (h)) e

theorem execHbEnter_kept {m x s} (h : Kept q o s) (e : execHbEnter m x s = .next t) : Kept q o t := by unfold execHbEnter at e; exact Kept.next (State.wngCmd_kept (h)) e

theorem execHbExit_kept {m x s} (h : Kept q o s) (e : execHbExit m x s = .next t) : Kept q o t := by unfold execHbExit at e; exact Kept.next (State.wngCmd_kept (h)) e

theorem execWingsPathUp_kept {x s} (h : Kept q o s) (e : execWingsPathUp x s = .next t) : Kept q o t := by unfold execWingsPathUp at e; exact Kept.next (State.pathUp_kept (h)) e

theorem execWingsPathDown_kept {x s} (h : Kept q o s) (e : execWingsPathDown x s = .next t) : Kept q o t := by
  unfold execWingsPathDown at e
  exact Kept.next (State.pathDown_kept (h)) e

theorem execWingsTimeSend_kept {s} (h : Kept q o s) (e : execWingsTimeSend s = .next t) : Kept q o t := by
  unfold execWingsTimeSend at e
  exact Kept.next (State.timeSendAll_kept (h)) e

theorem execWingsTimeReceive_kept {x tap l s} (h : Kept q o s) (e : execWingsTimeReceive x tap l s = .next t) : Kept q o t := by
  unfold execWingsTimeReceive at e
  exact Kept.next (State.timeReceive_kept (h)) e

theorem execWingsHbSend_kept {s} (h : Kept q o s) (e : execWingsHbSend s = .next t) : Kept q o t := by unfold execWingsHbSend at e; exact Kept.next (State.hbSendAll_kept (h)) e

theorem execWingsHbReceive_kept {x l s} (h : Kept q o s) (e : execWingsHbReceive x l s = .next t) : Kept q o t := by
  unfold execWingsHbReceive at e
  exact Kept.next (State.hbReceive_kept (h)) e

theorem execCheckpointTake_kept {s} (h : Kept q o s) (e : execCheckpointTake s = .next t) : Kept q o t := by
  unfold execCheckpointTake at e
  exact Kept.next (State.ckptTake_kept (h)) e

theorem execCheckpointChunkReceive_kept {x l s} (h : Kept q o s) (e : execCheckpointChunkReceive x l s = .next t) : Kept q o t := by
  unfold execCheckpointChunkReceive at e
  exact Kept.next (State.ckptReceive_kept (h)) e

theorem execHealthEval_kept {s} (h : Kept q o s) (e : execHealthEval s = .next t) : Kept q o t := by unfold execHealthEval at e; exact Kept.next (State.healthStep_kept (h)) e

theorem execLeaseRenewSend_kept {s} (h : Kept q o s) (e : execLeaseRenewSend s = .next t) : Kept q o t := by
  unfold execLeaseRenewSend at e
  exact Kept.next (State.renewStep_kept (h)) e

theorem execTakeRequestSend_kept {s} (h : Kept q o s) (e : execTakeRequestSend s = .next t) : Kept q o t := by
  unfold execTakeRequestSend at e
  exact Kept.next (State.takeStep_kept (h)) e

theorem execLeaseGrantReceive_kept {l s} (h : Kept q o s) (e : execLeaseGrantReceive l s = .next t) : Kept q o t := by
  unfold execLeaseGrantReceive at e
  exact Kept.next (State.leaseGrant_kept (h)) e

theorem execLeaseRefuseReceive_kept {l s} (h : Kept q o s) (e : execLeaseRefuseReceive l s = .next t) : Kept q o t := by
  unfold execLeaseRefuseReceive at e
  exact Kept.next (State.leaseRefuse_kept (h)) e

theorem execLeaseReleaseAckReceive_kept {l s} (h : Kept q o s) (e : execLeaseReleaseAckReceive l s = .next t) : Kept q o t := by
  unfold execLeaseReleaseAckReceive at e
  exact Kept.next (State.leaseAck_kept (h)) e

theorem execLeaseExpire_kept {s} (h : Kept q o s) (e : execLeaseExpire s = .next t) : Kept q o t := by unfold execLeaseExpire at e; exact Kept.next (State.expireStep_kept (h)) e

theorem execWitnessBlind_kept {s} (h : Kept q o s) (e : execWitnessBlind s = .next t) : Kept q o t := by unfold execWitnessBlind at e; exact Kept.next (State.blindStep_kept (h)) e

theorem execPartnerLost_kept {s} (h : Kept q o s) (e : execPartnerLost s = .next t) : Kept q o t := by unfold execPartnerLost at e; exact Kept.next (State.partnerStep_kept (h)) e

theorem execTakeoverTick_kept {s} (h : Kept q o s) (e : execTakeoverTick s = .next t) : Kept q o t := by
  unfold execTakeoverTick at e
  exact Kept.next (State.takeoverStep_kept (h)) e

theorem execHoldoffExpire_kept {s} (h : Kept q o s) (e : execHoldoffExpire s = .next t) : Kept q o t := by
  unfold execHoldoffExpire at e
  exact Kept.next (State.holdoffStep_kept (h)) e

theorem execHandbackRelease_kept {s} (h : Kept q o s) (e : execHandbackRelease s = .next t) : Kept q o t := by
  unfold execHandbackRelease at e
  exact Kept.next (State.handbackStep_kept (h)) e

/-! ### Sys2Proof/Machine/Fault.lean -/

theorem State.fenceBit_kept {s u b} (h : Kept q o s) : Kept q o (State.fenceBit s u b) := by
  unfold State.fenceBit
  extract_lets -merge y1
  split
  · exact State.setBit_kept (h)
  · exact State.setBit_kept (h)
  · exact State.setBit_kept (h)
  · exact State.setBit_kept (h)
  · exact State.setBit_kept (h)
  · exact h

theorem State.replaceCap_kept {s} (h : Kept q o s) : Kept q o (State.replaceCap s) := by unfold State.replaceCap; exact Kept.foldl (h) (fun _ _ h2 => State.clusWake_kept (h2))

theorem State.fenceCluster_kept {s c} (h : Kept q o s) : Kept q o (State.fenceCluster s c) := by
  unfold State.fenceCluster
  extract_lets -merge y1 y2 y3 y4
  have h7 : Kept q o y2 := Kept.foldl (h) (fun _ _ h6 => State.cyc_kept (State.bumpSat_kept (h6)))
  clear_value y2
  have h8 : Kept q o y3 := State.modSvc_kept (h7)
  clear_value y3
  have h11 : Kept q o y4 := Kept.foldl (h8) (fun _ _ h10 => State.modPort_kept (h10))
  clear_value y4
  exact State.replaceCap_kept (State.domFollow_kept (State.modClus_kept (State.setFld_kept (h11))) (h))

theorem State.fenceEffect_kept {s u} (h : Kept q o s) : Kept q o (State.fenceEffect s u) := by
  unfold State.fenceEffect
  extract_lets -merge y1 y2 y3 y4
  have h5 : Kept q o y3 := State.untrace_kept (h)
  clear_value y3
  have h6 : Kept q o y4 := by
    unfold y4
    split
    · exact Kept.ite (State.dpllRelease_kept (h5)) (h5)
    · exact h5
  clear_value y4
  split
  · exact State.fenceCluster_kept (h)
  · refine Kept.foldl (h) (fun x7 _ h8 => ?_)
    extract_lets -merge y9
    have h10 : Kept q o y9 := State.linkFall_kept (h8)
    clear_value y9
    exact Kept.ite (Kept.ite (State.portEnter_kept (h10)) (h10)) (h8)
  · exact State.selFollow_kept (State.outsSettle_kept (State.modTb_kept (h6))) (h)
  · exact h

theorem State.unfenceEffect_kept {s u} (h : Kept q o s) : Kept q o (State.unfenceEffect s u) := by
  unfold State.unfenceEffect
  extract_lets -merge y1 y2 y3
  have h4 : Kept q o y3 := by
    unfold y3
    split
    · exact Kept.ite (State.dpllFree_kept (h)) (h)
    · exact h
  clear_value y3
  split
  · exact State.domFollow_kept (State.setFld_kept (h)) (h)
  · exact State.outsSettle_kept (Kept.ite (State.untrace_kept (h4)) (h4))
  · exact Kept.foldl (h) (fun _ _ h6 => Kept.ite (State.chainStart_kept (h6)) (h6))
  · exact State.setBit_kept (h)
  · exact h

theorem State.isolationReset_kept {s u} (h : Kept q o s) : Kept q o (State.isolationReset s u) := by
  unfold State.isolationReset
  exact Kept.foldl (h) (fun _ _ h2 => State.liveOff_kept (h2))

theorem State.isolate_kept {s u id auto} (h : Kept q o s) : Kept q o (State.isolate s u id auto) := by
  unfold State.isolate
  extract_lets -merge y1
  have h2 : Kept q o y1 := State.fenceBit_kept (State.modFlt_kept (h))
  clear_value y1
  exact Kept.ite (h) (State.fltEvent_kept (State.isolationReset_kept (State.fenceEffect_kept (h2))))

theorem State.fltShow_kept {s} (h : Kept q o s) : Kept q o (State.fltShow s) := by
  unfold State.fltShow
  extract_lets -merge y1 y2 y3
  have h4 : Kept q o y2 := State.setBit_kept (State.setBit_kept (h))
  clear_value y2
  have h5 : Kept q o y3 := State.setBit_kept (h4)
  clear_value y3
  exact State.setBit_kept (h5)

theorem State.curtainOn_kept {s c} (h : Kept q o s) : Kept q o (State.curtainOn s c) := by
  unfold State.curtainOn
  exact State.muteFollow_kept (State.fltEvent_kept (State.fltShow_kept (State.modFlt_kept (h)))) (h)

theorem State.fatalOn_kept {s src} (h : Kept q o s) : Kept q o (State.fatalOn s src) := by
  unfold State.fatalOn
  extract_lets -merge y1 y2 y3
  have h4 : Kept q o y1 := State.fltEvent_kept (State.modWng_kept (State.curtainOn_kept (h)))
  clear_value y1
  have h7 : Kept q o y2 := Kept.foldl (h4) (fun _ _ h6 => State.untrace_kept (h6))
  clear_value y2
  have h8 : Kept q o y3 := State.selFollow_kept (h7) (h4)
  clear_value y3
  exact Kept.ite (State.becomeUnderstudy_kept (State.leaseRelease_kept (h8))) (h8)

theorem State.curtainsEnd_kept {s f} (h : Kept q o s) : Kept q o (State.curtainsEnd s f) := by
  unfold State.curtainsEnd
  extract_lets -merge y1
  have h2 : Kept q o y1 := State.muteFollow_kept (State.fltShow_kept (State.modFlt_kept (h))) (h)
  clear_value y1
  exact Kept.ite (h) (Kept.ite (h2) (State.fltEvent_kept (h2)))

theorem State.putRecord_kept {s r masked cls} (h : Kept q o s) : Kept q o (State.putRecord s r masked cls) := by
  unfold State.putRecord
  extract_lets -merge y1 y2 y3 y4
  have h5 : Kept q o y2 := State.modFlt_kept (h)
  clear_value y2
  have h6 : Kept q o y3 := State.setFld_kept (Kept.ite (State.fltEvent_kept (State.bumpSat_kept (h5))) (h5))
  clear_value y3
  have h7 : Kept q o y4 := Kept.ite (State.setBit_kept (State.wrAll_kept (h6))) (h6)
  clear_value y4
  exact State.ringPut_kept (State.fltEvent_kept (h7))

theorem State.stick_kept {s x} (h : Kept q o s) : Kept q o (State.stick s x) := by
  unfold State.stick
  extract_lets -merge y1 y2
  have h3 : Kept q o y2 := State.raise_kept (h)
  clear_value y2
  exact State.modFlt_kept (h3)

theorem State.escalate_kept {s x id} (h : Kept q o s) : Kept q o (State.escalate s x id).2 := by
  unfold State.escalate
  split
  · exact h
  · extract_lets
    exact State.modFlt_kept h

theorem State.specialReact_kept {s e} (h : Kept q o s) : Kept q o (State.specialReact s e).2 := by
  unfold State.specialReact
  extract_lets
  split
  · exact State.modFlt_kept h
  · exact h
  · exact State.hbEnter_kept h
  · exact h

theorem State.reactStart_kept {s id curtain unit} (h : Kept q o s) : Kept q o (State.reactStart s id curtain unit) := by
  unfold State.reactStart
  exact State.fltShow_kept (State.modFlt_kept (h))

theorem State.faultOne_kept {s e} (h : Kept q o s) : Kept q o (State.faultOne s e) := by
  unfold State.faultOne
  extract_lets -merge y1 y2 y3 y4 y5 y6 y7 y8 y9 y10 y11 y12 y13 y14 y15 y16 y17 y18
  clear_value y2
  have h19 : Kept q o y4 := State.fltEvent_kept (State.stick_kept (h))
  clear_value y4
  have h20 : Kept q o y5 := Kept.ite (State.checkFail_kept (h19)) (h19)
  clear_value y5
  clear_value y7
  clear_value y8
  have h21 : Kept q o y10 := Kept.ite (State.fltEvent_kept (State.escalate_kept (h20))) (State.escalate_kept (h20))
  clear_value y10
  clear_value y12
  have h22 : Kept q o y16 := State.specialReact_kept (h21)
  clear_value y16
  split
  · exact State.putRecord_kept (h20)
  · clear_value y9
    split
    · exact State.putRecord_kept (h21)
    · exact State.putRecord_kept (State.reactStart_kept (State.fatalOn_kept (h21)))
    · clear_value y18
      split
      · exact State.putRecord_kept (State.reactStart_kept (State.isolate_kept (h22)))
      · exact State.putRecord_kept (State.reactStart_kept (State.curtainOn_kept (State.isolate_kept (h22))))
      · exact State.putRecord_kept (State.reactStart_kept (State.curtainOn_kept (h22)))
      · exact State.putRecord_kept (h22)

theorem State.faultAs_kept {s src cls syn} (h : Kept q o s) : Kept q o (State.faultAs s src cls syn) := by
  unfold State.faultAs
  extract_lets -merge y1
  exact Kept.ite (h) (State.faultOne_kept (State.liveOn_kept (h)))

theorem State.faultSignal_kept {s src syn} (h : Kept q o s) : Kept q o (State.faultSignal s src syn) := by unfold State.faultSignal; exact State.faultAs_kept (h)

theorem State.faultClear_kept {s src} (h : Kept q o s) : Kept q o (State.faultClear s src) := by unfold State.faultClear; exact State.liveOff_kept (h)

theorem State.faultPulse_kept {s src cls syn} (h : Kept q o s) : Kept q o (State.faultPulse s src cls syn) := by
  unfold State.faultPulse
  extract_lets -merge y1
  exact Kept.ite (h) (State.liveOff_kept (State.faultOne_kept (State.liveOn_kept (h))))

theorem State.samplePair_kept {s x} (h : Kept q o s) : Kept q o (State.samplePair s x).2 := by
  unfold State.samplePair
  split
  · exact h
  · split
    · extract_lets
      split
      · exact State.liveOn_kept (State.modFlt_kept h)
      · exact State.modFlt_kept h
    · extract_lets s1
      have h1 : Kept q o s1 := State.modFlt_kept h
      split
      · split
        · exact State.modFlt_kept h1
        · exact State.liveOn_kept h1
      · exact State.liveOff_kept h1

theorem State.faultSample_kept {s l} (h : Kept q o s) : Kept q o (State.faultSample s l) := by
  unfold State.faultSample
  extract_lets -merge r
  exact Kept.foldl (Kept.foldl_snd h fun x a hx => State.samplePair_kept hx) fun x _ hx => State.faultOne_kept hx

theorem State.reactionDone_kept {s id ns} (h : Kept q o s) : Kept q o (State.reactionDone s id ns) := by
  unfold State.reactionDone
  extract_lets -merge y1 y2
  split
  · exact h
  · extract_lets -merge y3 y4 y5
    have h6 : Kept q o y4 := State.fltShow_kept (State.modFlt_kept (h))
    clear_value y4
    have h7 : Kept q o y5 := State.modFlt_kept (h6)
    clear_value y5
    exact Kept.ite (State.faultPulse_kept (h6)) (Kept.ite (State.wr_kept (h7)) (h7))

theorem State.reactionsLate_kept {s} (h : Kept q o s) : Kept q o (State.reactionsLate s) := by
  unfold State.reactionsLate
  exact Kept.foldl (h) (fun _ _ h2 => State.reactionDone_kept (h2))

theorem State.unfence_kept {s u} (h : Kept q o s) : Kept q o (State.unfence s u) := by
  unfold State.unfence
  split
  · exact h
  · extract_lets -merge y1
    have h2 : Kept q o y1 := State.fenceBit_kept (State.modFlt_kept (h))
    clear_value y1
    exact State.fltEvent_kept (State.unfenceEffect_kept (h2))

theorem State.autoUnfence_kept {s} (h : Kept q o s) : Kept q o (State.autoUnfence s) := by
  unfold State.autoUnfence
  exact Kept.foldl (h) (fun _ _ h2 => State.unfence_kept (h2))

theorem State.autoRelease_kept {s} (h : Kept q o s) : Kept q o (State.autoRelease s) := by unfold State.autoRelease; exact State.curtainsEnd_kept (h)

theorem State.maskEnd_kept {s} (h : Kept q o s) : Kept q o (State.maskEnd s) := by unfold State.maskEnd; exact State.modFlt_kept (h)

theorem State.fltTick_kept {s} (h : Kept q o s) : Kept q o (State.fltTick s) := by
  unfold State.fltTick
  exact State.maskEnd_kept (State.autoRelease_kept (State.autoUnfence_kept (State.reactionsLate_kept (h))))

theorem State.fltCmd_kept {s m v} (h : Kept q o s) : Kept q o (State.fltCmd s m v) := by
  unfold State.fltCmd
  extract_lets -merge y1
  refine State.guardW_kept (h) ?_
  intro _ h2
  extract_lets -merge y3 y4
  split
  · exact Kept.ite (State.reject_kept (h2)) (Kept.ite (State.reject_kept (h2)) (State.autoRelease_kept (State.unfence_kept (h2))))
  · exact Kept.ite (State.reject_kept (h2)) (State.curtainsEnd_kept (h2))
  · exact Kept.ite (State.reject_kept (h2)) (Kept.ite (State.reject_kept (h2)) (State.setBit_kept (State.wrAll_kept (h2))))
  · exact State.reject_kept (h2)

theorem State.histPop_kept {s m} (h : Kept q o s) : Kept q o (State.histPop s m) := by
  unfold State.histPop
  split
  · exact State.rejectRead_kept (h)
  · split
    · exact State.answer_kept (h)
    · extract_lets -merge y1
      have h2 : Kept q o y1 := State.setFld_kept (State.modFlt_kept (h))
      clear_value y1
      exact State.answer_kept (State.hsetAll_kept (h2))

theorem State.coreRestart_kept {s c} (h : Kept q o s) : Kept q o (State.coreRestart s c) := by unfold State.coreRestart; exact Kept.ite (State.modFlt_kept (h)) (h)

theorem State.inject_kept {s v} (h : Kept q o s) : Kept q o (State.inject s v) := by
  unfold State.inject
  extract_lets -merge y1 y2 y3 y4
  have h5 : Kept q o y4 := State.modFlt_kept (h)
  clear_value y4
  clear_value y3
  split
  · exact State.faultSample_kept (h5)
  · exact State.faultSample_kept (h5)
  · exact State.modFlt_kept (h5)

theorem State.injectTick_kept {s} (h : Kept q o s) : Kept q o (State.injectTick s) := by unfold State.injectTick; exact State.faultSample_kept (h)

theorem State.srcStickyWrite_kept {s m v} (h : Kept q o s) : Kept q o (State.srcStickyWrite s m v) := by
  unfold State.srcStickyWrite
  extract_lets -merge y1 y2 y3
  exact Kept.ite (State.modFlt_kept (h)) (h)

theorem execFaultEvent_kept {l s} (h : Kept q o s) (e : execFaultEvent l s = .next t) : Kept q o t := by
  unfold execFaultEvent at e
  exact Kept.next (State.faultSample_kept (h)) e

theorem execSourceLiveBitClear_kept {src s} (h : Kept q o s) (e : execSourceLiveBitClear src s = .next t) : Kept q o t := by
  unfold execSourceLiveBitClear at e
  exact Kept.next (State.faultSample_kept (h)) e

theorem execCoreRestartDone_kept {c s} (h : Kept q o s) (e : execCoreRestartDone c s = .next t) : Kept q o t := by
  unfold execCoreRestartDone at e
  exact Kept.next (State.coreRestart_kept (h)) e

theorem execReactionDone_kept {id ns s} (h : Kept q o s) (e : execReactionDone id ns s = .next t) : Kept q o t := by
  unfold execReactionDone at e
  exact Kept.next (State.reactionDone_kept (h)) e

theorem execCurtainAutoRelease_kept {s} (h : Kept q o s) (e : execCurtainAutoRelease s = .next t) : Kept q o t := by
  unfold execCurtainAutoRelease at e
  exact Kept.next (State.autoRelease_kept (h)) e

theorem execAutoUnfence_kept {s} (h : Kept q o s) (e : execAutoUnfence s = .next t) : Kept q o t := by unfold execAutoUnfence at e; exact Kept.next (State.autoUnfence_kept (h)) e

theorem execMaskWindowEnd_kept {s} (h : Kept q o s) (e : execMaskWindowEnd s = .next t) : Kept q o t := by unfold execMaskWindowEnd at e; exact Kept.next (State.maskEnd_kept (h)) e

theorem execFltUnfence_kept {m s} (h : Kept q o s) (e : execFltUnfence m s = .next t) : Kept q o t := by unfold execFltUnfence at e; exact Kept.next (State.fltCmd_kept (h)) e

theorem execFltRelease_kept {m s} (h : Kept q o s) (e : execFltRelease m s = .next t) : Kept q o t := by unfold execFltRelease at e; exact Kept.next (State.fltCmd_kept (h)) e

theorem execFltClearFirst_kept {m s} (h : Kept q o s) (e : execFltClearFirst m s = .next t) : Kept q o t := by
  unfold execFltClearFirst at e
  exact Kept.next (State.fltCmd_kept (h)) e

theorem execFltHistPopRead_kept {m s} (h : Kept q o s) (e : execFltHistPopRead m s = .next t) : Kept q o t := by
  unfold execFltHistPopRead at e
  exact Kept.next (State.histPop_kept (h)) e

end Sys2Proof.Machine
end

