-- ==== Sys2Proof/Laws/KeptBlocks.lean ====
section
/-! SUPPORT. Sys2Proof/Laws/KeptBlocks.lean: what a command of the commands of the ports, the service, keys, memories, references, servos, the TDC and the outputs keeps (Sys2Proof/Laws/Kept.lean): one lemma per operation and per meaning. -/
namespace Sys2Proof.Machine

variable {q : List Instr} {o : Otp} {s t : State}

/-! ### Sys2Proof/Machine/Port.lean -/

theorem State.testOut_kept {s p} (h : Kept q o s) : Kept q o (State.testOut s p) := by
  unfold State.testOut
  extract_lets -merge y1
  have h2 : Kept q o y1 := State.modPort_kept (h)
  clear_value y1
  exact Kept.ite (State.modPort_kept (State.linkFall_kept (h2))) (State.modPort_kept (h2))

theorem State.gclArm_kept {s p} (h : Kept q o s) : Kept q o (State.gclArm s p) := by
  unfold State.gclArm
  extract_lets -merge y1 y2 y3
  exact State.setBit_kept (State.modPort_kept (h))

theorem State.portCmd_kept {s m p v} (h : Kept q o s) : Kept q o (State.portCmd s m p v) := by
  unfold State.portCmd
  extract_lets -merge y1
  refine State.guardW_kept (h) ?_
  intro _ h2
  extract_lets -merge y3
  split
  · exact Kept.ite (State.portEnter_kept (h2)) (State.reject_kept (h2))
  · exact Kept.ite (State.testOut_kept (h2)) (State.reject_kept (h2))
  · exact Kept.ite (State.reject_kept (h2)) (Kept.ite (State.reject_kept (h2)) (State.portSleep_kept (h2)))
  · exact Kept.ite (State.portWake_kept (h2)) (State.reject_kept (h2))
  · split
    · exact State.reject_kept (h2)
    · exact State.gclArm_kept (h2)
  · exact Kept.ite (State.setBit_kept (State.modPort_kept (h2))) (State.reject_kept (h2))
  · exact Kept.ite (State.modPort_kept (h2)) (State.reject_kept (h2))
  · exact State.reject_kept (h2)

theorem State.calStep_kept {s p} (h : Kept q o s) : Kept q o (State.calStep s p) := by
  unfold State.calStep
  split
  · exact h
  · extract_lets -merge y1 y2
    have h3 : Kept q o y2 := State.enqueue_kept (h)
    clear_value y2
    exact Kept.ite (h) (Kept.ite (State.portEvent_kept (State.modPort_kept (h3))) (State.modPort_kept (h3)))

theorem State.portAdj_kept {s m p i v} (h : Kept q o s) : Kept q o (State.portAdj s m p i v) := by
  unfold State.portAdj
  extract_lets -merge y1
  refine State.guardW_kept (h) ?_
  intro _ h2
  extract_lets -merge y3 y4
  have h5 : Kept q o y4 := State.wr_kept (h2)
  clear_value y4
  exact Kept.ite (State.reject_kept (h2)) (Kept.ite (State.reject_kept (h2)) (Kept.ite (State.modPort_kept (h5)) (h5)))

theorem State.portCtl_kept {s m p v} (h : Kept q o s) : Kept q o (State.portCtl s m p v) := by
  unfold State.portCtl
  exact State.guardW_kept (h) (fun _ h1 => Kept.ite (State.reject_kept (h1)) (State.plainWrite_kept (h1)))

theorem State.wakeMatch_kept {s p f} (h : Kept q o s) : Kept q o (State.wakeMatch s p f) := by
  unfold State.wakeMatch
  exact Kept.ite (State.portEvent_kept (State.portWake_kept (h))) (h)

theorem State.portTick_kept {s p} (h : Kept q o s) : Kept q o (State.portTick s p) := by
  unfold State.portTick
  exact Kept.ite (h) (State.startPlain_kept (State.departAll_kept (State.commitAll_kept (State.abortAll_kept (State.keyAborts_kept (State.calStep_kept (State.pairExpire_kept (State.dormIdle_kept (State.portTimer_kept (State.gclSwap_kept (h)))))))))))

theorem execFrameReceive_kept {p tap f s} (h : Kept q o s) (e : execFrameReceive p tap f s = .next t) : Kept q o t := by
  unfold execFrameReceive at e
  exact Kept.next (State.frameIn_kept (h)) e

theorem execPauseFrameReceive_kept {p queue quanta s} (h : Kept q o s) (e : execPauseFrameReceive p queue quanta s = .next t) : Kept q o t := by
  unfold execPauseFrameReceive at e
  exact Kept.next (State.pauseIn_kept (h)) e

theorem execTokenRefill_kept {s} (h : Kept q o s) (e : execTokenRefill s = .next t) : Kept q o t := by
  unfold execTokenRefill at e
  exact Kept.next (State.refillAll_kept (State.refillAll_kept (h))) e

theorem execCommitPointCheck_kept {p s} (h : Kept q o s) (e : execCommitPointCheck p s = .next t) : Kept q o t := by
  unfold execCommitPointCheck at e
  exact Kept.next (State.commitAll_kept (h)) e

theorem execFrameAbort_kept {p s} (h : Kept q o s) (e : execFrameAbort p s = .next t) : Kept q o t := by unfold execFrameAbort at e; exact Kept.next (State.abortAll_kept (h)) e

theorem execFrameDeparture_kept {p s} (h : Kept q o s) (e : execFrameDeparture p s = .next t) : Kept q o t := by
  unfold execFrameDeparture at e
  exact Kept.next (State.departAll_kept (h)) e

theorem execUnreservedTransmit_kept {p s} (h : Kept q o s) (e : execUnreservedTransmit p s = .next t) : Kept q o t := by
  unfold execUnreservedTransmit at e
  exact Kept.next (State.startPlain_kept (h)) e

theorem execTestEnter_kept {m p s} (h : Kept q o s) (e : execTestEnter m p s = .next t) : Kept q o t := by unfold execTestEnter at e; exact Kept.next (State.portCmd_kept (h)) e

theorem execTestExit_kept {m p s} (h : Kept q o s) (e : execTestExit m p s = .next t) : Kept q o t := by unfold execTestExit at e; exact Kept.next (State.portCmd_kept (h)) e

theorem execPortSleep_kept {m p s} (h : Kept q o s) (e : execPortSleep m p s = .next t) : Kept q o t := by unfold execPortSleep at e; exact Kept.next (State.portCmd_kept (h)) e

theorem execPortWake_kept {m p s} (h : Kept q o s) (e : execPortWake m p s = .next t) : Kept q o t := by unfold execPortWake at e; exact Kept.next (State.portCmd_kept (h)) e

theorem execGclArm_kept {m p s} (h : Kept q o s) (e : execGclArm m p s = .next t) : Kept q o t := by unfold execGclArm at e; exact Kept.next (State.portCmd_kept (h)) e

theorem execGclCancel_kept {m p s} (h : Kept q o s) (e : execGclCancel m p s = .next t) : Kept q o t := by unfold execGclCancel at e; exact Kept.next (State.portCmd_kept (h)) e

theorem execGclSwap_kept {p s} (h : Kept q o s) (e : execGclSwap p s = .next t) : Kept q o t := by unfold execGclSwap at e; exact Kept.next (State.gclSwap_kept (h)) e

theorem execCalSend_kept {m p s} (h : Kept q o s) (e : execCalSend m p s = .next t) : Kept q o t := by unfold execCalSend at e; exact Kept.next (State.portCmd_kept (h)) e

theorem execCalFrameTransmit_kept {p s} (h : Kept q o s) (e : execCalFrameTransmit p s = .next t) : Kept q o t := by
  unfold execCalFrameTransmit at e
  exact Kept.next (State.calStep_kept (h)) e

theorem execPortCalTagRead_kept {m p s} (h : Kept q o s) (e : execPortCalTagRead m p s = .next t) : Kept q o t := by
  unfold execPortCalTagRead at e
  exact Kept.next (State.calTagRead_kept (h)) e

theorem execPortCalAdjWrite_kept {m p i v s} (h : Kept q o s) (e : execPortCalAdjWrite m p i v s = .next t) : Kept q o t := by
  unfold execPortCalAdjWrite at e
  exact Kept.next (State.portAdj_kept (h)) e

theorem execPortLinkUp_kept {p s} (h : Kept q o s) (e : execPortLinkUp p s = .next t) : Kept q o t := by unfold execPortLinkUp at e; exact Kept.next (State.linkRise_kept (h)) e

theorem execPortLinkDown_kept {p s} (h : Kept q o s) (e : execPortLinkDown p s = .next t) : Kept q o t := by
  unfold execPortLinkDown at e
  exact Kept.next (State.linkFall_kept (h)) e

theorem execPortStartTimerExpire_kept {p s} (h : Kept q o s) (e : execPortStartTimerExpire p s = .next t) : Kept q o t := by
  unfold execPortStartTimerExpire at e
  exact Kept.next (State.portTimer_kept (h)) e

theorem execPortDormIdleExpire_kept {p s} (h : Kept q o s) (e : execPortDormIdleExpire p s = .next t) : Kept q o t := by
  unfold execPortDormIdleExpire at e
  exact Kept.next (State.dormIdle_kept (h)) e

theorem execWakePatternMatch_kept {p f s} (h : Kept q o s) (e : execWakePatternMatch p f s = .next t) : Kept q o t := by
  unfold execWakePatternMatch at e
  exact Kept.next (State.wakeMatch_kept (h)) e

theorem execPairEntryExpire_kept {p s} (h : Kept q o s) (e : execPairEntryExpire p s = .next t) : Kept q o t := by
  unfold execPairEntryExpire at e
  exact Kept.next (State.pairExpire_kept (h)) e

/-! ### Sys2Proof/Machine/Svc.lean -/

theorem execNtpRequest_kept {pcs build s} (h : Kept q o s) (e : execNtpRequest pcs build s = .next t) : Kept q o t := by
  unfold execNtpRequest at e
  exact Kept.next (State.ntpRequest_kept (h)) e

theorem execBlobFetchDone_kept {a b s} (h : Kept q o s) (e : execBlobFetchDone a b s = .next t) : Kept q o t := by
  unfold execBlobFetchDone at e
  exact Kept.next (State.blobDone_kept (h)) e

theorem execDelayReqReceive_kept {build s} (h : Kept q o s) (e : execDelayReqReceive build s = .next t) : Kept q o t := by
  unfold execDelayReqReceive at e
  exact Kept.next (State.delayReq_kept (h)) e

theorem execPdelayReqReceive_kept {pcs build s} (h : Kept q o s) (e : execPdelayReqReceive pcs build s = .next t) : Kept q o t := by
  unfold execPdelayReqReceive at e
  exact Kept.next (State.pdelayReq_kept (h)) e

theorem execRequestUnicastTransmission_kept {build s} (h : Kept q o s) (e : execRequestUnicastTransmission build s = .next t) : Kept q o t := by
  unfold execRequestUnicastTransmission at e
  exact Kept.next (State.negotiate_kept (h)) e

theorem execCancelUnicastTransmission_kept {build s} (h : Kept q o s) (e : execCancelUnicastTransmission build s = .next t) : Kept q o t := by
  unfold execCancelUnicastTransmission at e
  exact Kept.next (State.negotiate_kept (h)) e

theorem execGrantLapse_kept {j s} (h : Kept q o s) (e : execGrantLapse j s = .next t) : Kept q o t := by unfold execGrantLapse at e; exact Kept.next (State.grantLapse_kept (h)) e

theorem execPtpReferenceMessage_kept {s} (h : Kept q o s) (e : execPtpReferenceMessage s = .next t) : Kept q o t := by
  unfold execPtpReferenceMessage at e
  exact Kept.next (State.refMessage_kept (h)) e

theorem execMulticastMessageSend_kept {i p ann pcs build s} (h : Kept q o s) (e : execMulticastMessageSend i p ann pcs build s = .next t) : Kept q o t := by
  unfold execMulticastMessageSend at e
  exact Kept.next (State.multicastSend_kept (h)) e

theorem execUnicastMessageSend_kept {j ann pcs build s} (h : Kept q o s) (e : execUnicastMessageSend j ann pcs build s = .next t) : Kept q o t := by
  unfold execUnicastMessageSend at e
  exact Kept.next (State.unicastSend_kept (h)) e

theorem execPdelayReqSend_kept {i p build s} (h : Kept q o s) (e : execPdelayReqSend i p build s = .next t) : Kept q o t := by
  unfold execPdelayReqSend at e
  exact Kept.next (State.pdelaySend_kept (h)) e

theorem execEsmcPduSend_kept {i p build s} (h : Kept q o s) (e : execEsmcPduSend i p build s = .next t) : Kept q o t := by
  unfold execEsmcPduSend at e
  exact Kept.next (State.esmcSend_kept (h)) e

theorem execSvcEntCfgWrite_kept {m v s} (h : Kept q o s) (e : execSvcEntCfgWrite m v s = .next t) : Kept q o t := by
  unfold execSvcEntCfgWrite at e
  exact Kept.next (State.entCfgWrite_kept (h)) e

theorem execSvcRlWrite_kept {m i v s} (h : Kept q o s) (e : execSvcRlWrite m i v s = .next t) : Kept q o t := by
  unfold execSvcRlWrite at e
  exact Kept.next (State.rlWrite_kept (h)) e

theorem execSvcStgRlWrite_kept {m i v s} (h : Kept q o s) (e : execSvcStgRlWrite m i v s = .next t) : Kept q o t := by
  unfold execSvcStgRlWrite at e
  exact Kept.next (State.stgRlWrite_kept (h)) e

theorem execSvcPrefCfgWrite_kept {m v s} (h : Kept q o s) (e : execSvcPrefCfgWrite m v s = .next t) : Kept q o t := by
  unfold execSvcPrefCfgWrite at e
  exact Kept.next (State.prefCfgWrite_kept (h)) e

theorem execSvcSessD0Read_kept {m s} (h : Kept q o s) (e : execSvcSessD0Read m s = .next t) : Kept q o t := by
  unfold execSvcSessD0Read at e
  exact Kept.next (State.sessRead_kept (h)) e

theorem execSvcCycSrvLoRead_kept {m c s} (h : Kept q o s) (e : execSvcCycSrvLoRead m c s = .next t) : Kept q o t := by
  unfold execSvcCycSrvLoRead at e
  exact Kept.next (State.cycRead_kept (h)) e

theorem execGovernorEval_kept {s} (h : Kept q o s) (e : execGovernorEval s = .next t) : Kept q o t := by unfold execGovernorEval at e; exact Kept.next (State.governTick_kept (h)) e

theorem execClusterWakeDone_kept {c s} (h : Kept q o s) (e : execClusterWakeDone c s = .next t) : Kept q o t := by
  unfold execClusterWakeDone at e
  exact Kept.next (State.clusAwake_kept (h)) e

theorem execClusterSleep_kept {c s} (h : Kept q o s) (e : execClusterSleep c s = .next t) : Kept q o t := by
  unfold execClusterSleep at e
  exact Kept.next (State.clusSleep_kept (h)) e

theorem execReferenceDelayReqSend_kept {k build s} (h : Kept q o s) (e : execReferenceDelayReqSend k build s = .next t) : Kept q o t := by
  unfold execReferenceDelayReqSend at e
  exact Kept.next (State.refDelayReq_kept (h)) e

theorem execUpstreamUnicastRequest_kept {k build s} (h : Kept q o s) (e : execUpstreamUnicastRequest k build s = .next t) : Kept q o t := by
  unfold execUpstreamUnicastRequest at e
  exact Kept.next (State.upstreamRequest_kept (h)) e

/-! ### Sys2Proof/Machine/Key.lean -/

theorem execKeyStagingWrite_kept {m i v s} (h : Kept q o s) (e : execKeyStagingWrite m i v s = .next t) : Kept q o t := by
  unfold execKeyStagingWrite at e
  exact Kept.next (State.keyStage_kept (h)) e

theorem execKeyStagingTimeout_kept {s} (h : Kept q o s) (e : execKeyStagingTimeout s = .next t) : Kept q o t := by
  unfold execKeyStagingTimeout at e
  exact Kept.next (State.stgTimeout_kept (h)) e

theorem State.keyCmd_kept {s m v} (h : Kept q o s) : Kept q o (State.keyCmd s m v) := by
  unfold State.keyCmd
  refine State.guardD_kept (h) ?_
  intro _ h1
  split
  · exact State.keyCommit_kept (h1)
  · exact State.keyAbort_kept (h1)
  · exact State.keyInvalidate_kept (h1)
  · exact State.keyInvalidateDer_kept (h1)
  · exact State.keyErase_kept (h1)
  · exact State.keyExport_kept (h1)
  · exact State.keyImport_kept (h1)
  · exact State.keyScan_kept (h1)
  · exact State.reject_kept (h1)

theorem execKeyCommit_kept {m s} (h : Kept q o s) (e : execKeyCommit m s = .next t) : Kept q o t := by unfold execKeyCommit at e; exact Kept.next (State.keyCmd_kept (h)) e

theorem execKeyAbort_kept {m s} (h : Kept q o s) (e : execKeyAbort m s = .next t) : Kept q o t := by unfold execKeyAbort at e; exact Kept.next (State.keyCmd_kept (h)) e

theorem execKeyInvalidate_kept {m s} (h : Kept q o s) (e : execKeyInvalidate m s = .next t) : Kept q o t := by
  unfold execKeyInvalidate at e
  exact Kept.next (State.keyCmd_kept (h)) e

theorem execKeyInvalidateDer_kept {m s} (h : Kept q o s) (e : execKeyInvalidateDer m s = .next t) : Kept q o t := by
  unfold execKeyInvalidateDer at e
  exact Kept.next (State.keyCmd_kept (h)) e

theorem execKeyErase_kept {m s} (h : Kept q o s) (e : execKeyErase m s = .next t) : Kept q o t := by unfold execKeyErase at e; exact Kept.next (State.keyCmd_kept (h)) e

theorem execKeyExport_kept {m s} (h : Kept q o s) (e : execKeyExport m s = .next t) : Kept q o t := by unfold execKeyExport at e; exact Kept.next (State.keyCmd_kept (h)) e

theorem execExportComplete_kept {ok s} (h : Kept q o s) (e : execExportComplete ok s = .next t) : Kept q o t := by
  unfold execExportComplete at e
  exact Kept.next (State.exportEnd_kept (h)) e

theorem execKeyImportSlot_kept {m s} (h : Kept q o s) (e : execKeyImportSlot m s = .next t) : Kept q o t := by
  unfold execKeyImportSlot at e
  exact Kept.next (State.keyCmd_kept (h)) e

theorem execImportComplete_kept {a b s} (h : Kept q o s) (e : execImportComplete a b s = .next t) : Kept q o t := by
  unfold execImportComplete at e
  exact Kept.next (State.importEnd_kept (h)) e

theorem execKeyScan_kept {m s} (h : Kept q o s) (e : execKeyScan m s = .next t) : Kept q o t := by unfold execKeyScan at e; exact Kept.next (State.keyCmd_kept (h)) e

theorem execScanComplete_kept {records s} (h : Kept q o s) (e : execScanComplete records s = .next t) : Kept q o t := by
  unfold execScanComplete at e
  exact Kept.next (State.scanEnd_kept (h)) e

theorem execKeygenOperationAbort_kept {p s} (h : Kept q o s) (e : execKeygenOperationAbort p s = .next t) : Kept q o t := by
  unfold execKeygenOperationAbort at e
  exact Kept.next (State.keyAborts_kept (h)) e

theorem execPurgeComplete_kept {s} (h : Kept q o s) (e : execPurgeComplete s = .next t) : Kept q o t := by
  unfold execPurgeComplete at e
  exact Kept.next (Kept.ite (State.purge_kept (h)) (h)) e

theorem execKeyRemask_kept {s} (h : Kept q o s) (e : execKeyRemask s = .next t) : Kept q o t := by unfold execKeyRemask at e; exact Kept.next (State.remask_kept (h)) e

theorem State.reseed_kept {s ok} (h : Kept q o s) : Kept q o (State.reseed s ok) := by
  unfold State.reseed
  extract_lets -merge y1
  have h2 : Kept q o y1 := State.modKey_kept (h)
  clear_value y1
  exact Kept.ite (State.faultClear_kept (State.setBit_kept (h2))) (State.faultAs_kept (State.keyEvent_kept (State.setBit_kept (h2))))

theorem execDrbgReseed_kept {ok s} (h : Kept q o s) (e : execDrbgReseed ok s = .next t) : Kept q o t := by unfold execDrbgReseed at e; exact Kept.next (State.reseed_kept (h)) e

theorem execKeyEpochWrite_kept {m r v s} (h : Kept q o s) (e : execKeyEpochWrite m r v s = .next t) : Kept q o t := by
  unfold execKeyEpochWrite at e
  exact Kept.next (State.keyEpoch_kept (h)) e

theorem execKeySvcCfgWrite_kept {m r v s} (h : Kept q o s) (e : execKeySvcCfgWrite m r v s = .next t) : Kept q o t := by
  unfold execKeySvcCfgWrite at e
  exact Kept.next (State.keySvcCfg_kept (h)) e

theorem State.otpCmd_kept {s m v} (h : Kept q o s) : Kept q o (State.otpCmd s m v) := by
  unfold State.otpCmd
  split
  · exact State.otpStart_kept (h)
  · exact State.otpStart_kept (h)
  · exact State.otpStart_kept (h)
  · exact State.otpStart_kept (h)
  · exact State.otpStart_kept (h)

theorem execFuseOpk0_kept {m s} (h : Kept q o s) (e : execFuseOpk0 m s = .next t) : Kept q o t := by unfold execFuseOpk0 at e; exact Kept.next (State.otpCmd_kept (h)) e

theorem execFuseOpk1_kept {m s} (h : Kept q o s) (e : execFuseOpk1 m s = .next t) : Kept q o t := by unfold execFuseOpk1 at e; exact Kept.next (State.otpCmd_kept (h)) e

theorem execRevokeOpk0_kept {m s} (h : Kept q o s) (e : execRevokeOpk0 m s = .next t) : Kept q o t := by unfold execRevokeOpk0 at e; exact Kept.next (State.otpCmd_kept (h)) e

theorem execRevokeOpk1_kept {m s} (h : Kept q o s) (e : execRevokeOpk1 m s = .next t) : Kept q o t := by unfold execRevokeOpk1 at e; exact Kept.next (State.otpCmd_kept (h)) e

theorem State.lcCmd_kept {s m v} (h : Kept q o s) : Kept q o (State.lcCmd s m v) := by unfold State.lcCmd; exact State.otpStart_kept (h)

theorem execLcAdvance_kept {m target s} (h : Kept q o s) (e : execLcAdvance m target s = .next t) : Kept q o t := by
  unfold execLcAdvance at e
  exact Kept.next (State.lcCmd_kept (h)) e

theorem State.keyOtpData_kept {s i v} (h : Kept q o s) : Kept q o (State.keyOtpData s i v) := by unfold State.keyOtpData; exact State.modKey_kept (h)

/-! ### Sys2Proof/Machine/MemOps.lean -/

theorem State.pd9Wake_kept {s} (h : Kept q o s) : Kept q o (State.pd9Wake s) := by
  unfold State.pd9Wake
  extract_lets -merge y1
  have h2 : Kept q o y1 := by
    unfold y1
    unfold State.modMem
    exact Kept.of_eq (State.setBit_kept (h)) rfl rfl rfl rfl rfl rfl rfl
  clear_value y1
  exact State.domFollow_kept (h2) (h)

theorem State.ringDrop_kept {s c} (h : Kept q o s) : Kept q o (State.ringDrop s c) := by
  unfold State.ringDrop
  exact State.raise_kept (State.bumpSat_kept (State.modRing_kept (h)))

theorem State.ringFail_kept {s c} (h : Kept q o s) : Kept q o (State.ringFail s c) := by unfold State.ringFail; exact Kept.ite (h) (State.ringDrop_kept (h))

theorem State.ringFire_kept {s c} (h : Kept q o s) : Kept q o (State.ringFire s c) := by unfold State.ringFire; exact State.modRing_kept (State.fire_kept (h))

theorem State.ringIrq_kept {s c} (h : Kept q o s) : Kept q o (State.ringIrq s c) := by
  unfold State.ringIrq
  exact Kept.ite (h) (Kept.ite (State.ringFire_kept (h)) (State.modRing_kept (h)))

theorem State.ringOwed_kept {s c} (h : Kept q o s) : Kept q o (State.ringOwed s c) := by
  unfold State.ringOwed
  exact Kept.ite (Kept.ite (State.ringFire_kept (h)) (State.modRing_kept (h))) (h)

theorem State.ringWrite_kept {s c} (h : Kept q o s) : Kept q o (State.ringWrite s c) := by
  unfold State.ringWrite
  extract_lets -merge y1 y2 y3 y4
  split
  · exact h
  · extract_lets -merge y5
    refine Kept.ite ?_ ?_
    · exact h
    · refine Kept.ite ?_ ?_
      · exact State.ringDrop_kept (h)
      · refine State.ringIrq_kept ?_
        refine State.wr_kept ?_
        refine State.modRing_kept ?_
        unfold State.modMem
        exact Kept.of_eq (h) rfl rfl rfl rfl rfl rfl rfl

theorem State.ringCtl_kept {s m c v} (h : Kept q o s) : Kept q o (State.ringCtl s m c v) := by
  unfold State.ringCtl
  extract_lets -merge y1 y2
  refine State.guardW_kept (h) ?_
  intro _ h3
  extract_lets -merge y4 y5 y6 y7
  have h8 : Kept q o y5 := State.plainWrite_kept (h3)
  clear_value y5
  have h9 : Kept q o y6 := State.modRing_kept (h8)
  clear_value y6
  exact Kept.ite (State.reject_kept (h3)) (Kept.ite (Kept.ite (Kept.of_eq (h9) rfl rfl rfl rfl rfl rfl rfl) (h9)) (State.modRing_kept (h8)))

theorem State.ringSet_kept {s m c o1 v} (h : Kept q o s) : Kept q o (State.ringSet s m c o1 v) := by
  unfold State.ringSet
  extract_lets -merge y1
  exact State.guardW_kept (h) (fun _ h2 => Kept.ite (State.reject_kept (h2)) (Kept.ite (State.reject_kept (h2)) (State.plainWrite_kept (h2))))

theorem State.ringCons_kept {s m c v} (h : Kept q o s) : Kept q o (State.ringCons s m c v) := by
  unfold State.ringCons
  extract_lets -merge y1
  exact State.guardW_kept (h) (fun _ h2 => Kept.ite (State.reject_kept (h2)) (State.plainWrite_kept (h2)))

theorem State.sessionLost_kept {s j} (h : Kept q o s) : Kept q o (State.sessionLost s j) := by unfold State.sessionLost; exact State.setSession_kept (h)

theorem State.frameLost_kept {s p k} (h : Kept q o s) : Kept q o (State.frameLost s p k) := by
  unfold State.frameLost
  extract_lets -merge y1
  have h2 : Kept q o y1 := State.bumpSat_kept (h)
  clear_value y1
  split
  · exact State.cyc_kept (State.modSvc_kept (h2))
  · exact h2

theorem State.cacheLost_kept {s n} (h : Kept q o s) : Kept q o (State.cacheLost s n) := by unfold State.cacheLost; exact State.modKey_kept (h)

theorem State.dirLost_kept {s n} (h : Kept q o s) : Kept q o (State.dirLost s n) := by
  unfold State.dirLost
  exact Kept.ite (State.gmacSpend_kept (State.modKey_kept (h))) (h)

theorem State.ckptLost_kept {s i} (h : Kept q o s) : Kept q o (State.ckptLost s i) := by unfold State.ckptLost; exact State.slotsShow_kept (State.modCk_kept (h))

theorem State.gnssLost_kept {s sv} (h : Kept q o s) : Kept q o (State.gnssLost s sv) := by
  unfold State.gnssLost
  extract_lets -merge y1
  exact Kept.of_eq (h) rfl rfl rfl rfl rfl rfl rfl

theorem State.ownerLost_kept {s o1} (h : Kept q o s) : Kept q o (State.ownerLost s o1) := by
  unfold State.ownerLost
  split
  · exact h
  · exact State.sessionLost_kept (h)
  · exact State.frameLost_kept (h)
  · exact State.cacheLost_kept (h)
  · exact State.dirLost_kept (h)
  · exact State.ckptLost_kept (h)
  · exact State.gnssLost_kept (h)
  · exact h
  · exact State.ringFail_kept (h)

theorem State.sramResp_kept {s init bad data} (h : Kept q o s) : Kept q o (State.sramResp s init bad data) := by
  unfold State.sramResp
  unfold State.modMem
  exact Kept.of_eq (h) rfl rfl rfl rfl rfl rfl rfl

theorem State.sramReject_kept {s init line write} (h : Kept q o s) : Kept q o (State.sramReject s init line write) := by
  unfold State.sramReject
  exact State.recordErr_kept (State.sramResp_kept (h))

theorem State.sramCorr_kept {s init line} (h : Kept q o s) : Kept q o (State.sramCorr s init line) := by
  unfold State.sramCorr
  extract_lets -merge y1 y2
  have h3 : Kept q o y2 := by
    unfold y2
    unfold State.modMem
    exact Kept.of_eq (h) rfl rfl rfl rfl rfl rfl rfl
  clear_value y2
  exact State.faultPulse_kept (State.raise_kept (h3))

theorem State.sramUncorr_kept {s init line o1} (h : Kept q o s) : Kept q o (State.sramUncorr s init line o1) := by
  unfold State.sramUncorr
  extract_lets -merge y1 y2 y3 y4
  have h5 : Kept q o y4 := by
    unfold y4
    unfold State.modMem
    exact Kept.of_eq (h) rfl rfl rfl rfl rfl rfl rfl
  clear_value y4
  exact State.faultPulse_kept (State.ownerLost_kept (State.raise_kept (h5)))

theorem State.sramRead_kept {s init line fails o1} (h : Kept q o s) : Kept q o (State.sramRead s init line fails o1) := by
  unfold State.sramRead
  extract_lets -merge y1 y2
  have h3 : Kept q o y1 := State.pd9Wake_kept (h)
  clear_value y1
  have h4 : Kept q o y2 := State.sramResp_kept (h3)
  clear_value y2
  exact Kept.ite (State.sramReject_kept (h)) (Kept.ite (State.sramUncorr_kept (State.sramResp_kept (h3))) (Kept.ite (h4) (State.sramCorr_kept (h4))))

/-- Stored bytes keep the SRAM canonical. -/
theorem Memory.wf_putBytes {m : Sparse Byte} {a : Nat} {l : List Byte} (h : Memory.wf m = true) : Memory.wf (putBytes m a l) = true := by
  induction l generalizing m a with
  | nil => exact h
  | cons b l ih => exact ih (Sparse.wf_set _ _ _ _ h)

theorem State.sramWrite_kept {s init line a bytes fails o1} (h : Kept q o s) : Kept q o (State.sramWrite s init line a bytes fails o1) := by
  unfold State.sramWrite
  extract_lets -merge data put y3
  have h4 : Kept q o y3 := State.pd9Wake_kept h
  have hp : ∀ x, Kept q o x → Kept q o (put x) := fun x hx => State.modMem_kept (State.sramResp_kept hx) Memory.wf_putBytes
  exact Kept.ite (State.sramReject_kept h) (Kept.ite (State.modMem_kept (hp _ h4) id)
    (Kept.ite (State.sramUncorr_kept (State.sramResp_kept h4)) (Kept.ite (hp _ h4) (State.sramCorr_kept (hp _ h4)))))

theorem State.scrubLine_kept {s line fails o1} (h : Kept q o s) : Kept q o (State.scrubLine s line fails o1) := by
  unfold State.scrubLine
  exact Kept.ite (h) (Kept.ite (State.sramUncorr_kept (h)) (Kept.ite (h) (State.sramCorr_kept (h))))

theorem State.scrubBurst_kept {s bad} (h : Kept q o s) : Kept q o (State.scrubBurst s bad) := by
  unfold State.scrubBurst
  extract_lets -merge y1 y2 y3 y4
  have h7 : Kept q o y3 := Kept.foldl (State.pd9Wake_kept (h)) (fun _ _ h6 => State.scrubLine_kept (h6))
  clear_value y3
  have h10 : Kept q o y4 := Kept.foldl (h7) (fun _ _ h9 => State.scrubLine_kept (h9))
  clear_value y4
  refine Kept.ite ?_ ?_
  · exact h
  · refine Kept.ite ?_ ?_
    · unfold State.modMem
      exact Kept.of_eq (h10) rfl rfl rfl rfl rfl rfl rfl
    · refine State.raise_kept ?_
      refine State.bump_kept ?_
      unfold State.modMem
      exact Kept.of_eq (h10) rfl rfl rfl rfl rfl rfl rfl

theorem State.pd9Retain_kept {s} (h : Kept q o s) : Kept q o (State.pd9Retain s) := by
  unfold State.pd9Retain
  extract_lets -merge y1
  exact Kept.ite (State.domFollow_kept (State.setBit_kept (h)) (h)) (h)

theorem State.fetchFail_kept {s} (h : Kept q o s) : Kept q o (State.fetchFail s) := by
  unfold State.fetchFail
  extract_lets -merge y1 y2
  have h3 : Kept q o y1 := State.wr_kept (State.wr_kept (State.setFld_kept (State.setFld_kept (h))))
  clear_value y1
  exact Kept.of_eq (h3) rfl rfl rfl rfl rfl rfl rfl

theorem State.blobFail_kept {s} (h : Kept q o s) : Kept q o (State.blobFail s) := by
  unfold State.blobFail
  split
  · exact State.exportEnd_kept (h)
  · exact State.importFail_kept (State.modKey_kept (h))
  · split
    · exact State.fetchEnd_kept (State.importFail_kept (h))
    · exact h

theorem State.dmaFail_kept {s ch} (h : Kept q o s) : Kept q o (State.dmaFail s ch) := by
  unfold State.dmaFail
  split
  · exact Kept.ite (State.fetchFail_kept (h)) (h)
  · exact State.blobFail_kept (h)
  · exact State.ringFail_kept (h)

theorem State.dmaError_kept {s ch} (h : Kept q o s) : Kept q o (State.dmaError s ch) := by
  unfold State.dmaError
  extract_lets -merge y1
  have h2 : Kept q o y1 := State.setBit_kept (State.dmaFail_kept (h))
  clear_value y1
  refine State.faultPulse_kept ?_
  refine State.raise_kept ?_
  unfold State.modMem
  exact Kept.of_eq (h2) rfl rfl rfl rfl rfl rfl rfl

theorem State.dmaRestart_kept {s ch} (h : Kept q o s) : Kept q o (State.dmaRestart s ch) := by
  unfold State.dmaRestart
  refine Kept.ite ?_ ?_
  · unfold State.modMem
    exact Kept.of_eq (State.setBit_kept (h)) rfl rfl rfl rfl rfl rfl rfl
  · exact h

theorem State.dmaTick_kept {s} (h : Kept q o s) : Kept q o (State.dmaTick s) := by
  unfold State.dmaTick
  refine Kept.foldl (h) (fun x1 _ h2 => ?_)
  split
  · exact Kept.ite (State.dmaRestart_kept (h2)) (h2)
  · exact h2

theorem State.qspiCmd_kept {s m v} (h : Kept q o s) : Kept q o (State.qspiCmd s m v) := by
  unfold State.qspiCmd
  refine State.guardW_kept (h) ?_
  intro _ h1
  split
  · exact State.reject_kept (h1)
  · unfold State.modMem
    exact Kept.of_eq (h1) rfl rfl rfl rfl rfl rfl rfl

theorem State.wordIn_kept {s l} (h : Kept q o s) : Kept q o (State.wordIn s l).2 := by
  unfold State.wordIn
  extract_lets
  split
  · exact h
  · exact State.fresh_kept (w := 32) h

theorem State.fifoFill_kept {s} {n : Nat} {l : List Byte} (h : Kept q o s) : Kept q o (State.fifoFill s n l) := by
  induction n generalizing s l with
  | zero => exact h
  | succ n ih =>
    unfold State.fifoFill
    exact Kept.ite h (ih (State.modMem_kept (State.wordIn_kept h) id))

theorem State.qspiDone_kept {s data} (h : Kept q o s) : Kept q o (State.qspiDone s data) := by
  unfold State.qspiDone
  extract_lets -merge y1
  have h2 : Kept q o y1 := by
    unfold y1
    unfold State.modMem
    exact Kept.of_eq (h) rfl rfl rfl rfl rfl rfl rfl
  clear_value y1
  split
  · exact h
  · extract_lets -merge y3 y4 y5
    have h6 : Kept q o y5 := by
      unfold y5
      refine Kept.ite ?_ ?_
      · unfold State.modMem
        exact Kept.of_eq (h2) rfl rfl rfl rfl rfl rfl rfl
      · exact State.fifoFill_kept (h2)
    clear_value y5
    exact State.raise_kept (h6)

theorem State.qspiPush_kept {s m v} (h : Kept q o s) : Kept q o (State.qspiPush s m v) := by
  unfold State.qspiPush
  refine State.guardW_kept (h) ?_
  intro _ h1
  refine Kept.ite ?_ ?_
  · exact State.reject_kept (h1)
  · unfold State.modMem
    exact Kept.of_eq (h1) rfl rfl rfl rfl rfl rfl rfl

theorem State.qspiPop_kept {s m} (h : Kept q o s) : Kept q o (State.qspiPop s m) := by
  unfold State.qspiPop
  extract_lets -merge y1
  split
  · exact State.rejectRead_kept (h)
  · split
    · refine State.answer_kept ?_
      unfold State.modMem
      exact Kept.of_eq (h) rfl rfl rfl rfl rfl rfl rfl
    · exact State.answer_kept (State.fresh_kept (h))

theorem State.clearLatches_kept {s m} (h : Kept q o s) : Kept q o (State.clearLatches s m) := by
  unfold State.clearLatches
  exact Kept.foldl (h) (fun _ _ h2 => State.hset_kept (h2))

theorem State.hostReset_kept {s kind} (h : Kept q o s) : Kept q o (State.hostReset s kind) := by
  unfold State.hostReset
  extract_lets -merge y1 y2 y3
  have h6 : Kept q o y1 := Kept.foldl (h) (fun _ _ h5 => State.dmaFail_kept (h5))
  clear_value y1
  have h9 : Kept q o y2 := Kept.foldl (h6) (fun _ _ h8 => Kept.ite (State.modRing_kept (h8)) (h8))
  clear_value y2
  have h10 : Kept q o y3 := State.clearLatches_kept (State.stgLost_kept (h9))
  clear_value y3
  split
  · exact h10
  · exact State.setBit_kept (h10)
  · exact State.setBit_kept (h10)

theorem State.vfReset_kept {s v} (h : Kept q o s) : Kept q o (State.vfReset s v) := by
  unfold State.vfReset
  exact Kept.foldl (State.clearLatches_kept (h)) (fun _ _ h2 => Kept.ite (State.cueCancel_kept (h2)) (h2))

theorem State.d0Return_kept {s speed width vfEn} (h : Kept q o s) : Kept q o (State.d0Return s speed width vfEn) := by unfold State.d0Return; exact State.wr_kept (h)

/-! ### Sys2Proof/Machine/Ref.lean -/

theorem State.refEnable_kept {s k} (h : Kept q o s) : Kept q o (State.refEnable s k) := by
  unfold State.refEnable
  extract_lets -merge y1 y2 y3
  have h4 : Kept q o y1 := State.modRef_kept (State.setBit_kept (State.refEnter_kept (h)))
  clear_value y1
  have h5 : Kept q o y3 := State.calSettle_kept (State.identify_kept (State.refLive_kept (h4)))
  clear_value y3
  exact State.selFollow_kept (State.selEvalAll_kept (h5)) (h)

theorem State.refDisable_kept {s k} (h : Kept q o s) : Kept q o (State.refDisable s k) := by
  unfold State.refDisable
  extract_lets -merge y1
  have h2 : Kept q o y1 := State.modRef_kept (State.setFld_kept (State.refEnter_kept (h)))
  clear_value y1
  exact State.selFollow_kept (State.selEvalAll_kept (h2)) (h)

theorem State.refCtl_kept {s m k v} (h : Kept q o s) : Kept q o (State.refCtl s m k v) := by
  unfold State.refCtl
  extract_lets -merge y1
  refine State.guardW_kept (h) ?_
  intro _ h2
  extract_lets -merge y3 y4
  have h5 : Kept q o y4 := State.plainWrite_kept (h2)
  clear_value y4
  exact Kept.ite (State.reject_kept (h2)) (Kept.ite (State.refEnable_kept (h5)) (Kept.ite (State.refDisable_kept (h5)) (Kept.ite (State.refMonitor_kept (h5)) (State.refMonitor_kept (h5)))))

theorem State.actCheck_kept {s k} (h : Kept q o s) : Kept q o (State.actCheck s k) := by
  unfold State.actCheck
  split
  · exact h
  · exact Kept.ite (State.refSilent_kept (h)) (h)

theorem State.glitch_kept {s k} (h : Kept q o s) : Kept q o (State.glitch s k) := by
  unfold State.glitch
  exact Kept.ite (h) (State.refMonitor_kept (State.modRef_kept (h)))

theorem State.glitchOver_kept {s k} (h : Kept q o s) : Kept q o (State.glitchOver s k) := by
  unfold State.glitchOver
  split
  · exact h
  · exact Kept.ite (State.refClear_kept (State.modRef_kept (h))) (h)

theorem State.rateFound_kept {s k f} (h : Kept q o s) : Kept q o (State.rateFound s k f) := by
  unfold State.rateFound
  refine Kept.ite ?_ ?_
  · exact h
  · split
    · exact h
    · exact State.refMonitor_kept (State.setFld_kept (State.modRef_kept (h)))

theorem State.publishMeas_kept {s k y} (h : Kept q o s) : Kept q o (State.publishMeas s k y) := by
  unfold State.publishMeas
  extract_lets -merge y1 y2
  exact State.wrAll_kept (h)

theorem State.freqEval_kept {s k y} (h : Kept q o s) : Kept q o (State.freqEval s k y) := by
  unfold State.freqEval
  extract_lets -merge y1 y2 y3 y4 y5 y6 y7 y8
  have h9 : Kept q o y6 := State.publishMeas_kept (h)
  clear_value y6
  have h10 : Kept q o y7 := Kept.ite (State.identify_kept (h9)) (h9)
  clear_value y7
  have h11 : Kept q o y8 := State.refSettle_kept (State.refLive_kept (h10))
  clear_value y8
  exact Kept.ite (h) (Kept.ite (State.selFollow_kept (State.selEvalAll_kept (h11)) (h)) (h11))

theorem State.packetEval_kept {s k} (h : Kept q o s) : Kept q o (State.packetEval s k) := by
  unfold State.packetEval
  extract_lets -merge y1 y2 y3 y4 y5 y6 y7 y8 y9 y10 y11 y12 y13 y14 y15 y16 y17 y18
  have h19 : Kept q o y18 := State.modRef_kept (h)
  clear_value y18
  exact Kept.ite (h) (Kept.ite (h19) (State.refMonitor_kept (h19)))

theorem State.esmcAbsent_kept {s k} (h : Kept q o s) : Kept q o (State.esmcAbsent s k) := by unfold State.esmcAbsent; exact Kept.ite (State.advertise_kept (h)) (h)

theorem State.qualExpire_kept {s k} (h : Kept q o s) : Kept q o (State.qualExpire s k) := by
  unfold State.qualExpire
  extract_lets -merge y1
  have h2 : Kept q o y1 := State.refEnter_kept (State.setBit_kept (State.modRef_kept (h)))
  clear_value y1
  split
  · exact h
  · exact Kept.ite (State.selFollow_kept (State.selEvalAll_kept (h2)) (h)) (h)

theorem State.degExpire_kept {s k} (h : Kept q o s) : Kept q o (State.degExpire s k) := by
  unfold State.degExpire
  split
  · exact h
  · exact Kept.ite (State.selFollow_kept (State.selEvalAll_kept (State.refEnter_kept (State.modRef_kept (h)))) (h)) (h)

theorem State.switchDone_kept {s d} (h : Kept q o s) : Kept q o (State.switchDone s d) := by
  unfold State.switchDone
  exact Kept.ite (State.raise_kept (State.setBit_kept (State.setRemain_kept (h)))) (h)

theorem State.phComp_kept {s m k v} (h : Kept q o s) : Kept q o (State.phComp s m k v) := by
  unfold State.phComp
  exact State.guardW_kept (h) (fun _ h1 => Kept.ite (State.reject_kept (h1)) (State.modRef_kept (State.plainWrite_kept (h1))))

theorem State.refPrioW_kept {s m k v} (h : Kept q o s) : Kept q o (State.refPrioW s m k v) := by
  unfold State.refPrioW
  refine State.guardW_kept (h) ?_
  intro _ h1
  extract_lets -merge y2
  have h3 : Kept q o y2 := State.plainWrite_kept (h1)
  clear_value y2
  exact State.selFollow_kept (Kept.foldl (h3) (fun _ _ h5 => Kept.ite (State.selEval_kept (h5)) (h5))) (h1)

theorem State.selCtl_kept {s m d v} (h : Kept q o s) : Kept q o (State.selCtl s m d v) := by
  unfold State.selCtl
  exact State.guardW_kept (h) (fun _ h1 => State.selFollow_kept (State.selEval_kept (State.plainWrite_kept (h1))) (h1))

theorem State.selCand_kept {s m d v} (h : Kept q o s) : Kept q o (State.selCand s m d v) := by
  unfold State.selCand
  refine State.guardW_kept (h) ?_
  intro _ h1
  split
  · exact State.reject_kept (h1)
  · exact State.selFollow_kept (State.selEval_kept (State.plainWrite_kept (h1))) (h1)

theorem State.selQhold_kept {s m d v} (h : Kept q o s) : Kept q o (State.selQhold s m d v) := by
  unfold State.selQhold
  exact State.guardW_kept (h) (fun _ h1 => State.plainWrite_kept (h1))

theorem State.nomLo_kept {s m k v} (h : Kept q o s) : Kept q o (State.nomLo s m k v) := by
  unfold State.nomLo
  exact State.guardW_kept (h) (fun _ h1 => Kept.ite (State.reject_kept (h1)) (State.mark_kept (State.hset_kept (h1))))

theorem State.nomHi_kept {s m k v} (h : Kept q o s) : Kept q o (State.nomHi s m k v) := by
  unfold State.nomHi
  refine State.guardW_kept (h) ?_
  intro _ h1
  extract_lets -merge y2
  exact Kept.ite (State.reject_kept (h1)) (Kept.ite (State.reject_kept (h1)) (Kept.ite (State.reject_kept (h1)) (State.mark_kept (State.wr_kept (State.wr_kept (h1))))))

theorem State.measRead_kept {s m k} (h : Kept q o s) : Kept q o (State.measRead s m k) := by
  unfold State.measRead
  split
  · exact State.rejectRead_kept (h)
  · exact State.answer_kept (State.hsetAll_kept (h))

theorem execRefEnable_kept {m k v s} (h : Kept q o s) (e : execRefEnable m k v s = .next t) : Kept q o t := by
  unfold execRefEnable at e
  exact Kept.next (State.refCtl_kept (h)) e

theorem execRefDisable_kept {m k v s} (h : Kept q o s) (e : execRefDisable m k v s = .next t) : Kept q o t := by
  unfold execRefDisable at e
  exact Kept.next (State.refCtl_kept (h)) e

theorem execHostDisqWrite_kept {m k v s} (h : Kept q o s) (e : execHostDisqWrite m k v s = .next t) : Kept q o t := by
  unfold execHostDisqWrite at e
  exact Kept.next (State.refCtl_kept (h)) e

theorem execActDeadline_kept {k s} (h : Kept q o s) (e : execActDeadline k s = .next t) : Kept q o t := by unfold execActDeadline at e; exact Kept.next (State.actCheck_kept (h)) e

theorem execGlitchDetected_kept {k s} (h : Kept q o s) (e : execGlitchDetected k s = .next t) : Kept q o t := by
  unfold execGlitchDetected at e
  exact Kept.next (State.glitch_kept (h)) e

theorem execGlitchHoldExpire_kept {k s} (h : Kept q o s) (e : execGlitchHoldExpire k s = .next t) : Kept q o t := by
  unfold execGlitchHoldExpire at e
  exact Kept.next (State.glitchOver_kept (h)) e

theorem execRateIdentified_kept {k f s} (h : Kept q o s) (e : execRateIdentified k f s = .next t) : Kept q o t := by
  unfold execRateIdentified at e
  exact Kept.next (State.rateFound_kept (h)) e

theorem execFreqMonitorEval_kept {k y s} (h : Kept q o s) (e : execFreqMonitorEval k y s = .next t) : Kept q o t := by
  unfold execFreqMonitorEval at e
  exact Kept.next (State.freqEval_kept (h)) e

theorem execEnsembleVerdict_kept {s} (h : Kept q o s) (e : execEnsembleVerdict s = .next t) : Kept q o t := by
  unfold execEnsembleVerdict at e
  exact Kept.next (State.ensemble_kept (h)) e

theorem execPacketMonitorEval_kept {k s} (h : Kept q o s) (e : execPacketMonitorEval k s = .next t) : Kept q o t := by
  unfold execPacketMonitorEval at e
  exact Kept.next (State.packetEval_kept (h)) e

theorem execEsmcAbsenceTimeout_kept {k s} (h : Kept q o s) (e : execEsmcAbsenceTimeout k s = .next t) : Kept q o t := by
  unfold execEsmcAbsenceTimeout at e
  exact Kept.next (State.esmcAbsent_kept (h)) e

theorem execQualTimerExpire_kept {k s} (h : Kept q o s) (e : execQualTimerExpire k s = .next t) : Kept q o t := by
  unfold execQualTimerExpire at e
  exact Kept.next (State.qualExpire_kept (h)) e

theorem execDegClearExpire_kept {k s} (h : Kept q o s) (e : execDegClearExpire k s = .next t) : Kept q o t := by
  unfold execDegClearExpire at e
  exact Kept.next (State.degExpire_kept (h)) e

theorem execSwitchComplete_kept {d s} (h : Kept q o s) (e : execSwitchComplete d s = .next t) : Kept q o t := by
  unfold execSwitchComplete at e
  exact Kept.next (State.switchDone_kept (h)) e

theorem execAdvertisedQualityChange_kept {k q1 s} (h : Kept q o s) (e : execAdvertisedQualityChange k q1 s = .next t) : Kept q o t := by
  unfold execAdvertisedQualityChange at e
  exact Kept.next (State.advertise_kept (h)) e

theorem execQholdExpire_kept {d k s} (h : Kept q o s) (e : execQholdExpire d k s = .next t) : Kept q o t := by
  unfold execQholdExpire at e
  exact Kept.next (State.qholdEnd_kept (h)) e

theorem execRefPhCompWrite_kept {m k v s} (h : Kept q o s) (e : execRefPhCompWrite m k v s = .next t) : Kept q o t := by
  unfold execRefPhCompWrite at e
  exact Kept.next (State.phComp_kept (h)) e

theorem execRefPrioWrite_kept {m k v s} (h : Kept q o s) (e : execRefPrioWrite m k v s = .next t) : Kept q o t := by
  unfold execRefPrioWrite at e
  exact Kept.next (State.refPrioW_kept (h)) e

theorem execSelCtlWrite_kept {m d v s} (h : Kept q o s) (e : execSelCtlWrite m d v s = .next t) : Kept q o t := by
  unfold execSelCtlWrite at e
  exact Kept.next (State.selCtl_kept (h)) e

theorem execSelCandWrite_kept {m d v s} (h : Kept q o s) (e : execSelCandWrite m d v s = .next t) : Kept q o t := by
  unfold execSelCandWrite at e
  exact Kept.next (State.selCand_kept (h)) e

theorem execSelQholdWrite_kept {m d v s} (h : Kept q o s) (e : execSelQholdWrite m d v s = .next t) : Kept q o t := by
  unfold execSelQholdWrite at e
  exact Kept.next (State.selQhold_kept (h)) e

theorem execRefNomLoWrite_kept {m k v s} (h : Kept q o s) (e : execRefNomLoWrite m k v s = .next t) : Kept q o t := by
  unfold execRefNomLoWrite at e
  exact Kept.next (State.nomLo_kept (h)) e

theorem execRefNomHiWrite_kept {m k v s} (h : Kept q o s) (e : execRefNomHiWrite m k v s = .next t) : Kept q o t := by
  unfold execRefNomHiWrite at e
  exact Kept.next (State.nomHi_kept (h)) e

theorem execRefMeasFfRead_kept {m k s} (h : Kept q o s) (e : execRefMeasFfRead m k s = .next t) : Kept q o t := by
  unfold execRefMeasFfRead at e
  exact Kept.next (State.measRead_kept (h)) e

theorem execRefPhaseSample_kept {k phase touched s} (h : Kept q o s) (e : execRefPhaseSample k phase touched s = .next t) : Kept q o t := by
  unfold execRefPhaseSample at e
  exact Kept.next (State.refSample_kept (h)) e

theorem execPairComparison_kept {s} (h : Kept q o s) (e : execPairComparison s = .next t) : Kept q o t := by
  unfold execPairComparison at e
  exact Kept.next (State.pairCompare_kept (h)) e

theorem execTdcPairPhLoRead_kept {m s} (h : Kept q o s) (e : execTdcPairPhLoRead m s = .next t) : Kept q o t := by
  unfold execTdcPairPhLoRead at e
  exact Kept.next (State.pairRead_kept (h)) e

/-! ### Sys2Proof/Machine/Dpll.lean -/

theorem State.apllFree_kept {s k} (h : Kept q o s) : Kept q o (State.apllFree s k) := by
  unfold State.apllFree
  exact State.outsSettle_kept (State.setBit_kept (State.setBit_kept (h)))

theorem State.apllTake_kept {s d k} (h : Kept q o s) : Kept q o (State.apllTake s d k) := by
  unfold State.apllTake
  exact State.outsSettle_kept (State.setBit_kept (State.setFld_kept (State.setBit_kept (h))))

theorem State.dpllCtl_kept {s m d v} (h : Kept q o s) : Kept q o (State.dpllCtl s m d v) := by
  unfold State.dpllCtl
  refine State.guardW_kept (h) ?_
  intro _ h1
  extract_lets -merge y2 y3 y4 y5 y6
  clear_value y2
  have h7 : Kept q o y3 := State.plainWrite_kept (h1)
  clear_value y3
  clear_value y4
  have h8 : Kept q o y5 := by
    unfold y5
    split
    · exact State.apllFree_kept (h7)
    · exact h7
  clear_value y5
  have h9 : Kept q o y6 := by
    unfold y6
    split
    · exact State.apllTake_kept (h8)
    · exact h8
  clear_value y6
  split
  · exact State.reject_kept (h1)
  · refine Kept.ite ?_ ?_
    · exact h7
    · split
      · exact State.dpllFree_kept (h9)
      · exact State.dpllRelease_kept (h9)
      · exact h9

theorem State.dpllBw_kept {s m d v} (h : Kept q o s) : Kept q o (State.dpllBw s m d v) := by
  unfold State.dpllBw
  refine State.guardW_kept (h) ?_
  intro _ h1
  extract_lets -merge y2
  exact Kept.ite (State.reject_kept (h1)) (Kept.ite (State.reject_kept (h1)) (State.plainWrite_kept (h1)))

theorem State.fwClassW_kept {s m v} (h : Kept q o s) : Kept q o (State.fwClassW s m v) := by
  unfold State.fwClassW
  exact State.guardW_kept (h) (fun _ h1 => Kept.ite (State.reject_kept (h1)) (State.plainWrite_kept (h1)))

theorem State.fwFloorW_kept {s m i v} (h : Kept q o s) : Kept q o (State.fwFloorW s m i v) := by
  unfold State.fwFloorW
  extract_lets -merge y1
  refine State.guardW_kept (h) ?_
  intro _ h2
  extract_lets -merge y3
  exact Kept.ite (State.reject_kept (h2)) (State.plainWrite_kept (h2))

theorem State.uartTx_kept {s m v} (h : Kept q o s) : Kept q o (State.uartTx s m v) := by
  unfold State.uartTx
  refine State.guardW_kept (h) ?_
  intro _ h1
  extract_lets -merge y2 y3
  exact Kept.ite (State.reject_kept (h1)) (State.setFld_kept (Kept.of_eq (h1) rfl rfl rfl rfl rfl rfl rfl))

theorem State.uartRead_kept {s m} (h : Kept q o s) : Kept q o (State.uartRead s m) := by
  unfold State.uartRead
  extract_lets -merge y1
  split
  · exact State.rejectRead_kept (h)
  · split
    · exact State.answer_kept (h)
    · exact State.answer_kept (Kept.of_eq (h) rfl rfl rfl rfl rfl rfl rfl)

theorem State.uartByte_kept {s b} (h : Kept q o s) : Kept q o (State.uartByte s b) := by
  unfold State.uartByte
  extract_lets -merge y1
  exact Kept.ite (State.setFld_kept (h)) (Kept.of_eq (h) rfl rfl rfl rfl rfl rfl rfl)

theorem execDpllUpdate_kept {d fe s} (h : Kept q o s) (e : execDpllUpdate d fe s = .next t) : Kept q o t := by
  unfold execDpllUpdate at e
  exact Kept.next (State.dpllUpdate_kept (h)) e

theorem execDpllLockAchieved_kept {d s} (h : Kept q o s) (e : execDpllLockAchieved d s = .next t) : Kept q o t := by
  unfold execDpllLockAchieved at e
  exact Kept.next (State.lockAchieved_kept (h)) e

theorem execFlywheelEngage_kept {d s} (h : Kept q o s) (e : execFlywheelEngage d s = .next t) : Kept q o t := by
  unfold execFlywheelEngage at e
  exact Kept.next (State.fwEngage_kept (h)) e

theorem execFlywheelLost_kept {d s} (h : Kept q o s) (e : execFlywheelLost d s = .next t) : Kept q o t := by unfold execFlywheelLost at e; exact Kept.next (State.fwLost_kept (h)) e

theorem execDpllApllWrite_kept {m d v s} (h : Kept q o s) (e : execDpllApllWrite m d v s = .next t) : Kept q o t := by
  unfold execDpllApllWrite at e
  exact Kept.next (State.dpllCtl_kept (h)) e

theorem execDpllBwWrite_kept {m d v s} (h : Kept q o s) (e : execDpllBwWrite m d v s = .next t) : Kept q o t := by
  unfold execDpllBwWrite at e
  exact Kept.next (State.dpllBw_kept (h)) e

theorem execDpllFwClassWrite_kept {m v s} (h : Kept q o s) (e : execDpllFwClassWrite m v s = .next t) : Kept q o t := by
  unfold execDpllFwClassWrite at e
  exact Kept.next (State.fwClassW_kept (h)) e

theorem execDpllFwFloorWrite_kept {m i v s} (h : Kept q o s) (e : execDpllFwFloorWrite m i v s = .next t) : Kept q o t := by
  unfold execDpllFwFloorWrite at e
  exact Kept.next (State.fwFloorW_kept (h)) e

theorem execModelFit_kept {d x y dd uy ud res span s} (h : Kept q o s) (e : execModelFit d x y dd uy ud res span s = .next t) : Kept q o t := by
  unfold execModelFit at e
  exact Kept.next (State.modelFit_kept (h)) e

theorem execAtomPpsCheck_kept {ps s} (h : Kept q o s) (e : execAtomPpsCheck ps s = .next t) : Kept q o t := by
  unfold execAtomPpsCheck at e
  exact Kept.next (State.ppsCheck_kept (h)) e

theorem execAtomUartTxWrite_kept {m v s} (h : Kept q o s) (e : execAtomUartTxWrite m v s = .next t) : Kept q o t := by
  unfold execAtomUartTxWrite at e
  exact Kept.next (State.uartTx_kept (h)) e

theorem execAtomUartRxRead_kept {m s} (h : Kept q o s) (e : execAtomUartRxRead m s = .next t) : Kept q o t := by
  unfold execAtomUartRxRead at e
  exact Kept.next (State.uartRead_kept (h)) e

theorem execAtomUartRxByte_kept {b s} (h : Kept q o s) (e : execAtomUartRxByte b s = .next t) : Kept q o t := by
  unfold execAtomUartRxByte at e
  exact Kept.next (State.uartByte_kept (h)) e

/-! ### Sys2Proof/Machine/Tdc.lean -/

theorem execTdcArm_kept {m n s} (h : Kept q o s) (e : execTdcArm m n s = .next t) : Kept q o t := by unfold execTdcArm at e; exact Kept.next (State.tdcArmCmd_kept (h)) e

theorem execTdcDisarm_kept {m n s} (h : Kept q o s) (e : execTdcDisarm m n s = .next t) : Kept q o t := by
  unfold execTdcDisarm at e
  exact Kept.next (State.tdcDisarmCmd_kept (h)) e

theorem execTdcFlush_kept {m n s} (h : Kept q o s) (e : execTdcFlush m n s = .next t) : Kept q o t := by
  unfold execTdcFlush at e
  exact Kept.next (State.tdcFlushCmd_kept (h)) e

theorem execTdcWindowOpen_kept {n s} (h : Kept q o s) (e : execTdcWindowOpen n s = .next t) : Kept q o t := by
  unfold execTdcWindowOpen at e
  exact Kept.next (State.tdcTryOpen_kept (h)) e

theorem execTdcEpochStart_kept {n s} (h : Kept q o s) (e : execTdcEpochStart n s = .next t) : Kept q o t := by
  unfold execTdcEpochStart at e
  exact Kept.next (State.tdcTryStart_kept (h)) e

theorem execTdcEdge_kept {i tap fall sat s} (h : Kept q o s) (e : execTdcEdge i tap fall sat s = .next t) : Kept q o t := by
  unfold execTdcEdge at e
  exact Kept.next (State.tdcEdgeAt_kept (h)) e

theorem execTdcWindowClose_kept {n s} (h : Kept q o s) (e : execTdcWindowClose n s = .next t) : Kept q o t := by
  unfold execTdcWindowClose at e
  exact Kept.next (State.tdcTryClose_kept (h)) e

theorem execTdcWindowTimeout_kept {n s} (h : Kept q o s) (e : execTdcWindowTimeout n s = .next t) : Kept q o t := by
  unfold execTdcWindowTimeout at e
  exact Kept.next (State.tdcTryTimeout_kept (h)) e

theorem execTdcFifoLoRead_kept {m n s} (h : Kept q o s) (e : execTdcFifoLoRead m n s = .next t) : Kept q o t := by
  unfold execTdcFifoLoRead at e
  exact Kept.next (State.tdcFifoRead_kept (h)) e

theorem execTdcTickLoRead_kept {m s} (h : Kept q o s) (e : execTdcTickLoRead m s = .next t) : Kept q o t := by
  unfold execTdcTickLoRead at e
  exact Kept.next (State.tdcTickRead_kept (h)) e

theorem State.tdcLose_kept {s n} (h : Kept q o s) : Kept q o (State.tdcLose s n) := by
  unfold State.tdcLose
  extract_lets -merge y1
  have h2 : Kept q o y1 := State.raise_kept (State.modTdc_kept (State.setBit_kept (h)))
  clear_value y1
  exact State.refineFollow_kept (h2) (h)

theorem State.tdcRegain_kept {s n} (h : Kept q o s) : Kept q o (State.tdcRegain s n) := by
  unfold State.tdcRegain
  extract_lets -merge y1
  have h2 : Kept q o y1 := State.modTdc_kept (State.setBit_kept (h))
  clear_value y1
  split
  · exact h2
  · exact Kept.ite (State.faultPulse_kept (h2)) (State.faultClear_kept (h2))

theorem State.tdcLong_kept {s n} (h : Kept q o s) : Kept q o (State.tdcLong s n) := by
  unfold State.tdcLong
  split
  · exact Kept.ite (State.faultAs_kept (h)) (h)
  · exact h

theorem execTdcLockLost_kept {n s} (h : Kept q o s) (e : execTdcLockLost n s = .next t) : Kept q o t := by unfold execTdcLockLost at e; exact Kept.next (State.tdcLose_kept (h)) e

theorem execTdcLockRegained_kept {n s} (h : Kept q o s) (e : execTdcLockRegained n s = .next t) : Kept q o t := by
  unfold execTdcLockRegained at e
  exact Kept.next (State.tdcRegain_kept (h)) e

theorem execTdcLockLossLong_kept {n s} (h : Kept q o s) (e : execTdcLockLossLong n s = .next t) : Kept q o t := by
  unfold execTdcLockLossLong at e
  exact Kept.next (State.tdcLong_kept (h)) e

theorem execLanePhaseWindow_kept {g edge s} (h : Kept q o s) (e : execLanePhaseWindow g edge s = .next t) : Kept q o t := by
  unfold execLanePhaseWindow at e
  exact Kept.next (State.refineFollow_kept (State.laneWindow_kept (h)) (h)) e

/-! ### Sys2Proof/Machine/Out.lean -/

theorem State.apll0Lost_kept {s} (h : Kept q o s) : Kept q o (State.apll0Lost s) := by
  unfold State.apll0Lost
  exact Kept.ite (h) (State.faultSignal_kept (State.outsSettle_kept (State.raise_kept (State.setBit_kept (h)))))

theorem State.apllLost_kept {s k} (h : Kept q o s) : Kept q o (State.apllLost s k) := by
  unfold State.apllLost
  extract_lets -merge y1 y2 y3
  have h4 : Kept q o y1 := State.setFld_kept (State.setBit_kept (h))
  clear_value y1
  have h7 : Kept q o y3 := Kept.foldl (h4) (fun _ _ h6 => Kept.ite (State.outHoldOff_kept (State.raise_kept (State.setBit_kept (h6)))) (h6))
  clear_value y3
  exact Kept.ite (h) (State.faultSignal_kept (State.raise_kept (h7)))

theorem State.apllLocks_kept {s k} (h : Kept q o s) : Kept q o (State.apllLocks s k) := by
  unfold State.apllLocks
  extract_lets -merge y1 y2
  have h3 : Kept q o y1 := State.setBit_kept (h)
  clear_value y1
  have h6 : Kept q o y2 := Kept.foldl (h3) (fun _ _ h5 => Kept.ite (State.outRelease_kept (State.setBit_kept (h5))) (h5))
  clear_value y2
  exact Kept.ite (h) (State.faultClear_kept (h6))

theorem State.apllTb_kept {s m k v} (h : Kept q o s) : Kept q o (State.apllTb s m k v) := by
  unfold State.apllTb
  exact State.guardW_kept (h) (fun _ h1 => Kept.ite (State.reject_kept (h1)) (Kept.ite (State.reject_kept (h1)) (State.outsSettle_kept (State.setBit_kept (State.wr_kept (h1))))))

theorem State.apllMoved_kept {s k} (h : Kept q o s) : Kept q o (State.apllMoved s k) := by
  unfold State.apllMoved
  extract_lets -merge y1
  exact Kept.ite (h) (State.outsSettle_kept (State.setBit_kept (State.modApll_kept (h))))

theorem State.alignCompare_kept {s k e} (h : Kept q o s) : Kept q o (State.alignCompare s k e) := by
  unfold State.alignCompare
  extract_lets -merge y1 y2 y3 y4
  have h5 : Kept q o y1 := State.outSettle_kept (h)
  clear_value y1
  have h6 : Kept q o y2 := State.modOut_kept (State.wr_kept (h5))
  clear_value y2
  have h7 : Kept q o y3 := State.raise_kept (State.outEnter_kept (h6))
  clear_value y3
  refine Kept.ite ?_ ?_
  · exact h5
  · split
    · exact Kept.ite (State.raise_kept (State.outEnter_kept (h6))) (h6)
    · exact Kept.ite (Kept.ite (State.outLow_kept (h7)) (h7)) (State.wr_kept (State.fresh_kept (h6)))
    · exact h6

theorem State.outRestart_kept {s k} (h : Kept q o s) : Kept q o (State.outRestart s k) := by
  unfold State.outRestart
  split
  · exact h
  · exact Kept.ite (State.modOut_kept (h)) (h)

theorem State.outPhOfs_kept {s m k v} (h : Kept q o s) : Kept q o (State.outPhOfs s m k v) := by
  unfold State.outPhOfs
  exact State.guardW_kept (h) (fun _ h1 => Kept.ite (State.reject_kept (h1)) (State.wr_kept (h1)))

theorem State.outPulseW_kept {s m k v} (h : Kept q o s) : Kept q o (State.outPulseW s m k v) := by
  unfold State.outPulseW
  refine State.guardW_kept (h) ?_
  intro _ h1
  extract_lets -merge y2
  exact Kept.ite (State.reject_kept (h1)) (Kept.ite (State.reject_kept (h1)) (State.wr_kept (h1)))

theorem State.outCtl_kept {s m k v} (h : Kept q o s) : Kept q o (State.outCtl s m k v) := by
  unfold State.outCtl
  refine State.guardW_kept (h) ?_
  intro _ h1
  extract_lets -merge y2 y3
  have h4 : Kept q o y3 := State.plainWrite_kept (h1)
  clear_value y3
  exact Kept.ite (State.outHoldOff_kept (h4)) (Kept.ite (State.outRelease_kept (h4)) (h4))

theorem State.glideDone_kept {s k} (h : Kept q o s) : Kept q o (State.glideDone s k) := by
  unfold State.glideDone
  split
  · exact h
  · exact Kept.ite (State.outSettle_kept (State.raise_kept (State.setBit_kept (State.modOut_kept (h))))) (h)

theorem State.sysLost_kept {s} (h : Kept q o s) : Kept q o (State.sysLost s) := by
  unfold State.sysLost
  exact Kept.ite (h) (State.faultSignal_kept (State.raise_kept (State.setFld_kept (State.setBit_kept (State.setBit_kept (State.setBit_kept (h)))))))

theorem State.sysLocks_kept {s} (h : Kept q o s) : Kept q o (State.sysLocks s) := by
  unfold State.sysLocks
  exact Kept.ite (h) (State.faultClear_kept (State.raise_kept (State.setFld_kept (State.setBit_kept (State.setBit_kept (h))))))

theorem State.sysCtl_kept {s m v} (h : Kept q o s) : Kept q o (State.sysCtl s m v) := by
  unfold State.sysCtl
  refine State.guardW_kept (h) ?_
  intro _ h1
  extract_lets -merge y2 y3
  have h4 : Kept q o y2 := State.plainWrite_kept (h1)
  clear_value y2
  exact Kept.ite (State.reject_kept (h1)) (Kept.of_eq (h4) rfl rfl rfl rfl rfl rfl rfl)

theorem execApll0LockLost_kept {s} (h : Kept q o s) (e : execApll0LockLost s = .next t) : Kept q o t := by
  unfold execApll0LockLost at e
  exact Kept.next (State.apll0Lost_kept (h)) e

theorem execApllLockLost_kept {k s} (h : Kept q o s) (e : execApllLockLost k s = .next t) : Kept q o t := by
  unfold execApllLockLost at e
  exact Kept.next (State.apllLost_kept (h)) e

theorem execApllRelocked_kept {k s} (h : Kept q o s) (e : execApllRelocked k s = .next t) : Kept q o t := by
  unfold execApllRelocked at e
  exact Kept.next (State.apllLocks_kept (h)) e

theorem execApllTbWrite_kept {m k v s} (h : Kept q o s) (e : execApllTbWrite m k v s = .next t) : Kept q o t := by
  unfold execApllTbWrite at e
  exact Kept.next (State.apllTb_kept (h)) e

theorem execApllRateMoveDone_kept {k s} (h : Kept q o s) (e : execApllRateMoveDone k s = .next t) : Kept q o t := by
  unfold execApllRateMoveDone at e
  exact Kept.next (State.apllMoved_kept (h)) e

theorem execAlignerCompare_kept {k e s} (h : Kept q o s) (e : execAlignerCompare k e s = .next t) : Kept q o t := by
  unfold execAlignerCompare at e
  exact Kept.next (State.alignCompare_kept (h)) e

theorem execOutputRestart_kept {k s} (h : Kept q o s) (e : execOutputRestart k s = .next t) : Kept q o t := by
  unfold execOutputRestart at e
  exact Kept.next (State.outRestart_kept (h)) e

theorem execOutPhOfsWrite_kept {m k v s} (h : Kept q o s) (e : execOutPhOfsWrite m k v s = .next t) : Kept q o t := by
  unfold execOutPhOfsWrite at e
  exact Kept.next (State.outPhOfs_kept (h)) e

theorem execOutPulseWWrite_kept {m k v s} (h : Kept q o s) (e : execOutPulseWWrite m k v s = .next t) : Kept q o t := by
  unfold execOutPulseWWrite at e
  exact Kept.next (State.outPulseW_kept (h)) e

theorem execOutMuteWrite_kept {m k v s} (h : Kept q o s) (e : execOutMuteWrite m k v s = .next t) : Kept q o t := by
  unfold execOutMuteWrite at e
  exact Kept.next (State.outCtl_kept (h)) e

theorem execGlideDone_kept {k s} (h : Kept q o s) (e : execGlideDone k s = .next t) : Kept q o t := by unfold execGlideDone at e; exact Kept.next (State.glideDone_kept (h)) e

theorem execSyspllLockLost_kept {s} (h : Kept q o s) (e : execSyspllLockLost s = .next t) : Kept q o t := by
  unfold execSyspllLockLost at e
  exact Kept.next (State.sysLost_kept (h)) e

theorem execSyspllRelocked_kept {s} (h : Kept q o s) (e : execSyspllRelocked s = .next t) : Kept q o t := by
  unfold execSyspllRelocked at e
  exact Kept.next (State.sysLocks_kept (h)) e

theorem execSscWrite_kept {m v s} (h : Kept q o s) (e : execSscWrite m v s = .next t) : Kept q o t := by unfold execSscWrite at e; exact Kept.next (State.sysCtl_kept (h)) e

theorem execCueArm_kept {m c s} (h : Kept q o s) (e : execCueArm m c s = .next t) : Kept q o t := by unfold execCueArm at e; exact Kept.next (State.cueArmCmd_kept (h)) e

theorem execCueDisarm_kept {m c s} (h : Kept q o s) (e : execCueDisarm m c s = .next t) : Kept q o t := by
  unfold execCueDisarm at e
  exact Kept.next (State.cueDisarmCmd_kept (h)) e

theorem execCueFire_kept {c s} (h : Kept q o s) (e : execCueFire c s = .next t) : Kept q o t := by unfold execCueFire at e; exact Kept.next (State.cueTick_kept (h)) e

theorem execCuePulseEnd_kept {c s} (h : Kept q o s) (e : execCuePulseEnd c s = .next t) : Kept q o t := by unfold execCuePulseEnd at e; exact Kept.next (State.cueEnd_kept (h)) e

end Sys2Proof.Machine
end

