-- ==== Sys2Proof/Laws/KeptChip.lean ====
section
/-! SUPPORT. Sys2Proof/Laws/KeptChip.lean: what a command of the plot, power management, resets, the tick, the view, the mailboxes, the bus and the global commands keeps (Sys2Proof/Laws/Kept.lean): one lemma per operation and per meaning. -/
namespace Sys2Proof.Machine

variable {q : List Instr} {o : Otp} {s t : State}

/-! ### Sys2Proof/Machine/Apply.lean -/

theorem State.dropRegs_kept {s p} (h : Kept q o s) : Kept q o (State.dropRegs s p) := by
  unfold Kept State.canonical State.dropRegs at *
  simp only [Bool.and_eq_true] at *
  exact ⟨⟨⟨⟨⟨Sparse.wf_filter _ _ _ h.1.1.1.1.1, Sparse.wf_filter _ _ _ h.1.1.1.1.2⟩, Sparse.wf_filter _ _ _ h.1.1.1.2⟩, h.1.1.2⟩, h.1.2⟩, h.2⟩

theorem State.resetPage_kept {s lo len} (h : Kept q o s) : Kept q o (State.resetPage s lo len) := by unfold State.resetPage; exact State.dropRegs_kept (h)

theorem State.applyCommit_kept {s} (h : Kept q o s) : Kept q o (State.applyCommit s) := by
  unfold State.applyCommit
  extract_lets -merge y1 y2 y3
  have h4 : Kept q o y1 := State.dropRegs_kept (h)
  clear_value y1
  have h5 : Kept q o y2 := State.setFld_kept (State.setBit_kept (h4))
  clear_value y2
  exact Kept.ite (h4) (State.raise_kept (Kept.of_eq (h5) rfl rfl rfl rfl rfl rfl rfl))

theorem State.applyLoop_kept {s old d} (h : Kept q o s) : Kept q o (State.applyLoop s old d) := by
  unfold State.applyLoop
  extract_lets -merge y1 y2 y3 y4 y5
  clear_value y2
  clear_value y3
  have h6 : Kept q o y4 := by
    unfold y4
    split
    · exact State.apllFree_kept (h)
    · exact h
  clear_value y4
  have h7 : Kept q o y5 := State.modSel_kept (State.modDpll_kept (State.resetPage_kept (State.resetPage_kept (h6))))
  clear_value y5
  exact Kept.ite (State.wr_kept (h7)) (Kept.ite (Kept.ite (h) (State.dpllRelease_kept (h))) (h))

theorem State.applyRef_kept {s old k} (h : Kept q o s) : Kept q o (State.applyRef s old k) := by
  unfold State.applyRef
  extract_lets -merge y1 y2 y3 y4 y5 y6
  have h7 : Kept q o y4 := State.modRef_kept (State.resetPage_kept (h))
  clear_value y4
  have h10 : Kept q o y5 := Kept.foldl (h7) (fun _ _ h9 => State.modSel_kept (State.setBit_kept (h9)))
  clear_value y5
  have h11 : Kept q o y6 := State.modSvc_kept (h10)
  clear_value y6
  exact Kept.ite (h) (Kept.ite (h11) (State.setBit_kept (State.setFld_kept (State.setFld_kept (h11)))))

theorem State.applyEnable_kept {s old k} (h : Kept q o s) : Kept q o (State.applyEnable s old k) := by unfold State.applyEnable; exact Kept.ite (State.refEnable_kept (h)) (h)

theorem State.applyTb_kept {s old n} (h : Kept q o s) : Kept q o (State.applyTb s old n) := by
  unfold State.applyTb
  extract_lets -merge y1 y2 y3 y4 y5 y6
  have h7 : Kept q o y5 := State.modBnd_kept (State.modTb_kept (State.resetPage_kept (State.resetPage_kept (h))))
  clear_value y5
  have h8 : Kept q o y6 := Kept.ite (State.setFld_kept (State.setBit_kept (h7))) (h7)
  clear_value y6
  exact Kept.ite (State.setOwner_kept (h)) (Kept.ite (State.tbEvent_kept (h8)) (h8))

theorem State.applyPort_kept {s old p} (h : Kept q o s) : Kept q o (State.applyPort s old p) := by
  unfold State.applyPort
  extract_lets -merge y1 y2 y3 y4 y5
  have h6 : Kept q o y3 := Kept.ite (State.setBit_kept (State.modPort_kept (h))) (h)
  clear_value y3
  have h7 : Kept q o y5 := State.portEnter_kept (State.linkFall_kept (h6))
  clear_value y5
  exact State.modPort_kept (h7)

theorem State.applyTdc_kept {s old vendor n} (h : Kept q o s) : Kept q o (State.applyTdc s old vendor n) := by
  unfold State.applyTdc
  extract_lets -merge y1 y2 y3
  have h4 : Kept q o y3 := Kept.ite (Kept.ite (State.tdcClose_kept (h)) (State.modTdc_kept (State.setBit_kept (h)))) (h)
  clear_value y3
  exact Kept.ite (State.setFifo_kept (h4)) (h4)

theorem State.applyApll_kept {s old k} (h : Kept q o s) : Kept q o (State.applyApll s old k) := by
  unfold State.applyApll
  extract_lets -merge y1 y2
  exact Kept.ite (h) (Kept.ite (State.modApll_kept (State.setBit_kept (State.setBit_kept (State.setBit_kept (h))))) (State.modApll_kept (State.setBit_kept (h))))

theorem State.applyOut_kept {s old k} (h : Kept q o s) : Kept q o (State.applyOut s old k) := by
  unfold State.applyOut
  extract_lets -merge y1 y2 y3 y4 y5 y6
  have h7 : Kept q o y3 := Kept.ite (h) (State.modOut_kept (State.wr_kept (h)))
  clear_value y3
  have h8 : Kept q o y4 := Kept.ite (h) (State.outEnable_kept (State.setBit_kept (h7)))
  clear_value y4
  have h9 : Kept q o y6 := State.setBit_kept (h8)
  clear_value y6
  exact Kept.ite (State.outHoldOff_kept (h9)) (h9)

theorem State.applyCue_kept {s old c} (h : Kept q o s) : Kept q o (State.applyCue s old c) := by
  unfold State.applyCue
  extract_lets -merge y1 y2
  exact Kept.ite (State.cueCancel_kept (h)) (h)

theorem State.applyBtb_kept {s old b} (h : Kept q o s) : Kept q o (State.applyBtb s old b) := by
  unfold State.applyBtb
  extract_lets -merge y1 y2
  have h3 : Kept q o y2 := State.btbApply_kept (h)
  clear_value y2
  exact Kept.ite (State.modBtb_kept (State.setFld_kept (State.wr_kept (h3)))) (h3)

theorem State.applyCommon_kept {s} (h : Kept q o s) : Kept q o (State.applyCommon s) := by
  unfold State.applyCommon
  extract_lets -merge y1 y2
  have h3 : Kept q o y1 := State.setBit_kept (h)
  clear_value y1
  exact Kept.of_eq (h3) rfl rfl rfl rfl rfl rfl rfl

theorem State.bankDrop_kept {s b use} (h : Kept q o s) : Kept q o (State.bankDrop s b use) := by
  unfold State.bankDrop
  extract_lets -merge y1 y2 y3 y4 y5
  have h6 : Kept q o y2 := by
    unfold y2
    exact State.modMem_kept h (Sparse.wf_filter _ _ _)
  clear_value y2
  have h9 : Kept q o y4 := Kept.foldl (h6) (fun _ _ h8 => State.cacheLost_kept (h8))
  clear_value y4
  have h12 : Kept q o y5 := Kept.foldl (h9) (fun _ _ h11 => State.dirLost_kept (h11))
  clear_value y5
  split
  · exact Kept.foldl (h6) (fun _ _ h14 => State.sessionLost_kept (h14))
  · exact Kept.foldl (h6) (fun _ _ h16 => Kept.foldl (h16) (fun _ _ h18 => State.frameLost_kept (h18)))
  · exact Kept.foldl (h12) (fun _ _ h20 => Kept.ite (State.ckptLost_kept (h20)) (h20))
  · exact Kept.foldl (h6) (fun _ _ h22 => State.gnssLost_kept (h22))
  · exact Kept.foldl (h6) (fun _ _ h24 => Kept.foldl (h24) (fun _ _ h26 => State.ringFail_kept (h26)))
  · exact h6

theorem State.banksFollow_kept {s old} (h : Kept q o s) : Kept q o (State.banksFollow s old) := by
  unfold State.banksFollow
  exact Kept.foldl (h) (fun _ _ h2 => Kept.ite (h2) (State.bankDrop_kept (h2)))

theorem State.applyGnss_kept {s first} (h : Kept q o s) : Kept q o (State.applyGnss s first) := by
  unfold State.applyGnss
  refine Kept.foldl (h) (fun x1 _ h2 => ?_)
  extract_lets -merge y3
  have h4 : Kept q o y3 := Kept.ite (State.chainStop_kept (State.setBit_kept (h2))) (h2)
  clear_value y3
  exact Kept.ite (State.setFld_kept (h4)) (h4)

theorem State.applyClusters_kept {s} (h : Kept q o s) : Kept q o (State.applyClusters s) := by
  unfold State.applyClusters
  exact Kept.foldl (h) (fun _ _ h2 => State.setFld_kept (h2))

theorem State.applySections_kept {s new} (h : Kept q o s) : Kept q o (State.applySections s new) := by
  unfold State.applySections
  extract_lets -merge y1 y2 y3 y4 y5 y6 y7 y8 y9 y10 y11 y12 y13 y14 y15 y16 y17 y18 y19
  have h20 : Kept q o y5 := Kept.of_eq (h) rfl rfl rfl rfl rfl rfl rfl
  clear_value y5
  have h21 : Kept q o y6 := State.setFld_kept (State.applyCommit_kept (h20))
  clear_value y6
  have h24 : Kept q o y7 := Kept.foldl (h21) (fun _ _ h23 => State.applyApll_kept (h23))
  clear_value y7
  have h27 : Kept q o y8 := Kept.foldl (h24) (fun _ _ h26 => State.applyLoop_kept (h26))
  clear_value y8
  have h30 : Kept q o y9 := Kept.foldl (h27) (fun _ _ h29 => State.applyRef_kept (h29))
  clear_value y9
  have h33 : Kept q o y10 := Kept.foldl (h30) (fun _ _ h32 => State.applyTb_kept (h32))
  clear_value y10
  have h34 : Kept q o y11 := Kept.ite (h33) (State.loopsFree_kept (h33))
  clear_value y11
  have h37 : Kept q o y12 := Kept.foldl (h34) (fun _ _ h36 => State.applyEnable_kept (h36))
  clear_value y12
  have h38 : Kept q o y13 := State.applyGnss_kept (h37)
  clear_value y13
  have h41 : Kept q o y14 := Kept.foldl (h38) (fun _ _ h40 => State.applyPort_kept (h40))
  clear_value y14
  have h44 : Kept q o y15 := Kept.foldl (h41) (fun _ _ h43 => State.applyTdc_kept (h43))
  clear_value y15
  have h47 : Kept q o y16 := Kept.foldl (h44) (fun _ _ h46 => State.applyOut_kept (h46))
  clear_value y16
  have h50 : Kept q o y17 := Kept.foldl (h47) (fun _ _ h49 => State.applyCue_kept (h49))
  clear_value y17
  have h53 : Kept q o y18 := Kept.foldl (h50) (fun _ _ h52 => State.applyBtb_kept (h52))
  clear_value y18
  have h54 : Kept q o y19 := State.powerPlan_kept (State.applyClusters_kept (State.banksFollow_kept (State.applyCommon_kept (h53))))
  clear_value y19
  exact State.outsSettle_kept (State.selFollow_kept (State.selEvalAll_kept (h54)) (h54))

theorem State.applyBegin_kept {s} (h : Kept q o s) : Kept q o (State.applyBegin s) := by
  unfold State.applyBegin
  extract_lets -merge y1 y2
  have h3 : Kept q o y1 := State.setFld_kept (h)
  clear_value y1
  exact State.servicesStop_kept (State.muteFollow_kept (Kept.of_eq (h3) rfl rfl rfl rfl rfl rfl rfl) (h))

theorem State.applyAwake_kept {s} (h : Kept q o s) : Kept q o (State.applyAwake s) := by
  unfold State.applyAwake
  extract_lets -merge y1 y2 y3
  exact Kept.foldl (h) (fun _ _ h5 => State.setFld_kept (h5))

theorem State.showActive_kept {s img} (h : Kept q o s) : Kept q o (State.showActive s img) := by unfold State.showActive; exact State.wrAll_kept (State.wr_kept (h))

theorem State.outsStart_kept {s} (h : Kept q o s) : Kept q o (State.outsStart s) := by unfold State.outsStart; exact Kept.foldl (h) (fun _ _ h2 => State.modOut_kept (h2))

theorem State.applyEnd_kept {s ms} (h : Kept q o s) : Kept q o (State.applyEnd s ms) := by
  unfold State.applyEnd
  extract_lets -merge y1 y2 y3 y4 y5 y6 y7 y8 y9
  have h10 : Kept q o y4 := State.applyAwake_kept (State.powerAll_kept (h))
  clear_value y4
  have h11 : Kept q o y5 := State.setBit_kept (State.setFld_kept (State.showActive_kept (h10)))
  clear_value y5
  have h12 : Kept q o y7 := Kept.of_eq (h11) rfl rfl rfl rfl rfl rfl rfl
  clear_value y7
  have h13 : Kept q o y8 := State.modPwr_kept (State.raise_kept (h12))
  clear_value y8
  have h14 : Kept q o y9 := Kept.ite (State.wr_kept (h13)) (h13)
  clear_value y9
  exact State.outsStart_kept (State.muteFollow_kept (h14) (h))

/-! ### Sys2Proof/Machine/Plt.lean -/

theorem State.modPlt_kept {s f} (h : Kept q o s) : Kept q o (State.modPlt s f) := by unfold State.modPlt; exact Kept.of_eq (h) rfl rfl rfl rfl rfl rfl rfl

theorem State.setStage_kept {s n} (h : Kept q o s) : Kept q o (State.setStage s n) := by unfold State.setStage; exact State.setFld_kept (h)

theorem State.pltFail_kept {s f} (h : Kept q o s) : Kept q o (State.pltFail s f) := by unfold State.pltFail; exact State.setFld_kept (State.wr_kept (State.wr_kept (h)))

theorem State.fetchCmd_kept {s m src} (h : Kept q o s) : Kept q o (State.fetchCmd s m src) := by
  unfold State.fetchCmd
  refine State.guardW_kept (h) ?_
  intro _ h1
  split
  · exact State.reject_kept (h1)
  · exact State.modPlt_kept (State.setStage_kept (h1))

theorem State.abortCmd_kept {s m} (h : Kept q o s) : Kept q o (State.abortCmd s m) := by
  unfold State.abortCmd
  exact State.guardW_kept (h) (fun _ h1 => Kept.ite (State.fetchFail_kept (h1)) (State.reject_kept (h1)))

theorem State.discardCmd_kept {s m} (h : Kept q o s) : Kept q o (State.discardCmd s m) := by
  unfold State.discardCmd
  exact State.guardW_kept (h) (fun _ h1 => Kept.ite (State.modPlt_kept (State.setFld_kept (State.setStage_kept (h1)))) (State.reject_kept (h1)))

theorem State.burnCmd_kept {s m} (h : Kept q o s) : Kept q o (State.burnCmd s m) := by
  unfold State.burnCmd
  refine State.guardW_kept (h) ?_
  intro _ h1
  split
  · exact State.reject_kept (h1)
  · exact State.modKey_kept (h1)

theorem State.pltCtl_kept {s m v} (h : Kept q o s) : Kept q o (State.pltCtl s m v) := by
  unfold State.pltCtl
  split
  · exact State.fetchCmd_kept (h)
  · exact State.fetchCmd_kept (h)
  · exact State.abortCmd_kept (h)
  · exact State.discardCmd_kept (h)
  · exact State.burnCmd_kept (h)
  · exact State.guardW_kept (h) (fun _ h1 => State.reject_kept (h1))

theorem State.fetched_kept {s img} (h : Kept q o s) : Kept q o (State.fetched s img) := by
  unfold State.fetched
  split
  · exact h
  · extract_lets -merge y1
    exact Kept.ite (h) (State.modPlt_kept (State.setStage_kept (h)))

theorem State.verified_kept {s} (h : Kept q o s) : Kept q o (State.verified s) := by
  unfold State.verified
  refine Kept.ite ?_ ?_
  · exact h
  · split
    · exact State.raise_kept (State.modPlt_kept (State.setStage_kept (State.pltFail_kept (h))))
    · exact State.raise_kept (State.setBit_kept (State.setStage_kept (h)))

theorem State.applyImage_kept {s img} (h : Kept q o s) : Kept q o (State.applyImage s img) := by
  unfold State.applyImage
  extract_lets -merge y1
  have h2 : Kept q o y1 := State.applyBegin_kept (h)
  clear_value y1
  exact Kept.ite (State.applySections_kept (h2)) (h2)

theorem State.bootApply_kept {s img} (h : Kept q o s) : Kept q o (State.bootApply s img) := by
  unfold State.bootApply
  exact State.applyImage_kept (State.modPlt_kept (State.modPwr_kept (h)))

theorem State.applyLate_kept {s} (h : Kept q o s) : Kept q o (State.applyLate s) := by unfold State.applyLate; exact Kept.ite (State.applySections_kept (h)) (h)

theorem State.pltApply_kept {s m v} (h : Kept q o s) : Kept q o (State.pltApply s m v) := by
  unfold State.pltApply
  refine State.guardD_kept (h) ?_
  intro _ h1
  extract_lets -merge y2
  have h5 : Kept q o y2 := Kept.foldl (h1) (fun _ _ h4 => State.mark_kept (h4))
  clear_value y2
  split
  · exact State.reject_kept (h1)
  · exact Kept.ite (State.applyImage_kept (h1)) (State.modPlt_kept (State.setBit_kept (h5)))

theorem State.applied_kept {s ms} (h : Kept q o s) : Kept q o (State.applied s ms) := by unfold State.applied; exact Kept.ite (State.applyEnd_kept (h)) (h)

theorem State.glideStart_kept {s k ms} (h : Kept q o s) : Kept q o (State.glideStart s k ms) := by
  unfold State.glideStart
  extract_lets -merge y1
  exact Kept.ite (State.modOut_kept (h)) (State.setBit_kept (State.modOut_kept (h)))

theorem State.replotOut_kept {s old k} (h : Kept q o s) : Kept q o (State.replotOut s old k) := by
  unfold State.replotOut
  extract_lets -merge y1 y2 y3 y4 y5
  have h6 : Kept q o y2 := Kept.ite (h) (State.wr_kept (h))
  clear_value y2
  have h7 : Kept q o y4 := State.outEnable_kept (State.setBit_kept (h6))
  clear_value y4
  exact Kept.ite (Kept.ite (h6) (State.outEnable_kept (h6))) (Kept.ite (Kept.ite (State.outHoldOff_kept (h7)) (h7)) (Kept.ite (State.glideStart_kept (h6)) (h6)))

theorem State.replotApll_kept {s old k} (h : Kept q o s) : Kept q o (State.replotApll s old k) := by
  unfold State.replotApll
  extract_lets -merge y1
  exact Kept.ite (h) (Kept.ite (State.applyApll_kept (h)) (State.setBit_kept (State.modApll_kept (h))))

theorem State.replotCue_kept {s old c} (h : Kept q o s) : Kept q o (State.replotCue s old c) := by
  unfold State.replotCue
  extract_lets -merge y1
  exact Kept.ite (State.cueCancel_kept (h)) (h)

theorem State.replotPower_kept {s} (h : Kept q o s) : Kept q o (State.replotPower s) := by
  unfold State.replotPower
  extract_lets -merge y1 y2
  have h3 : Kept q o y2 := State.modPwr_kept (h)
  clear_value y2
  exact State.domFollow_kept (h3) (h)

theorem State.powerTrim_kept {s} (h : Kept q o s) : Kept q o (State.powerTrim s) := by
  unfold State.powerTrim
  extract_lets -merge y1
  exact Kept.ite (h) (State.domFollow_kept (State.modPwr_kept (Kept.foldl (h) (fun _ _ h3 => Kept.ite (h3) (State.setFld_kept (h3))))) (h))

theorem State.replotNow_kept {s} (h : Kept q o s) : Kept q o (State.replotNow s) := by
  unfold State.replotNow
  extract_lets -merge y1 y2 y3 y4 y5 y6 y7 y8 y9
  have h10 : Kept q o y4 := State.modPlt_kept (State.setBit_kept (h))
  clear_value y4
  have h11 : Kept q o y5 := State.modPlt_kept (h10)
  clear_value y5
  have h14 : Kept q o y6 := Kept.foldl (h11) (fun _ _ h13 => State.replotApll_kept (h13))
  clear_value y6
  have h17 : Kept q o y7 := Kept.foldl (h14) (fun _ _ h16 => State.replotOut_kept (h16))
  clear_value y7
  have h20 : Kept q o y8 := Kept.foldl (h17) (fun _ _ h19 => State.replotCue_kept (h19))
  clear_value y8
  have h21 : Kept q o y9 := State.showActive_kept (State.outsSettle_kept (State.replotPower_kept (State.banksFollow_kept (h20))))
  clear_value y9
  split
  · exact State.raise_kept (State.pltFail_kept (h10))
  · exact State.raise_kept (State.bump_kept (State.setBit_kept (State.setStage_kept (h21))))

theorem State.replotTry_kept {s v} (h : Kept q o s) : Kept q o (State.replotTry s v) := by unfold State.replotTry; exact Kept.ite (State.replotNow_kept (h)) (h)

theorem State.darkEnter_kept {s} (h : Kept q o s) : Kept q o (State.darkEnter s) := by
  unfold State.darkEnter
  extract_lets -merge y1 y2
  have h3 : Kept q o y1 := State.modPlt_kept (State.applySections_kept (h))
  clear_value y1
  have h4 : Kept q o y2 := State.modPwr_kept (State.setFld_kept (State.showActive_kept (h3)))
  clear_value y2
  exact State.muteFollow_kept (h4) (h)

theorem State.bootDark_kept {s ms} (h : Kept q o s) : Kept q o (State.bootDark s ms) := by unfold State.bootDark; exact State.wr_kept (State.darkEnter_kept (h))

theorem State.bootFail_kept {s f} (h : Kept q o s) : Kept q o (State.bootFail s f) := by unfold State.bootFail; exact State.raise_kept (State.pltFail_kept (h))

theorem State.bootDone_kept {s a b ms} (h : Kept q o s) : Kept q o (State.bootDone s a b ms) := by
  unfold State.bootDone
  refine Kept.ite ?_ ?_
  · exact h
  · split
    · exact State.bootApply_kept (h)
    · extract_lets -merge y1
      have h2 : Kept q o y1 := State.bootFail_kept (h)
      clear_value y1
      split
      · exact State.bootApply_kept (h2)
      · exact State.bootDark_kept (State.bootFail_kept (h2))

theorem State.reverifyDone_kept {s ms} (h : Kept q o s) : Kept q o (State.reverifyDone s ms) := by
  unfold State.reverifyDone
  refine Kept.ite ?_ ?_
  · exact h
  · split
    · exact State.bootApply_kept (h)
    · exact State.bootDark_kept (State.bootFail_kept (h))

theorem execFetchPcie_kept {m s} (h : Kept q o s) (e : execFetchPcie m s = .next t) : Kept q o t := by unfold execFetchPcie at e; exact Kept.next (State.fetchCmd_kept (h)) e

theorem execFetchFlash_kept {m s} (h : Kept q o s) (e : execFetchFlash m s = .next t) : Kept q o t := by unfold execFetchFlash at e; exact Kept.next (State.fetchCmd_kept (h)) e

theorem execFetchAbort_kept {m s} (h : Kept q o s) (e : execFetchAbort m s = .next t) : Kept q o t := by unfold execFetchAbort at e; exact Kept.next (State.abortCmd_kept (h)) e

theorem execDiscardStaged_kept {m s} (h : Kept q o s) (e : execDiscardStaged m s = .next t) : Kept q o t := by
  unfold execDiscardStaged at e
  exact Kept.next (State.discardCmd_kept (h)) e

theorem execBurnRollback_kept {m s} (h : Kept q o s) (e : execBurnRollback m s = .next t) : Kept q o t := by
  unfold execBurnRollback at e
  exact Kept.next (State.burnCmd_kept (h)) e

theorem execFetchComplete_kept {img s} (h : Kept q o s) (e : execFetchComplete img s = .next t) : Kept q o t := by
  unfold execFetchComplete at e
  exact Kept.next (State.fetched_kept (h)) e

theorem execFetchFailed_kept {s} (h : Kept q o s) (e : execFetchFailed s = .next t) : Kept q o t := by
  unfold execFetchFailed at e
  exact Kept.next (Kept.ite (State.fetchFail_kept (h)) (h)) e

theorem execVerifyDone_kept {s} (h : Kept q o s) (e : execVerifyDone s = .next t) : Kept q o t := by unfold execVerifyDone at e; exact Kept.next (State.verified_kept (h)) e

theorem execFullApply_kept {m s} (h : Kept q o s) (e : execFullApply m s = .next t) : Kept q o t := by unfold execFullApply at e; exact Kept.next (State.pltApply_kept (h)) e

theorem execReplotArm_kept {m s} (h : Kept q o s) (e : execReplotArm m s = .next t) : Kept q o t := by unfold execReplotArm at e; exact Kept.next (State.pltApply_kept (h)) e

theorem execReplotApply_kept {s} (h : Kept q o s) (e : execReplotApply s = .next t) : Kept q o t := by unfold execReplotApply at e; exact Kept.next (State.replotTry_kept (h)) e

theorem execBootImageVerified_kept {a b ms s} (h : Kept q o s) (e : execBootImageVerified a b ms s = .next t) : Kept q o t := by
  unfold execBootImageVerified at e
  exact Kept.next (State.bootDone_kept (h)) e

theorem execWarmResetReverifyDone_kept {ms s} (h : Kept q o s) (e : execWarmResetReverifyDone ms s = .next t) : Kept q o t := by
  unfold execWarmResetReverifyDone at e
  exact Kept.next (State.reverifyDone_kept (h)) e

theorem execApplyComplete_kept {ms s} (h : Kept q o s) (e : execApplyComplete ms s = .next t) : Kept q o t := by
  unfold execApplyComplete at e
  exact Kept.next (State.applied_kept (h)) e

/-! ### Sys2Proof/Machine/Commit.lean -/

theorem State.modGlb_kept {s f} (h : Kept q o s) : Kept q o (State.modGlb s f) := by unfold State.modGlb; exact Kept.of_eq (h) rfl rfl rfl rfl rfl rfl rfl

theorem State.stagedApply_kept {s} (h : Kept q o s) : Kept q o (State.stagedApply s) := by
  unfold State.stagedApply
  extract_lets -merge y1 y2
  have h5 : Kept q o y1 := Kept.foldl (h) (fun _ _ h4 => State.commitTb_kept (h4))
  clear_value y1
  have h8 : Kept q o y2 := Kept.foldl (h5) (fun _ _ h7 => Kept.ite (State.setBit_kept (State.rlSet_kept (h7))) (h7))
  clear_value y2
  exact Kept.foldl (h8) (fun _ _ h10 => State.btbCommit_kept (h10))

theorem State.commitNow_kept {s} (h : Kept q o s) : Kept q o (State.commitNow s) := by
  unfold State.commitNow
  extract_lets -merge y1
  have h2 : Kept q o y1 := State.modGlb_kept (State.setBit_kept (h))
  clear_value y1
  split
  · exact State.raise_kept (State.setFld_kept (State.bump_kept (State.stagedApply_kept (h2))))
  · exact State.raise_kept (State.setFld_kept (State.wr_kept (h2)))

theorem State.commitTry_kept {s v} (h : Kept q o s) : Kept q o (State.commitTry s v) := by
  unfold State.commitTry
  split
  · exact Kept.ite (State.commitNow_kept (h)) (h)
  · exact h

theorem State.commitW3_kept {s m v} (h : Kept q o s) : Kept q o (State.commitW3 s m v) := by
  unfold State.commitW3
  refine State.guardW_kept (h) ?_
  intro _ h1
  extract_lets -merge y2 y3
  have h4 : Kept q o y2 := State.hset_kept (h1)
  clear_value y2
  split
  · exact State.reject_kept (h1)
  · exact State.modGlb_kept (Kept.foldl (State.setBit_kept (h4)) (fun _ _ h6 => State.mark_kept (h6)))

theorem State.commitCtl_kept {s m v} (h : Kept q o s) : Kept q o (State.commitCtl s m v) := by
  unfold State.commitCtl
  exact State.guardW_kept (h) (fun _ h1 => Kept.ite (h1) (Kept.ite (State.reject_kept (h1)) (State.modGlb_kept (State.setBit_kept (h1)))))

theorem State.snapCtl_kept {s m v} (h : Kept q o s) : Kept q o (State.snapCtl s m v) := by
  unfold State.snapCtl
  exact State.guardW_kept (h) (fun _ h1 => Kept.ite (State.reject_kept (h1)) (State.modGlb_kept (h1)))

theorem State.snapTb_kept {s n} (h : Kept q o s) : Kept q o (State.snapTb s n) := by unfold State.snapTb; exact Kept.ite (h) (State.wrAll_kept (h))

theorem State.snapLatch_kept {s} (h : Kept q o s) : Kept q o (State.snapLatch s) := by
  unfold State.snapLatch
  extract_lets -merge y1 y2 y3
  have h6 : Kept q o y1 := Kept.foldl (State.modGlb_kept (h)) (fun _ _ h5 => State.snapTb_kept (h5))
  clear_value y1
  have h7 : Kept q o y2 := State.wr_kept (State.wrAll_kept (h6))
  clear_value y2
  have h8 : Kept q o y3 := State.bump_kept (h7)
  clear_value y3
  exact Kept.ite (h) (State.ringPut_kept (h8))

theorem execGlbSnapCtlWrite_kept {m v s} (h : Kept q o s) (e : execGlbSnapCtlWrite m v s = .next t) : Kept q o t := by
  unfold execGlbSnapCtlWrite at e
  exact Kept.next (State.snapCtl_kept (h)) e

theorem execSnapshotLatch_kept {s} (h : Kept q o s) (e : execSnapshotLatch s = .next t) : Kept q o t := by
  unfold execSnapshotLatch at e
  exact Kept.next (State.snapLatch_kept (h)) e

theorem execGlbCommitTimeW3Write_kept {m v s} (h : Kept q o s) (e : execGlbCommitTimeW3Write m v s = .next t) : Kept q o t := by
  unfold execGlbCommitTimeW3Write at e
  exact Kept.next (State.commitW3_kept (h)) e

theorem execCommitCancel_kept {m s} (h : Kept q o s) (e : execCommitCancel m s = .next t) : Kept q o t := by
  unfold execCommitCancel at e
  exact Kept.next (State.commitCtl_kept (h)) e

theorem execCommitApply_kept {s} (h : Kept q o s) (e : execCommitApply s = .next t) : Kept q o t := by unfold execCommitApply at e; exact Kept.next (State.commitTry_kept (h)) e

/-! ### Sys2Proof/Machine/Mem.lean -/

theorem execSramRead_kept {init line fails o1 s} (h : Kept q o s) (e : execSramRead init line fails o1 s = .next t) : Kept q o t := by
  unfold execSramRead at e
  exact Kept.next (State.sramRead_kept (h)) e

theorem execSramWrite_kept {init line pos bytes fails o1 s} (h : Kept q o s) (e : execSramWrite init line pos bytes fails o1 s = .next t) : Kept q o t := by
  unfold execSramWrite at e
  exact Kept.next (State.sramWrite_kept (h)) e

theorem execScrubBurst_kept {bad s} (h : Kept q o s) (e : execScrubBurst bad s = .next t) : Kept q o t := by
  unfold execScrubBurst at e
  exact Kept.next (State.scrubBurst_kept (h)) e

theorem execPd9RetentionEnter_kept {s} (h : Kept q o s) (e : execPd9RetentionEnter s = .next t) : Kept q o t := by
  unfold execPd9RetentionEnter at e
  exact Kept.next (State.pd9Retain_kept (h)) e

theorem execDmaCompletionError_kept {ch s} (h : Kept q o s) (e : execDmaCompletionError ch s = .next t) : Kept q o t := by
  unfold execDmaCompletionError at e
  exact Kept.next (State.dmaError_kept (h)) e

theorem execDmaChannelRestart_kept {ch s} (h : Kept q o s) (e : execDmaChannelRestart ch s = .next t) : Kept q o t := by
  unfold execDmaChannelRestart at e
  exact Kept.next (State.dmaRestart_kept (h)) e

theorem execRingEntryWrite_kept {c s} (h : Kept q o s) (e : execRingEntryWrite c s = .next t) : Kept q o t := by
  unfold execRingEntryWrite at e
  exact Kept.next (State.ringWrite_kept (h)) e

theorem execRingConsWrite_kept {m c v s} (h : Kept q o s) (e : execRingConsWrite m c v s = .next t) : Kept q o t := by
  unfold execRingConsWrite at e
  exact Kept.next (State.ringCons_kept (h)) e

theorem execRingEnWrite_kept {m c v s} (h : Kept q o s) (e : execRingEnWrite m c v s = .next t) : Kept q o t := by
  unfold execRingEnWrite at e
  exact Kept.next (State.ringCtl_kept (h)) e

theorem execRingModUsExpire_kept {c s} (h : Kept q o s) (e : execRingModUsExpire c s = .next t) : Kept q o t := by
  unfold execRingModUsExpire at e
  exact Kept.next (State.ringOwed_kept (h)) e

theorem execQspiCmdWrite_kept {m v s} (h : Kept q o s) (e : execQspiCmdWrite m v s = .next t) : Kept q o t := by
  unfold execQspiCmdWrite at e
  exact Kept.next (State.qspiCmd_kept (h)) e

theorem execQspiTransferDone_kept {data s} (h : Kept q o s) (e : execQspiTransferDone data s = .next t) : Kept q o t := by
  unfold execQspiTransferDone at e
  exact Kept.next (State.qspiDone_kept (h)) e

theorem execQspiDataAccess_kept {m push s} (h : Kept q o s) (e : execQspiDataAccess m push s = .next t) : Kept q o t := by
  unfold execQspiDataAccess at e; refine Kept.next ?_ e
  split
  · exact State.qspiPush_kept (h)
  · exact State.qspiPop_kept (h)

theorem execPfHostReset_kept {kind s} (h : Kept q o s) (e : execPfHostReset kind s = .next t) : Kept q o t := by
  unfold execPfHostReset at e
  exact Kept.next (State.hostReset_kept (h)) e

theorem execVfFlr_kept {v s} (h : Kept q o s) (e : execVfFlr v s = .next t) : Kept q o t := by unfold execVfFlr at e; exact Kept.next (State.vfReset_kept (h)) e

theorem execD0Return_kept {speed width vfEn s} (h : Kept q o s) (e : execD0Return speed width vfEn s = .next t) : Kept q o t := by
  unfold execD0Return at e
  exact Kept.next (State.d0Return_kept (h)) e

/-! ### Sys2Proof/Machine/Pmc.lean -/

theorem State.pmcSel_kept {s m v} (h : Kept q o s) : Kept q o (State.pmcSel s m v) := by
  unfold State.pmcSel
  split
  · exact State.reject_kept (h)
  · exact Kept.ite (State.reject_kept (h)) (Kept.ite (State.reject_kept (h)) (State.hset_kept (h)))

theorem State.pmcList_kept {s m k v} (h : Kept q o s) : Kept q o (State.pmcList s m k v) := by
  unfold State.pmcList
  extract_lets -merge y1
  exact State.guardW_kept (h) (fun _ h2 => Kept.ite (State.reject_kept (h2)) (State.plainWrite_kept (h2)))

theorem State.pmcRead_kept {s m} (h : Kept q o s) : Kept q o (State.pmcRead s m) := by
  unfold State.pmcRead
  extract_lets -merge y1
  split
  · exact State.rejectRead_kept (h)
  · exact State.answer_kept (State.hset_kept (h))

theorem State.pmcRing_kept {s} (h : Kept q o s) : Kept q o (State.pmcRing s) := by unfold State.pmcRing; exact Kept.ite (State.modGlb_kept (State.ringPut_kept (h))) (h)

theorem execPmcRingEntry_kept {s} (h : Kept q o s) (e : execPmcRingEntry s = .next t) : Kept q o t := by unfold execPmcRingEntry at e; exact Kept.next (State.pmcRing_kept (h)) e

/-! ### Sys2Proof/Machine/Dng.lean -/

theorem State.setPair_kept {s i p} (h : Kept q o s) : Kept q o (State.setPair s i p) := by
  unfold State.setPair
  extract_lets -merge y1
  exact Kept.of_eq (h) rfl rfl rfl rfl rfl rfl rfl

theorem State.pairFail_kept {s i} (h : Kept q o s) : Kept q o (State.pairFail s i) := by
  unfold State.pairFail
  split
  · exact h
  · exact State.setLastErr_kept (State.recordErr_kept (State.setPair_kept (h)))

theorem State.pairArm_kept {s i off v} (h : Kept q o s) : Kept q o (State.pairArm s i off v) := by unfold State.pairArm; exact State.setPair_kept (h)

theorem State.pairsTick_kept {s} (h : Kept q o s) : Kept q o (State.pairsTick s) := by
  unfold State.pairsTick
  exact Kept.foldl (h) (fun _ _ h2 => Kept.ite (State.pairFail_kept (h2)) (h2))

/-! ### Sys2Proof/Machine/Ledger.lean -/

theorem execLedgerRefresh_kept {bad s} (h : Kept q o s) (e : execLedgerRefresh bad s = .next t) : Kept q o t := by
  unfold execLedgerRefresh at e; refine Kept.next ?_ e
  split
  · exact State.faultPulse_kept (State.refreshTick_kept (h))
  · exact State.refreshTick_kept (h)

theorem State.staleDue_kept {s d} (h : Kept q o s) : Kept q o (State.staleDue s d) := by
  unfold State.staleDue
  split
  · extract_lets -merge y1
    exact Kept.ite (State.raise_kept (State.modBnd_kept (h))) (h)
  · exact h

theorem execSampleStale_kept {d s} (h : Kept q o s) (e : execSampleStale d s = .next t) : Kept q o t := by unfold execSampleStale at e; exact Kept.next (State.staleDue_kept (h)) e

theorem State.extraWrite_kept {s m n v} (h : Kept q o s) : Kept q o (State.extraWrite s m n v) := by
  unfold State.extraWrite
  extract_lets -merge y1
  refine State.guardW_kept (h) ?_
  intro _ h2
  extract_lets -merge y3
  have h4 : Kept q o y3 := State.plainWrite_kept (h2)
  clear_value y3
  exact State.modBnd_kept (h4)

theorem execBndExtraWrite_kept {m n v s} (h : Kept q o s) (e : execBndExtraWrite m n v s = .next t) : Kept q o t := by
  unfold execBndExtraWrite at e
  exact Kept.next (State.extraWrite_kept (h)) e

theorem State.extraRises_kept {s} (h : Kept q o s) : Kept q o (State.extraRises s) := by
  unfold State.extraRises
  refine Kept.foldl (h) (fun x1 _ h2 => ?_)
  split
  · exact State.modBnd_kept (State.ledgerRise_kept (h2))
  · exact h2

theorem State.calWrite_kept {s m k o1 v} (h : Kept q o s) : Kept q o (State.calWrite s m k o1 v) := by
  unfold State.calWrite
  extract_lets -merge y1
  refine State.guardW_kept (h) ?_
  intro _ h2
  extract_lets -merge y3 y4 y5 y6
  have h7 : Kept q o y3 := State.plainWrite_kept (h2)
  clear_value y3
  exact Kept.ite (State.reject_kept (h2)) (Kept.ite (State.reject_kept (h2)) (Kept.ite (h7) (State.setBit_kept (State.modCal_kept (h7)))))

theorem execBndCalRecordWrite_kept {m k o1 v s} (h : Kept q o s) (e : execBndCalRecordWrite m k o1 v s = .next t) : Kept q o t := by
  unfold execBndCalRecordWrite at e
  exact Kept.next (State.calWrite_kept (h)) e

theorem State.calFollow_kept {s before} (h : Kept q o s) (_hs1 : Kept q o before) : Kept q o (State.calFollow s before) := by
  unfold State.calFollow
  extract_lets -merge y1
  have h4 : Kept q o y1 := by
    unfold y1
    refine Kept.foldl (h) (fun x2 _ h3 => ?_)
    split
    · exact Kept.ite (State.ledgerRise_kept (h3)) (h3)
    · exact h3
  clear_value y1
  exact Kept.foldl (h4) (fun _ _ h6 => Kept.ite (State.portTermRise_kept (h6)) (h6))

theorem State.calRises_kept {s} (h : Kept q o s) : Kept q o (State.calRises s) := by
  unfold State.calRises
  exact Kept.ite (State.calFollow_kept (Kept.of_eq (h) rfl rfl rfl rfl rfl rfl rfl) (h)) (h)

theorem State.bndRead_kept {s m n} (h : Kept q o s) : Kept q o (State.bndRead s m n) := by
  unfold State.bndRead
  extract_lets -merge y1
  split
  · exact State.rejectRead_kept (h)
  · exact Kept.ite (State.answer_kept (State.hsetAll_kept (h))) (State.answer_kept (h))

theorem execBndCRefRead_kept {m n s} (h : Kept q o s) (e : execBndCRefRead m n s = .next t) : Kept q o t := by
  unfold execBndCRefRead at e
  exact Kept.next (State.bndRead_kept (h)) e

/-! ### Sys2Proof/Machine/Reset.lean -/

theorem State.burn_kept {s op} (h : Kept q o s) : Kept q o (State.burn s op) := by
  unfold State.burn
  split
  · exact Kept.otp h ⟨Nat.le_refl _, id, id⟩
  · exact Kept.otp h ⟨Nat.le_refl _, id, id⟩
  · exact Kept.otp h ⟨Nat.le_refl _, fun _ => rfl, id⟩
  · exact Kept.otp h ⟨Nat.le_refl _, id, fun _ => rfl⟩
  · refine Kept.otp h ⟨?_, id, id⟩
    show s.otp.lifecycle.code ≤ s.otp.lifecycle.next.code
    cases s.otp.lifecycle <;> decide
  · exact State.setFld_kept h

theorem State.burnDone_kept {s} (h : Kept q o s) : Kept q o (State.burnDone s) := by
  unfold State.burnDone
  split
  · exact h
  · extract_lets -merge y1 y2
    have h3 : Kept q o y1 := State.modKey_kept (State.burn_kept (h))
    clear_value y1
    have h4 : Kept q o y2 := State.keyEvent_kept (h3)
    clear_value y2
    exact Kept.ite (h3) (Kept.ite (State.darkEnter_kept (State.servicesStop_kept (State.keyWipe_kept (h4)))) (h4))

theorem State.burnCut_kept {s} (h : Kept q o s) : Kept q o (State.burnCut s) := by
  unfold State.burnCut
  extract_lets -merge y1
  split
  · exact h
  · exact Kept.ite (State.burn_kept (State.fresh_kept (h))) (State.fresh_kept (h))

theorem State.cause_kept {s k src} (h : Kept q o s) : Kept q o (State.cause s k src) := by unfold State.cause; exact State.wr_kept (h)

theorem State.coldReset_kept {s src por} (h : Kept q o s) : Kept q o (State.coldReset s src por) := by
  unfold State.coldReset
  extract_lets -merge y1 y2 y3
  have h4 : Kept q o y1 := State.burnCut_kept (h)
  clear_value y1
  have h6 : Kept q o y3 := by
    unfold y3 y2
    unfold Kept State.canonical at *
    simp only [Bool.and_eq_true] at *
    exact ⟨⟨⟨⟨⟨rfl, rfl⟩, rfl⟩, h4.1.1.2⟩, rfl⟩, h4.2⟩
  clear_value y3
  exact State.modPwr_kept (State.cause_kept (State.setFld_kept (h6)))

theorem State.pairedStart_kept {s} (h : Kept q o s) : Kept q o (State.pairedStart s) := by
  unfold State.pairedStart
  exact Kept.ite (State.modWng_kept (State.setFld_kept (State.setFld_kept (h)))) (h)

theorem State.warmReset_kept {s src} (h : Kept q o s) : Kept q o (State.warmReset s src) := by
  unfold State.warmReset
  extract_lets -merge y1 y2 y3 y4 y5 y6 y7 y8 y9 y10
  have h11 : Kept q o y1 := State.burnCut_kept (h)
  clear_value y1
  have h13 : Kept q o y8 := by
    unfold y8 y2
    unfold Kept State.canonical at *
    simp only [Bool.and_eq_true] at *
    exact ⟨⟨⟨⟨⟨Sparse.wf_filter _ _ _ h11.1.1.1.1.1, Sparse.wf_filter _ _ _ h11.1.1.1.1.2⟩, Sparse.wf_filter _ _ _ h11.1.1.1.2⟩, h11.1.1.2⟩, rfl⟩, h11.2⟩
  clear_value y8
  exact State.pairedStart_kept (State.fltShow_kept (State.setFld_kept (State.cause_kept (State.setFld_kept
    (State.setBit_kept (State.setBit_kept (State.setBit_kept (State.setFld_kept (h13)))))))))

theorem State.serviceReset_kept {s} (h : Kept q o s) : Kept q o (State.serviceReset s) := by
  unfold State.serviceReset
  extract_lets -merge y1 y2 y3 y4 y5 y6 y7 y8 y9 y10
  have h11 : Kept q o y2 := State.hostReset_kept (State.servicesStop_kept (h))
  clear_value y2
  have h14 : Kept q o y3 := Kept.foldl (h11) (fun _ _ h13 => State.bankDrop_kept (h13))
  clear_value y3
  have h19 : Kept q o y4 := by
    unfold y4
    refine Kept.foldl (h14) (fun x15 _ h16 => ?_)
    extract_lets -merge y17
    have h18 : Kept q o y17 := State.pathDown_kept (h16)
    clear_value y17
    exact Kept.ite (State.chainStart_kept (State.chainStop_kept (h18))) (h18)
  clear_value y4
  have h22 : Kept q o y5 := Kept.foldl (h19) (fun _ _ h21 => State.applyPort_kept (h21))
  clear_value y5
  have h25 : Kept q o y6 := Kept.foldl (State.cuesCut_kept (h22)) (fun _ _ h24 => State.applyBtb_kept (State.setBit_kept (h24)))
  clear_value y6
  have h28 : Kept q o y7 := Kept.foldl (State.applyCommon_kept (h25)) (fun _ _ h27 => Kept.ite (State.cueCancel_kept (h27)) (h27))
  clear_value y7
  have h33 : Kept q o y8 := by
    unfold y8
    refine Kept.foldl (h28) (fun x29 _ h30 => ?_)
    extract_lets -merge y31
    have h32 : Kept q o y31 := State.outEnable_kept (State.setBit_kept (State.setBit_kept (h30)))
    clear_value y31
    exact Kept.ite (State.outHoldOff_kept (h32)) (h32)
  clear_value y8
  have h34 : Kept q o y9 := State.powerPlan_kept (State.applyClusters_kept (State.modPwr_kept (h33)))
  clear_value y9
  have h35 : Kept q o y10 := Kept.ite (State.becomeUnderstudy_kept (h34)) (h34)
  clear_value y10
  exact State.setFld_kept (State.cause_kept (h35))

theorem State.cmdReset_kept {s k} (h : Kept q o s) : Kept q o (State.cmdReset s k) := by
  unfold State.cmdReset
  split
  · exact State.warmReset_kept (h)
  · exact State.serviceReset_kept (h)
  · exact State.coldReset_kept (h)

theorem State.rstCmd_kept {s m v} (h : Kept q o s) : Kept q o (State.rstCmd s m v) := by
  unfold State.rstCmd
  refine State.guardD_kept (h) ?_
  intro _ h1
  split
  · exact State.reject_kept (h1)
  · exact State.modPwr_kept (h1)

theorem State.rstTick_kept {s} (h : Kept q o s) : Kept q o (State.rstTick s) := by
  unfold State.rstTick
  split
  · exact State.cmdReset_kept (State.modPwr_kept (h))
  · exact h

theorem State.resetPulse_kept {s ns} (h : Kept q o s) : Kept q o (State.resetPulse s ns) := by
  unfold State.resetPulse
  extract_lets -merge y1
  exact Kept.ite (h) (Kept.ite (State.warmReset_kept (h)) (Kept.ite (State.warmReset_kept (State.fresh_kept (h))) (State.fresh_kept (h))))

theorem State.loDetected_kept {s rate} (h : Kept q o s) : Kept q o (State.loDetected s rate) := by
  unfold State.loDetected
  exact Kept.ite (h) (State.raise_kept (State.setFld_kept (State.setFld_kept (State.setBit_kept (h)))))

theorem State.loLost_kept {s} (h : Kept q o s) : Kept q o (State.loLost s) := by
  unfold State.loLost
  exact Kept.ite (State.apll0Lost_kept (State.raise_kept (State.setBit_kept (h)))) (h)

theorem State.pd1Start_kept {s} (h : Kept q o s) : Kept q o (State.pd1Start s) := by
  unfold State.pd1Start
  extract_lets -merge y1
  have h2 : Kept q o y1 := State.setBit_kept (Kept.of_eq (h) rfl rfl rfl rfl rfl rfl rfl)
  clear_value y1
  refine State.applyLate_kept ?_
  unfold State.modMem
  exact Kept.of_eq (State.modBnd_kept (h2)) rfl rfl rfl rfl rfl rfl rfl

theorem State.apll0Locks_kept {s} (h : Kept q o s) : Kept q o (State.apll0Locks s) := by
  unfold State.apll0Locks
  extract_lets -merge y1 y2
  have h3 : Kept q o y1 := State.setBit_kept (h)
  clear_value y1
  have h4 : Kept q o y2 := Kept.ite (h3) (State.pd1Start_kept (h3))
  clear_value y2
  exact Kept.ite (h) (State.faultClear_kept (State.outsSettle_kept (h4)))

theorem State.supply_kept {s d inside} (h : Kept q o s) : Kept q o (State.supply s d inside) := by
  unfold State.supply
  exact Kept.ite (State.faultClear_kept (h)) (State.faultSignal_kept (h))

theorem State.thermal_kept {s t1} (h : Kept q o s) : Kept q o (State.thermal s t1) := by
  unfold State.thermal
  extract_lets -merge y1
  have h2 : Kept q o y1 := State.modPwr_kept (h)
  clear_value y1
  split
  · exact h2
  · extract_lets -merge y3 y4
    have h5 : Kept q o y4 := Kept.ite (State.faultSignal_kept (h2)) (State.faultClear_kept (h2))
    clear_value y4
    exact Kept.ite (State.faultSignal_kept (h5)) (Kept.ite (State.faultClear_kept (h5)) (h5))

theorem execOtpBurnDone_kept {s} (h : Kept q o s) (e : execOtpBurnDone s = .next t) : Kept q o t := by unfold execOtpBurnDone at e; exact Kept.next (State.burnDone_kept (h)) e

theorem execPorAssert_kept {vddAon s} (h : Kept q o s) (e : execPorAssert vddAon s = .next t) : Kept q o t := by
  unfold execPorAssert at e
  exact Kept.next (State.coldReset_kept (h)) e

theorem execPorRelease_kept {s} (h : Kept q o s) (e : execPorRelease s = .next t) : Kept q o t := by
  unfold execPorRelease at e
  exact Kept.next (Kept.ite (State.modPwr_kept (h)) (h)) e

theorem execResetNPulse_kept {ns s} (h : Kept q o s) (e : execResetNPulse ns s = .next t) : Kept q o t := by
  unfold execResetNPulse at e
  exact Kept.next (State.resetPulse_kept (h)) e

theorem execResetNLong_kept {s} (h : Kept q o s) (e : execResetNLong s = .next t) : Kept q o t := by
  unfold execResetNLong at e
  exact Kept.next (Kept.ite (h) (State.coldReset_kept (h))) e

theorem execPwrRstCmdWarm_kept {m s} (h : Kept q o s) (e : execPwrRstCmdWarm m s = .next t) : Kept q o t := by
  unfold execPwrRstCmdWarm at e
  exact Kept.next (State.rstCmd_kept (h)) e

theorem execPwrRstCmdService_kept {m s} (h : Kept q o s) (e : execPwrRstCmdService m s = .next t) : Kept q o t := by
  unfold execPwrRstCmdService at e
  exact Kept.next (State.rstCmd_kept (h)) e

theorem execPwrRstCmdCold_kept {m s} (h : Kept q o s) (e : execPwrRstCmdCold m s = .next t) : Kept q o t := by
  unfold execPwrRstCmdCold at e
  exact Kept.next (State.rstCmd_kept (h)) e

theorem execPowerLoss_kept {s} (h : Kept q o s) (e : execPowerLoss s = .next t) : Kept q o t := by unfold execPowerLoss at e; exact Kept.next (State.coldReset_kept (h)) e

theorem execLoClkDetected_kept {rate s} (h : Kept q o s) (e : execLoClkDetected rate s = .next t) : Kept q o t := by
  unfold execLoClkDetected at e
  exact Kept.next (State.loDetected_kept (h)) e

theorem execLoLost_kept {s} (h : Kept q o s) (e : execLoLost s = .next t) : Kept q o t := by unfold execLoLost at e; exact Kept.next (State.loLost_kept (h)) e

theorem execApll0Locked_kept {s} (h : Kept q o s) (e : execApll0Locked s = .next t) : Kept q o t := by unfold execApll0Locked at e; exact Kept.next (State.apll0Locks_kept (h)) e

theorem execDomainPowerOn_kept {s} (h : Kept q o s) (e : execDomainPowerOn s = .next t) : Kept q o t := by
  unfold execDomainPowerOn at e
  exact Kept.next (State.powerNext_kept (h)) e

theorem execFirmwareSelfCheckDone_kept {s} (h : Kept q o s) (e : execFirmwareSelfCheckDone s = .next t) : Kept q o t := by
  unfold execFirmwareSelfCheckDone at e
  exact Kept.next (Kept.ite (State.modPwr_kept (h)) (h)) e

theorem execSupplyExcursion_kept {d inside s} (h : Kept q o s) (e : execSupplyExcursion d inside s = .next t) : Kept q o t := by
  unfold execSupplyExcursion at e
  exact Kept.next (State.supply_kept (h)) e

theorem execThermalSensorRead_kept {t1 s} (h : Kept q o s) (e : execThermalSensorRead t1 s = .next t) : Kept q o t := by
  unfold execThermalSensorRead at e
  exact Kept.next (State.thermal_kept (h)) e

/-! ### Sys2Proof/Machine/Tick.lean -/

theorem State.newTick_kept {s} (h : Kept q o s) : Kept q o (State.newTick s) := by unfold State.newTick; exact Kept.of_eq (h) rfl rfl rfl rfl rfl rfl rfl

theorem State.stepFollow_kept {s d} (h : Kept q o s) : Kept q o (State.stepFollow s d) := by
  unfold State.stepFollow
  extract_lets -merge y1
  have h2 : Kept q o y1 := State.modDpll_kept (h)
  clear_value y1
  split
  · exact Kept.ite (Kept.ite (State.untrace_kept (State.dpllEvent_kept (h2))) (h2)) (h)
  · exact h

theorem State.tickTimes_kept {s} (h : Kept q o s) : Kept q o (State.tickTimes s) := by
  unfold State.tickTimes
  extract_lets -merge y1 y2 y3 y4 y5 y6
  have h7 : Kept q o y2 := State.commitTry_kept (State.replotTry_kept (h))
  clear_value y2
  have h10 : Kept q o y3 := State.each_kept (State.each_kept (h7) (fun _ _ h8 => State.ownTb_kept (h8))) (fun _ _ h9 => State.incTb_kept (h9))
  clear_value y3
  have h11 : Kept q o y4 := State.advance0_kept (h10)
  clear_value y4
  have h13 : Kept q o y6 := State.each_kept (h11) (fun _ _ h12 => Kept.ite (h12) (State.advance_kept (h12)))
  clear_value y6
  exact State.takeoverStep_kept (State.each_kept (h13) (fun _ _ h14 => State.stepFollow_kept (h14)))

theorem State.tickLedgers_kept {s} (h : Kept q o s) : Kept q o (State.tickLedgers s) := by
  unfold State.tickLedgers
  exact State.refreshTick_kept (State.each_kept (State.calRises_kept (State.extraRises_kept (h))) (fun _ _ h1 => State.staleDue_kept (h1)))

theorem State.actTick_kept {s k} (h : Kept q o s) : Kept q o (State.actTick s k) := by
  unfold State.actTick
  extract_lets -merge y1
  exact Kept.ite (State.actCheck_kept (h)) (h)

theorem State.refTick_kept {s} (h : Kept q o s) : Kept q o (State.refTick s) := by
  unfold State.refTick
  extract_lets -merge y1
  have h3 : Kept q o y1 := State.each_kept (h) (fun _ _ h2 => State.degExpire_kept (State.qualExpire_kept (State.esmcAbsent_kept (State.glitchOver_kept (State.actTick_kept (h2))))))
  clear_value y1
  exact State.each_kept (h3) (fun _ _ h4 => State.switchDone_kept (State.each_kept (h4) (fun _ _ h5 => State.qholdEnd_kept (h5))))

theorem State.acquireTick_kept {s d} (h : Kept q o s) : Kept q o (State.acquireTick s d) := by
  unfold State.acquireTick
  extract_lets -merge y1
  have h2 : Kept q o y1 := State.modDpll_kept (h)
  clear_value y1
  refine Kept.ite ?_ ?_
  · split
    · exact Kept.ite (State.dpllTake_kept (h2)) (h2)
    · exact h2
  · exact h

theorem State.loopTick_kept {s} (h : Kept q o s) : Kept q o (State.loopTick s) := by
  unfold State.loopTick
  exact State.each_kept (h) (fun _ _ h1 => State.fwLost_kept (State.lockAchieved_kept (State.acquireTick_kept (h1))))

theorem State.tdcLongTick_kept {s n} (h : Kept q o s) : Kept q o (State.tdcLongTick s n) := by
  unfold State.tdcLongTick
  split
  · exact Kept.ite (State.tdcLong_kept (h)) (h)
  · exact h

theorem State.tickStamps_kept {s} (h : Kept q o s) : Kept q o (State.tickStamps s) := by
  unfold State.tickStamps
  extract_lets -merge y1 y2 y3
  have h5 : Kept q o y1 := State.each_kept (State.tdcTick_kept (State.snapLatch_kept (h))) (fun _ _ h4 => State.tdcLongTick_kept (h4))
  clear_value y1
  have h7 : Kept q o y2 := State.each_kept (h5) (fun _ _ h6 => State.cueTick_kept (State.cueEnd_kept (h6)))
  clear_value y2
  have h9 : Kept q o y3 := State.each_kept (State.btbTick_kept (h7)) (fun _ _ h8 => State.portTick_kept (h8))
  clear_value y3
  exact State.gnssTick_kept (State.each_kept (h9) (fun _ _ h10 => State.outRestart_kept (State.glideDone_kept (h10))))

theorem State.tickBlocks_kept {s} (h : Kept q o s) : Kept q o (State.tickBlocks s) := by
  unfold State.tickBlocks
  extract_lets -merge y1 y2 y3 y4
  have h5 : Kept q o y1 := State.rlTick_kept (State.governTick_kept (State.cycTick_kept (h)))
  clear_value y1
  have h8 : Kept q o y2 := Kept.foldl (h5) (fun _ _ h7 => State.clusWakeDue_kept (h7))
  clear_value y2
  have h11 : Kept q o y3 := Kept.foldl (h8) (fun _ _ h10 => State.grantLapse_kept (h10))
  clear_value y3
  have h12 : Kept q o y4 := State.pd9Retain_kept (State.dmaTick_kept (State.injectTick_kept (State.fltTick_kept (State.uartTick_kept (State.remask_kept (State.stgTimeout_kept (State.keyTick_kept (h11))))))))
  clear_value y4
  exact State.powerTrim_kept (Kept.foldl (State.pmcRing_kept (h12)) (fun _ _ h14 => State.ringOwed_kept (h14)))

theorem State.ticked_kept {s} (h : Kept q o s) : Kept q o (State.ticked s) := by
  unfold State.ticked
  exact State.rstTick_kept (State.tickBlocks_kept (State.tickStamps_kept (State.wngTick_kept (State.loopTick_kept (State.refTick_kept (State.tickLedgers_kept (State.tickTimes_kept (State.pairsTick_kept (State.newTick_kept (h))))))))))

theorem execTick_kept {s} (h : Kept q o s) (e : execTick s = .next t) : Kept q o t := by
  unfold execTick at e
  exact Kept.next (Kept.ite (h) (Kept.ite (State.ticked_kept (h)) (State.rstTick_kept (h)))) e

theorem State.eventTb_kept {s n sum stp sl} (h : Kept q o s) : Kept q o (State.eventTb s n sum stp sl) := by
  unfold State.eventTb
  extract_lets -merge y1
  exact State.modTb_kept (State.formTb_kept (h))

theorem State.stepRow_kept {s n} (h : Kept q o s) : Kept q o (State.stepRow s n) := by
  unfold State.stepRow
  extract_lets -merge y1
  exact Kept.ite (State.each_kept (State.eventTb_kept (h)) (fun _ _ h2 => State.stepFollow_kept (h2))) (h)

theorem State.slewRow_kept {s n} (h : Kept q o s) : Kept q o (State.slewRow s n) := by
  unfold State.slewRow
  extract_lets -merge y1 y2
  exact State.eventTb_kept (h)

theorem State.slewBegin_kept {s n} (h : Kept q o s) : Kept q o (State.slewBegin s n) := by
  unfold State.slewBegin
  split
  · exact Kept.ite (State.slewRow_kept (h)) (h)
  · exact h

theorem State.slewLast_kept {s n} (h : Kept q o s) : Kept q o (State.slewLast s n) := by
  unfold State.slewLast
  split
  · exact Kept.ite (State.slewRow_kept (h)) (h)
  · exact h

theorem State.wrapRow_kept {s n} (h : Kept q o s) : Kept q o (State.wrapRow s n) := by
  unfold State.wrapRow
  extract_lets -merge y1 y2
  exact Kept.ite (State.eventTb_kept (h)) (h)

theorem State.leapRow_kept {s n pend active} (h : Kept q o s) : Kept q o (State.leapRow s n pend active) := by
  unfold State.leapRow
  extract_lets -merge y1 y2
  exact Kept.ite (State.eventTb_kept (h)) (h)

theorem execOwnerChange_kept {n s} (h : Kept q o s) (e : execOwnerChange n s = .next t) : Kept q o t := by unfold execOwnerChange at e; exact Kept.next (State.ownTb_kept (h)) e

theorem execStepApply_kept {n s} (h : Kept q o s) (e : execStepApply n s = .next t) : Kept q o t := by unfold execStepApply at e; exact Kept.next (State.stepRow_kept (h)) e

theorem execSlewStart_kept {n s} (h : Kept q o s) (e : execSlewStart n s = .next t) : Kept q o t := by unfold execSlewStart at e; exact Kept.next (State.slewBegin_kept (h)) e

theorem execSlewEnd_kept {n s} (h : Kept q o s) (e : execSlewEnd n s = .next t) : Kept q o t := by unfold execSlewEnd at e; exact Kept.next (State.slewLast_kept (h)) e

theorem execSecWrap_kept {n s} (h : Kept q o s) (e : execSecWrap n s = .next t) : Kept q o t := by unfold execSecWrap at e; exact Kept.next (State.wrapRow_kept (h)) e

theorem execLeapInsert_kept {n s} (h : Kept q o s) (e : execLeapInsert n s = .next t) : Kept q o t := by unfold execLeapInsert at e; exact Kept.next (State.leapRow_kept (h)) e

theorem execLeapSecondEnd_kept {n s} (h : Kept q o s) (e : execLeapSecondEnd n s = .next t) : Kept q o t := by
  unfold execLeapSecondEnd at e
  exact Kept.next (State.leapRow_kept (h)) e

theorem execLeapDelete_kept {n s} (h : Kept q o s) (e : execLeapDelete n s = .next t) : Kept q o t := by unfold execLeapDelete at e; exact Kept.next (State.leapRow_kept (h)) e

/-! ### Sys2Proof/Machine/View.lean -/

theorem State.nowLatch_kept {s m n} (h : Kept q o s) : Kept q o (State.nowLatch s m n) := by
  unfold State.nowLatch
  extract_lets -merge y1 y2 y3 y4 y5
  have h6 : Kept q o y4 := State.hsetAll_kept (h)
  clear_value y4
  have h7 : Kept q o y5 := State.hset_kept (h6)
  clear_value y5
  exact State.hsetAll_kept (h7)

theorem State.nowRead_kept {s m n} (h : Kept q o s) : Kept q o (State.nowRead s m n) := by
  unfold State.nowRead
  split
  · exact State.rejectRead_kept (h)
  · exact Kept.ite (State.answer_kept (State.nowLatch_kept (h))) (State.answer_kept (h))

theorem State.readClears_kept {s m off} (h : Kept q o s) : Kept q o (State.readClears s m off) := by
  unfold State.readClears
  split
  · exact h
  · exact Kept.ite (h) (Kept.ite (State.modEnt_kept (h)) (State.wr_kept (h)))

/-! ### Sys2Proof/Machine/Mbx.lean -/

theorem State.freshWords_kept {s} {n : Nat} (h : Kept q o s) : Kept q o (State.freshWords s n).2 := by
  induction n generalizing s with
  | zero => exact h
  | succ n ih => exact ih (State.fresh_kept h)

theorem State.mbxStart_kept {s b} (h : Kept q o s) : Kept q o (State.mbxStart s b) := by
  unfold State.mbxStart
  extract_lets -merge y1 y2
  exact State.modGlb_kept (State.setBit_kept (State.freshWords_kept (h)))

theorem State.mbxWrite_kept {s m off v} (h : Kept q o s) : Kept q o (State.mbxWrite s m off v) := by
  unfold State.mbxWrite
  extract_lets -merge y1 y2
  exact State.guardW_kept (h) (fun _ h3 => Kept.ite (State.reject_kept (h3)) (Kept.ite (State.mbxStart_kept (State.plainWrite_kept (h3))) (State.plainWrite_kept (h3))))

theorem State.mbxDone_kept {s b} (h : Kept q o s) : Kept q o (State.mbxDone s b) := by
  unfold State.mbxDone
  split
  · exact h
  · extract_lets -merge y1
    have h2 : Kept q o y1 := State.wr_kept (State.wrAll_kept (h))
    clear_value y1
    exact State.raise_kept (State.modGlb_kept (State.setBit_kept (h2)))

theorem State.mbxRun_kept {s m b op} (h : Kept q o s) : Kept q o (State.mbxRun s m b op) := by unfold State.mbxRun; exact State.mbxWrite_kept (h)

theorem execMailboxEcho_kept {m b s} (h : Kept q o s) (e : execMailboxEcho m b s = .next t) : Kept q o t := by
  unfold execMailboxEcho at e
  exact Kept.next (State.mbxRun_kept (h)) e

theorem execMailboxFwInfo_kept {m b s} (h : Kept q o s) (e : execMailboxFwInfo m b s = .next t) : Kept q o t := by
  unfold execMailboxFwInfo at e
  exact Kept.next (State.mbxRun_kept (h)) e

theorem execMailboxDieTemp_kept {m b s} (h : Kept q o s) (e : execMailboxDieTemp m b s = .next t) : Kept q o t := by
  unfold execMailboxDieTemp at e
  exact Kept.next (State.mbxRun_kept (h)) e

theorem execMailboxCoreStat_kept {m b s} (h : Kept q o s) (e : execMailboxCoreStat m b s = .next t) : Kept q o t := by
  unfold execMailboxCoreStat at e
  exact Kept.next (State.mbxRun_kept (h)) e

theorem execMailboxSelftest_kept {m b s} (h : Kept q o s) (e : execMailboxSelftest m b s = .next t) : Kept q o t := by
  unfold execMailboxSelftest at e
  exact Kept.next (State.mbxRun_kept (h)) e

theorem execMailboxComplete_kept {b s} (h : Kept q o s) (e : execMailboxComplete b s = .next t) : Kept q o t := by
  unfold execMailboxComplete at e
  exact Kept.next (State.mbxDone_kept (h)) e

/-! ### Sys2Proof/Machine/Bus.lean -/

theorem State.writeIf_kept {s m off v e} (h : Kept q o s) : Kept q o (State.writeIf s m off v e) := by
  unfold State.writeIf
  refine State.guardW_kept (h) ?_
  intro _ h1
  split
  · exact State.reject_kept (h1)
  · exact State.plainWrite_kept (h1)

theorem State.writePlain_kept {s m off v} (h : Kept q o s) : Kept q o (State.writePlain s m off v) := by
  unfold State.writePlain
  exact State.guardW_kept (h) (fun _ h1 => Kept.ite (State.rsqWrite_kept (h1)) (State.plainWrite_kept (h1)))

theorem State.writeGlb_kept {s m off v} (h : Kept q o s) : Kept q o (State.writeGlb s m off v) := by
  unfold State.writeGlb
  split
  · exact State.writeIf_kept (h)
  · exact State.snapCtl_kept (h)
  · exact State.commitW3_kept (h)
  · exact State.commitCtl_kept (h)
  · exact Kept.ite (State.mbxWrite_kept (h)) (State.writePlain_kept (h))

theorem State.writePlt_kept {s m off v} (h : Kept q o s) : Kept q o (State.writePlt s m off v) := by
  unfold State.writePlt
  split
  · exact State.pltCtl_kept (h)
  · exact State.pltApply_kept (h)
  · exact State.writePlain_kept (h)

theorem State.writeTb_kept {s m off v} (h : Kept q o s) : Kept q o (State.writeTb s m off v) := by
  unfold State.writeTb
  extract_lets -merge y1
  refine Kept.ite ?_ ?_
  · exact State.writePlain_kept (h)
  · split
    · exact State.tbCtl_kept (h)
    · exact State.tbIncLo_kept (h)
    · exact State.tbIncHi_kept (h)
    · exact State.tbCmd_kept (h)
    · exact State.leapCtl_kept (h)
    · exact State.leapAtW_kept (h)
    · exact State.leapAtW_kept (h)
    · exact State.tbIncLo_kept (h)
    · exact State.tbStgIncHi_kept (h)
    · exact State.tbStgCtl_kept (h)
    · exact State.stgValid_kept (h)
    · exact State.writePlain_kept (h)

theorem State.writeTdc_kept {s m off v} (h : Kept q o s) : Kept q o (State.writeTdc s m off v) := by
  unfold State.writeTdc
  extract_lets -merge y1 y2
  exact Kept.ite (State.writePlain_kept (h)) (Kept.ite (State.tdcCmd_kept (h)) (Kept.ite (State.writePlain_kept (h)) (State.tdcConfig_kept (h))))

theorem State.writeRef_kept {s m off v} (h : Kept q o s) : Kept q o (State.writeRef s m off v) := by
  unfold State.writeRef
  extract_lets -merge y1 y2
  refine Kept.ite ?_ ?_
  · split
    · exact State.refCtl_kept (h)
    · exact State.refPrioW_kept (h)
    · exact State.nomLo_kept (h)
    · exact State.nomHi_kept (h)
    · exact State.phComp_kept (h)
    · exact State.writeIf_kept (h)
    · exact State.writeIf_kept (h)
    · exact State.writeIf_kept (h)
    · exact State.writeIf_kept (h)
    · exact State.writeIf_kept (h)
    · exact State.writePlain_kept (h)
  · refine Kept.ite ?_ ?_
    · split
      · exact State.selCtl_kept (h)
      · exact State.selCand_kept (h)
      · exact State.selQhold_kept (h)
      · exact State.writePlain_kept (h)
    · exact State.writePlain_kept (h)

theorem State.writeDpll_kept {s m off v} (h : Kept q o s) : Kept q o (State.writeDpll s m off v) := by
  unfold State.writeDpll
  extract_lets -merge y1
  refine Kept.ite ?_ ?_
  · split
    · exact State.dpllCtl_kept (h)
    · exact State.dpllBw_kept (h)
    · exact State.writeIf_kept (h)
    · exact State.writeIf_kept (h)
    · exact State.writePlain_kept (h)
  · split
    · exact State.fwClassW_kept (h)
    · exact State.fwFloorW_kept (h)
    · exact State.fwFloorW_kept (h)
    · exact State.fwFloorW_kept (h)
    · exact State.fwFloorW_kept (h)
    · exact State.uartTx_kept (h)
    · exact State.writePlain_kept (h)

theorem State.writeBnd_kept {s m off v} (h : Kept q o s) : Kept q o (State.writeBnd s m off v) := by
  unfold State.writeBnd
  exact Kept.ite (State.extraWrite_kept (h)) (Kept.ite (State.calWrite_kept (h)) (State.writePlain_kept (h)))

theorem State.writeGnss_kept {s m off v} (h : Kept q o s) : Kept q o (State.writeGnss s m off v) := by
  unfold State.writeGnss
  extract_lets -merge y1
  refine Kept.ite ?_ ?_
  · exact State.gnssCtl_kept (h)
  · refine Kept.ite ?_ ?_
    · exact State.guardW_kept (h) (fun _ h2 => State.rootWrite_kept (h2))
    · refine Kept.ite ?_ ?_
      · split
        · exact State.gnssCfg_kept (h)
        · exact State.writePlain_kept (h)
        · exact State.fespiWrite_kept (h)
        · exact State.gnssOther_kept (h)
      · exact State.writePlain_kept (h)

theorem State.writePort_kept {s m off v} (h : Kept q o s) : Kept q o (State.writePort s m off v) := by
  unfold State.writePort
  extract_lets -merge y1
  split
  · exact State.portCtl_kept (h)
  · exact State.portCmd_kept (h)
  · exact State.portAdj_kept (h)
  · exact State.portAdj_kept (h)
  · exact State.portAdj_kept (h)
  · exact State.writePlain_kept (h)

theorem State.writeSvc_kept {s m off v} (h : Kept q o s) : Kept q o (State.writeSvc s m off v) := by
  unfold State.writeSvc
  split
  · exact State.govCtlWrite_kept (h)
  · exact State.rlWrite_kept (h)
  · exact State.rlWrite_kept (h)
  · exact State.stgRlWrite_kept (h)
  · exact State.stgRlWrite_kept (h)
  · exact State.stgValid_kept (h)
  · exact State.entSelWrite_kept (h)
  · exact State.entCfgWrite_kept (h)
  · exact State.entRateWrite_kept (h)
  · exact State.entKeyWrite_kept (h)
  · exact State.prefCfgWrite_kept (h)
  · exact State.writePlain_kept (h)

theorem State.writeKey_kept {s m off v} (h : Kept q o s) : Kept q o (State.writeKey s m off v) := by
  unfold State.writeKey
  split
  · exact State.keyCmd_kept (h)
  · exact State.keyStage_kept (h)
  · exact State.keyStage_kept (h)
  · exact State.keySvcCfg_kept (h)
  · exact State.keyEpoch_kept (h)
  · exact State.keySvcCfg_kept (h)
  · exact State.keyEpoch_kept (h)
  · exact State.writeIf_kept (h)
  · exact State.lcCmd_kept (h)
  · exact State.otpCmd_kept (h)
  · exact Kept.ite (State.keyStage_kept (h)) (Kept.ite (State.guardW_kept (h) (fun _ h1 => State.keyOtpData_kept (h1))) (State.writePlain_kept (h)))

theorem State.writeOut_kept {s m off v} (h : Kept q o s) : Kept q o (State.writeOut s m off v) := by
  unfold State.writeOut
  extract_lets -merge y1
  refine Kept.ite ?_ ?_
  · exact State.apllTb_kept (h)
  · refine Kept.ite ?_ ?_
    · exact State.sysCtl_kept (h)
    · refine Kept.ite ?_ ?_
      · split
        · exact State.outCtl_kept (h)
        · exact State.outPhOfs_kept (h)
        · exact State.outPulseW_kept (h)
        · exact State.writePlain_kept (h)
      · exact Kept.ite (State.cueWrite_kept (h)) (State.writePlain_kept (h))

theorem State.writeBtb_kept {s m off v} (h : Kept q o s) : Kept q o (State.writeBtb s m off v) := by
  unfold State.writeBtb
  extract_lets -merge y1
  refine Kept.ite ?_ ?_
  · exact State.btbStartCtl_kept (h)
  · refine Kept.ite ?_ ?_
    · split
      · exact State.btbCmd_kept (h)
      · exact State.btbMask_kept (h)
      · exact State.btbStgMask_kept (h)
      · exact State.stgValid_kept (h)
      · exact State.writePlain_kept (h)
    · exact State.writePlain_kept (h)

theorem State.writeWng_kept {s m off v} (h : Kept q o s) : Kept q o (State.writeWng s m off v) := by
  unfold State.writeWng
  split
  · exact State.wngCtl_kept (h)
  · exact State.wngCmd_kept (h)
  · exact State.writePlain_kept (h)
  · exact State.wngSet_kept (h)

theorem State.fltInj_kept {s m off v} (h : Kept q o s) : Kept q o (State.fltInj s m off v) := by
  unfold State.fltInj
  refine State.guardD_kept (h) ?_
  intro _ h1
  split
  · exact State.reject_kept (h1)
  · exact Kept.ite (State.inject_kept (h1)) (h1)

theorem State.writeFlt_kept {s m off v} (h : Kept q o s) : Kept q o (State.writeFlt s m off v) := by
  unfold State.writeFlt
  split
  · exact State.fltCmd_kept (h)
  · exact State.guardW_kept (h) (fun _ h1 => State.srcStickyWrite_kept (h1))
  · exact State.fltInj_kept (h)
  · exact State.fltInj_kept (h)
  · exact State.writePlain_kept (h)

theorem State.writeMem_kept {s m off v} (h : Kept q o s) : Kept q o (State.writeMem s m off v) := by
  unfold State.writeMem
  extract_lets -merge y1
  refine Kept.ite ?_ ?_
  · split
    · exact State.ringCtl_kept (h)
    · exact State.ringSet_kept (h)
    · exact State.ringSet_kept (h)
    · exact State.ringSet_kept (h)
    · exact State.ringCons_kept (h)
    · exact State.writePlain_kept (h)
  · split
    · exact State.qspiCmd_kept (h)
    · exact State.qspiPush_kept (h)
    · exact State.writePlain_kept (h)

theorem State.writePmc_kept {s m off v} (h : Kept q o s) : Kept q o (State.writePmc s m off v) := by
  unfold State.writePmc
  exact Kept.ite (State.pmcSel_kept (h)) (Kept.ite (State.pmcList_kept (h)) (State.writePlain_kept (h)))

theorem State.regWrite_kept {s m off v} (h : Kept q o s) : Kept q o (State.regWrite s m off v) := by
  unfold State.regWrite
  split
  · exact State.writeGlb_kept (h)
  · exact State.writePlt_kept (h)
  · exact State.writeTb_kept (h)
  · exact State.writeTdc_kept (h)
  · exact State.writeRef_kept (h)
  · exact State.writeDpll_kept (h)
  · exact State.writeBnd_kept (h)
  · exact State.writeGnss_kept (h)
  · exact State.writePort_kept (h)
  · exact State.writeSvc_kept (h)
  · exact State.writeKey_kept (h)
  · exact State.writeOut_kept (h)
  · exact State.writeBtb_kept (h)
  · exact State.writeWng_kept (h)
  · exact State.writeFlt_kept (h)
  · exact State.writeMem_kept (h)
  · exact Kept.ite (State.rstCmd_kept (h)) (State.writePlain_kept (h))
  · exact State.writePmc_kept (h)
  · exact h

theorem State.readPlain_kept {s m off e} (h : Kept q o s) : Kept q o (State.readPlain s m off e) := by
  unfold State.readPlain
  split
  · exact State.rejectRead_kept (h)
  · exact State.answer_kept (State.readClears_kept (h))

theorem State.errRead_kept {s m} (h : Kept q o s) : Kept q o (State.errRead s m) := by
  unfold State.errRead
  extract_lets -merge y1
  split
  · exact State.rejectRead_kept (h)
  · exact State.answer_kept (State.hset_kept (h))

theorem State.regRead_kept {s m off} (h : Kept q o s) : Kept q o (State.regRead s m off) := by
  unfold State.regRead
  extract_lets -merge y1 y2
  have h3 : Kept q o y2 := State.readPlain_kept (h)
  clear_value y2
  exact Kept.ite (State.errRead_kept (h)) (Kept.ite (State.nowRead_kept (h)) (Kept.ite (State.tdcTickRead_kept (h)) (Kept.ite (State.pairRead_kept (h)) (Kept.ite (State.tdcFifoRead_kept (h)) (Kept.ite (State.readPlain_kept (h)) (Kept.ite (State.measRead_kept (h)) (Kept.ite (State.uartRead_kept (h)) (Kept.ite (State.bndRead_kept (h)) (Kept.ite (State.svRead_kept (h)) (Kept.ite (State.offRead_kept (h)) (Kept.ite (State.calTagRead_kept (h)) (Kept.ite (State.sessRead_kept (h)) (Kept.ite (State.cycRead_kept (h)) (Kept.ite (State.btbEdgeRead_kept (h)) (Kept.ite (State.btbImgRead_kept (h)) (Kept.ite (State.histPop_kept (h)) (Kept.ite (State.qspiPop_kept (h)) (Kept.ite (State.pmcRead_kept (h)) (h3)))))))))))))))))))

theorem State.vfReject_kept {s m off write e} (h : Kept q o s) : Kept q o (State.vfReject s m off write e) := by
  unfold State.vfReject
  extract_lets -merge y1
  have h2 : Kept q o y1 := State.recordErr_kept (h)
  clear_value y1
  exact Kept.ite (h2) (State.answer_kept (h2))

theorem State.vfRead_kept {s v off} (h : Kept q o s) : Kept q o (State.vfRead s v off) := by
  unfold State.vfRead
  extract_lets -merge y1 y2 y3 y4 y5 y6 y7
  refine Kept.ite ?_ ?_
  · exact h
  · refine Kept.ite ?_ ?_
    · exact Kept.ite (State.vfReject_kept (h)) (Kept.ite (State.answer_kept (h)) (Kept.ite (Kept.ite (State.answer_kept (State.nowLatch_kept (h))) (State.answer_kept (h))) (State.answer_kept (h))))
    · refine Kept.ite ?_ ?_
      · exact Kept.ite (State.vfReject_kept (h)) (State.answer_kept (State.readClears_kept (h)))
      · refine Kept.ite ?_ ?_
        · exact Kept.ite (State.vfReject_kept (h)) (Kept.ite (State.answer_kept (h)) (Kept.ite (State.answer_kept (State.hset_kept (h))) (State.answer_kept (h))))
        · split
          · exact State.answer_kept (h)
          · exact State.answer_kept (h)
          · exact State.answer_kept (h)
          · exact State.answer_kept (h)
          · exact State.answer_kept (State.hset_kept (h))
          · exact State.answer_kept (h)
          · exact State.answer_kept (h)
          · exact State.answer_kept (h)

theorem State.vfWrite_kept {s v off w} (h : Kept q o s) : Kept q o (State.vfWrite s v off w) := by
  unfold State.vfWrite
  extract_lets -merge y1
  exact Kept.ite (h) (Kept.ite (State.cueWrite_kept (h)) (Kept.ite (Kept.ite (State.vfReject_kept (h)) (Kept.ite (State.vfReject_kept (h)) (State.hset_kept (h)))) (State.vfReject_kept (h))))

theorem State.decodeMiss_kept {s m off write} (h : Kept q o s) : Kept q o (State.decodeMiss s m off write) := by
  unfold State.decodeMiss
  extract_lets -merge y1
  have h2 : Kept q o y1 := State.recordErr_kept (h)
  clear_value y1
  exact Kept.ite (h) (Kept.ite (h2) (State.answer_kept (h2)))

theorem State.complement_kept {s m a v} (h : Kept q o s) : Kept q o (State.complement s m a v) := by
  unfold State.complement
  split
  · exact State.reject_kept (h)
  · exact Kept.ite (State.regWrite_kept (State.setPair_kept (h))) (State.pairFail_kept (h))

theorem State.busWrite_kept {s m off v} (h : Kept q o s) : Kept q o (State.busWrite s m off v) := by
  unfold State.busWrite
  extract_lets -merge y1 y2
  have h3 : Kept q o y2 := Kept.ite (h) (State.pairFail_kept (h))
  clear_value y2
  split
  · exact State.vfWrite_kept (h)
  · exact Kept.ite (h) (Kept.ite (Kept.ite (State.decodeMiss_kept (h3)) (State.complement_kept (h3))) (Kept.ite (State.decodeMiss_kept (h3)) (Kept.ite (State.pairArm_kept (h3)) (State.regWrite_kept (h3)))))

theorem State.complementRead_kept {s m a} (h : Kept q o s) : Kept q o (State.complementRead s m a) := by
  unfold State.complementRead
  split
  · exact State.rejectRead_kept (h)
  · exact State.answer_kept (h)

theorem State.busRead_kept {s m off} (h : Kept q o s) : Kept q o (State.busRead s m off) := by
  unfold State.busRead
  split
  · exact State.vfRead_kept (h)
  · exact Kept.ite (h) (Kept.ite (Kept.ite (State.decodeMiss_kept (h)) (State.complementRead_kept (h))) (Kept.ite (State.decodeMiss_kept (h)) (State.regRead_kept (h))))

/-! ### Sys2Proof/Machine/Glb.lean -/

theorem execRegisterWrite_kept {m off v s} (h : Kept q o s) (e : execRegisterWrite m off v s = .next t) : Kept q o t := by
  unfold execRegisterWrite at e
  exact Kept.next (State.busWrite_kept (h)) e

theorem execDecodeMissAccess_kept {m off write v s} (h : Kept q o s) (e : execDecodeMissAccess m off write v s = .next t) : Kept q o t := by
  unfold execDecodeMissAccess at e
  exact Kept.next (Kept.ite (State.busWrite_kept (h)) (State.busRead_kept (h))) e

theorem execRsqClearWrite_kept {m off v s} (h : Kept q o s) (e : execRsqClearWrite m off v s = .next t) : Kept q o t := by
  unfold execRsqClearWrite at e
  exact Kept.next (State.busWrite_kept (h)) e

theorem execRcRead_kept {m off s} (h : Kept q o s) (e : execRcRead m off s = .next t) : Kept q o t := by unfold execRcRead at e; exact Kept.next (State.busRead_kept (h)) e

theorem execDngFirstHalf_kept {m off v s} (h : Kept q o s) (e : execDngFirstHalf m off v s = .next t) : Kept q o t := by
  unfold execDngFirstHalf at e
  exact Kept.next (State.busWrite_kept (h)) e

theorem execDngComplement_kept {m off v s} (h : Kept q o s) (e : execDngComplement m off v s = .next t) : Kept q o t := by
  unfold execDngComplement at e
  exact Kept.next (State.busWrite_kept (h)) e

theorem execDngPairTimeout_kept {m s} (h : Kept q o s) (e : execDngPairTimeout m s = .next t) : Kept q o t := by
  unfold execDngPairTimeout at e
  exact Kept.next (Kept.ite (h) (State.pairFail_kept (h))) e

theorem execDngComplementRead_kept {m off s} (h : Kept q o s) (e : execDngComplementRead m off s = .next t) : Kept q o t := by
  unfold execDngComplementRead at e
  exact Kept.next (State.busRead_kept (h)) e

theorem execGlbErrRead_kept {m s} (h : Kept q o s) (e : execGlbErrRead m s = .next t) : Kept q o t := by unfold execGlbErrRead at e; exact Kept.next (State.busRead_kept (h)) e

theorem execTbNowW0Read_kept {m n s} (h : Kept q o s) (e : execTbNowW0Read m n s = .next t) : Kept q o t := by
  unfold execTbNowW0Read at e
  exact Kept.next (State.busRead_kept (h)) e

theorem execPmcCtrLoRead_kept {m s} (h : Kept q o s) (e : execPmcCtrLoRead m s = .next t) : Kept q o t := by
  unfold execPmcCtrLoRead at e
  exact Kept.next (State.busRead_kept (h)) e

theorem execFltInjWrite_kept {m v s} (h : Kept q o s) (e : execFltInjWrite m v s = .next t) : Kept q o t := by
  unfold execFltInjWrite at e
  exact Kept.next (State.fltInj_kept (h)) e

theorem State.spiAnswer_kept {s l} (h : Kept q o s) : Kept q o (State.spiAnswer s l) := by
  unfold State.spiAnswer
  unfold State.modMem
  exact Kept.of_eq (h) rfl rfl rfl rfl rfl rfl rfl

theorem State.spiStatus_kept {s c} (h : Kept q o s) : Kept q o (State.spiStatus s c) := by unfold State.spiStatus; exact State.spiAnswer_kept (h)

theorem State.spiData_kept {s c d} (h : Kept q o s) : Kept q o (State.spiData s c d) := by
  unfold State.spiData
  extract_lets -merge y1
  exact State.spiAnswer_kept (h)

theorem State.spiAccess_kept {s k} (h : Kept q o s) (hf1 : ∀ x0, Kept q o x0 → Kept q o (k x0)) : Kept q o (State.spiAccess s k) := by
  unfold State.spiAccess
  extract_lets -merge y1
  have h2 : Kept q o y1 := hf1 _ (h)
  clear_value y1
  exact State.spiStatus_kept (h2)

theorem State.spiPair_kept {s a d} (h : Kept q o s) : Kept q o (State.spiPair s a d) := by
  unfold State.spiPair
  exact State.spiAccess_kept (h) (fun _ h1 => State.busWrite_kept (State.busWrite_kept (h1)))

theorem State.spi_kept {s l} (h : Kept q o s) : Kept q o (State.spi s l) := by
  unfold State.spi
  extract_lets -merge y1 y2 y3 y4 y5
  have h6 : Kept q o y5 := State.busRead_kept (h)
  clear_value y5
  refine Kept.ite ?_ ?_
  · exact h
  · clear_value y1
    split
    · exact Kept.ite (h) (Kept.ite (State.spiStatus_kept (h)) (Kept.ite (State.spiStatus_kept (h)) (State.spiAccess_kept (h) (fun _ h7 => State.busWrite_kept (h7)))))
    · exact Kept.ite (h) (Kept.ite (State.spiStatus_kept (h)) (Kept.ite (State.spiStatus_kept (h)) (Kept.ite (State.spiStatus_kept (h)) (Kept.ite (State.spiPair_kept (h)) (State.spiAccess_kept (h) (fun _ h8 => State.busWrite_kept (h8)))))))
    · exact Kept.ite (h) (Kept.ite (State.spiData_kept (h)) (Kept.ite (State.spiData_kept (h)) (State.spiData_kept (h6))))
    · exact State.spiStatus_kept (h)
    · exact Kept.ite (h) (State.spiStatus_kept (h))

theorem execMspiWrite_kept {a d crc s} (h : Kept q o s) (e : execMspiWrite a d crc s = .next t) : Kept q o t := by
  unfold execMspiWrite at e
  exact Kept.next (State.spi_kept (h)) e

theorem execMspiDwrite_kept {a d crc s} (h : Kept q o s) (e : execMspiDwrite a d crc s = .next t) : Kept q o t := by
  unfold execMspiDwrite at e
  exact Kept.next (State.spi_kept (h)) e

theorem execMspiRead_kept {a crc s} (h : Kept q o s) (e : execMspiRead a crc s = .next t) : Kept q o t := by unfold execMspiRead at e; exact Kept.next (State.spi_kept (h)) e

theorem execMspiPing_kept {l s} (h : Kept q o s) (e : execMspiPing l s = .next t) : Kept q o t := by unfold execMspiPing at e; exact Kept.next (State.spi_kept (h)) e

theorem State.unmask_kept {s v} (h : Kept q o s) : Kept q o (State.unmask s v) := by
  unfold State.unmask
  extract_lets -merge y1 y2
  have h3 : Kept q o y2 := State.modGlb_kept (h)
  clear_value y2
  exact Kept.ite (State.fire_kept (h3)) (h3)

theorem execMsixVectorUnmask_kept {v s} (h : Kept q o s) (e : execMsixVectorUnmask v s = .next t) : Kept q o t := by
  unfold execMsixVectorUnmask at e
  exact Kept.next (State.unmask_kept (h)) e

end Sys2Proof.Machine
end

