-- ==== Sys2Proof/Tests/Slice0.lean ====
section
/-! SUPPORT. Sys2Proof/Tests/Slice0.lean: ill-formed operands that are refused, single steps on a small state, and for every statement of Sys2Proof/Certificates/Slice0/Obligations.lean that has hypotheses a state and operands that meet them, clause by clause; a statement of several parts has one theorem for each part. -/
namespace Sys2Proof.Tests
open Sys2Proof.Machine

set_option Elab.async false

/-- A plot that uses every kind of unit, and grants every master every block. -/
def testPlot : Plot where
  global := [1, 2, 3, 0, 64, 15, 3, 3]
  power := List.replicate 12 1
  banksFixed := [2, 4, 5, 3, 0, 1, 6, 7] ++ List.replicate 16 0
  ports := (List.range 16).flatMap fun n => [if n = 3 then 0 else 1, if n = 2 then 1 else 0, 0xFF, BitVec.ofNat 8 n, 0, 0, 0, 0]
  timebases := (List.range 64).flatMap fun n =>
    [if n = 63 then 0 else 1, if n = 5 then 1 else 0, 1, BitVec.ofNat 8 (if n < 12 then n else 0xFF), BitVec.ofNat 8 (n % 2), 0, 1, 0] ++ List.replicate 8 0
  refmap := (List.range 24).flatMap fun k =>
    [BitVec.ofNat 8 (if k < 8 then 0x10 + k else if k = 8 then 0x20 else if k = 9 then 0x21 else if k = 10 then 0x30 else if k = 11 then 0x40 else if k < 22 then 0x50 else if k = 22 then 0x51 else 0),
     BitVec.ofNat 8 (if k < 12 then 0xFF else k - 12), 1, 0, BitVec.ofNat 8 ([1, 1, 2, 3].getD k 0), 0, 0, 0]
  services := [2, 0, 0, 0, 1, 0, 0, 7, 0, 0, 0, 1, 2, 0, 0, 2, 0, 0]
  part := (List.range 64).map (fun e => BitVec.ofNat 8 (1 + e % 3)) ++ [1, 0, 0xEE, 2, 0xDC, 5]
  qos := List.replicate 16 1
  outputs := (List.range 4).flatMap (fun _ => leBytes 8 2000000000000000) ++
    (List.range 12).flatMap (fun k => [BitVec.ofNat 8 (1 + k % 4), 1, BitVec.ofNat 8 (k % 2), BitVec.ofNat 8 k] ++ leBytes 8 10000000000000 ++ leBytes 4 0) ++
    (List.range 16).flatMap (fun c => [BitVec.ofNat 8 c, if c = 1 then 0 else 0xFF, 1, 0])
  banksAssign := List.replicate 24 0xFF
  faultSec := [1, 0, 0, 0, 0, 0, 0, 0]
  access := (List.range 26).flatMap fun _ => leBytes 8 (2 ^ 36 - 1)
  limits := [0, 0, 0, 0]
  btb := (List.range 4).flatMap fun b => [if b = 3 then 0 else 1, if b = 1 then 1 else 0, 0, 0, 0xFF, 0, 0, 0]

/-- A unit with that plot in force, its tick running. -/
def rich : State := { State.reset with plt := { inForce := true, plot := testPlot }, pd1 := true, tick := 1000 }

/-- What a command leaves of a state, or the state if it stops. -/
def after (c : Instr) (s : State) : State := match exec c s with | .next t => t | _ => s

/-! ### Witnesses: operands and states that meet the hypotheses of the statements, clause by clause -/

theorem witness_FrontCommandRuns : ({ rich with pending := [.tick, .snapshotLatch] } : State).pending = .tick :: [.snapshotLatch] ∧ rich.pending = [] := by decide +kernel

theorem witness_canonical : rich.canonical = true ∧ State.reset.canonical = true := by decide +kernel

theorem witness_StepKeepsCanonicalForm : ∃ t, step rich = .next t := ⟨rich, rfl⟩

theorem witness_PlainWriteSetsRwFields : rich.pair Master.pf.idx = none ∧ isDngAt 0x080024 = false ∧ ownRule 0x080024 = false ∧
    ((findReg 0x080024).map fun d => (d.isRsq, d.perMaster)) = some (false, false) ∧ rich.checkWrite .pf 0x080024 1200 = none ∧
    isDngAt 0x0E001C = false ∧ ownRule 0x0E001C = false ∧ ((findReg 0x0E001C).map fun d => (d.isRsq, d.perMaster)) = some (false, true) ∧
    rich.checkWrite .pf 0x0E001C 0x17 = none := by decide +kernel

theorem witness_RejectedAccesses : Master.pf.isVf = false ∧ rich.pwr.por = false ∧ rich.pair Master.pf.idx = none ∧ isDngAt 0x080024 = false ∧ ownRule 0x080024 = false ∧
    rich.checkWrite .pf 0x080024 1199 = some .range ∧ isDngAt 0x083024 = false ∧ ownRule 0x083024 = false ∧ rich.checkWrite .pf 0x083024 1200 = some .plot ∧
    decodeMisses 0x120000 = true ∧ decodeMisses 0x7FFFFC = true := by decide +kernel

theorem witness_RsqWriteClearsOnEqualSeq : rich.pair Master.pf.idx = none ∧ (findReg 0x00000C).map RegDesc.isRsq = some true ∧ rich.checkWrite .pf 0x00000C 0 = none ∧
    (findReg 0x0B080C).map RegDesc.isRsq = some true ∧ rich.cueCheck .pf 0 0xC 0x01FFFFFF false = none ∧
    fget ((rich.raise 0x00000C 0xFFFFFF).rd 0x00000C) 24 8 = 1 ∧ (rich.raise 0x00000C 1).checkWrite .pf 0x00000C 0 = none := by decide +kernel

theorem witness_ReadsThatClearOrLatch : (findReg 0x080108).map RegDesc.isRc = some true ∧ rich.checkRead .pf 0x080108 = none ∧ rich.absent 0x080108 = false ∧
    (findReg 0x030338).map RegDesc.isRc = some true ∧ rich.tdcReadErr .pf 8 0x38 = none ∧ rich.checkRead .pf 0x030338 = none ∧ rich.absent 0x030338 = false ∧
    rich.checkRead .pf 0x000014 = none ∧ rich.checkRead .pf (tbReg 0 0) = none ∧ rich.checkRead .pf (tbReg 62 0) = none ∧ rich.plt.plot.tbPresent 62 = true ∧
    rich.checkRead .pf 0x110008 = none := by decide +kernel

/-- A pair of the PF is pending at PWR_RST_CMD. -/
def paired1 : State := rich.setPair 0 (some ⟨0x100010, 1, 1000⟩)

theorem witness_DngPairs : isDngAt 0x010004 = true ∧ isDngAt 0x100010 = true ∧ rich.pair Master.pf.idx = none ∧ paired1.pair Master.pf.idx = some ⟨0x100010, 1, 1000⟩ ∧
    paired1.pwr.por = false ∧ ~~~(1 : Word) ≠ 0 := by decide +kernel

theorem witness_ComplementReadReturnsComplement : rich.checkRead .pf 0x010004 = none ∧ isDngAt 0x010004 = true ∧ rich.checkRead .pf 0x000008 = none ∧ isDngAt 0x000008 = false := by decide +kernel

theorem witness_ManagementSpiTransactions : rich.pwr.por = false ∧ crc8 (0x02 :: beBytes 3 8 ++ beBytes 4 0) < 256 ∧ crc8 (0x02 :: beBytes 3 9 ++ beBytes 4 0) < 256 ∧
    crc8 (0x12 :: beBytes 3 0x800000 ++ beBytes 4 1) < 256 ∧ crc8 (0x12 :: beBytes 3 0x7FFFFC ++ beBytes 4 1) < 256 ∧ crc8 (0x0B :: beBytes 3 0x14) < 256 ∧
    (0 : Byte) ∉ [0x02, 0x12, 0x0B, 0x05] := by decide +kernel

/-- A snapshot is requested. -/
def snapAsked : State := { rich with glb := { rich.glb with snapReq := true } }

theorem witness_SnapshotLatchesOneTick : rich.checkWrite .pf 0x000020 1 = none ∧ rich.checkWrite .pf 0x000020 2 = none ∧ snapAsked.glb.snapReq = true ∧ rich.glb.snapReq = false ∧
    rich.plt.plot.tbPresent 0 = true ∧ rich.plt.plot.tbPresent 63 = false := by decide +kernel

/-- The PF has written the words W0 to W2 of a commit. -/
def worded : State := (rich.hset 0 0x000030 5).mark 0 0x000030 true |>.mark 0 0x000034 true |>.mark 0 0x000038 true

/-- A commit is armed for instant `i`. -/
def committing (s : State) (i : Nat) : State := { s with glb := { s.glb with commitAt := some i } }

/-- An increment outside the window is staged. -/
def badStage : State := rich.setBit (tbReg 1 0xCC) 0 true

theorem witness_CommitCommands : rich.checkWrite .pf 0x00003C 0 = none ∧ rich.marked 0 0x000030 = false ∧ worded.checkWrite .pf 0x00003C 0 = none ∧
    worded.marked 0 0x000030 = true ∧ worded.marked 0 0x000034 = true ∧ worded.marked 0 0x000038 = true ∧ (committing worded 9).checkWrite .pf 0x00003C 0 = none ∧
    (worded.tbs[0].value ≤ timeOf (worded.hget 0 0x000030) (worded.hget 0 0x000034) (worded.hget 0 0x000038) 0 ∧
      timeOf (worded.hget 0 0x000030) (worded.hget 0 0x000034) (worded.hget 0 0x000038) 0 ≤ worded.tbs[0].value + 3600 * secU) ∧
    worded.tbs[0].value + 3600 * secU < timeOf (worded.hget 0 0x000030) (worded.hget 0 0x000034) (worded.hget 0 0x000038) 1 ∧
    rich.checkWrite .pf 0x000040 1 = none ∧ (committing rich 9).checkWrite .pf 0x000040 1 = none ∧
    (committing badStage 0).glb.commitAt = some 0 ∧ (committing badStage 0).commitErr.isSome = true := by decide +kernel

theorem witness_CommitAppliesAllStaged : (committing rich 0).glb.commitAt = some 0 ∧ 0 ≤ max rich.tb0 rich.tb0Next ∧ (committing rich 0).commitErr = none ∧
    max rich.tb0 rich.tb0Next < rich.tb0Next + 1 := by decide +kernel

/-- Ring 4 runs with RING_MS 1, on a tick that is a multiple of 1 ms. -/
def ringing : State := { (rich.setBit (ringReg 4 0) 31 true).setFld 0x110000 0 16 1 with tick := 1250000 }

theorem witness_MailboxesCountersAndVectors : rich.checkWrite .pf (mbxReg 0 0) 0x80000001 = none ∧ rich.checkWrite .mspi (mbxReg 1 0) 0x80000005 = none ∧ rich.mbxBusy 0 = false ∧
    (rich.setBit (mbxReg 0 4) 31 true).mbxBusy 0 = true ∧ (rich.setBit (mbxReg 0 4) 31 true).checkWrite .pf (mbxReg 0 0) 0x80000002 = none ∧ (rich.rd (mbxReg 0 8)).toNat ≤ 3 ∧
    3 < ((rich.wr (mbxReg 0 8) 4).rd (mbxReg 0 8)).toNat ∧ Sparse.get (fun _ => none) [(1, some (MbxResult.mk [1, 2, 3, 4] 255))] 1 = some (MbxResult.mk [1, 2, 3, 4] 255) ∧
    ringing.ringOn 4 = true ∧ ringing.pd1 = true ∧ ringing.tick % (ringing.fld 0x110000 0 16 * 1250000) = 0 ∧ rich.ringOn 4 = false := by decide +kernel

/-- Time base `n` has the host as its owner. -/
def hostTb (n : Nat) : State := rich.setBit (tbReg n 0x18) 0 true

/-- The same, with half of an increment held for the PF. -/
def halfInc (o x : Nat) : State := ((hostTb 11).hset 0 (tbReg 11 o) (BitVec.ofNat 32 x)).mark 0 (tbReg 11 o) true

theorem witness_IncrementsAndOwnership : rich.checkWrite .pf (tbReg 11 0x20) 0 = none ∧ rich.checkWrite .pf (tbReg 11 0xC0) 0 = none ∧ rich.plt.plot.tbSameRate 11 = false ∧
    rich.checkWrite .pf (tbReg 11 0x24) 0x00CC985F = none ∧ rich.marked 0 (tbReg 11 0x20) = false ∧ (halfInc 0x20 0x06F69447).marked 0 (tbReg 11 0x20) = true ∧
    (halfInc 0x20 0x06F69447).incLimits 11 0x20 0x00CC985F06F69447 = true ∧ (halfInc 0x20 0x06F69447).actsAsOwner .pf 11 = true ∧ rich.actsAsOwner .pf 11 = false ∧
    rich.tbFenced 11 = false ∧ (halfInc 0x20 0x92A30553).incLimits 11 0x20 0x00CD013A92A30553 = true ∧ (halfInc 0x20 0x92A30553).checkWrite .pf (tbReg 11 0x24) 0x00CD013A = none ∧
    (halfInc 0xC0 0x92A30553).checkWrite .pf (tbReg 11 0xC4) 0x00CD013A = none ∧ (halfInc 0xC0 0x92A30553).marked 0 (tbReg 11 0xC0) = true ∧
    (halfInc 0xC0 0x92A30553).incLimits 11 0xC0 0x00CD013A92A30553 = true := by decide +kernel

/-- An owner write by the host is decoded on time base 12. -/
def owning : State := rich.modTb 12 fun t => { t with ownWrite := some true }

theorem witness_Ownership : rich.checkWrite .pf (tbReg 12 0x18) 1 = none ∧ Master.pf.host = true ∧ rich.checkWrite .pf (tbReg 12 0x18) 0 = none ∧ rich.plt.plot.tbDpll 12 = none ∧
    rich.tbFenced 12 = false ∧ rich.checkWrite .pf (tbReg 0 0x18) 0 = none ∧ rich.plt.plot.tbDpll 0 ≠ none ∧ (Master.core 0).host = false ∧
    rich.checkWrite (.core 0) (tbReg 12 0x18) 0 = none ∧ rich.checkWrite (.core 0) (tbReg 12 0x18) 1 = none ∧ rich.tbHost 12 = false ∧
    owning.tbs[(12 : Fin 64)].ownWrite = some true ∧ owning.tbHost 12 = false ∧ rich.checkWrite .pf (tbReg 12 0xC8) 0 = none ∧ rich.checkWrite .pf (tbReg 0 0xC8) 0 = none ∧
    rich.checkWrite .pf (stgValidReg (.tb 12)) 0 = none ∧ rich.checkWrite .pf (stgValidReg .svc) 0 = none ∧ rich.checkWrite .pf (stgValidReg (.btb 0)) 0 = none := by decide +kernel

/-- A host-owned time base 12 with a change of its record. -/
def tb12 (f : Tb → Tb) : State := (hostTb 12).modTb 12 f

theorem witness_StepAndSlewCommands : (hostTb 12).checkWrite .pf (tbReg 12 0x38) 1 = none ∧ (hostTb 12).checkWrite .pf (tbReg 12 0x38) 9 = none ∧ (hostTb 12).actsAsOwner .pf 12 = true ∧
    (hostTb 12).tbFenced 12 = false ∧ (hostTb 12).tbs[(12 : Fin 64)].step = none ∧ (tb12 fun t => { t with step := some ⟨1, true, 9⟩ }).tbs[(12 : Fin 64)].step.isSome = true ∧
    ((hostTb 12).tbs[(0 : Fin 64)].value ≤ (hostTb 12).timeAt (tbReg 12 0x50) ∧ (hostTb 12).timeAt (tbReg 12 0x50) ≤ (hostTb 12).tbs[(0 : Fin 64)].value + 3600 * secU) ∧
    ((hostTb 12).wr (tbReg 12 0x5C) 1).tbs[(0 : Fin 64)].value + 3600 * secU < ((hostTb 12).wr (tbReg 12 0x5C) 1).timeAt (tbReg 12 0x50) ∧
    (hostTb 12).checkWrite .pf (tbReg 12 0x38) 2 = none ∧ (hostTb 12).checkWrite .pf (tbReg 12 0x38) 3 = none ∧ (hostTb 12).checkWrite .pf (tbReg 12 0x38) 4 = none ∧
    (hostTb 12).slewCntReg 12 = 0 ∧ ((hostTb 12).wr (tbReg 12 0x30) 1).slewCntReg 12 = 1 ∧ ((hostTb 12).slewOffReg 12).natAbs ≤ 0x0000346DC5D63886 ∧
    (tb12 fun t => { t with slew := some ⟨1, 1, 9, false, false⟩ }).tbs[(12 : Fin 64)].slew = some ⟨1, 1, 9, false, false⟩ := by decide +kernel

theorem witness_StepsAndSlews : (tb12 fun t => { t with step := some ⟨1, true, 0⟩ }).tbs[(12 : Fin 64)].step = some ⟨1, true, 0⟩ ∧
    (tb12 fun t => { t with step := some ⟨1, true, 0⟩ }).tbs[(12 : Fin 64)].value < timeMod ∧ rich.plt.plot.tbScale 12 ≠ 1 ∧ rich.fld (tbReg 5 0x78) 0 2 = 0 ∧
    rich.tb0Comes < rich.tb0Comes + 1 ∧ (tb12 fun t => { t with slew := some ⟨0, 1, 0, false, false⟩ }).tbs[(12 : Fin 64)].slew = some ⟨0, 1, 0, false, false⟩ ∧
    (tb12 fun t => { t with slew := some ⟨0, 2, 0, false, false⟩ }).tbs[(12 : Fin 64)].slew = some ⟨0, 2, 0, false, false⟩ ∧
    timeMod ≤ (tb12 fun t => { t with value := timeMod - 1 }).tbs[(12 : Fin 64)].value + (tb12 fun t => { t with value := timeMod - 1 }).tbEffInc 12 := by decide +kernel

/-- Time base 5, which is UTC, with a change of its record. -/
def utc (f : Tb → Tb) : State := (hostTb 5).modTb 5 f

/-- A leap of PEND `p` at second 86400 is due on it. -/
def leaping (p : Nat) : State := (utc fun t => { t with value := 86400 * secU, leapAt := 86400 }).setFld (tbReg 5 0x78) 0 2 p

theorem witness_LeapSeconds : rich.checkWrite .pf (tbReg 5 0x78) 1 = none ∧ rich.checkWrite .pf (tbReg 12 0x78) 1 = none ∧ rich.plt.plot.tbScale 12 ≠ 1 ∧ rich.plt.plot.tbScale 5 = 1 ∧
    fget (0x11 : Word) 0 2 ≠ rich.fld (tbReg 5 0x78) 0 2 ∧ fget (0x11 : Word) 4 1 = 1 ∧ leapSource .pf 1 = true ∧ leapSource .pf 0 = false ∧ Master.pf.host = true ∧
    (rich.wr (tbReg 5 0x80) 86400).leapAtReg 5 = 86400 ∧ rich.tbs[(5 : Fin 64)].value + secU < 86400 * secU ∧ 86400 * secU ≤ rich.tbs[(5 : Fin 64)].value + 366 * 86400 * secU ∧
    (rich.wr (tbReg 5 0x80) 86400).checkWrite .pf (tbReg 5 0x78) 0x11 = none ∧ rich.checkWrite .pf (tbReg 5 0x84) 0 = none ∧ rich.checkWrite .pf (tbReg 12 0x80) 0 = none ∧
    (rich.setBit (tbReg 5 0x78) 4 true).checkWrite .pf (tbReg 5 0x80) 86400 = none ∧
    (leaping 1).tbs[(5 : Fin 64)].value + (leaping 1).tbEffInc 5 + secU < timeMod ∧ (leaping 1).fld (tbReg 5 0x78) 0 2 = 1 ∧ (leaping 1).bit (tbReg 5 0x1C) 7 = false ∧
    (leaping 1).tbs[(5 : Fin 64)].leapAt * secU ≤ (leaping 1).tbs[(5 : Fin 64)].value + (leaping 1).tbEffInc 5 ∧ ((leaping 1).setBit (tbReg 5 0x1C) 7 true).bit (tbReg 5 0x1C) 7 = true ∧
    ((leaping 1).setBit (tbReg 5 0x1C) 7 true).fld (tbReg 5 0x78) 0 2 = 1 ∧ (leaping 2).fld (tbReg 5 0x78) 0 2 = 2 ∧ (leaping 2).bit (tbReg 5 0x1C) 7 = false := by decide +kernel

/-- Channel `n` armed, its window open or not, with its record given. -/
def chan (n : Fin 24) (isOpen : Bool) (f : TdcCh → TdcCh) : State := ((rich.setBit (tdcReg n 8) 1 true).setBit (tdcReg n 8) 2 isOpen).modTdc n f

theorem witness_TdcCommands : rich.checkWrite .pf (tdcReg 8 4) 1 = none ∧ rich.tdcOwns .pf 8 = true ∧ rich.tdcOwns .pf 0 = false ∧ rich.checkWrite .pf (tdcReg 0 4) 1 = none ∧
    (chan 8 false id).tdcArmed 8 = true ∧ (chan 8 false id).checkWrite .pf (tdcReg 8 4) 1 = none ∧ ((rich.setFld (tdcReg 8 0) 8 2 2).wr (tdcReg 8 0x14) 1).tdcArmErr 8 = none ∧
    rich.checkWrite .pf (tdcReg 8 4) 2 = none ∧ rich.tdcArmed 8 = false ∧ (chan 8 false id).tdc.ch[(8 : Fin 24)].disarm = none ∧ rich.checkWrite .pf (tdcReg 8 4) 3 = none ∧
    rich.tdcReadErr .pf 8 0x30 = none ∧ rich.tdc.ch[(8 : Fin 24)].fifo = [] ∧ (chan 8 false fun c => { c with fifo := [7] }).tdc.ch[(8 : Fin 24)].fifo = [7] ∧
    rich.checkRead .pf 0x030000 = none := by decide +kernel

/-- TB0 has come from 99 to 100, and the window of channel 8 waits for `e`. -/
def epochAt (e : Nat) : State := (chan 8 true fun c => { c with epoch := e }).modTb 0 fun t => { t with value := 100, prev := 99 }

theorem witness_TdcWindows : (chan 8 false id).tdcArmed 8 = true ∧ (chan 8 false id).tdcIsOpen 8 = false ∧ (chan 8 false id).tdc.ch[(8 : Fin 24)].disarm = none ∧
    (chan 8 false fun c => { c with deadEnd := 1000, armTick := 999 }).tdc.ch[(8 : Fin 24)].deadEnd ≤ rich.tick ∧ (chan 8 false fun c => { c with armTick := 999 }).tdc.ch[(8 : Fin 24)].armTick < rich.tick ∧
    (chan 8 false id).tdcKind 8 = 0 ∧ (chan 8 false id).tdc.ch[(8 : Fin 24)].epoch ≤ ((chan 8 false id).tdcTb 8).value + (chan 8 false id).nsAt (tdcReg 8 0xC) ∧
    (epochAt 100).tdcIsOpen 8 = true ∧ (epochAt 100).tdcKind 8 = 0 ∧ (epochAt 100).tdc.ch[(8 : Fin 24)].start = none ∧ (epochAt 100).tdc.ch[(8 : Fin 24)].epoch ≤ ((epochAt 100).tdcTb 8).value ∧
    ((epochAt 100).tdcTb 8).prev < ((epochAt 100).tdcTb 8).value ∧ ((epochAt 100).tdcTb 8).stepped = false ∧ 512 * (99 - 99) / (100 - 99) < 512 ∧ 512 ≤ 512 * (100 - 99) / (100 - 99) ∧
    rich.tdcTakes 8 false = true ∧ rich.fld (tdcReg 8 0) 12 16 = 0 ∧ rich.tdcStartInput 8 ≠ some 8 ∧ rich.tdcArmed 8 = false ∧
    (chan 8 true fun c => { c with stops := List.replicate 16 ⟨1, 0, 0⟩ }).tdc.ch[(8 : Fin 24)].stops.length = 16 ∧
    ((chan 9 true id).setFld (tdcReg 9 0) 8 2 2 |>.setFld (tdcReg 9 0) 0 2 0).tdcIsOpen 9 = true ∧
    (chan 8 true fun c => { c with start := some ⟨1000, 0, 0⟩ }).tdc.ch[(8 : Fin 24)].start = some ⟨1000, 0, 0⟩ ∧
    1000 + ((chan 8 true fun c => { c with start := some ⟨1000, 0, 0⟩ }).wr (tdcReg 8 0x10) 0 |>.rd (tdcReg 8 0x10)).toNat ≤ 1000 ∧
    (chan 8 true fun c => { c with disarm := some 999 }).tdc.ch[(8 : Fin 24)].disarm = some 999 ∧ ((chan 8 true id).setFld (tdcReg 8 0) 8 2 1).tdcKind 8 ≠ 0 ∧
    0 + (((chan 8 true id).wr (tdcReg 8 0x14) 1000).rd (tdcReg 8 0x14)).toNat ≤ 1000 := by decide +kernel

theorem witness_DelayLineLockAndLaneWindows : rich.tdc.ch[(0 : Fin 24)].lostAt = none ∧ rich.srcLive 0x0400 = false ∧ rich.eventClass 0x0400 .corrected = .corrected ∧ rich.escalation 0x0400 = none ∧
    (rich.modTdc 0 fun c => { c with lostAt := some 0 }).tdc.ch[(0 : Fin 24)].lostAt = some 0 ∧ rich.tick ≤ 0 + 10 * ticksPerMs ∧
    0 + 10 * ticksPerMs < ({ rich.modTdc 0 fun c => { c with lostAt := some 0 } with tick := 10 * ticksPerMs + 1 } : State).tick ∧
    rich.clockOn 0 0 = true ∧ rich.clockOn 4 3 = true ∧ 3 < laneClocks 4 ∧ rich.tdc.ch[(19 : Fin 24)].nextClk < laneClocks 0 := by decide +kernel

/-- Slot `k` in state `st` with live bits `l` and its record given. -/
def slot (k : Fin 24) (st l : Nat) (f : Ref → Ref) : State := ((rich.setFld (refReg k 4) 29 3 st).setFld (refReg k 4) 0 12 l).modRef k f

theorem witness_PhaseSamplesAndPairs : (slot 0 2 0 id).refState 0 ≠ 0 ∧ (monitorMask (rich.plt.plot.refSource 0)).testBit 2 = true ∧
    secOf ((rich.modTb 0 fun t => { t with value := secU }).tb0) ≠ rich.tdc.pairE ∧ rich.checkRead .pf 0x030024 = none ∧ fget (rich.hget 0 0x030020) 0 5 = 0 ∧
    fget (rich.hget 0 0x030020) 8 5 = 0 ∧ rich.pairD 0 1 0 = none ∧
    ((rich.modRef 0 fun r => { r with secPh := [some 5] }).modRef 1 fun r => { r with secPh := [some 3] }).pairD 0 1 0 ≠ none ∧ rich.checkRead .pf (refReg 0 0x60) = none := by decide +kernel

theorem witness_QualificationOfSlots : rich.checkWrite .pf (refReg 10 0) 1 = none ∧ rich.bit (refReg 10 0) 0 = false ∧ rich.nomOk 10 = true ∧ rich.refState 10 = 0 ∧
    rich.nomOk 0 = true ∧ (rich.setBit (refReg 10 0) 0 true).checkWrite .pf (refReg 10 0) 0 = none ∧ (rich.setBit (refReg 10 0) 0 true).bit (refReg 10 0) 0 = true ∧
    ((slot 10 2 0 id).setBit (refReg 10 0) 0 true).checkWrite .pf (refReg 10 0) 3 = none ∧ (slot 10 2 0 id).refState 10 ≠ 0 ∧
    (slot 10 1 0 fun r => { r with timer := some 1000 }).refState 10 = 1 ∧ (slot 10 1 0 fun r => { r with timer := some 1000 }).refs[(10 : Fin 24)].timer = some 1000 ∧
    (slot 10 1 0 id).live 10 &&& hardMask = 0 ∧ (slot 10 3 0 fun r => { r with softClear := some 0 }).refState 10 = 3 ∧
    (slot 10 3 0 fun r => { r with softClear := some 0 }).refs[(10 : Fin 24)].softClear = some 0 ∧ (slot 10 3 0 id).live 10 &&& softMask = 0 := by decide +kernel

theorem witness_ReferenceMonitors : (slot 10 2 0 fun r => { r with lastMsg := some 0 }).refState 10 ≠ 0 ∧ (slot 10 2 0 fun r => { r with lastMsg := some 0 }).actDeadline 10 ≠ none ∧
    (monitorMask (rich.plt.plot.refSource 0)).testBit 1 = true ∧ (slot 0 2 2 fun r => { r with glitchEnd := some 1000 }).refs[(0 : Fin 24)].glitchEnd = some 1000 ∧
    isClkin (rich.plt.plot.refSource 0) = true ∧ (slot 0 1 8 fun r => { r with identifying := true }).refs[(0 : Fin 24)].identifying = true ∧ (rich.refRates 0)[0]? = some 1000000 ∧
    ((1000000 : Int) - 1000999).natAbs * 1000 ≤ 1000999 ∧ ¬ ((1000000 : Int) - 1001002).natAbs * 1000 ≤ 1001002 ∧ monitorMask (rich.plt.plot.refSource 0) ≠ 0 ∧
    isPtp (rich.plt.plot.refSource 12) = true ∧ (slot 12 2 0 fun r => { r with syncs := [(1000, 0, 5)] }).refState 12 ≠ 0 ∧
    ((slot 12 2 0 fun r => { r with syncs := [(1000, 0, 5)] }).refs[(12 : Fin 24)].syncs.filter (fun (p : Nat × Nat × Int) => (1000 : Nat) ≤ p.1 + 0)).length = 1 ∧
    ((slot 12 2 0 fun r => { r with syncs := [(1000, 0, 5)] }).rd (refReg 12 0x4C)).toNat * ticksPerS ≠ 0 := by decide +kernel

theorem witness_AdvertisedQualityAndHold : (qualityOf (.wings 0x100)).1 ≠ rich.refQ 11 ∧ (qualityOf (.wings 0x7FF)).1 ≠ rich.refQ 11 ∧ (slot 11 2 0 id).refState 11 ≠ 0 ∧
    (monitorMask (rich.plt.plot.refSource 11)).testBit 10 = true ∧ (qualityOf (.wings 0x100)).1 ≤ rich.effQ 0 11 ∧ rich.effQ 0 11 < (qualityOf (.wings 0x7FF)).1 ∧
    isSyncE (rich.plt.plot.refSource 22) = true ∧ rich.tick < rich.refs[(22 : Fin 24)].lastEsmc + 5 * ticksPerS ∧
    Sparse.get (fun _ => none) (rich.modSel 0 fun x => { x with holdFrom := [(11, some 1000)] }).sels[(0 : Fin 16)].holdFrom 11 = some 1000 ∧
    1000 + ((rich.wr (selReg 0 0xC) 0).rd (selReg 0 0xC)).toNat * ticksPerMs ≤ rich.tick := by decide +kernel

/-- Loop `d` in state `st` with slot `k` selected. -/
def loop (d : Fin 16) (st : Nat) (k : Fin 24) : State := (rich.setFld (dpllReg d 8) 29 3 st).wr (selReg d 0x10) (BitVec.ofNat 32 k.val)

theorem witness_SelectorWritesAndChoice : rich.checkWrite .pf (refReg 10 0x10) 1 = none ∧ (rich.setBit (selReg 0 4) 10 true).bit (selReg 0 4) 10 = true ∧ rich.checkWrite .pf (selReg 13 0) 0x10 = none ∧
    rich.loopTb 13 = none ∧ rich.checkWrite .pf (selReg 0 4) 0x800000 = none ∧ rich.plt.plot.refSource 23 = 0 ∧ rich.checkWrite .pf (selReg 0 4) 4 = none ∧ rich.plt.plot.refSource 2 ≠ 0 ∧
    (rich.loopTb 0).isSome = true ∧ rich.timeKind 2 = false ∧ rich.checkWrite .pf (selReg 0 4) 0x400 = none ∧ rich.timeKind 8 = true ∧
    (rich.setBit (selReg 0 0x10) 29 true).switching 0 = true ∧ (rich.sels[(0 : Fin 16)]).remain.natAbs ≤ (rich.setBit (selReg 0 0x10) 29 true).pullReach 0 := by decide +kernel

theorem witness_ReferenceValuesWritten : rich.checkWrite .pf (refReg 0 0x3C) 100000000 = none ∧ (100000000 : Word).toInt.natAbs ≤ 100000000 ∧ rich.checkWrite .pf (refReg 0 0x3C) 100000001 = none ∧
    rich.checkWrite .pf (selReg 0 0xC) 0 = none ∧ rich.checkWrite .pf (refReg 0 0x14) 1000000 = none ∧ rich.nomLocked 0 = true ∧ rich.nomLocked 4 = false ∧
    rich.checkWrite .pf (refReg 4 0x14) 1000000 = none ∧ rich.checkWrite .pf (refReg 4 0x18) 0 = none ∧ rich.checkWrite .pf (refReg 0 0x18) 0 = none ∧ rich.marked 0 (refReg 4 0x14) = false ∧
    ((rich.hset 0 (refReg 4 0x14) 1000000).mark 0 (refReg 4 0x14) true).marked 0 (refReg 4 0x14) = true ∧ ((rich.hset 0 (refReg 4 0x14) 1000000).mark 0 (refReg 4 0x14) true).nomLocked 4 = false ∧
    ((rich.hset 0 (refReg 4 0x14) 1000000).mark 0 (refReg 4 0x14) true).checkWrite .pf (refReg 4 0x18) 0 = none ∧
    0 * 2 ^ 32 + ((rich.hset 0 (refReg 4 0x14) 1000000).hget 0 (refReg 4 0x14)).toNat = 1000000 := by decide +kernel

theorem witness_core_down : ({ rich with flt := { rich.flt with coresDown := [0, 1, 2, 3] } } : State).flt.coresDown.contains (Config.dpllCore 0).val = true :=
  (by decide : ∀ c : Fin 4, [0, 1, 2, 3].contains c.val = true) _

theorem witness_LoopUpdateAndLock : rich.flt.coresDown.contains (Config.dpllCore 13).val = false ∧
    ((loop 13 2 10).dpllState 13 = 2 ∧ (loop 13 2 10).selected 13 = some 10 ∧ (loop 13 2 10).loopTb 13 = none ∧ ((loop 13 2 10).modRef 10 fun r => { r with phase := some 5 }).refs[(10 : Fin 24)].phase.isSome = true ∧
    (loop 0 3 10).dpllState 0 = 3 ∧ (loop 0 3 10).selected 0 = some 10 ∧ (loop 0 3 10).loopTb 0 = some 0 ∧ (((loop 0 3 10).modRef 10 fun r => { r with phase := some 5 }).phaseVs 10 0).isSome = true ∧
    (loop 0 3 10).tbs[(0 : Fin 64)].step = none ∧ (loop 0 3 10).refs[(10 : Fin 24)].touched = false ∧ (loop 0 3 10).refs[(10 : Fin 24)].cont = true ∧
    ((loop 13 2 10).modDpll 13 fun q => { q with lockSince := some 7 }).dplls[(13 : Fin 16)].lockSince = some 7) :=
  ⟨rfl, by decide +kernel⟩

/-- An atomic module in use and a valid clock model for loop 0, in holdover. -/
def atomic (st : Nat) : State := (((slot 10 st 0 id).setFld (dpllReg 0 8) 29 3 4).setFld (dpllReg 0 8) 26 2 1).setBit (dpllReg 0 0x5C) 0 true |>.setFld 0x051000 0 2 0

theorem witness_AtomicFlywheelAndModel : (atomic 2).dpllState 0 = 4 ∧ (atomic 2).fld (dpllReg 0 8) 26 2 = 1 ∧ (atomic 2).fwUsable 0 = true ∧ (atomic 4).fwUsable 0 = false ∧
    ((atomic 2).setFld (dpllReg 0 8) 26 2 2).onFlywheel 0 = true ∧ ((atomic 4).setFld (dpllReg 0 8) 26 2 2).onFlywheel 0 = true ∧ (loop 0 3 10).dpllState 0 = 3 := by decide +kernel

/-- FREQ loop 13 steers APLL `a`. -/
def steering (a : Nat) : State := rich.setFld (dpllReg 13 0) 9 3 a

/-- A plot without APLL frequencies. -/
def unplanned : State := { rich with plt := { rich.plt with plot := { testPlot with outputs := [] } } }

/-- The host owns the parameters of loop 13. -/
def hostLoop : State := rich.setBit (dpllReg 13 0) 0 false

theorem witness_LoopSettingsAndUart : rich.checkWrite .pf (dpllReg 13 0) 0x200 = none ∧ fget (0x200 : Word) 9 3 = 1 ∧ rich.loopTb 13 = none ∧ rich.plt.plot.apllFreq 1 ≠ 0 ∧
    rich.fld (dpllReg 13 0) 9 3 = 0 ∧ rich.steeredByOther 13 1 = false ∧ rich.checkWrite .pf (dpllReg 0 0) 0x200 = none ∧ (rich.loopTb 0).isSome = true ∧
    unplanned.checkWrite .pf (dpllReg 13 0) 0x200 = none ∧ unplanned.loopTb 13 = none ∧ unplanned.plt.plot.apllFreq 1 = 0 ∧ (steering 1).steeredByOther 14 1 = true ∧
    (steering 1).checkWrite .pf (dpllReg 14 0) 0x200 = none ∧ (steering 4).fld (dpllReg 13 0) 9 3 = 4 ∧ (steering 4).checkWrite .pf (dpllReg 13 0) 0 = none ∧ rich.plt.plot.apllFreq 4 ≠ 0 ∧
    hostLoop.checkWrite .pf (dpllReg 13 4) 0x505 = none ∧ hostLoop.bit (dpllReg 13 0) 0 = false ∧ hostLoop.checkWrite .pf (dpllReg 13 4) 0x405 = none ∧ Master.pf.host = true ∧ Master.pf.isCore = false ∧
    rich.bit (dpllReg 13 0) 0 = true ∧ rich.checkWrite .pf (dpllReg 13 4) 0x505 = none ∧ rich.checkWrite .pf 0x051000 0 = none ∧ (atomic 2).checkWrite .pf 0x051000 0 = none ∧
    (∀ d : Fin 16, rich.dpllState d ≠ 4) ∧ rich.checkWrite .pf (0x051004 + 4 * 1) 1157407 = none ∧ rich.checkWrite .pf (0x051004 + 4 * 3) 1157406 = none ∧
    classFloorD (rich.fwClass true) = 1157407 ∧ rich.checkWrite .pf 0x051024 0xFF = none ∧ ({ rich with uart := { rich.uart with tx := List.replicate 64 0 } } : State).uart.tx.length = 64 ∧
    ({ rich with uart := { rich.uart with tx := List.replicate 64 0 } } : State).checkWrite .pf 0x051024 0xFF = none ∧ rich.checkRead .pf 0x051028 = none ∧ rich.uart.rx = [] ∧
    ({ rich with uart := { rich.uart with rx := List.replicate 64 0 } } : State).uart.rx.length = 64 := by decide +kernel

/-- Every time base is traceable, on a tick of a refresh. -/
def traced : State := { rich with tick := ticksPerMs, bnd := rich.bnd.map fun l => { l with why := 0 } }

theorem witness_LedgerCommands : rich.tick % ticksPerMs ≠ 0 ∧ traced.tick % ticksPerMs = 0 ∧ traced.refreshAt ≠ traced.tick ∧ (∀ n : Fin 64, traced.bnd[n].why = 0) ∧
    rich.plt.plot.tbPresent 62 = true ∧ rich.srcLive (0x0600 + 62) = false ∧ rich.plt.plot.reactFor (0x0600 + 62) = none ∧ rich.flt.reacts = [] ∧ rich.tbLoop 62 = none ∧
    (loop 0 2 10).loopTb 0 = some 0 ∧ (loop 0 2 10).selected 0 = some 10 ∧ (loop 0 2 10).dpllState 0 = 2 ∧ rich.bnd[(0 : Fin 64)].stale = false ∧
    rich.checkWrite .pf (bndReg 0 0xC) 0 = none ∧ rich.checkWrite .pf (calReg 0 0) 0x81000000 = none ∧ (recOf 0x81000000 0 0).kind = 1 ∧ (recOf 0x81000000 0 0).valid = true ∧
    rich.targetUsed 1 0 = false ∧ rich.targetUsed 0 0 = false ∧ rich.cals[(0 : Fin 32)].rise = none ∧ (∀ j : Fin 32, j ≠ 0 → (rich.recWritten j).valid = false) ∧
    rich.checkWrite .pf (calReg 31 12) 5 = none ∧ rich.checkRead .pf (bndReg 62 0x10) = none := by decide +kernel

/-- Chain 0 runs, with its record given. -/
def chainUp (f : Chain → Chain) : State := (rich.setBit 0x070000 0 true).modChain 0 f

theorem witness_GnssSettings : rich.checkWrite .pf 0x070000 3 = none ∧ rich.chainOn 0 = false ∧ rich.chainOn 1 = false ∧ fget (3 : Word) 4 1 = 0 ∧ (∀ x : Fin 2, rich.plt.plot.chain x = true) ∧
    State.reset.plt.plot.chain 0 = false ∧ (chainUp id).checkWrite .pf 0x070000 0 = none ∧ (chainUp id).chainOn 0 = true ∧ (chainUp id).chainOn 1 = false ∧
    fget ((chainUp id).rd 0x070000 &&& 0xFFFFFFFE) 24 2 = (chainUp id).fld 0x070000 24 2 ∧ fget ((chainUp id).rd 0x070000 &&& 0xFFFFFFFE) 8 9 = (chainUp id).fld 0x070000 8 9 ∧
    (chainUp id).checkWrite .pf 0x070000 ((chainUp id).rd 0x070000 &&& 0xFFFFFFFE) = none ∧ rich.checkWrite .pf 0x070000 0x13 = none ∧ (chainUp id).checkWrite .pf 0x070000 0x11 = none := by decide +kernel

/-- GNSS0_CFG as it reads, with MODE `k`. -/
def modeWord (k : Nat) : Word := fset (rich.rd (gnssReg 0 0)) 30 2 k

/-- A survey of chain 0 runs. -/
def survey : State := (rich.setFld (gnssReg 0 0) 30 2 1).setFld (gnssReg 0 4) 16 2 1

theorem witness_GnssModes : rich.checkWrite .pf (gnssReg 0 0) (modeWord 1) = none ∧ rich.checkWrite .pf (gnssReg 0 0) (modeWord 2) = none ∧ rich.gnssMode 0 = 0 ∧ rich.rd (gnssReg 0 0x4C) = 0 ∧
    (rich.wr (gnssReg 0 0x4C) 5).rd (gnssReg 0 0x4C) ≠ 0 ∧ survey.gnssMode 0 = 1 ∧ (survey.wr (gnssReg 0 0x50) 0).surveyLeft 0 = 0 ∧ survey.surveyLeft 0 ≠ 0 ∧
    rich.checkWrite .pf 0x070010 1 = none ∧ rich.checkWrite .pf (0x070010 + 4 * 7) 1 = none ∧ rich.gnss.rootNext = 0 ∧ rich.checkWrite .pf (gnssReg 0 0x94) 1 = none ∧
    rich.bit (gnssReg 0 0x90) 31 = false ∧ (rich.setBit (gnssReg 0 0x90) 31 true).bit (gnssReg 0 0x90) 31 = true ∧ (rich.setBit (gnssReg 0 0x90) 31 true).checkWrite .pf (gnssReg 0 0x94) 1 = none ∧
    (rich.modChain 1 fun c => { c with fespi := some (1000, 5) }).gnss.chains[(1 : Fin 2)].fespi = some (1000, 5) ∧ rich.checkRead .pf (gnssReg 1 0xC) = none ∧ rich.checkRead .pf 0x070044 = none ∧
    rich.svOf .pf = none := by decide +kernel

theorem witness_GnssSolutionsAndIntegrity : rich.chainOn 0 = false ∧ (chainUp id).chainOn 0 = true ∧ (chainUp id).gnssFenced = false ∧ rich.gnssSlot 0 = some 8 ∧
    (chainUp id).bit (gnssReg 0 0) (24 + 0) = true ∧ (chainUp id).gnss.chains[(0 : Fin 2)].bands[(0 : Fin 3)].jamFrom = none ∧
    (chainUp fun c => { c with bands := c.bands.set 2 { jamFrom := some 0 } }).gnss.chains[(0 : Fin 2)].bands[(2 : Fin 3)].jamFrom.isSome = true ∧
    (chainUp fun c => { c with fail := true, lowFrom := some 0 }).gnss.chains[(0 : Fin 2)].fail = true ∧ (chainUp fun c => { c with fail := true, lowFrom := some 0 }).gnss.chains[(0 : Fin 2)].lowFrom = some 0 ∧
    (rich.setFld 0x070034 16 2 2).fld 0x070034 16 2 ≠ 0 ∧ rich.leapTargets = [] := by decide +kernel

/-- Port `p` in state `st`, its link up or down, with its record given. -/
def port (p : Fin 16) (st : Nat) (link : Bool) (f : Port → Port) : State :=
  ((rich.setFld (portReg p 8) 29 3 st).setBit (portReg p 8) 28 link).modPort p f

/-- An NTP request from one client. -/
def ntpFrame : Frame := ⟨64, true, .ntp, .ip4, true, 1, 1, 0, 0, none, false, List.replicate 64 0, 0x23 :: List.replicate 47 0⟩

/-- Port 0 serves, and cluster 0 is awake. -/
def awake : State := (port 0 4 true id).setFld (clusReg 0 0) 30 2 2

theorem witness_ReceivedFrames : rich.portCarries 0 = false ∧ (port 0 4 true id).portCarries 0 = true ∧ (port 0 4 true id).complexFenced (complexOf 0) = false ∧ ntpFrame.fcsOk = true ∧
    ntpFrame.length ≤ 2048 ∧ ntpFrame.options ≤ 64 ∧ (port 0 4 true id).serving = true ∧ ((port 0 4 true id).pairSee 0 ntpFrame).1 = false ∧ (port 0 5 true id).portState 0 = 5 ∧
    ((port 0 4 true id).setBit (portReg 0 0) 11 false).bit (portReg 0 0) 11 = false ∧ (port 0 4 true id).bit (portReg 0 0) 11 = true ∧ awake.serving = true ∧
    (awake.pairSee 0 ntpFrame).1 = false ∧ awake.matchEntry 0 ntpFrame = some 0 ∧ awake.dispatchTo 1 = some 0 ∧ awake.svc.jobs = [] ∧ awake.cellsUsed (complexOf 0) + cells ntpFrame.length ≤ awake.cellsOf (complexOf 0) ∧
    (awake.admits 0 1 ntpFrame).1 = true ∧ rich.matchEntry 3 ntpFrame = none ∧ (port 0 5 true id).ports[(0 : Fin 16)].calLog.length < 64 := by decide +kernel

/-- A frame held for departure at `d`. -/
def heldAt (d : Nat) (c : Option Committed) : Held :=
  ⟨.sync 0 0 none 0 0, 7, d, d, d, d, 0, 0, 0, 0, 0, 0, 0, 0, 0, c, [], 0, none, none, 0⟩

/-- Port 0 serves and holds one frame. -/
def holding (d : Nat) (c : Option Committed) : State := port 0 4 true fun q => { q with held := [heldAt d c] }

theorem witness_ScheduledDepartures : rich.ports[(0 : Fin 16)].held.filter (fun h => rich.atCommit 0 h) = [] ∧
    (holding 2560000 none).ports[(0 : Fin 16)].held.filter (fun h => (holding 2560000 none).atCommit 0 h) = [heldAt 2560000 none] ∧
    (holding 2560000 none).releaseErr 0 (heldAt 2560000 none) ≠ none ∧ (holding 2560000 none).fld (portReg 0 0) 13 3 ≤ (heldAt 0 none).rebuilds ∧
    (holding 9000000 (some ⟨0, []⟩)).ports[(0 : Fin 16)].held = [heldAt 9000000 (some ⟨0, []⟩)] ∧ (holding 9000000 (some ⟨0, []⟩)).nowQ < 9000000 ∧
    (holding 9000000 (some ⟨0, []⟩)).mustAbort 0 (heldAt 9000000 (some ⟨0, []⟩)) ⟨0, []⟩ = true ∧
    (holding 2560000 (some ⟨0, []⟩)).ports[(0 : Fin 16)].held.filter (fun h => (holding 2560000 (some ⟨0, []⟩)).atDepart h) = [heldAt 2560000 (some ⟨0, []⟩)] ∧
    ((port 0 4 true fun q => { q with waiting := [⟨0, 0, 64, 0, 0, [], .nothing, 0, true⟩] }).ports[(0 : Fin 16)].waiting.filter
      (fun w => (port 0 4 true fun q => { q with waiting := [⟨0, 0, 64, 0, 0, [], .nothing, 0, true⟩] }).mayStart 0 w)).length = 1 := by decide +kernel

/-- A frame that is released: its values are those of the state. -/
def goodHeld : Held := { heldAt 2560000 none with value := (port 0 4 true id).projectAt 0 1000 0, seq := (port 0 4 true id).bnd[(0 : Fin 64)].raiseSeq }

theorem witness_ReleasedFrame : ((port 0 4 true fun q => { q with held := [goodHeld] }).setBit 0x0B0064 31 true).releaseErr 0 goodHeld = none := by decide +kernel

theorem witness_PortStates : rich.checkWrite .pf (portReg 0 4) 1 = none ∧ (port 0 4 true id).portState 0 = 4 ∧ (port 0 4 true id).checkWrite .pf (portReg 0 4) 1 = none ∧
    (port 0 5 true id).portState 0 = 5 ∧ (port 0 5 true id).checkWrite .pf (portReg 0 4) 2 = none ∧ (port 0 5 true fun q => { q with retrain := true }).ports[(0 : Fin 16)].retrain = true ∧
    (port 0 5 true id).portLink 0 = true ∧ rich.checkWrite .pf (portReg 2 4) 3 = none ∧ rich.portState 2 ≤ 1 ∧ (port 2 4 true id).checkWrite .pf (portReg 2 4) 3 = none ∧
    rich.plt.plot.portDormant 2 = true ∧ 2 ≤ (port 2 2 true id).portState 2 ∧ rich.plt.plot.portDormant 0 = false ∧ (port 2 1 false id).portState 2 = 1 ∧
    (port 2 1 false id).checkWrite .pf (portReg 2 4) 4 = none ∧ (port 0 2 false id).portState 0 = 2 ∧ (port 0 2 false id).portLink 0 = false ∧ rich.complexFenced (complexOf 0) = false ∧
    rich.plt.plot.portMode 0 ≠ 0 ∧ (port 0 3 true fun q => { q with timer := some 1000 }).ports[(0 : Fin 16)].timer = some 1000 ∧
    (port 0 5 true fun q => { q with testExit := some 0 }).ports[(0 : Fin 16)].testExit.map (· + ticksPerMs) = some (0 + ticksPerMs) ∧
    ((port 2 4 true id).wr (portReg 2 0x30) 1 |>.rd (portReg 2 0x30)).toNat ≠ 0 ∧ (port 2 4 true id).ports[(2 : Fin 16)].held = [] ∧ (port 2 1 false id).wakes 2 ntpFrame = true := by decide +kernel

theorem witness_DepartureLeadRange : rich.checkWrite .pf (portReg 15 0x24) 1200 = none ∧ rich.plt.plot.inLimits (portReg 15 0x24) 100000 = true ∧ rich.pair Master.pf.idx = none ∧
    rich.plt.plot.inLimits (portReg 15 0x24) 1200 = true := by decide +kernel

/-- Port 0 with a gate swap pending at `v`. -/
def swapping (v : Nat) : State := port 0 4 true fun q => { q with gcl := some ⟨[1], 5, 0, v⟩ }

theorem witness_GateLists : rich.checkWrite .pf (portReg 0 4) 5 = none ∧ (swapping 0).checkWrite .pf (portReg 0 4) 5 = none ∧ (swapping 0).ports[(0 : Fin 16)].gcl ≠ none ∧
    rich.ports[(0 : Fin 16)].gcl = none ∧ badInstant rich.tbs[rich.stampTb 0].value (rich.timeAt (portReg 0 0x50)) = false ∧ 0 < ((rich.wr (portReg 0 0x44) 1).rd (portReg 0 0x44)).toNat ∧
    badInstant rich.tbs[rich.stampTb 0].value ((rich.wr (portReg 0 0x5C) 1).timeAt (portReg 0 0x50)) = true ∧ rich.checkWrite .pf (portReg 0 4) 6 = none ∧
    0 ≤ (swapping 0).tbs[(swapping 0).stampTb 0].value ∧ (swapping 1).tbs[(swapping 1).stampTb 0].value < 1 ∧ (port 0 5 true id).checkWrite .pf (portReg 0 4) 7 = none := by decide +kernel

theorem witness_CalibrationAndPairs : (port 0 5 true fun q => { q with calRun := some (1, 1000, 0) }).ports[(0 : Fin 16)].calRun = some (1, 1000, 0) ∧
    (port 0 5 true fun q => { q with calRun := some (1, 1000, 0) }).portState 0 = 5 ∧ rich.checkRead .pf (portReg 0 0x84) = none ∧ rich.plt.plot.portPresent 0 = true ∧
    rich.checkWrite .pf (portReg 0 0x18) 1000000 = none ∧ rich.checkWrite .pf (portReg 0 0x20) 10000000 = none ∧ rich.checkWrite .pf (portReg 0 0x18) 1000001 = none ∧
    (1000000 : Word).toInt.natAbs ≤ 1000000 ∧ (port 0 5 true id).checkWrite .pf (portReg 0 0x18) 7 = none ∧
    (1 * 2 ^ 18 + 5) / 2 ^ 18 % 4 = 1 ∧ (2 * 2 ^ 18) / 2 ^ 18 % 4 = 2 ∧ Sparse.get (fun _ => none) [(2 ^ 18, some (7, 0))] (2 ^ 18) = some (7, 0) := by decide +kernel

/-- A PTP message of type `t` with the bytes `rest` behind its header. -/
def ptpFrame (t : Nat) (rest : List Byte) : Frame :=
  ⟨128, true, .ptp, .ip4, true, 1, 1, 0, 0, none, false, [], [BitVec.ofNat 8 t, 0x12, 0, BitVec.ofNat 8 (34 + rest.length)] ++ List.replicate 30 0 ++ rest⟩

/-- A frame received on port `e` for entry `e`, as a request that waits. -/
def job (e : Nat) (f : Frame) : Job := ⟨⟨e, e, 0, 1000, 0, 0, 0, 0, true, 1000, f⟩, none, false, 0, false⟩

/-- Ports 0 and 1 serve, cluster 0 is awake, entry 1 asks for no authentication and is peer-to-peer or not, and TB1 is at the second. -/
def serving (p2p : Bool) : State :=
  (((awake.setFld (portReg 1 8) 29 3 4).modEnt 1 fun e => { e with cfg := fset (fset e.cfg 30 2 0) 26 1 (b2n p2p) }).modTb 1 fun t => { t with value := secU }).modTb 0 fun t => { t with value := secU }

/-- One request waits. -/
def working (p2p : Bool) (e : Nat) (f : Frame) : State := (serving p2p).modSvc fun v => { v with jobs := [job e f] }

theorem witness_Responses : (serving false).takeJob (fun rx => rx.frame.carried = .ntp) = none ∧ ((working false 0 ntpFrame).takeJob (fun rx => rx.frame.carried = .ntp)).map Prod.fst = some (job 0 ntpFrame) ∧
    (serving false).portPartner (laneIx 0) = none ∧ ((working false 0 ntpFrame).setPcs 0 ⟨0, []⟩).canReserve (job 0 ntpFrame) (.ntp (job 0 ntpFrame).rx) = true ∧ ntpFrame.msg.length = 48 ∧
    beNat (slice ntpFrame.msg 0 1) % 8 = 3 ∧ beNat (slice ntpFrame.msg 0 1) / 8 % 8 = 4 ∧ ntpFrame.interleaved = false ∧ (serving false).takeJob (isPtpType 1) = none ∧
    ((working false 1 (ptpFrame 1 (List.replicate 10 0))).takeJob (isPtpType 1)).map Prod.fst = some (job 1 (ptpFrame 1 (List.replicate 10 0))) ∧ ((serving false).ent 1).auth = 0 ∧
    ((serving false).ent 1).p2p = false ∧ ((serving true).ent 1).p2p = true ∧ 44 ≤ (ptpFrame 1 (List.replicate 10 0)).msg.length ∧ (serving false).takeJob (isPtpType 2) = none ∧
    ((working true 1 (ptpFrame 2 (List.replicate 10 0))).takeJob (isPtpType 2)).isSome = true := by decide +kernel

/-- A request for unicast Announce messages, and the end of such a grant. -/
def askFrame : Frame := ptpFrame 12 (List.replicate 10 0 ++ [0, 4, 0, 6, 0xB0, 1, 0, 0, 1, 0])

def endFrame : Frame := ptpFrame 12 (List.replicate 10 0 ++ [0, 6, 0, 2, 0xB0, 0])

theorem witness_UnicastNegotiation : ((working false 1 askFrame).takeJob (fun rx => isPtpType 12 rx && (msgTlvs rx.frame.msg).any (fun x => x.1 = 4))).map Prod.fst = some (job 1 askFrame) ∧
    msgTlvs askFrame.msg = [(4, [0xB0, 1, 0, 0, 1, 0])] ∧ grantKind (beNat (slice [0xB0, 1, 0, 0, 1, 0] 0 1) / 16) = some 0 ∧ ((serving false).admits 1 2 askFrame).1 = true ∧
    ((serving false).ent 1).minLog 0 ≤ signed 8 1 ∧ ((working false 1 endFrame).takeJob (fun rx => isPtpType 12 rx && (msgTlvs rx.frame.msg).any (fun x => x.1 = 6))).map Prod.fst = some (job 1 endFrame) ∧
    msgTlvs endFrame.msg = [(6, [0xB0, 0])] ∧ (serving false).svc.fetching = [] ∧ ((serving false).modSvc fun v => { v with fetching := [.cookie 1] }).svc.fetching = [.cookie 1] := by decide +kernel

/-- Session slot 7 of the client of port 1. -/
def grant : Session := { entry := 1, port := 1, ip6 := false, l2 := false, auth := false, pid := 0, vlan := 0, addr := 1, annExp := 2, syncExp := 1 }

/-- The table holds it. -/
def granted : State := (serving false).modSvc fun v => { v with sess := [(7, some grant)] }

theorem witness_Messages : (serving false).mcastOk 1 1 = true ∧ (serving false).mcastOk 1 0 = false ∧ (serving false).dispatchTo 2 = some 0 ∧ (serving false).portPartner 1 = none ∧
    (dueIndex ((serving false).ent 1).logSync 0 ((serving false).tbs[(serving false).entTb 1].value) 0).2 = false ∧
    nearEnough ((serving false).tbs[(serving false).entTb 1].value) (nominalOf ((serving false).ent 1).logSync 0
      (dueIndex ((serving false).ent 1).logSync 0 ((serving false).tbs[(serving false).entTb 1].value) 0).1) = true ∧
    nearEnough (rich.tbs[rich.entTb 1].value) (nominalOf (rich.ent 1).logSync 0 (dueIndex (rich.ent 1).logSync 0 (rich.tbs[rich.entTb 1].value) 0).1) = false ∧
    granted.session 7 = some grant ∧ granted.session 8 = none ∧ granted.portCarries (laneIx grant.port) = true ∧ granted.mcastOk 1 1 = true ∧ ((serving true).ent 1).p2p = true ∧
    (serving true).mcastOk 1 1 = true ∧ granted.lapsed grant 1 = true ∧ granted.lapsed grant 0 = false := by decide +kernel

/-- A plot with an ESMC entry and a two-step PTP entry on port 1. -/
def esmc : State := { serving false with plt := { (serving false).plt with plot := { testPlot with services := [2, 0, 0, 6, 2, 0, 0, 7, 0, 0, 1, 1, 2, 0, 0, 7, 0, 0] } } }

/-- Slot 12 follows port 0, without authentication. -/
def following : State :=
  ((slot 12 2 0 id).setFld (portReg 0 8) 29 3 4).setFld (clusReg 0 0) 30 2 2 |>.modSvc fun v =>
    { v with prefs := v.prefs.set 12 { cfg := 0x0A000000, sync := some (0, 1, 0, 0), t3 := some 5 }, refRx := [(job 0 (ptpFrame 8 (List.replicate 10 0))).rx] }

theorem witness_EsmcAndReferences : 0 < esmc.plt.plot.svcCount ∧ esmc.plt.plot.svcKind 0 = 6 ∧ (esmc.plt.plot.svcPorts 0).testBit 1 = true ∧ esmc.portCarries 1 = true ∧ esmc.dispatchTo 3 = some 0 ∧
    esmc.plt.plot.twoStep 1 = true ∧ esmc.mcastOk 1 1 = true ∧ rich.svc.refRx = [] ∧ following.svc.refRx = [(job 0 (ptpFrame 8 (List.replicate 10 0))).rx] ∧ following.ptpSlots 0 = [12] ∧
    fget following.svc.prefs[(12 : Fin 24)].cfg 24 1 = 0 ∧ (following.prefOk 12 (job 0 (ptpFrame 8 (List.replicate 10 0))).rx).1 = true ∧ ptpType (ptpFrame 8 (List.replicate 10 0)).msg = 8 ∧
    following.svc.prefs[(12 : Fin 24)].sync = some (0, 1, 0, 0) ∧ following.prefLive 12 = true ∧ fget following.svc.prefs[(12 : Fin 24)].cfg 25 1 = 1 ∧ following.dispatchTo 2 = some 0 ∧
    rich.prefLive 12 = false := by decide +kernel

theorem witness_ServiceSettings : rich.checkWrite .pf 0x090084 0x91B07F00 = none ∧ rich.plt.plot.svcKind (rich.entSel 0) = 0 ∧ rich.checkWrite .pf 0x090084 0x91B04000 = none ∧
    rich.checkWrite .pf 0x090010 0x01000100 = none ∧ rich.checkWrite .pf (0x090010 + 4 * 1) 0x01000100 = none ∧ rich.checkWrite .pf 0x090018 0x01000100 = none ∧
    rich.checkWrite .pf 0x0900C4 0x15000000 = none ∧ rich.checkWrite .pf 0x0900C4 0x05000000 = none ∧ isPtp (rich.plt.plot.refSource (rich.prefSel 0)) = false ∧
    (rich.hset 0 0x0900C0 12).prefSel 0 = 12 ∧ (rich.hset 0 0x0900C0 12).checkWrite .pf 0x0900C4 0x157F0000 = none ∧ isPtp (rich.plt.plot.refSource 12) = true ∧
    rich.bit (refReg 12 0) 31 = false ∧ rich.checkRead .pf 0x090040 = none ∧ rich.checkRead .pf (clusReg 3 0x10) = none ∧ rich.governDue = true ∧
    (rich.modSvc fun v => { v with govAt := some 1000 }).governDue = false ∧ (rich.setFld (clusReg 3 0) 30 2 1).clusState 3 = 1 ∧ rich.clusState 3 = 0 := by decide +kernel

/-- Clusters 0 to 3 are awake, the last one under-used since tick 0. -/
def drowsy : State :=
  ((((rich.setFld (clusReg 0 0) 30 2 2).setFld (clusReg 1 0) 30 2 2).setFld (clusReg 2 0) 30 2 2).setFld (clusReg 3 0) 30 2 2).modSvc fun v => { v with clus := v.clus.set 3 { v.clus[3] with lowFrom := some 0 } }

theorem witness_ClusterSleep : drowsy.svc.clus[(3 : Fin 4)].lowFrom = some 0 ∧ drowsy.clusState 3 = 2 ∧ drowsy.clusIdle 3 = true := by decide +kernel

/-- A key attribute word: OPERATOR, for the PF, exportable. -/
def attrPf : Word := 0x00408001

/-- A full staging buffer of the PF. -/
def fullStage : Staging := { owner := some 0, last := 1000, attr := some attrPf, gen := some 1, vals := List.replicate 8 (some 7) }

/-- A change of the key block's record. -/
def keyed (f : Key → Key) : State := rich.modKey f

/-- Slot 0 is occupied at generation `g`. -/
def keyAt (g : Nat) : State := keyed fun k => { k with slots := k.slots.set 0 { occupied := true, attr := attrPf, gen := g } }

theorem witness_Staging : rich.checkWrite .pf 0x0A0014 attrPf = none ∧ rich.checkWrite .pf 0x0A0018 0 = none ∧ rich.checkWrite .pf 0x0A0018 1 = none ∧ rich.checkWrite .pf 0x0A003C 5 = none ∧
    rich.key.stg.owner = none ∧ (keyed fun k => { k with stg := { owner := some 23 } }).key.stg.owner = some 23 ∧
    (keyed fun k => { k with stg := { owner := some 23 } }).checkWrite .pf 0x0A003C 5 = none ∧ (keyed fun k => { k with stg := fullStage }).key.stg.owner ≠ none ∧
    fullStage.last + 100 * ticksPerMs ≤ 1000 + 100 * ticksPerMs ∧ rich.checkWrite .pf 0x0A000C 1 = none ∧ rich.otp.lifecycle = .deployed ∧
    (keyed fun k => { k with stg := fullStage }).checkWrite .pf 0x0A000C 1 = none ∧ fullStage.vals.all Option.isSome = true ∧ attrOk attrPf = true ∧ attrOk 0 = true ∧ attrLets .pf 0 = false ∧
    attrOk 0x00400000 = false ∧ attrLets .pf attrPf = true ∧ (rich.slotOf rich.keySel).gen < 1 ∧ 1 ≤ ((keyAt 1).slotOf 0).gen ∧ ((keyAt 1).slotOf 0).occupied = true ∧
    rich.checkWrite .pf 0x0A000C 2 = none ∧ rich.checkWrite .pf 0x0A000C 5 = none ∧ rich.mayCommand .pf 0 = true ∧ (keyAt 1).mayCommand .mspi 0 = false ∧
    (keyAt 1).checkWrite .mspi 0x0A000C 5 = none ∧ (rich.setBit 0x0A0004 23 true).bit 0x0A0004 23 = true ∧ rich.bit 0x0A0004 23 = false ∧ rich.srcLive 0x0800 = false ∧
    rich.plt.plot.reactFor 0x0800 = none := by decide +kernel

/-- KEY_DER names the cookie key of epoch 1, at generation `g`. -/
def cookie (g : Nat) : State := ((keyed fun k => { k with gens := [((KeyName.cookie 1).code, g)] }).setFld 0x0A0060 30 2 2).wr 0x0A0064 1

theorem witness_GenerationsAndEpochs : rich.checkWrite .pf 0x0A000C 3 = none ∧ (keyAt 0xFFFF).mayCommand .pf 0 = true ∧ ((keyAt 0xFFFF).slotOf 0).gen = 0xFFFF ∧ ((keyAt 0xFFFE).slotOf 0).gen < 0xFFFF ∧
    (keyAt 0xFFFE).key.rose.contains (.slot 0) = false ∧ rich.checkWrite .pf 0x0A000C 4 = none ∧ rich.derName.kind = 0 ∧ (cookie 5).derName.kind ≠ 0 ∧
    (cookie 5).mayCommand .pf ((cookie 5).rootOf (cookie 5).derName) = true ∧ Sparse.get (fun _ => 0) (cookie 0xFFFF).key.gens (cookie 0xFFFF).derName.code = 0xFFFF ∧
    Sparse.get (fun _ => 0) (cookie 0xFFFE).key.gens (cookie 0xFFFE).derName.code < 0xFFFF ∧ (rich.ports[(0 : Fin 16)].held.filter (fun h => rich.keyAborted h.key h.ready)) = [] ∧
    ({ keyed fun k => { k with roseAt := [(3, 10)] } with tick := 5000 } : State).keyAborted (some (3, 9)) 5001 = true ∧ rich.key.purgeBy = none ∧
    (keyed fun k => { k with purgeBy := some 9 }).key.purgeBy ≠ none ∧ rich.checkWrite .pf 0x0A0054 0xFFFFFF = none ∧ rich.checkWrite .pf (0x0A0054 + 8 * 1) 1 = none ∧ rich.svcEpoch 0 = 0 ∧
    fget (0 : Word) 0 24 ≤ rich.svcEpoch 0 ∧ rich.checkWrite .pf 0x0A0050 0 = none ∧ (rich.slotOf 0).occupied = false ∧
    (keyed fun k => { k with slots := k.slots.set 0 { occupied := true, attr := 0x00410001, gen := 1 } }).checkWrite .pf 0x0A0050 0 = none ∧ attrPurpose 0x00410001 = 1 := by decide +kernel

/-- Slot 0 may be exported under the wrap key of slot 1 into record 0 of 1. -/
def exportable : State :=
  (((keyed fun k => { k with slots := (k.slots.set 0 { occupied := true, attr := attrPf, gen := 1 }).set 1 { occupied := true, attr := 0x00608001, gen := 1 } }).wr 0x0A0078 1).wr 0x0A007C 0).setFld 0x0A0080 0 8 1

/-- A life cycle phase, with keys fused. -/
def phase (l : Lifecycle) (a b : List Byte) : State := { rich with otp := { rich.otp with lifecycle := l, opk0 := a, opk1 := b } }

/-- A fuse operation runs. -/
def burning (op : OtpOp) : State := keyed fun k => { k with otpOp := some op }

theorem witness_BlobsAndFuses : rich.checkWrite .pf 0x0A000C 6 = none ∧ (keyAt 1).checkWrite .mspi 0x0A000C 6 = none ∧ (rich.setFld 0x0A0070 0 8 1).fld 0x0A0070 0 8 ≠ 0 ∧ rich.fld 0x0A0070 0 8 = 0 ∧
    exportable.checkWrite .pf 0x0A000C 6 = none ∧ exportable.mayCommand .pf (exportable.rootOf exportable.derName) = true ∧ (exportable.rd 0x0A007C).toNat < (exportable.rd 0x0A0078).toNat ∧
    fget (exportable.slotOf 0).attr 15 1 = 1 ∧ exportable.wrapOk 1 = true ∧ (exportable.derive exportable.derName).isSome = true ∧ ¬ (rich.rd 0x0A007C).toNat < (rich.rd 0x0A0078).toNat ∧
    (keyed fun k => { k with ops := [.exporting ⟨.slot 0, 0, ⟨0, 1, 0, 1⟩, 0, false⟩ []] }).key.ops = [.exporting ⟨.slot 0, 0, ⟨0, 1, 0, 1⟩, 0, false⟩ []] ∧
    exportable.checkWrite .pf 0x0A000C 7 = none ∧ (keyed fun k => { k with ops := [.importing 0 0 0] }).key.ops = [.importing 0 0 Master.pf.idx] ∧ masterAt Master.pf.idx = .pf ∧
    (bestCopy (rich.checkCopy [] (some (.slot 0))) (rich.checkCopy [] (some (.slot 0)))).1 = none ∧ rich.checkWrite .pf 0x0A000C 8 = none ∧ rich.key.ops.contains .scanning = false ∧
    (keyed fun k => { k with ops := [.scanning] }).key.ops.contains .scanning = true := by decide +kernel

theorem witness_Fuses : rich.checkWrite .pf 0x0A0094 1 = none ∧ rich.checkWrite .pf 0x0A0094 4 = none ∧ (phase .manufacture [] []).fuseErr false = none ∧ (phase .provisioned [1] []).fuseErr true = none ∧
    rich.fuseErr false = some .lifecycle ∧ (phase .deployed [1] [2]).revokeErr false = none ∧ (phase .deployed [1] [2]).revokeErr true = none ∧ rich.revokeErr true = some .state ∧
    rich.checkWrite .pf 0x0A0090 4 = none ∧ rich.lcErr 4 = none ∧ rich.lcErr 3 = some .seq ∧ rich.key.otpOp = none ∧ (burning .advance).key.otpOp = some .advance ∧
    (burning (.rollback 127)).key.otpOp = some (.rollback 127) ∧ (burning .advance).otp.lifecycle = .deployed ∧ (phase .manufacture [] []).otp.lifecycle.code < 3 := by decide +kernel

/-- APLL `k` in lock or not. -/
def pll (k : Fin 4) (b : Bool) : State := rich.setBit (apllReg k 4) 31 b

/-- Output 0 in state `st`, with its record given. -/
def output (st : Nat) (f : OutSt → OutSt) : State := (((pll 0 true).setBit 0x0B0000 0 true).setFld (outReg 0 4) 29 3 st).modOut 0 f

theorem witness_SynthesisersAndLocks : rich.apll0Locked = false ∧ (rich.setBit 0x0B0000 0 true).apll0Locked = true ∧ rich.srcLive 0x0100 = false ∧ rich.plt.plot.tbPresent 62 = true ∧
    (pll 3 true).bit (apllReg 3 4) 31 = true ∧ (pll 3 false).bit (apllReg 3 4) 31 = false ∧ rich.outPll 7 = 3 ∧ rich.plt.plot.outMode 7 ≠ 0 ∧ (output 2 id).outState 0 ≠ 0 ∧
    rich.checkWrite .pf (apllReg 0 0) 62 = none ∧ rich.bit (apllReg 0 4) 30 = false ∧ (rich.setBit (apllReg 0 4) 30 true).bit (apllReg 0 4) 30 = true ∧
    (rich.setBit (apllReg 0 4) 30 true).checkWrite .pf (apllReg 0 0) 0 = none ∧ rich.plt.plot.apllFreq 1 ≠ 0 ∧ rich.checkWrite .pf (apllReg 0 0) 63 = none ∧ rich.plt.plot.tbPresent 63 = false ∧
    rich.fld (apllReg 0 0) 0 6 = 0 ∧ (rich.setBit (apllReg 0 4) 25 true).bit (apllReg 0 4) 25 = true ∧ rich.sysLocked = false ∧ (rich.setBit 0x0B0064 31 true).sysLocked = true ∧
    rich.srcLive 0x0C00 = false ∧ rich.plt.plot.reactFor 0x0C00 = none ∧ rich.checkWrite .pf 0x0B0060 0xA1 = none ∧ fget (0xA1 : Word) 4 4 = 10 ∧ rich.checkWrite .pf 0x0B0060 0x62 = none ∧
    rich.checkWrite .pf 0x0B0060 0x52 = none := by decide +kernel

theorem witness_AlignersAndOutputs : (((output 2 id).outSettle 0).bit (outReg 0 4) 27 = false ∧ ((output 2 id).outSettle 0).outState 0 = 2 ∧ ((output 3 id).outSettle 0).outState 0 = 3) ∧
    (output 2 fun o => { o with restartFrom := some 0 }).out.outs[(0 : Fin 12)].restartFrom = some 0 ∧ 0 + 10 * ticksPerUs ≤ 12500 ∧ rich.muted = false ∧ rich.checkWrite .pf (outReg 0 0xC) 8000 = none ∧
    (8000 : Word).toInt.natAbs ≤ 8000 ∧ rich.checkWrite .pf (outReg 0 0xC) 8001 = none ∧ rich.checkWrite .pf (outReg 0 0x14) 100 = none ∧ 1000000000 < rich.plt.plot.outFreq 0 ∧
    unplanned.plt.plot.outFreq 0 ≤ 1000000000 ∧ unplanned.checkWrite .pf (outReg 0 0x14) 100 = none ∧ (100 + 100) * unplanned.plt.plot.outFreq 0 ≤ 10 ^ 15 ∧ rich.checkWrite .pf (outReg 0 0) 1 = none ∧
    rich.bit (outReg 0 0) 0 = false ∧ ((output 2 id).setBit (outReg 0 0) 0 true).checkWrite .pf (outReg 0 0) 0 = none ∧ (((output 2 id).setBit (outReg 0 4) 27 true)).bit (outReg 0 4) 27 = true ∧
    (output 2 id).bit (outReg 0 4) 26 = false ∧ (output 2 fun o => { o with glide := some ⟨5, 7, 0, 0⟩ }).out.outs[(0 : Fin 12)].glide = some ⟨5, 7, 0, 0⟩ := by decide +kernel

/-- Cue 0 armed for instant `i`, its time base at 100, having come from 99 on its own way or by a step. -/
def cued (i plain : Nat) : State := (rich.modTb 0 fun t => { t with value := 100, prev := 99, plain := plain }).modCue 0 fun q => { q with arm := some ⟨i, 0, 0, 2, 0, 999, none⟩ }

theorem witness_Cues : rich.cueCheck .pf 0 4 1 false = none ∧ rich.pwr.por = false ∧ rich.cuePerm (.vf 3) 0 false = false ∧ (rich.wr (cueReg 0 0x2C) 1).cueCheck .pf 0 4 1 false = none ∧
    ((rich.wr (cueReg 0 0x2C) 1).rd (cueReg 0 0x2C)).toNat < 2 ∧ rich.cuePeriod 0 = 0 ∧ 2 ≤ (rich.rd (cueReg 0 0x2C)).toNat ∧ rich.out.cues[(0 : Fin 16)].arm = none ∧ rich.plt.plot.cueTb 0 % 64 = 0 ∧
    rich.timeAt (cueReg 0 0x10) ≤ rich.tbs[(0 : Fin 64)].value ∧ rich.tbs[(0 : Fin 64)].value < (rich.wr (cueReg 0 0x18) 3600).timeAt (cueReg 0 0x10) ∧
    (rich.wr (cueReg 0 0x18) 3600).timeAt (cueReg 0 0x10) ≤ rich.tbs[(0 : Fin 64)].value + horizon ∧ rich.cueCheck .pf 0 4 2 true = none ∧ (cued 100 100).out.cues[(0 : Fin 16)].arm = some ⟨100, 0, 0, 2, 0, 999, none⟩ ∧
    (cued 100 100).plt.plot.cueTb 0 % 64 = 0 ∧ (cued 100 100).tbs[(0 : Fin 64)].prev < 100 ∧ 100 ≤ (cued 100 100).tbs[(0 : Fin 64)].plain ∧ 100 ≤ (cued 100 100).tbs[(0 : Fin 64)].value ∧
    (cued 100 100).muted = false ∧ (cued 100 100).tbFenced 0 = false ∧ (cued 101 100).tbs[(0 : Fin 64)].value < 101 ∧ ¬ 100 ≤ (cued 100 99).tbs[(0 : Fin 64)].plain ∧ rich.out.cues[(0 : Fin 16)].endTick = none ∧
    (rich.modCue 15 fun q => { q with endTick := some 1000 }).out.cues[(15 : Fin 16)].endTick = some 1000 := by decide +kernel

/-- Bus 0 is a master that waits for its start, bus 1 a slave that synchronises. -/
def buses : State := (rich.btbApply 0).btbApply 1

/-- The buses long after, TB0 having just come to `v` of its own. -/
def gridAt (v : Nat) : State := { (buses.modTb 0 fun t => { t with prev := v - 1, plain := v, value := v }) with tick := 100000 }

/-- Bus `b` in state `st`, with its record given. -/
def bus (s : State) (b : Fin 4) (st : Nat) (f : Btb → Btb) : State := (s.btbEnter b st).modBtb b f

theorem witness_BusFrames : buses.btbSlave 0 = false ∧ buses.btbEdgeDue 0 = false ∧ (gridAt (2 * multiU)).btbEdgeDue 0 = true ∧ (gridAt (2 * multiU)).btb.bus[(0 : Fin 4)].edgeTick ≠ 100000 ∧
    (gridAt (2 * multiU)).btbStepped 0 = false ∧ (gridAt (2 * multiU)).btb.bus[(0 : Fin 4)].aux = [] ∧ (gridAt (2 * multiU)).btbState 0 = 1 ∧
    nsOf ((gridAt (2 * multiU)).btbGrid 0) / 125000 % 16 = 0 ∧ (gridAt (2 * multiU)).btb.bus[(0 : Fin 4)].startFrom = some 1000 ∧ 1000 + 10 * ticksPerUs ≤ 100000 ∧
    nsOf ((gridAt frameU).btbGrid 0) / 125000 % 16 = 1 ∧ (gridAt frameU).btbEdgeDue 0 = true ∧ (gridAt frameU).btbState 2 = 0 := by decide +kernel

theorem witness_BusEdges : (bus (gridAt frameU) 0 3 id).btbState 0 = 3 ∧ (bus (gridAt frameU) 0 3 id).btb.bus[(0 : Fin 4)].resync = none ∧
    (bus (gridAt frameU) 0 3 fun x => { x with resync := some 0 }).btb.bus[(0 : Fin 4)].resync = some 0 ∧ (bus (gridAt frameU) 0 3 fun x => { x with resync := some 0 }).btbEdgeDue 0 = true ∧
    (bus (gridAt (2 * multiU)) 0 3 fun x => { x with resync := some 0 }).btbState 0 = 3 ∧
    (bus (gridAt frameU) 0 3 fun x => { x with pauseNext := some (3, 5) }).btb.bus[(0 : Fin 4)].pauseNext = some (3, 5) ∧
    (((bus (gridAt frameU) 0 3 id).setBit (btbReg 0 8) 27 true).setFld (btbReg 0 0x1C) 16 16 1).btbPaused 0 = true ∧
    (((bus (gridAt frameU) 0 3 id).setBit (btbReg 0 8) 27 true).setFld (btbReg 0 0x1C) 16 16 1).fld (btbReg 0 0x1C) 16 16 - 1 = 0 ∧
    (bus (gridAt frameU) 0 3 fun x => { x with maskNext := some (5, 100000) }).btb.bus[(0 : Fin 4)].maskNext = some (5, 100000) ∧
    (bus (gridAt frameU) 0 3 fun x => { x with maskNext := some (5, 100001) }).tick < 100001 ∧ slotsOf 5 = [0, 2] ∧ (bus (gridAt frameU) 0 3 id).btb.bus[(0 : Fin 4)].mask ≠ 0 ∧
    (bus (gridAt frameU) 0 3 id).btbFenced 0 = false ∧ ((bus (gridAt frameU) 0 3 id).setBit 0x0E0028 7 true).btbFenced 0 = true ∧ (bus (gridAt frameU) 0 3 id).muted = false := by decide +kernel

theorem witness_BusSlave : buses.btbSlave 1 = true ∧ buses.btbState 1 = 2 ∧ buses.btb.bus[(1 : Fin 4)].good = none ∧
    (bus buses 1 2 fun x => { x with good := some 6 }).btb.bus[(1 : Fin 4)].good = some 6 ∧ 6 + 1 < 8 ∧ (bus buses 1 2 fun x => { x with good := some 7 }).btbState 1 = 2 ∧
    (bus buses 1 2 fun x => { x with good := some 7 }).btb.bus[(1 : Fin 4)].good = some 7 ∧ (bus buses 1 3 id).btbState 1 = 3 ∧ (bus buses 1 3 id).btbSlave 1 = true ∧ (bus buses 1 4 id).btbState 1 = 4 ∧
    (bus buses 1 4 id).btbSlave 1 = true ∧ (bus buses 1 1 id).btbState 1 < 2 ∧ (bus buses 1 3 id).btb.bus[(1 : Fin 4)].aux = [] := by decide +kernel

/-- A common start waits for bus 0. -/
def commonFor (inst : Nat) : State := { buses with btb := { buses.btb with common := some ⟨1, inst⟩ } }

/-- The instant of the common start is two multiframes, TB0 at `v`. -/
def commonAt (v : Nat) : State := (buses.modTb 0 fun t => { t with value := v }).wrAll 0x0C1010 (timeWords (2 * multiU))

theorem witness_BusCommands : buses.checkWrite .pf (btbReg 0 4) 1 = none ∧ buses.btbState 0 ≠ 3 ∧ (bus buses 0 3 id).checkWrite .pf (btbReg 0 4) 1 = none ∧ (bus buses 0 3 id).btbState 0 = 3 ∧
    buses.checkWrite .pf (btbReg 0 4) 2 = none ∧ (bus buses 1 1 id).checkWrite .pf (btbReg 1 4) 2 = none ∧ buses.checkWrite .pf (btbReg 1 4) 3 = none ∧ buses.btbState 1 ≠ 1 ∧
    (bus buses 1 1 id).btbState 1 = 1 ∧ (bus buses 1 1 id).btbSlave 1 = true ∧ buses.btbState 0 = 1 ∧ buses.btb.common = none ∧ (commonFor 5).btb.common = some ⟨1, 5⟩ ∧ (1).testBit 0 = true ∧
    (commonFor 5).checkWrite .pf (btbReg 0 4) 3 = none ∧ buses.checkWrite .pf (btbReg 0 0x10) 0x0F = none ∧ buses.checkWrite .pf (btbReg 0 0x14) 0x0F = none := by decide +kernel

theorem witness_CommonStart : buses.checkWrite .pf 0x0C1000 (BitVec.ofNat 32 (16 + 8)) = none ∧ buses.plt.plot.btbOn 3 = false ∧ buses.checkWrite .pf 0x0C1000 (BitVec.ofNat 32 (16 + 2)) = none ∧ buses.btbSlave 1 = true ∧
    buses.checkWrite .pf 0x0C1000 (BitVec.ofNat 32 (16 + 1)) = none ∧ buses.plt.plot.btbOn 0 = true ∧ (bus buses 0 3 id).btbState 0 ≠ 1 ∧ buses.checkWrite .pf 0x0C1000 16 = none ∧
    (buses.wrAll 0x0C1010 (timeWords frameU)).timeAt 0x0C1010 % multiU ≠ 0 ∧ (commonAt 0).timeAt 0x0C1010 = 2 * multiU ∧ (commonAt 0).tbs[(commonAt 0).btbTb 0].value ≤ 2 * multiU ∧
    2 * multiU ≤ (commonAt 0).tbs[(commonAt 0).btbTb 0].value + 3600 * secU ∧ 2 * multiU < (commonAt (3 * multiU)).tbs[(commonAt (3 * multiU)).btbTb 0].value ∧
    (commonAt 0).btb.common = none ∧ (commonAt 0).btbState 0 = 1 ∧ (commonFor 5).checkWrite .pf 0x0C1000 32 = none ∧ buses.checkWrite .pf 0x0C1000 32 = none ∧
    (∀ b : Fin 4, (1).testBit b.val = true → (commonFor 5).btbTb b = 0) ∧ (commonFor 5).tbs[(0 : Fin 64)].value < 5 ∧ 0 ≤ (commonFor 0).tbs[(0 : Fin 64)].value ∧ (commonFor 0).btbState 0 = 1 ∧
    buses.checkRead .pf (btbReg 0 0x40) = none ∧ buses.checkRead .pf (btbReg 0 0x100) = none := by decide +kernel

/-- A plot whose third service is the lease. -/
def leasing : State := { rich with plt := { rich.plt with plot := { testPlot with services := [3, 0, 0, 0, 1, 0, 0, 7, 0, 0, 0, 1, 2, 0, 0, 2, 0, 0, 0, 7, 4, 0, 0, 3, 0, 0] } } }

/-- A unit with PAIR_EN, in a role. -/
def pair (r : Nat) : State := (leasing.setBit 0x0D0000 0 true).setFld 0x0D0008 29 3 r

/-- Path `x` of a unit, with its record given, as WNG_STAT shows it. -/
def link (s : State) (x : Fin 2) (f : WPath → WPath) : State := (s.modPath x f).pathShow x

/-- A unit in a role whose path 0 is in mainLink mode, with its record given. -/
def mainLink (r : Nat) (f : WPath → WPath) : State := link (pair r) 0 fun p => f { p with locked := true }

/-- A unit whose path 0 is in heartbeat-only mode. -/
def beating : State := link (pair 1) 0 fun p => { p with locked := true, hb := true }

/-- The key of slot 0 is a lease key. -/
def leased (s : State) : State := s.modKey fun k => { k with slots := k.slots.set 0 { occupied := true, attr := 0x00642001, gen := 1 } }

theorem witness_PairingAndHeartbeats : leasing.checkWrite .pf 0x0D0000 1 = none ∧ leasing.role = 0 ∧ leasing.paired = false ∧ leasing.wingsSlot ≠ none ∧ leasing.leaseEntry ≠ none ∧ (pair 4).checkWrite .pf 0x0D0000 0 = none ∧
    (pair 4).role = 4 ∧ fget (0 : Word) 0 2 ≠ (pair 4).fld 0x0D0000 0 2 ∧ (pair 1).checkWrite .pf 0x0D0000 0 = none ∧ (pair 1).role = 1 ∧ (pair 1).paired = true ∧
    rich.checkWrite .pf 0x0D0000 1 = none ∧ rich.leaseEntry = none ∧
    rich.checkWrite .pf 0x0D0004 1 = none ∧ rich.leads = false ∧ ((pair 4).setBit 0x0D0008 22 true).leads = true ∧ ((pair 4).setBit 0x0D0008 22 true).bit 0x0D0008 22 = true ∧
    ((pair 4).setBit 0x0D0008 22 true).leaseKey = none ∧ (leased (pair 4)).leaseKey ≠ none ∧ (pair 4).checkWrite .pf 0x0D0004 1 = none := by decide +kernel

theorem witness_Heartbeats : rich.checkWrite .pf 0x0D0004 2 = none ∧ rich.wng.paths[(0 : Fin 2)].hb = false ∧ beating.wng.paths[(0 : Fin 2)].hb = true ∧ rich.checkWrite .pf 0x0D0004 (BitVec.ofNat 32 (2 + 1)) = none ∧
    rich.checkWrite .pf 0x0D0004 4 = none ∧ rich.srcLive 0x1200 = false ∧ rich.srcLive 0x1201 = false ∧ (rich.modFlt fun f => { f with live := [(0x1200, true)] }).srcLive 0x1200 = true ∧
    rich.wng.paths[(0 : Fin 2)].locked = false ∧ beating.wng.paths[(0 : Fin 2)].locked = true ∧ beating.paired = true ∧ beating.pathMode 0 = 2 ∧ beating.tick % ticksPerMs ≠ 0 ∧
    ({ beating with tick := ticksPerMs } : State).tick % ticksPerMs = 0 ∧ beating.wng.paths[(0 : Fin 2)].sentAt ≠ some ticksPerMs ∧
    (let l := beating.wngHeader 0 3 1 5 64 ++ hbPayload 9 1; beNat (slice l 8 4) = 9 ∧ beNat (slice l 3 1) = 5 ∧ beating.wng.paths[(0 : Fin 2)].hbNext = none ∧ l = beating.wngHeader 0 3 (1 - beating.wngUnit) 5 64 ++ hbPayload 9 (1 - beating.wngUnit)) ∧
    ([] : List Byte) ≠ beating.wngHeader 0 3 (1 - beating.wngUnit) 0 64 ++ hbPayload 0 (1 - beating.wngUnit) := by decide +kernel

/-- A frame of the partner on path 0 with its check value. -/
def partnerFrame (type alive : Nat) (payload : List Byte) : List Byte :=
  let body := (pair 1).wngHeader 0 type 1 alive payload.length ++ payload
  body ++ beBytes 4 (crc32c body)

/-- The payload of a TIME frame: role, flags, lease number, checkpoint acknowledged, frame number. -/
def timePayload (role flags lease ack tseq : Nat) : List Byte :=
  [BitVec.ofNat 8 role, BitVec.ofNat 8 flags, 0, 0, 0, 0, 0, 0] ++ beBytes 4 lease ++ beBytes 4 ack ++ beBytes 4 tseq ++ List.replicate 2108 0

/-- The payload of a chunk: checkpoint, chunk, count, data. -/
def chunkPayload (seq k n : Nat) (data : List Byte) : List Byte :=
  beBytes 4 seq ++ [0, 0] ++ beBytes 2 k ++ beBytes 2 n ++ [0, 0] ++ fitBytes 1024 data

/-- The header of an image of a checkpoint that has nothing else, up to IMAGE_CRC. -/
def smallHead : List Byte := List.replicate 12 0 ++ leBytes 4 256 ++ List.replicate 236 0

/-- That image. -/
def smallImage : List Byte := smallHead ++ leBytes 4 (crc32c (smallHead ++ List.replicate 4 0))

theorem smallHead_length : smallHead.length = 252 := by simp [smallHead, -List.reduceReplicate]

theorem smallImage_length : smallImage.length = 256 := by simp [smallImage, smallHead_length]

theorem crcStepsR_lt (p : Nat) (hp : p < 2 ^ 32) (k : Nat) : ∀ c, c < 2 ^ 32 → crcStepsR p k c < 2 ^ 32 := by
  induction k with
  | zero => intro c h; exact h
  | succ k ih =>
    intro c h
    refine ih _ ?_
    unfold crcStepR
    split
    · exact Nat.xor_lt_two_pow (by omega) hp
    · omega

theorem crc32c_lt (l : List Byte) : crc32c l < 2 ^ 32 := by
  have h : ∀ (l : List Byte) (c : Nat), c < 2 ^ 32 → l.foldl (fun c b => crcStepsR 0x82F63B78 8 (c ^^^ b.toNat)) c < 2 ^ 32 := by
    intro l
    induction l with
    | nil => intro c h; exact h
    | cons b l ih =>
      intro c h
      have hb : b.toNat < 2 ^ 32 := by omega
      exact ih _ (crcStepsR_lt _ (by decide) 8 _ (Nat.xor_lt_two_pow h hb))
  exact Nat.xor_lt_two_pow (h l _ (by decide)) (by decide)

/-- A frame of the partner passes the checks of path 0, but for its ALIVE. -/
theorem framing_partner (s : State) (type alive : Nat) (p : List Byte) (ht : type < 256) (ha : alive < 256) (hp : p.length < 65536)
    (hid : s.pairId = (pair 1).pairId) (hu : s.wngUnit = 0) :
    s.framing 0 type p.length (partnerFrame type alive p) = match s.wng.paths[(0 : Fin 2)].aliveRx with
      | none => .ok p false
      | some a => if a = alive then .stale else .ok p (decide (alive ≠ (a + 1) % 256)) := by
  have hq : (pair 1).pairId < 65536 := by decide +kernel
  have h0 : beNat (slice (partnerFrame type alive p) 0 1) = type := by
    simp [partnerFrame, State.wngHeader, slice, beNat, leNat]; omega
  have h1 : beNat (slice (partnerFrame type alive p) 1 1) = 1 := by
    simp [partnerFrame, State.wngHeader, slice, beNat, leNat]
  have h2 : beNat (slice (partnerFrame type alive p) 2 1) = 2 := by
    simp [partnerFrame, State.wngHeader, slice, beNat, leNat]
  have h3 : beNat (slice (partnerFrame type alive p) 3 1) = alive := by
    simp [partnerFrame, State.wngHeader, slice, beNat, leNat]; omega
  have h4 : beNat (slice (partnerFrame type alive p) 4 2) = p.length := by
    have : slice (partnerFrame type alive p) 4 2 = beBytes 2 p.length := by
      simp [partnerFrame, State.wngHeader, slice, beBytes, leBytes]
    rw [this, beNat_beBytes]; omega
  have h6 : beNat (slice (partnerFrame type alive p) 6 2) = s.pairId := by
    have : slice (partnerFrame type alive p) 6 2 = beBytes 2 (pair 1).pairId := by
      simp [partnerFrame, State.wngHeader, slice, beBytes, leBytes]
    rw [this, beNat_beBytes, hid]; omega
  have hl : (partnerFrame type alive p).length = 12 + p.length := by
    simp [partnerFrame, State.wngHeader]; omega
  have hb : ((pair 1).wngHeader 0 type 1 alive p.length ++ p).length = 8 + p.length := by
    simp [State.wngHeader]; omega
  have ht' : (partnerFrame type alive p).take (8 + p.length) = (pair 1).wngHeader 0 type 1 alive p.length ++ p := by
    rw [← hb]; exact List.take_left' rfl
  have hd : (partnerFrame type alive p).drop (8 + p.length) = beBytes 4 (crc32c ((pair 1).wngHeader 0 type 1 alive p.length ++ p)) := by
    rw [← hb]; exact List.drop_left' rfl
  have hp' : ((pair 1).wngHeader 0 type 1 alive p.length ++ p).drop 8 = p := by
    simp [State.wngHeader, beBytes, leBytes]
  have hc : beNat ((partnerFrame type alive p).drop (8 + p.length)) = crc32c ((pair 1).wngHeader 0 type 1 alive p.length ++ p) := by
    rw [hd, beNat_beBytes]; exact Nat.mod_eq_of_lt (crc32c_lt _)
  unfold State.framing
  simp only [h0, h1, h2, h3, h4, h6, hl, ht', hc, hu, hp']
  cases s.wng.paths[(0 : Fin 2)].aliveRx <;> simp

theorem witness_GoodFrames :
    (mainLink 1 id).framing 0 1 2128 (partnerFrame 1 7 (timePayload 1 0 0 0 5)) = .ok (timePayload 1 0 0 0 5) false ∧
    (mainLink 1 fun p => { p with aliveRx := some 7 }).framing 0 1 2128 (partnerFrame 1 7 (timePayload 1 0 0 0 5)) = .stale ∧
    (mainLink 4 fun p => { p with aliveRx := some 3 }).framing 0 1 2128 (partnerFrame 1 7 (timePayload 4 0 9 3 5)) = .ok (timePayload 4 0 9 3 5) true ∧
    (mainLink 1 id).framing 0 2 1036 (partnerFrame 2 7 (chunkPayload 6 0 1 smallImage)) = .ok (chunkPayload 6 0 1 smallImage) false := by
  have h : ∀ role flags lease ack tseq, (timePayload role flags lease ack tseq).length = 2128 := by intros; simp [timePayload, -List.reduceReplicate]
  have hc : (chunkPayload 6 0 1 smallImage).length = 1036 := by simp [chunkPayload, fitBytes, smallImage_length, -List.reduceReplicate]
  refine ⟨?_, ?_, ?_, ?_⟩
  · have hs : (mainLink 1 id).wng.paths[(0 : Fin 2)].aliveRx = none := by decide +kernel
    have e := framing_partner (mainLink 1 id) 1 7 (timePayload 1 0 0 0 5) (by decide) (by decide) (by rw [h]; decide) (by decide +kernel) (by decide +kernel)
    rw [h] at e; rw [e, hs]
  · have hs : (mainLink 1 fun p => { p with aliveRx := some 7 }).wng.paths[(0 : Fin 2)].aliveRx = some 7 := by decide +kernel
    have e := framing_partner (mainLink 1 fun p => { p with aliveRx := some 7 }) 1 7 (timePayload 1 0 0 0 5) (by decide) (by decide) (by rw [h]; decide) (by decide +kernel) (by decide +kernel)
    rw [h] at e; rw [e, hs]; simp
  · have hs : (mainLink 4 fun p => { p with aliveRx := some 3 }).wng.paths[(0 : Fin 2)].aliveRx = some 3 := by decide +kernel
    have e := framing_partner (mainLink 4 fun p => { p with aliveRx := some 3 }) 1 7 (timePayload 4 0 9 3 5) (by decide) (by decide) (by rw [h]; decide) (by decide +kernel) (by decide +kernel)
    rw [h] at e; rw [e, hs]; simp
  · have hs : (mainLink 1 id).wng.paths[(0 : Fin 2)].aliveRx = none := by decide +kernel
    have e := framing_partner (mainLink 1 id) 2 7 (chunkPayload 6 0 1 smallImage) (by decide) (by decide) (by rw [hc]; decide) (by decide +kernel) (by decide +kernel)
    rw [hc] at e; rw [e, hs]

theorem witness_TimeFrames : (mainLink 1 id).paired = true ∧ (mainLink 1 id).pathMode 0 = 1 ∧ (pair 1).pathMode 0 ≠ 1 ∧ (mainLink 1 id).framing 0 1 2128 [] = .bad ∧
    (let m := timeMsgIn (timePayload 4 0 9 3 5); m.role = 4 ∧ m.leaseNo = 9 ∧ m.tseq = 5 ∧ m.ckptAck = 3 ∧ (mainLink 4 id).leads = true ∧ ((mainLink 4 id).rd 0x0D0050).toNat < m.leaseNo.toNat ∧ m.leaseNo.toNat = (((mainLink 4 id).wr 0x0D0050 9).rd 0x0D0050).toNat) ∧
    ((mainLink 4 id).setBit 0x0D0000 1 true).wngUnit = 1 ∧ ((mainLink 4 id).modWng fun w => { w with finalOut := some (3, 900) }).wng.finalOut = some (3, 900) ∧ (mainLink 4 id).role = 4 ∧
    1000 ≤ 900 + 20 * ticksPerMs ∧ (mainLink 4 id).wng.finalOut = none ∧
    (mainLink 1 fun p => { p with arrivals := [(4, 50, 900)], departs := [(0, 40)] }).wng.paths[(0 : Fin 2)].arrivals.head? = some ((5 + 2 ^ 32 - 1) % 2 ^ 32, 50, 900) ∧
    (mainLink 1 fun p => { p with arrivals := [(4, 50, 900)], departs := [(0, 40)] }).wng.paths[(0 : Fin 2)].departs.find? (fun a => a.1 = (timeMsgIn (timePayload 1 0 0 0 5)).rxTseq) = some (0, 40) := by decide +kernel

theorem witness_TimeSend : ({ mainLink 1 id with tick := ticksPerMs } : State).pathMode 0 = 1 ∧ ({ mainLink 1 id with tick := ticksPerMs } : State).tick % ticksPerMs = 0 ∧
    (mainLink 1 id).wng.paths[(0 : Fin 2)].sentAt ≠ some ticksPerMs ∧ (mainLink 1 fun p => { p with latched := List.replicate 2064 0 }).wng.paths[(0 : Fin 2)].latched.length = 2064 := by decide +kernel

/-- A lead at a second of TB0. -/
def leadAt (v : Nat) : State := (mainLink 4 id).modTb 0 fun t => { t with prev := v - 1, value := v }

theorem witness_Checkpoints : (leadAt secU).leads = true ∧ (leadAt secU).wng.ckAt ≠ some 1000 ∧ (leadAt secU).tbs[(0 : Fin 64)].prev / (1000 * 1000000 * 2 ^ 56) < (leadAt secU).tb0 / (1000 * 1000000 * 2 ^ 56) ∧
    ((leadAt secU).rd 0x0D0060).toNat = 1000 ∧ (leadAt 5).leads = true ∧ ¬ (leadAt 5).tbs[(0 : Fin 64)].prev / (1000 * 1000000 * 2 ^ 56) < (leadAt 5).tb0 / (1000 * 1000000 * 2 ^ 56) := by decide +kernel

/-- A slot that holds the one chunk of that image. -/
def oneChunk : CkSlot := { seq := some 6, count := 1, chunks := [(0, fitBytes 1024 smallImage)] }

theorem witness_ImageCrc : imgCrcOk oneChunk.bytes = true := by
  have hh := smallHead_length
  have hs := smallImage_length
  have hb : oneChunk.bytes = smallHead ++ (leBytes 4 (crc32c (smallHead ++ List.replicate 4 0)) ++ List.replicate 768 0) := by
    simp [oneChunk, CkSlot.bytes, Sparse.get, fitBytes, hs, List.take_of_length_le, -List.reduceReplicate]
    simp [smallImage, -List.reduceReplicate]
  have hl : oneChunk.bytes.length = 1024 := by
    rw [hb]; simp only [List.length_append, List.length_replicate, hh]; rfl
  have hi : imgLen oneChunk.bytes = 256 := by decide +kernel
  have ht : oneChunk.bytes.take 0xFC = smallHead := by rw [hb]; exact List.take_left' hh
  have hc : leAt oneChunk.bytes 0xFC 4 = crc32c (smallHead ++ List.replicate 4 0) := by
    have : slice oneChunk.bytes 0xFC 4 = leBytes 4 (crc32c (smallHead ++ List.replicate 4 0)) := by
      rw [hb, slice, List.drop_left' hh]; rfl
    rw [leAt, this, leNat_leBytes]; exact Nat.mod_eq_of_lt (crc32c_lt _)
  have hd : (oneChunk.bytes.take 256).drop 0x100 = [] := List.drop_eq_nil_of_le (by rw [List.length_take]; exact Nat.min_le_left _ _)
  simp [imgCrcOk, hi, hl, ht, hc, hd]

theorem witness_Chunks : (let p := chunkPayload 6 0 1 smallImage; beNat (slice p 0 4) = 6 ∧ beNat (slice p 6 2) = 0 ∧ beNat (slice p 8 2) = 1) ∧ (mainLink 1 id).bestSlot.isSome = false ∧ (mainLink 1 id).wng.slots[(0 : Fin 2)].seq = none ∧
    oneChunk.chunks.length = oneChunk.count ∧ imgTbCrc oneChunk.bytes ≠ ({ mainLink 1 id with plt := { rich.plt with plot := { testPlot with timebases := [0] } } } : State).tbSectCrc ∧
    beNat (slice (chunkPayload 6 0 0 []) 8 2) = 0 ∧
    (let c : CkSlot := { seq := some 6, count := 2, chunks := [(0, [])] }; c.chunks.length ≠ c.count ∧ c.complete = false) ∧ ({ seq := some 6, count := 1, complete := true } : CkSlot).complete = true := by decide +kernel

/-- A lease unit in a role, with its record given. -/
def lease (r : Nat) (f : Wng → Wng) : State := (leased (pair r)).modWng f

/-- A request of a kind left at tick 900. -/
def asked (r kind : Nat) : State := lease r fun w => { w with reqs := [⟨7, kind, some 900⟩] }

/-- The first 40 bytes of a lease message of a type that answers it, and the message. -/
def leaseBody (type : Nat) : List Byte :=
  beBytes 4 0x594C5331 ++ [1, BitVec.ofNat 8 type, 0, 0, 0, 0, 0, 0] ++ beBytes 4 5 ++ beBytes 8 7 ++ beBytes 4 1000 ++ beBytes 4 250 ++ List.replicate 8 0

def leaseMsg (type : Nat) : List Byte := leaseBody type ++ beBytes 32 (Config.hmac256 0 (leaseBody type)).toNat

theorem leaseMsg_valid (s : State) (type : Nat) (ht : type < 256) (hk : s.leaseKey = some 0) (hp : s.pairId = 0) (hu : s.wngUnit = 0) : s.leaseValid type (leaseMsg type) = true := by
  have hl : (leaseBody type).length = 40 := by simp [leaseBody]
  have h4 : (leaseMsg type).take 40 = leaseBody type := List.take_left' hl
  have h5 : (leaseMsg type).drop 40 = beBytes 32 (Config.hmac256 0 (leaseBody type)).toNat := List.drop_left' hl
  have h6 : (leaseMsg type).length = 72 := by simp [leaseMsg, hl]
  have h7 : beNat (slice (leaseMsg type) 5 1) = type := by simp [leaseMsg, leaseBody, slice, beNat, leNat, beBytes, leBytes]; omega
  have h0 : beNat (slice (leaseMsg type) 0 4) = 0x594C5331 := rfl
  have h1 : beNat (slice (leaseMsg type) 4 1) = 1 := rfl
  have h2 : beNat (slice (leaseMsg type) 6 2) = 0 := rfl
  have h3 : beNat (slice (leaseMsg type) 8 1) = 0 := rfl
  simp [State.leaseValid, hk, hp, hu, h0, h1, h2, h3, h4, h5, h6, h7]

theorem witness_LeaseAnswers : (asked 4 0).leaseValid 2 (leaseMsg 2) = true ∧ (asked 1 1).leaseValid 2 (leaseMsg 2) = true ∧ (asked 2 2).leaseValid 2 (leaseMsg 2) = true ∧ (asked 6 1).leaseValid 2 (leaseMsg 2) = true ∧
    (asked 1 1).leaseValid 3 (leaseMsg 3) = true ∧ (asked 1 1).leaseValid 5 (leaseMsg 5) = true ∧ (asked 1 1).leaseValid 2 [] = false ∧
    (asked 4 0).leaseAnswered (leaseMsg 2) = some ⟨7, 0, some 900⟩ ∧ (asked 1 1).leaseAnswered (leaseMsg 3) = some ⟨7, 1, some 900⟩ ∧ (asked 2 2).leaseAnswered (leaseMsg 2) = some ⟨7, 2, some 900⟩ ∧
    (lease 1 id).leaseAnswered (leaseMsg 2) = none ∧ beNat (slice (leaseMsg 5) 16 8) = 7 := by
  have hk : ∀ r, r < 8 → ∀ kind, kind < 3 → (asked r kind).leaseKey = some 0 ∧ (asked r kind).pairId = 0 ∧ (asked r kind).wngUnit = 0 := by decide +kernel
  have hv : ∀ r kind type, r < 8 → kind < 3 → type < 256 → (asked r kind).leaseValid type (leaseMsg type) = true := fun r kind type hr hq ht =>
    leaseMsg_valid _ type ht (hk r hr kind hq).1 (hk r hr kind hq).2.1 (hk r hr kind hq).2.2
  refine ⟨hv _ _ _ (by decide) (by decide) (by decide), hv _ _ _ (by decide) (by decide) (by decide), hv _ _ _ (by decide) (by decide) (by decide), hv _ _ _ (by decide) (by decide) (by decide),
    hv _ _ _ (by decide) (by decide) (by decide), hv _ _ _ (by decide) (by decide) (by decide), by simp [State.leaseValid], ?_⟩
  decide +kernel

theorem witness_HealthAndRequests : rich.paired = false ∧ (pair 1).paired = true ∧ (((pair 1).wr 0x0D0018 0).health &&& 0 = 0) ∧ ((pair 1).health &&& 0xDFF ≠ 0xDFF) ∧ ((pair 1).rd 0x0D0018).toNat = 0xDFF ∧ (pair 2).role = 2 ∧
    (pair 3).role = 3 ∧ ((pair 2).health &&& 0xDFF ≠ 0xDFF) ∧ ((pair 3).health &&& 0xDFF ≠ 0xDFF) ∧ (pair 4).leads = true ∧
    ((pair 1).setBit 0x0D0000 2 true).preferred = true ∧ ((pair 1).setFld 0x0D0008 26 3 4).partnerRole = 4 ∧
    (lease 4 fun w => { w with renewAt := some 900 }).wng.renewAt = some 900 ∧ (lease 4 id).leads = true ∧ (lease 4 id).tick = 1000 ∧ (lease 4 id).leaseKey = some 0 ∧ (pair 4).leaseKey = none ∧
    (lease 4 id).leaseEntry ≠ none ∧ ((lease 4 id).setFld (clusReg 0 0) 30 2 2).dispatchTo 3 ≠ none ∧ (1 : Fin 16) ∉ (lease 4 id).leasePorts ∧
    ((lease 1 id).setBit 0x0D0008 23 true).eligible = true ∧ (lease 1 id).role = 1 ∧ (lease 1 fun w => { w with heardAt := some 0 }).wng.heardAt = some 0 ∧
    ({ lease 1 fun w => { w with heardAt := some 0 } with tick := 4 * ticksPerMs } : State).silent = true ∧ (lease 1 id).wng.takeAt = none ∧
    (lease 1 fun w => { w with takeAt := some 1001 }).wng.takeAt = some 1001 ∧ (lease 2 id).role = 2 ∧ (lease 1 id).preferred = false ∧
    1000 ≥ 0 + (1000 + 200) * 0 ∧ (timeMsgIn []).role = 0 ∧ (lease 1 fun w => { w with frame := some (timeMsgIn [], 0) }).wng.frame = some (timeMsgIn [], 0) := by decide +kernel

/-- A complete FINAL checkpoint in slot 0, and a partner in UNDERSTUDY. -/
def backing : State := lease 2 fun w => { w with slots := w.slots.set 0 { seq := some 6, count := 1, complete := true, image := [0, 0, 0, 0, 0, 0, 1] }, frame := some (timeMsgIn [1], 0) }

theorem witness_Handbacks : (backing.bestSlot.map (fun c => imgFinal c.image)) = some true ∧ backing.role = 2 ∧ (timeMsgIn [1]).role = 1 ∧ (asked 6 1).role = 6 ∧ (asked 6 1).leads = true ∧
    (lease 1 fun w => { w with released := some 7 }).wng.released = some 7 ∧ (asked 1 1).paired = true ∧ (lease 1 fun w => { w with takeAt := some 5 }).wng.takeAt ≠ none := by decide +kernel

/-- The lease has run out, the witness is silent and the partner is heard blind without a lease. -/
def expired (r : Nat) (flags : Nat) : State :=
  (lease r fun w => { w with expiry := some 900, frameAt := some 1000, frame := some (timeMsgIn [1, BitVec.ofNat 8 flags], 0) }).setBit 0x0D0008 24 true

theorem witness_Expiry : (expired 4 2).wng.expiry = some 900 ∧ 900 < (expired 4 2).tick ∧ (expired 4 2).role = 4 ∧ (expired 4 2).witnessBlind = true ∧ (expired 4 2).wng.frameAt = some 1000 ∧ 1000 < 1000 + 3 * ticksPerMs ∧
    (expired 4 2).wng.frame = some (timeMsgIn [1, 2], 0) ∧ (timeMsgIn [1, 2]).flags.testBit 0 = false ∧ (timeMsgIn [1, 2]).flags.testBit 1 = true ∧ (timeMsgIn [1, 0]).flags.testBit 1 = false ∧ (expired 5 2).role = 5 ∧ (expired 5 0).role = 5 ∧
    (lease 5 id).witnessBlind = false ∧ (lease 1 id).role = 1 ∧ (lease 1 id).wng.expiry = none ∧
    (lease 4 id).wng.witAt + 2 * (lease 4 id).renewMs * ticksPerMs = 500 * ticksPerMs ∧ ({ lease 4 id with tick := 500 * ticksPerMs } : State).paired = true ∧ (lease 4 id).witnessBlind = false ∧
    (lease 1 fun w => { w with heardAt := some 0 }).wng.lost = false ∧ ({ lease 1 fun w => { w with holdFrom := some 0 } with tick := 10000 * ticksPerS } : State).wng.holdFrom = some 0 ∧
    0 + ((lease 1 id).rd 0x0D0070).toNat * ticksPerS ≤ 10000 * ticksPerS ∧ (lease 1 id).loopTb 0 = some 0 ∧ (lease 1 id).plt.plot.tbPresent 0 = true ∧
    ((lease 1 id).setBit (tbReg 0 0x18) 0 false).tbHost 0 = false ∧ (lease 1 id).tbFenced 0 = false ∧ (lease 1 id).wng.finalOut = none ∧
    ((lease 4 fun w => { w with finalOut := some (3, 900) }).wr 0x0D006C 3).wng.finalOut = some (3, 900) ∧ (((lease 4 fun w => { w with finalOut := some (3, 900) }).wr 0x0D006C 3).rd 0x0D006C).toNat = 3 ∧
    ¬ 900 + 20 * ticksPerMs + 1 ≤ 900 + 20 * ticksPerMs := by decide +kernel

/-- A takeover, or a handback, at instant `i`. -/
def taking (r i : Nat) (back : Bool) (img : Option (List Byte)) (frame : Option (TimeMsg × Nat)) : State := lease r fun w => { w with takeover := some ⟨i, back, img, frame, 900⟩ }

theorem witness_TakeoverAndHandback : (lease 3 id).wng.takeover = none ∧ (taking 3 5 false none none).tb0 < 5 ∧ 0 ≤ (taking 3 0 false none none).tb0 ∧ (taking 3 0 false none none).wng.takeover = some ⟨0, false, none, none, 900⟩ ∧
    (taking 3 0 false none none).role = 3 ∧ (taking 2 0 true none none).role = 2 ∧ (taking 1 0 false none none).role ≠ 3 ∧ (taking 1 0 true none none).role ≠ 2 ∧
    (taking 3 0 false (some []) (some (timeMsgIn [], 0))).wng.takeover = some ⟨0, false, some [], some (timeMsgIn [], 0), 900⟩ ∧ (timeMsgIn []).record 0 = none ∧ rich.plt.plot.tbPresent 0 = true ∧
    900 + (rich.rd 0x063000).toNat * ticksPerMs ≥ 1000 ∧ ({ timeMsgIn [] with tbMask := 1 } : TimeMsg).record 0 = some ⟨0, 0, 0, 0⟩ := by decide +kernel

/-- What an image holds of a time base is what the open layout of the sections says; if it says `b`, the clause on that time base is met. -/
theorem witness_TakeoverSet (b : CkTb) (hb : b.present = true) (h : Config.ckptParse [] = some { CkptImage.empty with tbs := [b] }) : (imgSections []).tbAt 0 = some b := by
  simp [imgSections, h, CkptImage.tbAt, hb]

/-- A change of the fault collector. -/
def faulty (f : Flt → Flt) : State := rich.modFlt f

/-- A pair of source `x` shows a fault; shows none; shows equal levels. -/
def hit (x : Nat) : PairSample := ⟨x, true, false, 5, false⟩

def calm (x : Nat) : PairSample := ⟨x, false, true, 0, false⟩

def torn (x : Nat) : PairSample := ⟨x, true, true, 0, false⟩

/-- Clusters 1, 2 and 3 are fenced. -/
def scarce : State := ((rich.setBit 0x0E0028 1 true).setBit 0x0E0028 2 true).setBit 0x0E0028 3 true

theorem witness_FaultEvents : srcKnown 0xFFFF = false ∧ srcKnown 0x0303 = true ∧ (torn 0x0303).p = (torn 0x0303).n ∧ Sparse.get (fun _ => 0) rich.flt.eqAt 0x0303 ≠ rich.tick ∧
    flag (faulty fun f => { f with broken := [(0x0303, true)] }).flt.broken 0x0303 = true ∧ (faulty fun f => { f with live := [(0x0303, true)] }).srcLive 0x0303 = true ∧ (hit 0x0303).p = true ∧ (hit 0x0303).n = false ∧
    (calm 0x0303).p = false ∧ (calm 0x0303).n = true ∧ rich.srcLive 0x0303 = false ∧ Sparse.get (fun _ => 0) (faulty fun f => { f with eqAt := [(0x0303, 1000)] }).flt.eqAt 0x0303 = 1000 ∧ flag rich.flt.broken 0x0303 = false ∧
    (rich.wiredUnit 0x0303 5).bind rich.maskedBy = none ∧ ((faulty fun f => { f with fences := [⟨0x0100, 7, false⟩] }).wiredUnit 0x0303 5).bind (faulty fun f => { f with fences := [⟨0x0100, 7, false⟩] }).maskedBy = some 7 ∧
    32 ≤ (faulty fun f => { f with hist := List.replicate 32 (Vector.replicate 8 0) }).flt.hist.length := by decide +kernel

theorem witness_Reactions : rich.eventClass 0x0400 (defClass 0x0400) = .corrected ∧ (rich.escalate 0x0400 0).1 = none ∧ rich.eventClass 0x0100 (defClass 0x0100) = .fatal ∧ srcKnown 0x0100 = true ∧ rich.leads = false ∧
    ((rich.setFld 0x0D0008 29 3 4).setBit 0x0D0000 0 true).leads = true ∧ rich.plt.plot.tbPresent 0 = true ∧ rich.eventClass 0x0303 (defClass 0x0303) = .uc ∧ (rich.escalate 0x0303 0).1 = none ∧
    rich.recoveryHit 0x0303 (some 0x0100) = none ∧ rich.reactionOf 0x0303 = .fence ∧ rich.wiredUnit 0x0303 5 = some 0x0100 ∧ rich.fenceTooMuch 0x0100 = false ∧ scarce.fenceTooMuch 0x0100 = true ∧
    scarce.wiredUnit 0x0303 5 = some 0x0100 ∧ rich.wiredUnit 0x0500 5 = some 0x0300 ∧ rich.reactionOf 0x0500 = .fence ∧ rich.reactionOf 0x030B = .curtain ∧ srcKnown 0x030B = true ∧ rich.eventClass 0x030B (defClass 0x030B) = .uc ∧
    rich.reactionOf 0x0600 = .log ∧ rich.eventClass 0x0700 (defClass 0x0700) = .uc ∧ rich.reactionOf 0x0700 = .log ∧ rich.reactionOf 0x1203 = .log ∧ srcKnown 0x1203 = true ∧ 0x1203 / 256 = 0x12 ∧ 0x1203 % 256 / 2 = 1 ∧
    ((faulty fun f => { f with counted := [(0x0700, [(900, 3)])] }).escalate 0x0700 0).1 = some 3 ∧ (faulty fun f => { f with reacts := [⟨6, false, 0x0101, 990⟩] }).recoveryHit 0x0303 (some 0x0100) = some 6 ∧
    rich.bit 0x0E000C 27 = false ∧ (rich.setBit 0x0E000C 27 true).bit 0x0E000C 27 = true ∧ rich.eventClass 0x0401 (defClass 0x0401) = .corrected ∧ rich.escalation 0x0400 = none ∧ rich.escalation 0x0401 = none ∧ srcKnown 0x0400 = true ∧
    srcKnown 0x0401 = true ∧ rich.srcLive 0x0400 = false ∧ rich.srcLive 0x0401 = false := by decide +kernel

/-- Long after, with the collector's record given. -/
def later (f : Flt → Flt) : State := { faulty f with tick := 10000 * ticksPerMs }

/-- A curtain of source 0x0C00, latched or not. -/
def curtained (latch : Bool) : State := later fun f => { f with curtains := [⟨0x0C00, latch, false, none⟩] }

/-- Unit 0x0101 is fenced by entry 5. -/
def fencedAt (auto : Bool) : State := (later fun f => { f with fences := [⟨0x0101, 5, auto⟩] }).setFld 0x0E0008 0 16 0x0101

theorem witness_FaultCommands : (1 : Fin 4).val ∉ rich.flt.coresDown ∧ 1 ∈ (faulty fun f => { f with coresDown := [1] }).flt.coresDown ∧ rich.flt.reacts.find? (fun r => r.id = (5 : Byte).toNat) = none ∧
    (faulty fun f => { f with reacts := [⟨5, false, 0x0100, 900⟩] }).flt.reacts.find? (fun r => r.id = (5 : Byte).toNat) = some ⟨5, false, 0x0100, 900⟩ ∧ ¬ 900 + 10 * ticksPerUs < 1000 ∧ 900 + 10 * ticksPerUs < 10000 * ticksPerMs ∧
    (later fun f => { f with reacts := [⟨5, false, 0x0100, 900⟩] }).srcLive 1 = false ∧ ((rich.setBit 0x0E000C 27 true).setFld 0x0E0040 24 8 5).fld 0x0E0040 24 8 = 5 ∧
    (curtained false).flt.curtains = [⟨0x0C00, false, false, none⟩] ∧ (curtained false).quietFor [0x0C00] = true ∧ rich.flt.curtains = [] ∧ rich.flt.fences = [] ∧
    (fencedAt true).flt.fences.filter (fun f => f.auto && (fencedAt true).quietFor ((fencedAt true).unitSources f.unit)) = [⟨0x0101, 5, true⟩] ∧ (fencedAt true).unitFence 0x0101 = some ⟨0x0101, 5, true⟩ ∧
    rich.checkWrite .pf 0x0E0004 1 = none ∧ unitKnown (rich.fld 0x0E0008 0 16) = false ∧ (fencedAt false).checkWrite .pf 0x0E0004 1 = none ∧ (fencedAt false).fld 0x0E0008 0 16 = 0x0101 ∧ unitKnown 0x0101 = true ∧
    (fencedAt false).unitLive 0x0101 = false ∧ (fencedAt false).unitFence 0x0101 = some ⟨0x0101, 5, false⟩ ∧ (rich.setFld 0x0E0008 0 16 0x0101).unitFence 0x0101 = none ∧
    rich.checkWrite .pf 0x0E0004 2 = none ∧ (curtained true).flt.curtains.filter (fun c => c.latch && !c.fatal) = [⟨0x0C00, true, false, none⟩] ∧ (curtained true).checkWrite .pf 0x0E0004 2 = none ∧ (curtained true).srcLive 0x0C00 = false ∧
    (later fun f => { f with live := [(0x0C00, true)], curtains := [⟨0x0C00, true, false, none⟩] }).srcLive 0x0C00 = true ∧ rich.checkWrite .pf 0x0E0004 3 = none ∧ rich.bit 0x0E000C 27 = false ∧
    ((rich.setBit 0x0E000C 27 true).setFld 0x0E0040 24 8 5).fld 0x0E0008 0 8 ≠ 5 ∧ (rich.setBit 0x0E000C 27 true).fld 0x0E0008 0 8 = (rich.setBit 0x0E000C 27 true).fld 0x0E0040 24 8 ∧
    rich.checkRead .pf 0x0E0060 = none ∧ rich.flt.hist = [] ∧ (faulty fun f => { f with hist := [Vector.replicate 8 0] }).flt.hist = [Vector.replicate 8 0] ∧ rich.checkWrite .pf 0x0E0090 0x0400 = none ∧
    rich.otp.lifecycle ≠ .manufacture ∧ (phase .manufacture [] []).otp.lifecycle = .manufacture ∧ (phase .manufacture [] []).checkWrite .pf 0x0E0090 0x0400 = none ∧ (phase .manufacture [] []).checkWrite .pf 0x0E0090 0x10400 = none ∧
    (phase .manufacture [] []).checkWrite .pf 0x0E0090 0x20400 = none ∧ (phase .manufacture [] []).checkWrite .pf 0x0E0090 0xFFFF = none ∧ (phase .manufacture [] []).srcLive 0x0400 = false := by decide +kernel

/-- The memory is powered. -/
def lit : State := { rich with pwr := { rich.pwr with powered := [9], boot := .none } }

/-- A change of the memory block's record there. -/
def memory (f : Mem → Mem) : State := lit.modMem f

theorem witness_SramLines : 1572864 ≤ 1572864 ∧ rich.powered 9 = false ∧ lit.powered 9 = true ∧ lit.plt.plot.bankUse (bankOf 0) ≠ 7 ∧ lit.plt.plot.bankUse (bankOf 458752) = 7 ∧ (458752 : Nat) < 1572864 ∧
    lit.mem.failed = [] ∧ (7 : Nat) ∈ (memory fun m => { m with failed := [7] }).mem.failed ∧ lit.srcLive (0x0900 + bankOf 0) = false ∧ lit.eventClass (0x0900 + bankOf 0) .corrected = .corrected ∧
    lit.escalation (0x0900 + bankOf 0) = none ∧ lit.srcLive (0x0A00 + bankOf 0) = false ∧ (lit.wiredUnit (0x0A00 + bankOf 0) (BitVec.ofNat 32 (31 * 2 ^ 24 + 0))).bind lit.maskedBy = none ∧
    lit.plt.plot.bankUse 0 = 2 ∧ lit.plt.plot.bankUse 1 = 4 ∧ lit.plt.plot.bankUse 2 = 5 ∧ lit.plt.plot.bankUse 4 = 0 ∧ ownerUse (.session 3) = some 0 ∧ ownerUse (.cache 0 3) = some 2 ∧ ownerUse (.dir 0 3) = some 2 ∧
    ownerUse (.ckpt 1) = some 2 ∧ ownerUse (.firmware true) = some 4 ∧ ownerUse (.ring 1) = some 5 ∧ bankOf 65536 = 1 ∧ bankOf 131072 = 2 ∧ bankOf 262144 = 4 ∧
    (memory fun m => { m with rings := m.rings.set 1 { ready := [[1]] } }).mem.rings[(1 : Fin 3)].ready ≠ [] ∧ ([1, 2] : List Byte) ≠ [] ∧ (62 : Fin 64).val + 2 ≤ 64 ∧ (List.replicate 64 (0 : Byte)).length = 64 := by decide +kernel

/-- The memory domain may save its power, and nothing has asked it for long. -/
def sleepy : State := { lit with plt := { lit.plt with plot := { testPlot with power := List.replicate 12 2 } }, tick := 10000 * ticksPerMs }

theorem witness_Scrubber : rich.powered 9 = false ∧ lit.powered 9 = true ∧ lit.mem.failed = [] ∧ ¬ 1572864 ≤ lit.mem.scrubLine + 1024 ∧ (memory fun m => { m with scrubLine := 1571840 }).mem.scrubLine + 1024 = 1572864 ∧
    lit.plt.plot.bankUse (bankOf (lit.mem.scrubLine + (5 : Fin 1024).val)) ≠ 7 ∧ (3 : Fin 4) ≠ 0 ∧ (1 : Fin 4) ≠ 3 ∧ (lit.plt.plot.pdMode 9 = 1) ∧
    sleepy.powered 9 = true ∧ sleepy.plt.plot.pdMode 9 = 2 ∧ (∀ c : Fin 4, sleepy.clusState c.val ≠ 1 ∧ sleepy.clusState c.val ≠ 2) ∧ sleepy.mem.lastReq + sleepy.fld 0x0F0000 0 16 * ticksPerUs ≤ sleepy.tick := by decide +kernel

/-- Ring 1 has an entry ready, its record given, on a link that is up and a ring of 16 entries. -/
def ringed (f : Ring → Ring) : State :=
  ((memory fun m => { m with rings := m.rings.set 1 (f { ready := [[1, 2]] }) }).setBit 0x0F0044 31 true).wr (ringReg 3 0xC) 16

theorem witness_RingEntries : lit.mem.rings[(1 : Fin 3)].ready = [] ∧ (ringed id).mem.rings[(1 : Fin 3)].ready = [[1, 2]] ∧ (ringed id).dmaStopped 3 = false ∧ ((ringed id).setBit 0x0F0004 23 true).dmaStopped 3 = true ∧
    (ringed id).linkUp = true ∧ lit.linkUp = false ∧ (ringed id).mem.rings[(1 : Fin 3)].halted = false ∧ ((ringed id).rd (ringReg 3 0x10) - (ringed id).rd (ringReg 3 0x14)).toNat ≠ ((ringed id).rd (ringReg 3 0xC)).toNat ∧
    ((ringed id).wr (ringReg 3 0x10) 16).rd (ringReg 3 0x10) = 16 ∧ ((ringed id).setBit (ringReg 3 0) 30 true).bit (ringReg 3 0) 30 = true ∧ (ringed id).bit (ringReg 3 0) 30 = false ∧
    (ringed fun r => { r with firedAt := some 1000 }).mem.rings[(1 : Fin 3)].firedAt = some 1000 ∧ ((ringed id).setFld (ringReg 3 0) 0 16 5).fld (ringReg 3 0) 0 16 = 5 ∧ ¬ 1000 + 5 * ticksPerUs ≤ 1000 ∧
    (ringed fun r => { r with owed := true }).mem.rings[(1 : Fin 3)].owed = true ∧ (ringed fun r => { r with owed := true }).mem.rings[(1 : Fin 3)].firedAt = none ∧
    lit.checkWrite .pf (ringReg 3 0x14) 0 = none ∧ lit.checkWrite .pf (ringReg 3 0x14) 5 = none ∧ (lit.rd (ringReg 3 0xC)).toNat < (lit.rd (ringReg 3 0x10) - 5).toNat ∧
    lit.checkWrite .pf (ringReg 3 0) 0x80000000 = none ∧ (lit.setFld (ringReg 3 4) 0 12 1).fld (ringReg 3 4) 0 12 ≠ 0 ∧ lit.fld (ringReg 3 4) 0 12 = 0 ∧ lit.checkWrite .pf (ringReg 3 0) 0 = none ∧
    lit.checkWrite .pf (ringReg 4 0) 0x80000000 = none ∧ lit.ringOn 4 = false := by decide +kernel

theorem witness_DmaAndFlash : lit.srcLive 0x0B01 = false ∧ ({ lit with plt := { lit.plt with fetch := some .pcie } } : State).plt.fetch = some .pcie ∧ (ringed id).mem.rings[(1 : Fin 3)].ready ≠ [] ∧
    lit.dmaStopped 1 = false ∧ (lit.setBit 0x0F0004 21 true).dmaStopped 1 = true ∧ lit.checkWrite .pf 0x0F0204 0x1FF = none ∧ 256 < fget (0x1FF : Word) 0 9 ∧ lit.checkWrite .pf 0x0F0204 8 = none ∧ fget (8 : Word) 0 9 = 8 ∧
    fget (8 : Word) 9 4 = 0 ∧ fget (8 : Word) 22 2 = 0 ∧ fget (8 : Word) 13 2 = 0 ∧ fget (8 : Word) 16 6 = 0 ∧ lit.mem.qspi = none ∧ lit.pwr.boot ≠ .reading ∧ lit.plt.fetch = none ∧
    (memory fun m => { m with qspi := some ⟨8, 0⟩ }).mem.qspi = some ⟨8, 0⟩ ∧ fget (8 : Word) 15 1 = 0 ∧ fget (0x8008 : Word) 15 1 = 1 ∧ (memory fun m => { m with qspi := some ⟨0x8008, 0⟩ }).mem.qspi = some ⟨0x8008, 0⟩ ∧
    lit.checkWrite .pf 0x0F0210 5 = none ∧ (memory fun m => { m with fifo := List.replicate 64 0 }).mem.fifo.length = 64 ∧ lit.mem.fifo.length < 64 ∧ lit.checkRead .pf 0x0F0210 = none ∧ lit.mem.fifo = [] ∧
    (memory fun m => { m with fifo := [3, 4] }).mem.fifo = [3, 4] := by decide +kernel

theorem witness_HostSideResets : (lit.setBit (ringReg 3 0) 31 true).ringOn 3 = true ∧ ((findReg 0x0E0064).map RegDesc.readOnly) = some true ∧ (rich.hset 0 0x0E0064 5).hget 0 0x0E0064 = 5 ∧ regReset 0x0E0064 = 0 ∧ (rich.hset 4 0x0E0064 5).hget (1 + (3 : Fin 16).val) 0x0E0064 = 5 ∧
    (rich.modCue 2 fun q => { q with arm := some ⟨5, 0, 0, 2, 0, 999, none⟩ }).out.cues[(2 : Fin 16)].arm ≠ none ∧ rich.plt.plot.cueOwner 1 = 0 ∧
    (rich.modCue 1 fun q => { q with arm := some ⟨5, 0, 0, 2, 0, 999, none⟩ }).out.cues[(1 : Fin 16)].arm ≠ none := by decide +kernel

/-- The bodies of a small plot in the order of their numbers, each with its room in the image: one time base, nothing else in use. -/
def bodies : List (Nat × List Byte) :=
  [(64, [0, 0, 0, 0, 1, 0, 0, 0]), (64, [1, 1, 0, 0, 0, 0, 0, 0, 0, 1, 1, 0]), (64, [2, 4, 5] ++ List.replicate 21 7), (128, (List.replicate 16 [0, 0, 255, 0, 0, 0, 0, 0]).flatten),
   (64, [1, 0, 1, 255] ++ List.replicate 12 0), (192, (List.replicate 24 [0, 255, 1, 0, 0, 0, 0, 0]).flatten), (64, [0, 0, 0, 0]),
   (128, List.replicate 66 0 ++ leBytes 2 750 ++ leBytes 2 750 ++ [0, 0]), (64, List.replicate 16 1), (256, List.replicate 32 0 ++ (List.replicate 12 ((1 : Byte) :: List.replicate 15 0)).flatten),
   (64, List.replicate 24 255), (64, List.replicate 8 0), (0, []), (0, []), (0, [])]

/-- Where body `i` stands. -/
def bodyAt (i : Nat) : Nat := 512 + ((bodies.take i).map Prod.fst).sum

/-- The section table. -/
def sectTable : List Byte :=
  (List.range 15).flatMap fun i =>
    let b := (bodies.getD i (0, [])).2
    leBytes 2 (i + 1) ++ [1, BitVec.ofNat 8 (sectClass (i + 1))] ++ leBytes 4 (bodyAt i) ++ leBytes 4 b.length ++ leBytes 4 (crc32c b)

/-- The header before its CRC. -/
def imgHead : List Byte :=
  leBytes 4 0x544C5059 ++ leBytes 2 3 ++ leBytes 2 0x80 ++ leBytes 4 (bodyAt 15 + 96) ++ leBytes 4 0x9640 ++ [0, 0, 15, 0] ++ leBytes 4 9 ++ [0, 0, 0, 0] ++
    leBytes 4 128 ++ leBytes 4 372 ++ leBytes 4 (bodyAt 15) ++ List.replicate 84 0

/-- An image of that plot, for key slot 0, with a signature of zeros. -/
def goodImage : List Byte :=
  imgHead ++ leBytes 4 (crc32c imgHead) ++ sectTable ++ leBytes 4 (crc32c sectTable) ++ List.replicate 140 0 ++ (bodies.map fun b => fitBytes b.1 b.2).flatten ++ List.replicate 96 0

/-- A unit whose first key hash is fused, that verifies the image. -/
def keyedUnit : State := (({ phase .deployed [1] [] with plt := { rich.plt with staging := goodImage, active := goodImage } } : State)).setFld 0x010008 0 3 2

theorem goodImage_one : verify1 goodImage = none := by decide +kernel

theorem goodImage_three : verify3 goodImage = none := by decide +kernel

theorem goodImage_four : verify4 goodImage = none := by
  have hh : (imgHead ++ leBytes 4 (crc32c imgHead)).length = 128 := by decide +kernel
  have ht : sectTable.length = 240 := by decide +kernel
  have hg : goodImage = (imgHead ++ leBytes 4 (crc32c imgHead)) ++ (sectTable ++ (leBytes 4 (crc32c sectTable) ++
      (List.replicate 140 0 ++ (bodies.map fun b => fitBytes b.1 b.2).flatten ++ List.replicate 96 0))) := by
    simp only [goodImage, List.append_assoc]
  have hs : slice goodImage 128 (16 * 15) = sectTable := by
    rw [slice, hg, List.drop_left' hh]; exact List.take_left' ht
  have hc : leAt goodImage (128 + 16 * 15) 4 = crc32c sectTable := by
    have : slice goodImage (128 + 16 * 15) 4 = leBytes 4 (crc32c sectTable) := by
      rw [slice, ← List.drop_drop, hg, List.drop_left' hh, List.drop_left' ht]; rfl
    rw [leAt, this, leNat_leBytes]; exact Nat.mod_eq_of_lt (crc32c_lt _)
  have hn : imgCount goodImage = 15 := by decide +kernel
  have hi : imgTable goodImage = 128 := by decide +kernel
  unfold verify4
  simp only [hn, hi, hs, hc]
  rw [if_neg (by simp)]
  decide +kernel

theorem goodImage_bodies : verify5 goodImage = none := by decide +kernel

/-- What the hash, the signature and the vendor's ACCESS rows answer is open; where they answer what this image needs, it passes every check. -/
theorem witness_GoodImage (hs : Config.sha384 = fun _ => [1]) (he : Config.ecdsaP384 = fun _ _ _ => true) (hv : Config.vendorRow = fun _ => 0) :
    keyedUnit.verifyImage goodImage = none := by
  have h8 : verify8 keyedUnit.otp (keyedUnit.fld 0x010048 0 7) goodImage = none := by
    unfold verify8; rw [hs, he]; decide +kernel
  have h9 : verify9 keyedUnit goodImage = none := by
    unfold verify9 plotSpots; rw [hv]; decide +kernel
  simp [State.verifyImage, goodImage_one, goodImage_three, goodImage_four, goodImage_bodies, h8, h9]

/-- The phase of a start decides nothing about an image. -/
theorem verifyImage_boot (s : State) (p : Pwr) (l : List Byte) : ({ s with pwr := p } : State).verifyImage l = s.verifyImage l := by
  have hw : ∀ x syn, ({ s with pwr := p } : State).wiredUnit x syn = s.wiredUnit x syn := fun _ _ => rfl
  have hf : ({ s with pwr := p } : State).fld 0x010048 0 7 = s.fld 0x010048 0 7 := rfl
  simp only [State.verifyImage, verify9, plotSpots, conFault, entryWired, hw, hf]

theorem witness_StageOfGoodImage : keyedUnit.stage = 2 ∧ ({ keyedUnit with pwr := { keyedUnit.pwr with boot := .reverifying } } : State).pwr.boot = .reverifying ∧ keyedUnit.pwr.boot = .reading ∧ keyedUnit.pwr.por = false := by decide +kernel

/-- STAGE_STATE is `n`, no start runs. -/
def staging (n : Nat) : State := lit.setFld 0x010008 0 3 n

/-- A re-plot waits for instant `i`. -/
def replotting (i : Nat) : State := { staging 3 with plt := { lit.plt with replotAt := some i } }

/-- A staged image that agrees with the plot in force, and the words of an arming's instant from the PF. -/
def armed (i : Nat) : State := { ((staging 3).setBit 0x010008 6 true).hsetAll 0 0x010030 (timeWords i) with
  marks := (List.range 4).map fun k => (mkey 0 (0x010030 + 4 * k), true) }

theorem witness_PlotLoading : rich.checkWrite .pf 0x010000 1 = none ∧ rich.pwr.boot ≠ .none ∧ lit.checkWrite .pf 0x010000 1 = none ∧ lit.plt.replotAt = none ∧ lit.stage = 0 ∧ lit.pwr.boot = .none ∧ lit.rd 0x010020 = 0 ∧
    lit.fld 0x010018 0 6 = 0 ∧ (lit.wr 0x010020 64).rd 0x010020 ≠ 0 ∧ (lit.setFld 0x010018 0 6 4).fld 0x010018 0 6 ≠ 0 ∧ (lit.wr 0x010020 64).checkWrite .pf 0x010000 1 = none ∧
    lit.checkWrite .pf 0x010000 2 = none ∧ lit.mem.qspi = none ∧ (lit.rd 0x010024).toNat % 64 = 0 ∧ (lit.wr 0x010024 4).rd 0x010024 = 4 ∧ (memory fun m => { m with qspi := some ⟨8, 0⟩ }).checkWrite .pf 0x010000 2 = none ∧
    lit.checkWrite .pf 0x010000 3 = none ∧ (staging 1).stage = 1 ∧ (staging 2).stage = 2 ∧ (staging 1).checkWrite .pf 0x010000 3 = none ∧ (staging 3).checkWrite .pf 0x010000 4 = none ∧ (staging 3).stage = 3 ∧
    lit.checkWrite .pf 0x010000 4 = none ∧ lit.checkWrite .pf 0x010000 5 = none ∧ lit.otp.lifecycle = .deployed ∧ lit.activeValid = false ∧ (lit.setBit 0x010008 3 true).activeValid = true ∧ lit.key.otpOp = none ∧
    (phase .manufacture [] []).checkWrite .pf 0x010000 5 = none ∧ (burning .advance).key.otpOp ≠ none ∧ lit.plt.fetch = none ∧ ({ lit with plt := { lit.plt with fetch := some .pcie } } : State).dmaStopped 0 = false ∧
    ({ lit.setBit 0x0F0004 20 true with plt := { lit.plt with fetch := some .pcie } } : State).dmaStopped 0 = true ∧ ((staging 2).verifyImage (staging 2).plt.staging).isSome = true ∧
    lit.checkWrite .pf 0x010004 2 = none ∧ (replotting 5).plt.replotAt ≠ none ∧ (replotting 5).checkWrite .pf 0x010004 2 = none ∧ lit.bit 0x010008 6 = false ∧ (armed 500).stage = 3 ∧ (armed 500).bit 0x010008 6 = true ∧
    (∀ i : Fin 4, (armed 500).marked 0 (0x010030 + 4 * i.val) = true) ∧ ((staging 3).setBit 0x010008 6 true).marked 0 0x010030 = false ∧ (armed 500).checkWrite .pf 0x010004 2 = none ∧
    (armed (5 * secU)).htimeAt 0 0x010030 = 5 * secU ∧ (armed 500).tbs[(0 : Fin 64)].value ≤ 5 * secU ∧ 5 * secU ≤ (armed 500).tbs[(0 : Fin 64)].value + 3600 * secU ∧
    ¬ (armed (4000 * secU)).htimeAt 0 0x010030 ≤ (armed 500).tbs[(0 : Fin 64)].value + 3600 * secU := by decide +kernel

/-- A full apply runs. -/
def applying (b : Boot) : State := { rich with plt := { rich.plt with applying := true }, pwr := { rich.pwr with boot := b } }

/-- Obligations.StoppedFetchReturnsToIdle: ABORT while a fetch runs, while a verification runs and while none does, and a fetch that runs or does not. -/
theorem witness_StoppedFetchReturnsToIdle : (staging 1).checkWrite .pf 0x010000 3 = none ∧ (staging 1).stage = 1 ∧ (staging 2).checkWrite .pf 0x010000 3 = none ∧ (staging 2).stage = 2 ∧ (staging 3).checkWrite .pf 0x010000 3 = none ∧ (staging 3).stage = 3 ∧
    lit.plt.fetch = none ∧ ({ staging 1 with plt := { lit.plt with fetch := some .pcie } } : State).plt.fetch ≠ none := by decide +kernel

theorem witness_PlotApplied : lit.checkWrite .pf 0x010004 1 = none ∧ (staging 3).checkWrite .pf 0x010004 1 = none ∧ (staging 3).stage = 3 ∧ (staging 3).pd1 = true ∧ ({ staging 3 with pd1 := false } : State).pd1 = false ∧
    (replotting 5).checkWrite .pf 0x010004 1 = none ∧ keptTb rich.plt.plot (imgPlot []) 0 = true ∧ keptTb rich.plt.plot testPlot 3 = true ∧ keptTb (imgPlot []) testPlot 3 = false ∧ testPlot.tbPresent 3 = true ∧
    ({ staging 3 with glb := { rich.glb with commitAt := some 5 } } : State).glb.commitAt ≠ none ∧ (applying .none).pwr.boot = .none ∧ (applying .applying).pwr.boot ≠ .none ∧ (applying .none).plt.applying = true ∧
    (applying .none).pd1 = true ∧ rich.plt.applying = false ∧ (replotting 5).plt.replotAt = some 5 ∧ max (replotting (5 * secU)).tb0 (replotting (5 * secU)).tb0Next < 5 * secU ∧
    0 ≤ max (replotting 0).tb0 (replotting 0).tb0Next ∧ (replotting 0).replotBar (imgPlot (replotting 0).plt.staging) = none ∧
    (({ replotting 0 with plt := { rich.plt with replotAt := some 0, plot := { testPlot with banksFixed := [3] } } } : State).setBit 0x0E0028 6 true).replotBar (imgPlot []) = some 0xB ∧
    lit.pwr.boot ≠ .reading ∧ rich.pwr.boot = .reading ∧ rich.pwr.por = false ∧ (rich.verifyImage []).isSome = true ∧ lit.pwr.boot ≠ .reverifying ∧ ((applying .reverifying).verifyImage (applying .reverifying).plt.active).isSome = true := by decide +kernel

/-- A unit before its first tick. -/
def dormant : State := { State.reset with pwr := { State.reset.pwr with rst := [(.warm, 5)] } }

/-- The local oscillator runs. -/
def clocked : State := State.reset.setBit 0x100004 31 true

theorem witness_StartAndReset : rich.key.otpOp = none ∧ (burning .advance).key.otpOp = some .advance ∧ rich.pwr.por = false ∧ ({ rich with pwr := { rich.pwr with por := true } } : State).pwr.por = true ∧
    1000 ≤ (1000 : Fin 100000000).val ∧ (999 : Fin 100000000).val < 1000 ∧ (staging 3).stage = 3 ∧ heldInPd0 0x0E0010 = true ∧ heldInPd0 0x030000 = false ∧
    lit.checkWrite .pf 0x100010 1 = none ∧ lit.checkWrite .pf 0x100010 2 = none ∧ lit.checkWrite .pf 0x100010 3 = none ∧ lit.stage ≠ 4 ∧ (staging 4).stage = 4 ∧ (staging 4).checkWrite .pf 0x100010 1 = none ∧
    lit.bit 0x0E000C 31 = false ∧ (lit.setBit 0x0E000C 31 true).bit 0x0E000C 31 = true ∧ (lit.setBit 0x0E000C 31 true).checkWrite .pf 0x100010 2 = none ∧
    dormant.pd1 = false ∧ dormant.pwr.por = false ∧ dormant.pwr.rst = [(.warm, 5)] ∧ State.reset.bit 0x100004 31 = false ∧ clocked.bit 0x100004 31 = true ∧ clocked.apll0Locked = false ∧
    ((clocked.setBit 0x0B0000 0 true).apll0Locked = true) ∧ clocked.srcLive 0x0100 = false ∧ clocked.pd1 = false ∧ clocked.plt.applying = false ∧ ({ clocked with plt := { clocked.plt with applying := true } } : State).plt.applying = true ∧
    ({ clocked with pd1 := true } : State).pd1 = true ∧ rich.pwr.wanted = [] ∧ ({ rich with pwr := { rich.pwr with wanted := [3, 5] } } : State).pwr.wanted = [3, 5] ∧ State.reset.pd1 = false ∧ rich.pd1 = true ∧
    rich.srcLive 0x0300 = false ∧ (faulty fun f => { f with live := [(0x0302, true)] }).srcLive 0x0302 = true ∧ (rich.wiredUnit 0x0300 0).bind rich.maskedBy = none ∧ (rich.wiredUnit 0x0309 0).bind rich.maskedBy = none ∧
    115 ≤ ([120].foldl max 20 : Int) ∧ ([96].foldl max 20 : Int) < 97 ∧ 100 ≤ ([101].foldl max 20 : Int) ∧ rich.srcLive 0x0201 = false := by decide +kernel

/-- Whether a pulse of RESET_N that is too short is taken is open: of each number, one of the two clauses is met. -/
theorem witness_ShortPulse (n : Nat) : Config.freeValue 1 n = 1 ∨ ¬ Config.freeValue 1 n = 1 := Classical.em _

/-! ### Ill-formed operands are refused, one for each check -/

/-- A frame of `n` bytes of head. -/
def headed (n : Nat) : Frame := ⟨128, true, .other, .l2, true, 0, 0, 0, 0, none, false, List.replicate n 0, []⟩

/-- A satellite of system `sys` and PRN `prn`, its bands and elevation. -/
def sat (sys prn bands elev : Nat) : Sat := ⟨sys, prn, true, 0, 0, 0, 0, bands, elev, 400, false, 0, false, false⟩

/-- A solution with these satellites. -/
def solved (l : List Sat) : Fix := ⟨0, 0, 0, l, false, 0, [], false, 0⟩

theorem test_wf_decodeMiss : Instr.wf (.decodeMissAccess .pf 0x000000 true 0) = false ∧ Instr.wf (.decodeMissAccess .pf 0x120000 true 0) = true := by decide

theorem test_wf_satellites : Instr.wf (.gnssSolution 0 (solved [sat 4 1 1 10])) = false ∧ Instr.wf (.gnssSolution 0 (solved [sat 0 0 1 10])) = false ∧ Instr.wf (.gnssSolution 0 (solved [sat 0 64 1 10])) = false ∧
    Instr.wf (.gnssSolution 0 (solved [sat 0 1 8 10])) = false ∧ Instr.wf (.gnssSolution 0 (solved [sat 0 1 1 91])) = false ∧ Instr.wf (.gnssSolution 0 (solved [sat 3 63 7 90])) = true := by decide

theorem test_wf_jam : Instr.wf (.gnssJamMeasure 0 0 0 1001) = false ∧ Instr.wf (.gnssJamMeasure 0 0 0 1000) = true := by decide

theorem test_wf_leapAccept : Instr.wf (.gnssLeapAccept 0 5 3 true 37) = false ∧ Instr.wf (.gnssLeapAccept 3 5 3 true 37) = false ∧ Instr.wf (.gnssLeapAccept 1 (2 ^ 48) 3 true 37) = false ∧
    Instr.wf (.gnssLeapAccept 1 5 256 true 37) = false ∧ Instr.wf (.gnssLeapAccept 1 5 3 true 256) = false ∧ Instr.wf (.gnssLeapAccept 2 5 3 true 37) = true := by decide

theorem test_wf_frames : Instr.wf (.frameReceive 0 0 (headed 65)) = false ∧ Instr.wf (.frameReceive 0 0 (headed 64)) = true ∧ Instr.wf (.wakePatternMatch 0 (headed 65)) = false ∧ Instr.wf (.wakePatternMatch 0 (headed 64)) = true := by decide

theorem test_wf_pause : Instr.wf (.pauseFrameReceive 0 none 65536) = false ∧ Instr.wf (.pauseFrameReceive 0 none 65535) = true := by decide

theorem test_wf_sessions : Instr.wf (.grantLapse 1048576) = false ∧ Instr.wf (.grantLapse 1048575) = true ∧ Instr.wf (.unicastMessageSend 1048576 false ⟨0, []⟩ 0) = false ∧ Instr.wf (.unicastMessageSend 0 false ⟨0, []⟩ 0) = true := by decide

theorem test_wf_entries : Instr.wf (.multicastMessageSend 256 0 false ⟨0, []⟩ 0) = false ∧ Instr.wf (.multicastMessageSend 255 0 false ⟨0, []⟩ 0) = true ∧ Instr.wf (.pdelayReqSend 256 0 0) = false ∧
    Instr.wf (.pdelayReqSend 255 0 0) = true ∧ Instr.wf (.esmcPduSend 256 0 0) = false ∧ Instr.wf (.esmcPduSend 255 0 0) = true := by decide

theorem test_wf_sources : Instr.wf (.faultEvent [⟨65536, true, false, 0, false⟩]) = false ∧ Instr.wf (.faultEvent [⟨0x0303, true, false, 0, false⟩]) = true ∧ Instr.wf (.sourceLiveBitClear 65536) = false ∧ Instr.wf (.sourceLiveBitClear 0x0303) = true := by decide

theorem test_wf_lines : Instr.wf (.sramRead 0 1572864 0 .none) = false ∧ Instr.wf (.sramRead 0 1572863 0 .none) = true ∧ Instr.wf (.sramWrite 0 1572864 0 [1] 0 .none) = false ∧
    Instr.wf (.sramWrite 0 0 63 [1, 2] 0 .none) = false ∧ Instr.wf (.sramWrite 0 0 0 [] 0 .none) = false ∧ Instr.wf (.sramWrite 0 0 62 [1, 2] 0 .none) = true := by decide

theorem test_wf_scrub : Instr.wf (.scrubBurst (List.replicate 1025 (0, 1, .none))) = false ∧ Instr.wf (.scrubBurst [(0, 1, .none)]) = true := by decide +kernel

theorem test_wf_flash : Instr.wf (.qspiTransferDone (List.replicate 257 0)) = false ∧ Instr.wf (.qspiTransferDone [1]) = true := by decide +kernel

theorem test_wf_empty : Instr.wf (.mspiPing []) = false ∧ Instr.wf (.mspiPing [5]) = true ∧ Instr.wf (.thermalSensorRead []) = false ∧ Instr.wf (.thermalSensorRead [20]) = true := by decide

/-! ### Single steps and small functions; the expected results are the spec's, or the published check values of the codes -/

theorem test_idle : step rich = .next rich := rfl

theorem test_front_goes : (match step { rich with pending := [.snapshotLatch, .tick] } with | .next t => t.pending | _ => []) = [.tick] := by decide +kernel

/-- The check value of CRC-32C over the digits 1 to 9. -/
theorem test_crc32c : crc32c [0x31, 0x32, 0x33, 0x34, 0x35, 0x36, 0x37, 0x38, 0x39] = 0xE3069283 := by decide +kernel

/-- The check value of CRC-8 with polynomial 0x07 over the digits 1 to 9. -/
theorem test_crc8 : crc8 [0x31, 0x32, 0x33, 0x34, 0x35, 0x36, 0x37, 0x38, 0x39] = 0xF4 := by decide +kernel

/-- R244: PORTn_DEP_LEAD takes 1,200 ns and not 1,199 ns. -/
theorem test_depLead : (after (.registerWrite .pf 0x080024 1200) rich).rd 0x080024 = 1200 ∧ ((after (.registerWrite .pf 0x080024 1199) rich).err 0).code = Err.range.code := by decide +kernel

/-- R455: the complement aperture of a DNG register and of any other. -/
theorem test_complement : (after (.dngComplementRead .pf 0x100010) (rich.wr 0x100010 5)).answerOf 0 = ~~~5 ∧ (after (.dngComplementRead .pf 0x000008) rich).answerOf 0 = 0 := by decide +kernel

/-- A register pair takes effect with its complement and not with another word. -/
theorem test_dng : (after (.dngComplement .pf 0x100010 (~~~3)) (after (.dngFirstHalf .pf 0x100010 3) lit)).pwr.rst = [(.cold, 1000 + 10 * ticksPerUs)] ∧
    (after (.dngComplement .pf 0x100010 0) (after (.dngFirstHalf .pf 0x100010 3) lit)).pwr.rst = [] := by decide +kernel

/-- R451: an event register clears when the write holds the register's SEQ. -/
theorem test_rsq : (after (.rsqClearWrite .pf 0x00000C 0x01FFFFFF) (rich.raise 0x00000C 6)).rd 0x00000C = 0x01000000 ∧ (after (.rsqClearWrite .pf 0x00000C 0x02FFFFFF) (rich.raise 0x00000C 6)).rd 0x00000C = 0x01000006 := by decide +kernel

/-- R377: a heartbeat's payload is 64 bytes, its count first, then the unit. -/
theorem test_heartbeat : (hbPayload 0x01020304 1).take 9 = [1, 2, 3, 4, 1, 0, 0, 0, 0xA5] ∧ (hbPayload 0 0).length = 64 := by decide +kernel

/-- Table 13.2: the slots of a mask in rising order. -/
theorem test_slots : slotsOf 0x80000005 = [0, 2, 31] := by decide +kernel

end Sys2Proof.Tests
end

section
/-! PROOF. A fetch that fails or that ABORT stops (spec/02_stage_plot.md, R58). Laws about frames and rejected writes come first, then what `State.fetchFail` leaves behind, then the statement. -/
namespace Sys2Proof.Machine

/-! ### Frames and rejected writes -/

theorem State.keepsBut_refl (l : List Part) (s : State) : s.keepsBut l s := fun part _ => by cases part <;> rfl

/-- A state that differs in its registers and the loader's record alone. -/
theorem State.keepsBut_regs_plt (s : State) (r : Sparse Word) (p : Plt) : s.keepsBut [.regs, .plt] { s with regs := r, plt := p } := by
  intro part hpart
  cases part
  case regs | plt => simp at hpart
  all_goals rfl

/-- A state that differs in its registers and the error records alone. -/
theorem State.keepsBut_regs_errs (s : State) (r : Sparse Word) (x : Sparse ErrRec) :
    s.keepsBut [.regs, .errs] { s with regs := r, glb := { s.glb with errs := x } } := by
  intro part hpart
  cases part
  case regs | errs => simp at hpart
  all_goals rfl

/-- No write passes the common checks while POR holds the device. -/
theorem State.por_eq_false_of_checkWrite {s : State} {m : Master} {o : Nat} {v : Word} (h : s.checkWrite m o v = none) : s.pwr.por = false := by
  cases hp : s.pwr.por with
  | false => rfl
  | true => simp [State.checkWrite, hp] at h

/-- A unit's LAST_ERR takes the code, every other register stays. -/
theorem State.rd_setLastErr (s : State) (o : Nat) (e : Err) (i : Nat) :
    (s.setLastErr o e).rd i = match lastErrAt o with
      | some (r, lo) => if i = r then fset (s.rd r) lo 8 e.code else s.rd i
      | none => s.rd i := by
  obtain ⟨r, hset, hr⟩ := s.setLastErr_eq o e
  rw [hset]
  exact hr i

@[simp] theorem State.err_setLastErr (s : State) (o : Nat) (e : Err) (j : Nat) : (s.setLastErr o e).err j = s.err j := by
  obtain ⟨r, hset, _⟩ := s.setLastErr_eq o e
  rw [hset]
  rfl

theorem State.reject_eq_of_por {s : State} (m : Master) (o : Nat) (e : Err) (hp : s.pwr.por = false) :
    s.reject m o e = (s.recordErr m.idx e false true o).setLastErr o e := by
  simp [State.reject, hp]

/-- A rejected write touches the registers and the error records alone (R450). -/
theorem State.keepsBut_reject (s : State) (m : Master) (o : Nat) (e : Err) : s.keepsBut [.regs, .errs] (s.reject m o e) := by
  unfold State.reject
  split
  · exact s.keepsBut_refl _
  · obtain ⟨r, hset, _⟩ := (s.recordErr m.idx e false true o).setLastErr_eq o e
    rw [hset]
    exact s.keepsBut_regs_errs r _

/-- Outside POR a rejection is what R450 and R458 say: the master's error record, the unit's LAST_ERR, nothing else. -/
theorem State.refuses_reject {s : State} (m : Master) (o : Nat) (e : Err) (hp : s.pwr.por = false) : s.refuses (s.reject m o e) m e o := by
  have hrd := fun i => State.rd_setLastErr (s.recordErr m.idx e false true o) o e i
  have hframe := s.keepsBut_reject m o e
  rw [State.reject_eq_of_por m o e hp] at hframe ⊢
  refine ⟨⟨?_, fun j hj => ?_⟩, fun i hi => ?_, fun r lo hlast => ?_, hframe⟩
  · rw [State.err_setLastErr, State.err_recordErr, if_pos rfl]
  · rw [State.err_setLastErr, State.err_recordErr, if_neg hj]
  · rw [hrd]
    cases hlast : lastErrAt o with
    | none => rfl
    | some x =>
      have hne : i ≠ x.1 := by simpa [hlast] using hi
      exact if_neg hne
  · rw [hrd, hlast]
    exact if_pos rfl

/-! ### The end of a fetch without an image -/

/-- Of the registers, the end of a fetch without an image changes PLT_STATUS, PLT_ERR_INFO and PLT_ERR_OFFSET. -/
theorem State.rd_fetchFail (s : State) (i : Nat) :
    s.fetchFail.rd i =
      if i = 0x010014 then 0
      else if i = 0x010010 then BitVec.ofNat 32 Err.state.code
      else if i = 0x010008 then fset (fset (s.rd 0x010008) 0 3 0) 8 8 Err.state.code
      else s.rd i := by
  have hregs : s.fetchFail.rd i =
      ((((s.setFld 0x010008 0 3 0).setFld 0x010008 8 8 Err.state.code).wr 0x010010 (BitVec.ofNat 32 Err.state.code)).wr 0x010014 0).rd i := rfl
  rw [hregs, State.rd_wr, State.rd_wr, State.rd_setFld, State.rd_setFld, State.rd_setFld, if_pos rfl]
  by_cases hstatus : i = 0x010008
  · rw [if_pos hstatus, if_pos hstatus]
  · rw [if_neg hstatus, if_neg hstatus, if_neg hstatus]

theorem State.rd_status_fetchFail (s : State) : s.fetchFail.rd 0x010008 = fset (fset (s.rd 0x010008) 0 3 0) 8 8 Err.state.code := by
  simp [State.rd_fetchFail]

/-- STAGE_STATE is IDLE. -/
@[simp] theorem State.stage_fetchFail (s : State) : s.fetchFail.stage = 0 := by
  rw [State.stage, State.fld, State.rd_status_fetchFail, fget_fset_other _ _ _ _ _ _ (by decide) (by decide), fget_fset_self _ _ _ _ (by decide), Nat.zero_mod]

/-- LAST_ERR of the loader is ERR_STATE. -/
theorem State.lastErr_fetchFail (s : State) : s.fetchFail.fld 0x010008 8 8 = Err.state.code := by
  rw [State.fld, State.rd_status_fetchFail, fget_fset_self _ _ _ _ (by decide)]
  rfl

theorem State.regsBut_fetchFail (s : State) : State.regsBut [0x010008, 0x010010, 0x010014] s s.fetchFail := by
  intro i hi
  simp only [List.mem_cons, List.not_mem_nil, or_false, not_or] at hi
  obtain ⟨hstatus, hinfo, hoffset⟩ := hi
  rw [State.rd_fetchFail, if_neg hoffset, if_neg hinfo, if_neg hstatus]

/-- Of the loader only the fetch and the staging image go: the active image and the plot in force stay. -/
@[simp] theorem State.plt_fetchFail (s : State) : s.fetchFail.plt = { s.plt with fetch := none, staging := [] } := rfl

theorem State.keepsBut_fetchFail (s : State) : s.keepsBut [.regs, .plt] s.fetchFail := s.keepsBut_regs_plt _ _

/-! ### ABORT and FETCH_FAILED -/

theorem exec_fetchAbort (m : Master) (s : State) : exec (.fetchAbort m) s = .next (s.abortCmd m) := rfl

theorem exec_fetchFailed (s : State) : exec .fetchFailed s = .next (if s.plt.fetch.isSome then s.fetchFail else s) := rfl

theorem State.abortCmd_of_running {s : State} {m : Master} (hc : s.checkWrite m 0x010000 3 = none) (hrun : s.stage = 1 ∨ s.stage = 2) :
    s.abortCmd m = s.fetchFail := by
  rw [State.abortCmd, State.guardW_ok hc, if_pos (by simpa using hrun)]

theorem State.abortCmd_of_not_running {s : State} {m : Master} (hc : s.checkWrite m 0x010000 3 = none) (hrun : ¬(s.stage = 1 ∨ s.stage = 2)) :
    s.abortCmd m = s.reject m 0x010000 .state := by
  rw [State.abortCmd, State.guardW_ok hc, if_neg (by simpa using hrun)]

/-- Settles O58: ABORT of a running fetch or verification and a failed fetch both end in `State.fetchFail`, and an ABORT where nothing runs is rejected with ERR_STATE (R58; Table 2.9 and assumption 103). -/
theorem stoppedFetchReturnsToIdle : Obligations.StoppedFetchReturnsToIdle := by
  unfold Obligations.StoppedFetchReturnsToIdle
  intro dropped
  have hdropped : ∀ s : State, dropped s s.fetchFail := fun s =>
    ⟨s.stage_fetchFail, s.lastErr_fetchFail, by simp [State.rd_fetchFail], by simp [State.rd_fetchFail], s.plt_fetchFail, s.regsBut_fetchFail, s.keepsBut_fetchFail⟩
  refine ⟨fun m s hc => ⟨_, exec_fetchAbort m s, fun hidle => ?_, fun hrun => ?_⟩, fun s => ⟨_, exec_fetchFailed s, fun hnone => ?_, fun hsome => ?_⟩⟩
  · rw [State.abortCmd_of_not_running hc hidle]
    exact State.refuses_reject m 0x010000 .state (State.por_eq_false_of_checkWrite hc)
  · rw [State.abortCmd_of_running hc hrun]
    exact hdropped s
  · simp [hnone]
  · rw [if_pos (Option.isSome_iff_ne_none.mpr hsome)]
    exact hdropped s

end Sys2Proof.Machine
end

section
/-! PROOF. The range of PORTn_DEP_LEAD (spec/09_ports_timestamping.md, R244). Laws about the common checks of a write come first, then the register's row in the map, then the statement. -/
namespace Sys2Proof.Machine

/-! ### The common checks of a write -/

/-- No write of a VF passes the checks of BAR0: a VF has its own page (R466). -/
theorem State.isVf_eq_false_of_checkWrite {s : State} {m : Master} {o : Nat} {v : Word} (h : s.checkWrite m o v = none) : m.isVf = false := by
  cases hv : m.isVf with
  | false => rfl
  | true =>
    unfold State.checkWrite at h
    simp only [hv, if_true] at h
    split at h <;> cases h

/-- A chain of checks passes where its first check does not apply and the rest passes. -/
theorem firstCheck_eq_none_iff {c : Prop} [Decidable c] {e : Err} {rest : Option Err} :
    (if c then some e else rest) = none ↔ ¬c ∧ rest = none := by
  by_cases h : c
  · rw [if_pos h]
    exact ⟨fun hsome => (nomatch hsome), fun hpass => absurd h hpass.1⟩
  · rw [if_neg h]
    exact ⟨fun hrest => ⟨h, hrest⟩, fun hpass => hpass.2⟩

/-- Where a master has one value accepted, another value is judged on its fields and on LIMITS alone. -/
theorem State.checkWrite_of_accepted {s : State} {m : Master} {o : Nat} {good : Word} {d : RegDesc} (hd : findReg o = some d)
    (hgood : s.checkWrite m o good = none) (v : Word) :
    s.checkWrite m o v =
      if (d.badReserved (if d.perMaster then s.hget m.idx o else s.rd o) v && !s.manufacture) || d.badZero v || d.badRange v then some .range
      else if !limitsLater o && !s.plt.plot.inLimits o v.toNat then some .plot
      else none := by
  unfold State.checkWrite at hgood ⊢
  simp only [hd] at hgood ⊢
  iterate 7 rw [firstCheck_eq_none_iff] at hgood
  obtain ⟨hdecoded, hpf, hlit, hwriter, haccess, hwritable, hpresent, -⟩ := hgood
  rw [if_neg hdecoded, if_neg hpf, if_neg hlit, if_neg hwriter, if_neg haccess, if_neg hwritable, if_neg hpresent]

theorem State.writePlain_rejected {s : State} {m : Master} {o : Nat} {v : Word} {e : Err} (hc : s.checkWrite m o v = some e) :
    s.writePlain m o v = s.reject m o e := State.guardW_bad hc

theorem fget_whole (v : Word) : fget v 0 32 = v.toNat := Nat.mod_eq_of_lt v.isLt

/-! ### The register -/

/-- The row of PORTn_DEP_LEAD in the register map. -/
def depLeadReg : RegDesc := ⟨"PORT_DEP_LEAD", 0x080024, 0x1000, 16, 0x0, 1, .hostCore, false, [.rwIn 0 32 1200 1200 100000]⟩

theorem findReg_depLead : ∀ p : Fin 16, findReg (portReg p 0x24) = some depLeadReg := by decide

theorem depLead_badReserved (old v : Word) : depLeadReg.badReserved old v = false := rfl

theorem depLead_badZero (v : Word) : depLeadReg.badZero v = false := rfl

theorem depLead_badRange (v : Word) : depLeadReg.badRange v = true ↔ v.toNat < 1200 ∨ 100000 < v.toNat := by
  simp [RegDesc.badRange, depLeadReg, RegField.rwIn, fget_whole]

theorem depLead_merge (old v : Word) : depLeadReg.merge old v = v := fset_whole old v

theorem limitsLater_depLead (p : Fin 16) : limitsLater (portReg p 0x24) = false := by
  have hp := p.isLt
  simp [limitsLater, portReg, show ¬ 0x080000 + 0x1000 * p.val + 0x24 < 0x024000 by omega]

theorem isDngAt_depLead (p : Fin 16) : isDngAt (portReg p 0x24) = false := by
  rw [isDngAt, findReg_depLead]
  rfl

/-- PORTn_DEP_LEAD has no rule of its own beside the range of its field. -/
theorem State.regWrite_depLead (s : State) (m : Master) (p : Fin 16) (v : Word) :
    s.regWrite m (portReg p 0x24) v = s.writePlain m (portReg p 0x24) v := by
  have hp := p.isLt
  have hblock : portReg p 0x24 / 0x10000 = 8 := by unfold portReg; omega
  have hoffset : portReg p 0x24 % 0x1000 = 0x24 := by unfold portReg; omega
  simp only [State.regWrite, hblock, State.writePort, hoffset]

theorem exec_registerWrite (m : Master) (off : Fin 16777216) (v : Word) (s : State) :
    exec (.registerWrite m off v) s = .next (s.busWrite m off.val v) := rfl

section
variable {s : State} {m : Master} {p : Fin 16} {good v : Word}

theorem State.busWrite_depLead (hpair : s.pair m.idx = none) (hgood : s.checkWrite m (portReg p 0x24) good = none) :
    s.busWrite m (portReg p 0x24) v = s.writePlain m (portReg p 0x24) v := by
  have hp := p.isLt
  have hdecoded : portReg p 0x24 < 0x120000 := by unfold portReg; omega
  rw [State.busWrite_plain (State.isVf_eq_false_of_checkWrite hgood) (State.por_eq_false_of_checkWrite hgood) hpair hdecoded (isDngAt_depLead p),
    State.regWrite_depLead]

/-- The master being one that may write the register, a value is refused for its range first, then for LIMITS. -/
theorem State.checkWrite_depLead (hgood : s.checkWrite m (portReg p 0x24) good = none) (v : Word) :
    s.checkWrite m (portReg p 0x24) v =
      if v.toNat < 1200 ∨ 100000 < v.toNat then some .range
      else if s.plt.plot.inLimits (portReg p 0x24) v.toNat then none else some .plot := by
  rw [State.checkWrite_of_accepted (findReg_depLead p) hgood]
  simp only [depLead_badReserved, depLead_badZero, limitsLater_depLead, Bool.false_and, Bool.false_or, Bool.not_false, Bool.true_and, depLead_badRange]
  cases s.plt.plot.inLimits (portReg p 0x24) v.toNat <;> rfl

theorem State.writePlain_depLead (hc : s.checkWrite m (portReg p 0x24) v = none) :
    s.writePlain m (portReg p 0x24) v = (s.wr (portReg p 0x24) v).irqRise s (portReg p 0x24 / 0x10000) := by
  rw [State.writePlain_rw (findReg_depLead p) rfl rfl hc, depLead_merge]

end

/-- A register write that fires at most the block's vector touches that register alone. -/
theorem State.onlyRegs_wr_irqRise (s : State) (o : Nat) (v : Word) (b : Nat) : State.onlyRegs [o] s ((s.wr o v).irqRise s b) := by
  refine ⟨fun i hi => ?_, by rw [State.irqRise_beside, State.wr_beside]⟩
  rw [State.irqRise_rd, State.rd_wr_other _ _ _ fun h => hi (List.mem_singleton.mpr h)]

theorem State.rd_reset (o : Nat) : State.reset.rd o = regReset o := rfl

theorem regReset_depLead (p : Fin 16) : regReset (portReg p 0x24) = 1200 := by
  rw [regReset, findReg_depLead]
  rfl

/-- Settles O35: once the master is one that may write PORTn_DEP_LEAD, only the range of the field and LIMITS judge the value (R244). -/
theorem departureLeadRange : Obligations.DepartureLeadRange := by
  unfold Obligations.DepartureLeadRange
  refine ⟨fun p => by rw [State.rd_reset, regReset_depLead], fun m p off v s hoff hpair hmay => ?_⟩
  rw [hoff] at hmay ⊢
  obtain ⟨good, hgood⟩ := hmay
  have hcheck := State.checkWrite_depLead hgood v
  refine ⟨_, exec_registerWrite m off v s, fun hin hlimits => ?_, fun hout => ?_⟩
  all_goals rw [hoff, State.busWrite_depLead hpair hgood]
  · have hc : s.checkWrite m (portReg p 0x24) v = none := by rw [hcheck, if_neg (by omega), if_pos hlimits]
    rw [State.writePlain_depLead hc]
    exact ⟨by rw [State.irqRise_rd, State.rd_wr_self], s.onlyRegs_wr_irqRise _ v _⟩
  · have hc : s.checkWrite m (portReg p 0x24) v = some .range := by rw [hcheck, if_pos hout]
    rw [State.writePlain_rejected hc]
    exact State.refuses_reject m _ .range (State.por_eq_false_of_checkWrite hgood)

end Sys2Proof.Machine
end

section
/-! PROOF. A read in the complement aperture (spec/17_registers.md, R455). What an accepted read says of the state and what an answer leaves behind come first, then the statement. -/
namespace Sys2Proof.Machine

section
variable {s : State} {m : Master} {o : Nat}

/-- A read that passes the checks reaches the registers: POR has released the device, and the master is no VF, whose accesses go to its own page (R466). -/
theorem State.por_and_isVf_eq_false_of_checkRead (h : s.checkRead m o = none) : s.pwr.por = false ∧ m.isVf = false := by
  unfold State.checkRead at h
  iterate 2 rw [firstCheck_eq_none_iff] at h
  obtain ⟨hreach, hvf, -⟩ := h
  rw [Bool.or_eq_true, not_or, Bool.not_eq_true] at hreach
  exact ⟨hreach.1, eq_false_of_ne_true hvf⟩

theorem State.answerOf_answer_self (s : State) (i : Nat) (v : Word) : (s.answer i v).answerOf i = v := by
  rw [State.answerOf, State.answer_resp, Sparse.get_set_self]

theorem State.answerOf_answer_other (s : State) {i j : Nat} (v : Word) (hj : j ≠ i) : (s.answer i v).answerOf j = s.answerOf j := by
  rw [State.answerOf, State.answer_resp, Sparse.get_set_other _ _ _ hj, State.answerOf]

/-- An answer touches the read data alone. -/
theorem State.answer_beside (s : State) (i : Nat) (v : Word) : s.answer i v = { s with resp := (s.answer i v).resp } := rfl

theorem State.complementRead_ok (h : s.checkRead m o = none) :
    s.complementRead m o = s.answer m.idx (if isDngAt o then ~~~ (s.value m.idx o) else 0) := by
  rw [State.complementRead, h]

/-- The command is one read of the bus in the complement aperture. -/
theorem exec_dngComplementRead (m : Master) (off : Fin 8388608) (s : State) :
    exec (.dngComplementRead m off) s = .next (s.busRead m (0x800000 + off.val)) := rfl

end

/-- Settles O10: where the register may be read, the bus serves the read in the complement aperture by one answer to the master, and an answer leaves the pairs and all else as they are (R455). -/
theorem complementReadReturnsComplement : Obligations.ComplementReadReturnsComplement := by
  unfold Obligations.ComplementReadReturnsComplement
  intro m off s hdecoded hread
  obtain ⟨hpor, hvf⟩ := State.por_and_isVf_eq_false_of_checkRead hread
  have hbus : s.busRead m (0x800000 + off.val) = s.answer m.idx (if isDngAt off.val then ~~~ (s.value m.idx off.val) else 0) := by
    rw [State.busRead_complement hvf hpor hdecoded, State.complementRead_ok hread]
  refine ⟨_, exec_dngComplementRead m off s, ?_⟩
  rw [hbus]
  exact ⟨s.answerOf_answer_self _ _, fun j hj => s.answerOf_answer_other _ hj, s.answer_beside _ _⟩

end Sys2Proof.Machine
end
